-- ==== Sys2Proof/Word.lean ====
section
/-! DEFINITION. The 36-bit word of the device (spec/00_scope.md R4 to R6), its bit fields and nonets, and
two's-complement reading of a field. -/
namespace Sys2Proof

/-- The unit of storage: 36 bits (spec/00_scope.md, Terms). -/
abbrev Word := BitVec 36

namespace Word

/-- The word whose bits are those of n, modulo 2^36. -/
def ofN (n : Nat) : Word := BitVec.ofNat 36 n

/-- Bits [hi:lo] of a word, as a number. -/
def field (w : Word) (hi lo : Nat) : Nat := w.toNat / 2 ^ lo % 2 ^ (hi + 1 - lo)

/-- A word with bits [hi:lo] replaced by v, reduced to the width of the field. -/
def setField (w : Word) (hi lo v : Nat) : Word :=
  ofN (w.toNat / 2 ^ (hi + 1) * 2 ^ (hi + 1) + v % 2 ^ (hi + 1 - lo) * 2 ^ lo + w.toNat % 2 ^ lo)

/-- One bit of a word. -/
def bit (w : Word) (i : Nat) : Bool := w.field i i == 1

/-- Nonet k of a word (R4): bits [35 − 9k : 27 − 9k]; 9 bits, the control bit on top of the octet. -/
def nonet (w : Word) (k : Nat) : Nat := w.field (35 - 9 * k) (27 - 9 * k)

/-- A word with nonet k replaced (R4). -/
def setNonet (w : Word) (k v : Nat) : Word := w.setField (35 - 9 * k) (27 - 9 * k) v

/-- Octet k of a word (R4): the low eight bits of nonet k. -/
def octet (w : Word) (k : Nat) : Nat := w.nonet k % 256

/-- A word of four octets with the control bits 0, the lowest octet address in nonet 0 (R4). -/
def ofOctets (a b c d : Nat) : Word :=
  ofN (a % 256 * 2 ^ 27 + b % 256 * 2 ^ 18 + c % 256 * 2 ^ 9 + d % 256)

end Word

/-- The value of an n-bit field read as two's complement. -/
def signed (n v : Nat) : Int := if v < 2 ^ (n - 1) then (v : Int) else (v : Int) - 2 ^ n

/-- The n-bit two's complement pattern of an integer. -/
def toBits (n : Nat) (i : Int) : Nat := (i % 2 ^ n).toNat

/-- v counted up by k, held at its largest value top (every saturating counter of the spec). -/
def satAdd (top v k : Nat) : Nat := min top (v + k)

/-- Truth as a bit. -/
def bit01 (b : Bool) : Nat := if b then 1 else 0

end Sys2Proof
end

