-- ==== Sys2Proof/Tab.lean ====
section
/-! DEFINITION. A sparse table: a list of (key, value) pairs in ONE canonical form (keys strictly rising, no entry equal
to what an unlisted key holds), so that equal tables are equal data. The value of an unlisted key is the caller's. -/
namespace Sys2Proof

/-- A sparse table over natural-number keys. -/
abbrev Tab (α : Type) := List (Nat × α)

namespace Tab
variable {α : Type}

/-- What key k holds; d is the value of an unlisted key. -/
def get (d : α) (k : Nat) : Tab α → α
  | [] => d
  | (k', v) :: r => if k' = k then v else get d k r

/-- The table with v entered at key k, in its place among rising keys. -/
def insert (k : Nat) (v : α) : Tab α → Tab α
  | [] => [(k, v)]
  | (k', v') :: r =>
    if k' = k then (k, v) :: r
    else if k < k' then (k, v) :: (k', v') :: r
    else (k', v') :: insert k v r

/-- The table with key k holding v: where v equals d, the value of an unlisted key, no entry of k remains. -/
def put [DecidableEq α] (d : α) (k : Nat) (v : α) : Tab α → Tab α
  | [] => if v = d then [] else [(k, v)]
  | e :: r => if v = d then (e :: r).filter (fun x => x.1 != k) else insert k v (e :: r)

/-- Every key of the table lies above k. -/
def above (k : Nat) : Tab α → Bool
  | [] => true
  | (k', _) :: _ => decide (k < k')

/-- The canonical form: keys strictly rising, no entry equal to the unlisted value d k of its key. -/
def wf [DecidableEq α] (d : Nat → α) : Tab α → Bool
  | [] => true
  | (k, v) :: r => above k r && decide (v ≠ d k) && wf d r

/-- The entries with lo ≤ key < hi. -/
def within (lo hi : Nat) (t : Tab α) : Tab α := t.filter (fun e => decide (lo ≤ e.1 ∧ e.1 < hi))

/-- The table dst with the range lo ≤ key < hi taken from src. -/
def replaceRange (lo hi : Nat) (src dst : Tab α) : Tab α :=
  dst.filter (fun e => decide (e.1 < lo)) ++ within lo hi src ++ dst.filter (fun e => decide (hi ≤ e.1))

/-- The table without the entries whose key satisfies p. -/
def drop (p : Nat → Bool) (t : Tab α) : Tab α := t.filter (fun e => !p e.1)

end Tab
end Sys2Proof
end

