-- ==== Sys2Proof/RegTypes.lean ====
section
/-! DEFINITION. The kinds of data the register tables are written in: access codes (spec/00_scope.md R9), levels (R12),
the encodings of a field that are not reserved (R10), registers, blocks and profile values (R11). -/
namespace Sys2Proof.Machine

/-- Access codes of R9. -/
inductive Access where
  | ro | rw | w1c | wo | rc | rlk
  deriving DecidableEq, Repr

/-- Which encodings of a field are assigned; every other one is reserved (R10). -/
inductive Legal where
  /-- Every encoding is assigned. -/
  | any
  /-- The encodings of these closed ranges are assigned. -/
  | within (ranges : List (Nat × Nat))
  /-- Two's complement values from −m to m are assigned. -/
  | signed (m : Nat)
  /-- Multiples of m are assigned. -/
  | multiple (m : Nat)
  deriving DecidableEq, Repr

/-- A field of a register: bits [hi:lo], access, whether its level is Expert, and its assigned encodings. -/
structure FieldDesc where
  hi : Nat
  lo : Nat
  acc : Access
  expert : Bool
  legal : Legal
  deriving DecidableEq, Repr

/-- A register (or array of registers): offset within its block, the (stride, count) of each array dimension with the
widest stride first, the reset word, and the fields. Bits no field covers are reserved. -/
structure RegDesc where
  off : Nat
  dims : List (Nat × Nat)
  reset : Nat
  fields : List FieldDesc
  deriving DecidableEq, Repr

/-- One Expert field value of a basic profile (R11), set in every instance of a register array; addInst adds the
block's instance number to the value. -/
structure ProfileSet where
  off : Nat
  dims : List (Nat × Nat)
  hi : Nat
  lo : Nat
  val : Nat
  addInst : Bool
  deriving DecidableEq, Repr

/-- A named field: the BAR0 offset of its register and its bits. -/
structure Fld where
  off : Nat
  hi : Nat
  lo : Nat
  deriving DecidableEq, Repr

/-- The blocks that have registers (spec/15_host_interface.md R431). -/
inductive Block where
  | gctl | evc | tbu | strata | talus | col | memc | vault | fwc | prc | tmx | mac | swc | sts | tal | rlc | can
  | tor | hdma | ce
  deriving DecidableEq, Repr

end Sys2Proof.Machine
end

