-- ==== Sys2Proof/Parts/Base.lean ====
section
/-! DEFINITION. Parts of the state that several blocks share: what leaves the device, half-access registers, posted
actions, straps and fuses. -/
namespace Sys2Proof.Machine

/-- What leaves the device or is handed to a requester; State.outs lists it newest first. (DESIGN CHOICE, log 1) -/
inductive Out where
  /-- The word a read returned to an agent; poison marks an uncorrectable word (R428). -/
  | read (agent : Nat) (data : Word) (poison : Bool)
  /-- A 32-bit or dword read result. -/
  | readHalf (agent : Nat) (data : Nat) (poison : Bool)
  /-- A host request that completed with Unsupported Request (R427). -/
  | unsupported (agent : Nat)
  /-- A host read that completed with Completer Abort and data 0 (R377, R432). -/
  | completerAbort (agent : Nat)
  /-- A pin of the time base or a Tor unit takes a level at a TSW. -/
  | pin (group : Nat) (index : Nat) (level : Bool) (tsw : Nat)
  /-- An Ethernet frame leaves a port: octets, start TSW, FCS as sent good. -/
  | frame (port : Nat) (octets : List Nat) (tsw : Nat) (good : Bool)
  /-- A MAC control or saddle frame leaves a port: kind as R232, R233, R247 name it. -/
  | macCtrl (port : Nat) (kind : Nat) (value : Nat)
  /-- A Ridgeline frame leaves in a slot: header, payload and CRC, on channel A, on channel B. -/
  | rl (slot : Nat) (octets : List Nat) (onA onB : Bool)
  /-- A CAN frame leaves a channel. -/
  | can (channel : Nat) (ident : Nat) (data : List Nat) (tsw : Nat)
  /-- Host memory is written: address, octets (R434). -/
  | hostWrite (addr : Nat) (octets : List Nat)
  /-- An MSI-X message of a vector. -/
  | msix (vector : Nat)
  /-- What the next Capture-DR of TMX_ACCESS returns (R553). -/
  | jtag (value : Nat)
  /-- The boundary register drives the balls; under the AC instructions the AC pairs pulse or toggle (R551). -/
  | balls (cells : Nat) (ac : Bool)
  deriving DecidableEq, Repr

/-- The high-half latch and the staging register of one host (spec/00_scope.md R7). -/
structure HostPort where
  latch : Option Nat := none
  staging : Nat := 0
  deriving DecidableEq, Repr

/-- An action a commit unit has taken in, or that is on its way to one (spec/01_architecture.md R16 to R18). -/
structure Posted where
  /-- Commit unit number k of R33. -/
  unit : Nat
  /-- Action selector. -/
  sel : Nat
  arg : Nat
  /-- Due TSW. -/
  due : Nat
  agent : Nat
  /-- Order of posting. -/
  seq : Nat
  /-- Slack in ticks at take-in; 0 while on its way. -/
  slack : Nat := 0
  deriving DecidableEq, Repr

/-- Fuses of the part (R2, R33, R211, R494). (DESIGN CHOICE, log 6) -/
structure Fuses where
  grade : Nat := 1
  serial : Nat := 0
  /-- Life-cycle state: 0 MANUFACTURE to 4 SCRAPPED (R494). -/
  lifecycle : Nat := 0
  /-- SHA-384 digests of the four key slots. -/
  keys : Tab Nat := []
  keyValid : Nat := 0
  keyRevoked : Nat := 0
  minSvn : Nat := 0
  deriving DecidableEq, Repr

/-- Strap values latched at the release of PORn (R451). (DESIGN CHOICE, log 6) -/
structure Straps where
  rid : Nat := 0
  refFreqA : Bool := false
  refFreqB : Bool := false
  bootFast : Bool := false
  bootHalt : Bool := false
  flashSlow : Bool := false
  /-- Voltages of the VDDIO banks 0 to 7 in mV, sensed at the release of PORn (R531). -/
  vddio : List Nat := List.replicate 8 1800
  deriving DecidableEq, Repr

end Sys2Proof.Machine
end

