-- ==== Sys2Proof/Operand.lean ====
section
/-! DEFINITION. The kinds of operand that commands carry beside plain numbers and words. -/
namespace Sys2Proof.Machine

/-- The payloads of the LIT prefixes of a bundle, first prefix first (spec/04_crag_instructions.md R107). -/
abbrev Lits := List Nat

/-- Where a commit unit takes an action from: the head of an engine's commit queue, or the oldest action that a register
write has posted to unit k (spec/01_architecture.md R16, R33, R561). -/
inductive CommitSource where
  | engine (e : Fin 50)
  | register (k : Fin 101)
  deriving DecidableEq, Repr

/-- The end of the restoration of a pair (R99, R101): the pair, and whether its checkpoint could be restored. -/
structure Restoration where
  pair : Fin 24
  restored : Bool
  deriving DecidableEq, Repr

/-- Supplies in millivolts and Tj in 0.25 °C as a 12-bit pattern, as the device measures them (R459). -/
structure Supplies where
  core : Nat
  edge : Nat
  sram : Nat
  aon : Nat
  tj : Nat
  deriving DecidableEq, Repr

/-- A word that an agent writes. -/
structure AgentWord where
  agent : Nat
  word : Word
  deriving DecidableEq, Repr

/-- A host read request (R427): BAR0 octet offset, length in octets, and whether every byte enable is set. -/
structure HostRead where
  off : Nat
  len : Nat
  allBytes : Bool
  deriving DecidableEq, Repr

/-- A host write request (R427): BAR0 octet offset, dwords, byte enables all set, EP bit (R428). -/
structure HostWrite where
  off : Nat
  dwords : List Nat
  allBytes : Bool
  poisoned : Bool
  deriving DecidableEq, Repr

/-- A BAR2 access of the local host (R373, R432): its offset lies in BAR2. -/
inductive RemoteRequest where
  | read (q : HostRead)
  | write (q : HostWrite)
  deriving DecidableEq, Repr

/-- What a march found (R209, R210): rows that failed, as (bank, row), and spare rows that failed, as (bank, spare). -/
structure MarchResult where
  rows : List (Nat × Nat)
  spares : List (Nat × Nat)
  deriving DecidableEq, Repr

/-- What the checker self-test reads back of one code word of its test row (R205): the syndrome and the decoded data. -/
structure CheckerReading where
  syndrome : Nat
  data : Word
  deriving DecidableEq, Repr

/-- A frame or fragment that ends at a MAC (R226, R242): its SMD octet and fragment count octet, 0xD5 the SFD of an express
frame; the octets that no CELL_FORM has carried, FCS or mCRC included; sixteenths from now to its last octet and from its timestamp
point to its last octet; whether the PCS found an error; whether auto-negotiation permits receive pause (R232). -/
structure RxFrame where
  octets : List Nat
  dt : Nat
  back : Nat
  codeErr : Bool
  smd : Nat
  fragCount : Nat
  an : Bool
  deriving DecidableEq, Repr

/-- A link of the fabric (R278, R280): the input link or the output link of a fabric port, or one of an intermediate. -/
inductive FabricLink where
  | input
  | output
  | mid
  deriving DecidableEq, Repr

/-- A frame that ends without error on a CAN bus (R398, R400): its fields, sixteenths from now to its end, and from the edge
of its SOF and from the last synchronising edge to its end. -/
structure CanFrame where
  ext : Bool
  fdf : Bool
  brs : Bool
  esi : Bool
  rtr : Bool
  ident : Nat
  dlc : Nat
  data : List Nat
  dt : Nat
  sof : Nat
  sync : Nat
  deriving DecidableEq, Repr

/-- An error that a CAN channel detects (R402): its code as CAN_ERRINFO.LEC has it, whether it fell in the data phase, and
what ISO 11898-1 asks of the error counters beyond the first step: additional steps of eight, and whether the transmit
counter is exempt. -/
structure CanError where
  lec : Fin 8
  dataPhase : Bool
  eights : Nat
  exempt : Bool
  deriving DecidableEq, Repr

/-- How a transmit attempt of a CAN channel ends (R394 to R397): sent, with the loop delay measured in ns; arbitration
lost; an error, and whether it was an ID clash (R395). -/
inductive CanEnd where
  | sent (loopDelay : Nat)
  | lost
  | error (e : CanError) (clash : Bool)
  deriving DecidableEq, Repr

end Sys2Proof.Machine
end

