-- ==== Sys2Proof/Syntax.lean ====
section
/-! DEFINITION. The commands of the device: one constructor per row of spec/opcode_table.json, in the table's order,
with its operands. An agent operand `a` is the agent that makes the request (spec/00_scope.md R13). -/
namespace Sys2Proof
open Sys2Proof.Machine

/-- The commands of spec/opcode_table.json. -/
inductive Instr where
  /-- REGISTER_WRITE (spec rule R10): A write to a register that has no row of its own, with reserved bits discarded and reserved encodings rejected. -/
  | registerWrite (a : Nat) (o : Nat) (w : Word)
  /-- PROFILE_WRITE (spec rule R11): A write to a block's PROFILE register selects EXPERT or a basic profile and switches the whole block's Expert fields at once. -/
  | profileWrite (a : Nat) (b : Block) (u : Nat) (w : Word)
  /-- LOW_HALF_READ (spec rule R7): A 32-bit host read of a slot's low half returns bits [31:0], performs read side effects and fills the requester's high-half latch. -/
  | lowHalfRead (a : Nat) (o : Nat)
  /-- HIGH_HALF_READ (spec rule R7): A 32-bit host read of a slot's high half returns and empties the latch, or returns the live bits [35:32] without side effect. -/
  | highHalfRead (a : Nat) (o : Nat)
  /-- LOW_HALF_WRITE (spec rule R7): A 32-bit host write of a slot's low half places the value in the requester's staging register without changing the word. -/
  | lowHalfWrite (a : Nat) (o : Nat) (v : Nat)
  /-- HIGH_HALF_WRITE (spec rule R7): A 32-bit host write of a slot's high half writes the whole word from staging register and access, then clears the staging register. -/
  | highHalfWrite (a : Nat) (o : Nat) (v : Nat)
  /-- GCTL_REJECT_READ (spec rule R34): A read of GCTL_REJECT returns the record of the last refused write and clears it. -/
  | gctlRejectRead (a : Nat)
  /-- COMMIT_TAKE_IN (spec rule R17): A commit unit takes in a posted action at a tick edge through its synchroniser and judges its slack or lateness. -/
  | commitTakeIn (src : CommitSource)
  /-- MGMT_CHANGE_APPLY (spec rule R25): An untimed management write takes effect at the first handling boundary of the affected data-plane unit. -/
  | mgmtChangeApply (b : Block) (u : Nat)
  /-- TELEMETRY_REFRESH (spec rule R459): Every TELEM_MS the device refreshes PRC_TELEM0, PRC_TELEM1 and GCTL_TELEM and raises TELEMETRY. -/
  | telemetryRefresh (fab : Nat) (core : Nat)
  /-- SUPPLY_MEASURE (spec rule R459): Every 1 ms the device measures the supplies and Tj and raises alarms when a range is left. -/
  | supplyMeasure (m : Supplies)
  /-- OSC_LOSS (spec rule R37): An oscillator input shows no edge for three nominal periods and becomes bad. -/
  | oscLoss (i : Fin 2)
  /-- OSC_FREQ_WINDOW (spec rule R37): At the end of each 100 us measurement window an input deviating by more than TOL becomes bad. -/
  | oscFreqWindow (i : Fin 2) (ppm : Nat)
  /-- OSC_SWITCH (spec rule R38): The switch-over of the PLL to the other qualified input completes, raising OSC_SWITCH. -/
  | oscSwitch
  /-- OSC_QUALIFIED (spec rule R40): An input that stayed in tolerance for QUAL x 10 ms becomes qualified, possibly ending holdover or reverting. -/
  | oscQualified (i : Fin 2)
  /-- PLL_FIRST_LOCK (spec rule R42): The PLL first locks and full time starts at 0 s 0 ns. -/
  | pllFirstLock
  /-- PLL_UNLOCK (spec rule R41): The PLL loses lock with a qualified input, holds its averaged control value and begins relock. -/
  | pllUnlock
  /-- PLL_RELOCK (spec rule R41): Relock completes and PLL_LOCK returns to 1 and PLL_HOLD to 0. -/
  | pllRelock
  /-- PLL_RELOCK_TIMEOUT (spec rule R41): The PLL has not relocked within 200 us, raises PLL_UNLOCK again and enters the stopping class. -/
  | pllRelockTimeout
  /-- SECOND_MARK (spec rule R47): At the tick boundary of every whole second the device writes the second count into TBU_MARK_SECH and SECL. -/
  | secondMark
  /-- RATE_APPLY (spec rule R44): A new TBU_RATE takes effect at the next tick boundary. -/
  | rateApply
  /-- STEP_GO (spec rule R45): A write of TBU_CTRL.STEP_GO captures TBU_STEP and schedules a step, or is refused while one is pending. -/
  | stepGo (a : Nat)
  /-- SET_GO (spec rule R45): A write of TBU_CTRL.SET_GO captures TBU_SET_* and schedules a set, or is refused while one is pending. -/
  | setGo (a : Nat)
  /-- TIME_STEP (spec rule R45): A pending step or set is applied at its tick boundary, skipped actions become late, and TIME_STEP is raised. -/
  | timeStep
  /-- SNAPSHOT_READ (spec rule R46): A read of TBU_SNAP_SECH takes a per-agent snapshot of full time at the snapshot tick. -/
  | snapshotRead (a : Nat)
  /-- NOW_TSW_READ (spec rule R46): A read of TBU_NOW_TSW returns the TSW of the read's tick without taking a snapshot. -/
  | nowTswRead (a : Nat)
  /-- CAPTURE (spec rule R52): An edge on a CAP input is captured as a TSW into its FIFO and may set a Talus flag. -/
  | capture (n : Fin 8) (dt : Nat) (rising : Bool) (short : Bool)
  /-- CAP_POP (spec rule R54): A read of TBU_CAPn_POP returns and removes the oldest captured TSW. -/
  | capPop (a : Nat) (n : Fin 8)
  /-- CAP_LOST_READ (spec rule R53): A read of TBU_CAPn_LOST returns the count of unrecorded edges and clears it. -/
  | capLostRead (a : Nat) (n : Fin 8)
  /-- OSC_STAT_READ (spec rule R66): A read of TBU_OSC_STAT returns and clears the SWITCHES count. -/
  | oscStatRead (a : Nat)
  /-- TRG_AT_WRITE (spec rule R59): A write of TBU_TRGn_AT posts a ONESHOT action or a TRAIN start, or raises TRG_CONFLICT when the pin queue is full. -/
  | trgAtWrite (a : Nat) (n : Fin 8) (w : Word)
  /-- FIRE (spec rule R59): A pending ONESHOT action on a trigger pin is performed at its due instant, producing one pulse or edge and raising TRGn_DONE. -/
  | fire (n : Fin 8)
  /-- TRAIN_START (spec rule R58): A TRAIN start is judged at its drive instant and starts or replaces the pin's train, or is refused or late. -/
  | trainStart (n : Fin 8)
  /-- TRAIN_EDGE (spec rule R56): A running trigger train produces its edge k at AT + k x P minus DLY. -/
  | trainEdge (n : Fin 8)
  /-- TRAIN_STOP (spec rule R58): A running train stops at the tick boundary after EN goes to 0 or MODE leaves TRAIN. -/
  | trainStop (n : Fin 8)
  /-- TRIGGER_INTERNAL (spec rule R60): At the first tick boundary at or after a trigger's due instant it sets a Talus flag and starts a Tor channel. -/
  | triggerInternal (n : Fin 8)
  /-- PPS_IN (spec rule R61): A pulse on PPS_INp is captured, its offset from the nearest second recorded and PPS_INp raised. -/
  | ppsIn (p : Fin 2) (dt : Nat) (rising : Bool)
  /-- PPS_MISS (spec rule R61): No PPS pulse within 1.1 s of the previous sets STAT.MISSED and raises PPS_MISS. -/
  | ppsMiss (p : Fin 2)
  /-- PPS_OUT (spec rule R62): A PPS output pulse begins at each whole second minus DLY. -/
  | ppsOut (p : Fin 2)
  /-- CAL_GO (spec rule R63): A write of TBU_CAL_CTRL.GO starts a calibration run. -/
  | calGo (a : Nat)
  /-- CAL_AUTO (spec rule R63): An automatic calibration starts after INTERVAL seconds or a Tj change of TEMP_STEP. -/
  | calAuto (tj : Nat)
  /-- CAL_DONE (spec rule R63): A calibration run completes and installs its result, raising CAL_DONE. -/
  | calDone (worst : Nat)
  /-- PLOAD_WRITE (spec rule R70): A write of CE_PLOAD_DATA stores a program word at CE_PLOAD_ADDR and advances it, unless the active bank is refused. -/
  | ploadWrite (a : Nat) (e : Fin 50) (w : Word)
  /-- PLOAD_READ (spec rule R105): A read of CE_PLOAD_DATA returns the program word at CE_PLOAD_ADDR and advances it. -/
  | ploadRead (a : Nat) (e : Fin 50)
  /-- BANK_SWITCH (spec rule R71): A change of CE_CTRL.BANK takes effect at the engine's first commit boundary after the write. -/
  | bankSwitch (e : Fin 50)
  /-- NOP (spec rule R126): NOP has no effect beyond its instruction time. -/
  | nop (e : Fin 50) (lits : Lits)
  /-- TDONE (spec rule R128): TDONE ends the task after its stores and posts, completing its ordering-domain ticket. -/
  | tdone (e : Fin 50) (lits : Lits)
  /-- RET (spec rule R125): RET pops the return address and moves the window back, with a fill where needed. -/
  | ret (e : Fin 50) (lits : Lits)
  /-- CKPT (spec rule R98): CKPT takes a checkpoint in a paired task at call depth 0. -/
  | ckpt (e : Fin 50) (lits : Lits)
  /-- BREAK (spec rule R126): BREAK traps with cause BREAK. -/
  | brk (e : Fin 50) (lits : Lits) (c : Fin 16)
  /-- JMPR (spec rule R125): JMPR jumps to the address in wr. -/
  | jmpr (e : Fin 50) (lits : Lits) (r : Fin 16)
  /-- CALLR (spec rule R125): CALLR pushes the return address, moves the window and jumps to the address in wr. -/
  | callr (e : Fin 50) (lits : Lits) (r : Fin 16)
  /-- POST (spec rule R127): POST places one commit-queue entry built from three registers, stalling on a full queue. -/
  | post (e : Fin 50) (lits : Lits) (r : Fin 16)
  /-- PUSH (spec rule R126): PUSH writes wr to the data stack. -/
  | push (e : Fin 50) (lits : Lits) (r : Fin 16)
  /-- POP (spec rule R126): POP reads the data stack into wr. -/
  | pop (e : Fin 50) (lits : Lits) (r : Fin 16)
  /-- GETF (spec rule R126): GETF copies the flags into wr. -/
  | getf (e : Fin 50) (lits : Lits) (r : Fin 16)
  /-- SETF (spec rule R126): SETF sets the flags from wr. -/
  | setf (e : Fin 50) (lits : Lits) (r : Fin 16)
  /-- SK_COND (spec rule R123): SK.cond skips the next bundle when its flag condition holds. -/
  | skCond (e : Fin 50) (lits : Lits) (cond : Fin 16)
  /-- SKEC (spec rule R124): SKEC skips when the event snapshot flag is 0. -/
  | skec (e : Fin 50) (lits : Lits) (f : Fin 32)
  /-- SKES (spec rule R124): SKES skips when the event snapshot flag is 1. -/
  | skes (e : Fin 50) (lits : Lits) (f : Fin 32)
  /-- NEG (spec rule R114): NEG negates wr. -/
  | neg (e : Fin 50) (lits : Lits) (r : Fin 16)
  /-- NOT (spec rule R114): NOT inverts wr. -/
  | not (e : Fin 50) (lits : Lits) (r : Fin 16)
  /-- REVN (spec rule R114): REVN reverses the nonet order of wr. -/
  | revn (e : Fin 50) (lits : Lits) (r : Fin 16)
  /-- MOV (spec rule R113): MOV copies B to wd. -/
  | mov (e : Fin 50) (lits : Lits) (d : Fin 16) (r : Fin 16)
  /-- ADD (spec rule R113): ADD adds B to wd. -/
  | add (e : Fin 50) (lits : Lits) (d : Fin 16) (r : Fin 16)
  /-- ADC (spec rule R113): ADC adds B and carry to wd. -/
  | adc (e : Fin 50) (lits : Lits) (d : Fin 16) (r : Fin 16)
  /-- SUB (spec rule R113): SUB subtracts B from wd. -/
  | sub (e : Fin 50) (lits : Lits) (d : Fin 16) (r : Fin 16)
  /-- SBC (spec rule R113): SBC subtracts B and borrow from wd. -/
  | sbc (e : Fin 50) (lits : Lits) (d : Fin 16) (r : Fin 16)
  /-- CMP (spec rule R113): CMP sets flags as SUB without changing wd. -/
  | cmp (e : Fin 50) (lits : Lits) (d : Fin 16) (r : Fin 16)
  /-- AND (spec rule R113): AND ands B into wd. -/
  | and (e : Fin 50) (lits : Lits) (d : Fin 16) (r : Fin 16)
  /-- OR (spec rule R113): OR ors B into wd. -/
  | or (e : Fin 50) (lits : Lits) (d : Fin 16) (r : Fin 16)
  /-- XOR (spec rule R113): XOR exclusive-ors B into wd. -/
  | xor (e : Fin 50) (lits : Lits) (d : Fin 16) (r : Fin 16)
  /-- TST (spec rule R113): TST sets flags as AND without changing wd. -/
  | tst (e : Fin 50) (lits : Lits) (d : Fin 16) (r : Fin 16)
  /-- SHL (spec rule R115): SHL shifts wd left logically. -/
  | shl (e : Fin 50) (lits : Lits) (d : Fin 16) (r : Fin 16)
  /-- SHR (spec rule R115): SHR shifts wd right logically. -/
  | shr (e : Fin 50) (lits : Lits) (d : Fin 16) (r : Fin 16)
  /-- SAR (spec rule R115): SAR shifts wd right arithmetically. -/
  | sar (e : Fin 50) (lits : Lits) (d : Fin 16) (r : Fin 16)
  /-- ROR (spec rule R115): ROR rotates wd right. -/
  | ror (e : Fin 50) (lits : Lits) (d : Fin 16) (r : Fin 16)
  /-- MUL (spec rule R116): MUL writes the low 36 bits of the product. -/
  | mul (e : Fin 50) (lits : Lits) (d : Fin 16) (r : Fin 16)
  /-- MULH (spec rule R116): MULH writes the high half of the signed product. -/
  | mulh (e : Fin 50) (lits : Lits) (d : Fin 16) (r : Fin 16)
  /-- MULHU (spec rule R116): MULHU writes the high half of the unsigned product. -/
  | mulhu (e : Fin 50) (lits : Lits) (d : Fin 16) (r : Fin 16)
  /-- DIV (spec rule R117): DIV writes signed quotient and remainder. -/
  | div (e : Fin 50) (lits : Lits) (d : Fin 16) (r : Fin 16)
  /-- DIVU (spec rule R117): DIVU writes unsigned quotient and remainder. -/
  | divu (e : Fin 50) (lits : Lits) (d : Fin 16) (r : Fin 16)
  /-- CRC (spec rule R118): CRC advances a CRC state in wd by one octet. -/
  | crc (e : Fin 50) (lits : Lits) (d : Fin 16) (r : Fin 16)
  /-- LD (spec rule R120): LD loads a word into wd. -/
  | ld (e : Fin 50) (lits : Lits) (d : Fin 16) (r : Fin 16)
  /-- ST (spec rule R120): ST stores wd to a word. -/
  | st (e : Fin 50) (lits : Lits) (d : Fin 16) (r : Fin 16)
  /-- LDN (spec rule R120): LDN loads a nonet into wd. -/
  | ldn (e : Fin 50) (lits : Lits) (d : Fin 16) (r : Fin 16)
  /-- STN (spec rule R121): STN stores a nonet through the Silt merge buffer. -/
  | stn (e : Fin 50) (lits : Lits) (d : Fin 16) (r : Fin 16)
  /-- LDH (spec rule R120): LDH loads a half word into wd. -/
  | ldh (e : Fin 50) (lits : Lits) (d : Fin 16) (r : Fin 16)
  /-- STH (spec rule R121): STH stores a half word through the Silt merge buffer. -/
  | sth (e : Fin 50) (lits : Lits) (d : Fin 16) (r : Fin 16)
  /-- BFX (spec rule R119): BFX extracts a bit field. -/
  | bfx (e : Fin 50) (lits : Lits) (d : Fin 16) (r : Fin 16)
  /-- BFI (spec rule R119): BFI inserts a bit field. -/
  | bfi (e : Fin 50) (lits : Lits) (d : Fin 16) (r : Fin 16)
  /-- SKBC (spec rule R124): SKBC skips when a register bit is 0. -/
  | skbc (e : Fin 50) (lits : Lits) (r : Fin 16) (b : Fin 64)
  /-- SKBS (spec rule R124): SKBS skips when a register bit is 1. -/
  | skbs (e : Fin 50) (lits : Lits) (r : Fin 16) (b : Fin 64)
  /-- BR (spec rule R125): BR jumps by a relative offset. -/
  | br (e : Fin 50) (lits : Lits) (off : Fin 1024)
  /-- CALL (spec rule R125): CALL pushes the return address, moves the window with a spill where needed and jumps. -/
  | call (e : Fin 50) (lits : Lits) (off : Fin 1024)
  /-- MALFORMED_BUNDLE (spec rule R107): An executed bundle of four LIT words traps ILLEGAL. -/
  | malformedBundle (e : Fin 50) (lits : Lits) (w : Nat)
  /-- BUDGET (spec rule R92): A task that has executed TASK_BUDGET bundles traps BUDGET before its next bundle. -/
  | budget (e : Fin 50)
  /-- PAIR_TIMEOUT (spec rule R97): One paired engine presents no access within PAIR_TIMEOUT and the access is withheld. -/
  | pairTimeout (p : Fin 24)
  /-- PAIR_RESTART (spec rule R99): Restoration of both engines from the checkpoint completes and the pair runs again against the replay log. -/
  | pairRestart (r : Machine.Restoration)
  /-- RESIDUE_FAULT (spec rule R96): An engine's residue or parity check flags, leaving its partner solo or trapping RESIDUE. -/
  | residueFault (e : Fin 50)
  /-- TRAP_RESUME (spec rule R93): CE_RESUME action RESUME re-executes the trapped bundle. -/
  | trapResume (a : Nat) (e : Fin 50)
  /-- TRAP_SKIP (spec rule R93): CE_RESUME action SKIP continues at the bundle after the trapped one. -/
  | trapSkip (a : Nat) (e : Fin 50)
  /-- TRAP_ABORT (spec rule R93): CE_RESUME action ABORT ends the trapped task and releases its ticket position. -/
  | trapAbort (a : Nat) (e : Fin 50)
  /-- ENGINE_RETIRED (spec rule R512): An engine's retirement takes effect when it holds no task, raising ENGINE_RETIRED. -/
  | engineRetired (e : Fin 48)
  /-- SLACK_MIN_READ (spec rule R105): A read of CE_SLACK_MIN returns the least slack and resets it to 0xF_FFFF. -/
  | slackMinRead (a : Nat) (e : Fin 50)
  /-- SLACK_HIST_READ (spec rule R105): A read of CE_SLACK_HISTb returns a bin count and clears it. -/
  | slackHistRead (a : Nat) (e : Fin 50) (b : Fin 8)
  /-- TCFG_WRITE (spec rule R132): A write of TALUS_TCFGt is applied within the limits for enabled or running tasks and queue feeding. -/
  | tcfgWrite (a : Nat) (t : Fin 1024) (w : Word)
  /-- QCFG_WRITE (spec rule R149): A write of TALUS_QCFGq changes a queue's area and enable within its rules. -/
  | qcfgWrite (a : Nat) (q : Fin 256) (w : Word)
  /-- SIGNAL (spec rule R137): A write to TALUS_SIGNAL sets or clears one event flag of one task. -/
  | signal (a : Nat) (w : Word)
  /-- SET_FLAG (spec rule R138): The Talus timed-event unit sets a task flag at its due tick. -/
  | setFlag
  /-- CLEAR_FLAG (spec rule R138): The Talus timed-event unit clears a task flag at its due tick. -/
  | clearFlag
  /-- DISPATCH (spec rule R141): Talus places the first placeable ready task on a free engine or pair, delivering w0-w3 and a ticket. -/
  | dispatch (c : Fin 13)
  /-- PAIR_HOLD (spec rule R142): A paired task passed over for PAIR_HOLD makes Talus reserve a pair for it. -/
  | pairHold (c : Fin 12)
  /-- QUEUE_PUSH (spec rule R150): A write of TALUS_QDATAq pushes an entry, or waits if the queue is full. -/
  | queuePush (a : Nat) (q : Fin 256) (w : Word)
  /-- QUEUE_PUSH_COMPLETE (spec rule R151): A push waiting on a full queue completes once an entry leaves. -/
  | queuePushComplete (q : Fin 256)
  /-- QUEUE_STALL (spec rule R151): A push that has waited PUSH_WARN sets STALLED and raises QUEUE_STALL. -/
  | queueStall (q : Fin 256)
  /-- QUEUE_POP (spec rule R150): A read of TALUS_QDATAq pops the oldest entry with its ECC mark. -/
  | queuePop (a : Nat) (q : Fin 256)
  /-- ORDERED_PUSH (spec rule R154): A write of TALUS_QORDq is held in the domain until the writer's ticket is at the head. -/
  | orderedPush (a : Nat) (q : Fin 256) (w : Word)
  /-- DREL (spec rule R155): A write of TALUS_DREL completes the writer's ticket early. -/
  | drel (a : Nat)
  /-- DOMAIN_STALL (spec rule R157): A domain head unreleased for DOM_WARN raises DOMAIN_STALL. -/
  | domainStall (d : Fin 512)
  /-- HIST_READ (spec rule R159): A read of TALUS_HISTb returns a waiting-time bin of the selected queue and clears it. -/
  | histRead (a : Nat) (b : Fin 8)
  /-- QSTAT_READ (spec rule R163): A read of TALUS_QSTATq returns counts and clears MAX. -/
  | qstatRead (a : Nat) (q : Fin 256)
  /-- BUSY_WINDOW (spec rule R160): At each whole millisecond Talus closes a busy-fraction window for every engine. -/
  | busyWindow
  /-- BUSY_READ (spec rule R163): A read of TALUS_BUSYe returns the busy fraction and clears PEAK. -/
  | busyRead (a : Nat) (e : Fin 50)
  /-- MBX_CFG_WRITE (spec rule R166): A write of COL_MBXm_CFG or SEND is accepted only while the mailbox is disabled and EMPTY, except EN alone. -/
  | mbxCfgWrite (a : Nat) (m : Fin 128) (send : Bool) (w : Word)
  /-- RING (spec rule R167): A write to COL_RING rings a mailbox, making it FULL and signalling the receiver. -/
  | ring (a : Nat) (w : Word)
  /-- TAKE (spec rule R170): A write to COL_TAKE by the receiver empties the mailbox and sends the EMPTY signal. -/
  | take (a : Nat) (w : Word)
  /-- FLUSH (spec rule R173): A write to COL_FLUSH by a steward or local host empties a mailbox and sets FLUSHED. -/
  | flush (a : Nat) (w : Word)
  /-- MBX_WAIT_READ (spec rule R174): A read of COL_MBXm_WAIT returns EMPTY or stalls an engine until the mailbox empties. -/
  | mbxWaitRead (a : Nat) (m : Fin 128)
  /-- WAIT_CANCEL (spec rule R175): A write to COL_WAIT_CANCEL ends an agent's stalled wait with 0. -/
  | waitCancel (a : Nat) (w : Word)
  /-- MBX_WAIT_LONG (spec rule R175): A stalled wait lasting WAIT_WARN raises MBX_WAIT_LONG once. -/
  | mbxWaitLong (a : Nat)
  /-- CYCLE_SCAN (spec rule R176): At every multiple of 32 us Col scans the mailboxes for mutual-wait cycles. -/
  | cycleScan
  /-- LOCK_READ (spec rule R179): A read of COL_MBX_LOCKm acquires a free lock or returns the owner. -/
  | lockRead (a : Nat) (m : Fin 128)
  /-- LOCK_RELEASE (spec rule R178): A write of 0 to a lock frees it for the owner or a steward, or raises LOCK_FOREIGN. -/
  | lockRelease (a : Nat) (m : Fin 128) (w : Word)
  /-- COL_RECORD_READ (spec rule R184): A read of COL_CYCLE, COL_REFUSE or COL_WAITINFO returns the record and clears it. -/
  | colRecordRead (a : Nat) (i : Fin 3)
  /-- BAR0_READ (spec rule R427): A host read request to BAR0 is split into slots and served, or completes with Unsupported Request. -/
  | bar0Read (a : Nat) (q : HostRead)
  /-- BAR0_WRITE (spec rule R427): A host write request to BAR0 is split into slots and performed, or discarded as UR or poisoned. -/
  | bar0Write (a : Nat) (q : HostWrite)
  /-- IND_READ (spec rule R191): A host read of MEMC_IND_DATA returns the addressed memory word with its check bits and advances the address. -/
  | indRead (a : Nat)
  /-- IND_WRITE (spec rule R191): A host write of MEMC_IND_DATA writes the addressed memory word and advances the address. -/
  | indWrite (a : Nat) (w : Word)
  /-- SCRUB (spec rule R200): The scrubber reads the next word of its arrays at its even pace and corrects or reports it. -/
  | scrub (c : Fin 55) (k : Fin 3)
  /-- SILT_TIMEOUT (spec rule R202): A Silt entry 64 ns past its last write is flushed with a read-merge-write. -/
  | siltTimeout (c : Fin 55)
  /-- MEMC_FLUSH (spec rule R202): A write of MEMC_CTRL.FLUSH flushes every Silt entry of every controller. -/
  | memcFlush (a : Nat)
  /-- CHECKER_SELF_TEST (spec rule R205): A checker self-test completes, passing or failing the controller. -/
  | checkerSelfTest (c : Fin 55) (found : List Machine.CheckerReading)
  /-- MARCH_GO (spec rule R209): A write of MEMC_MARCH_CTRL.GO starts a destructive or preserving march, or is refused. -/
  | marchGo (a : Nat) (w : Word)
  /-- MARCH_DONE (spec rule R209): A march ends, raising MARCH_DONE or MARCH_FAIL. -/
  | marchDone (c : Fin 55) (k : Fin 3) (r : MarchResult)
  /-- REPAIR_GO (spec rule R213): A write of MEMC_REPAIR_CTRL.GO starts the repair of the named row. -/
  | repairGo (a : Nat) (w : Word)
  /-- REPAIR_DONE (spec rule R212): A row copy to a spare and its remapping complete, raising REPAIR_DONE. -/
  | repairDone
  /-- MEMC_LAST_READ (spec rule R221): A read of MEMC_LASTc returns the last error record and clears it. -/
  | memcLastRead (a : Nat) (c : Fin 55)
  /-- MEMC_REFUSE_READ (spec rule R221): A read of MEMC_REFUSE returns the last refusal record and clears it. -/
  | memcRefuseRead (a : Nat)
  /-- VAULT_READ (spec rule R217): A steward read of VAULT_DATA returns the vault word, or 0 if sealed, and advances the address. -/
  | vaultRead (a : Nat)
  /-- VAULT_WRITE (spec rule R217): A steward write of VAULT_DATA writes and optionally seals a vault word and advances the address. -/
  | vaultWrite (a : Nat) (w : Word)
  /-- KEYLOAD (spec rule R217): A write of VAULT_KEYLOAD copies vault words into a tag-unit key slot. -/
  | keyload (a : Nat) (w : Word)
  /-- VAULT_WIPE (spec rule R218): A write of VAULT_CTRL.WIPE starts a vault wipe. -/
  | vaultWipe (a : Nat) (w : Word)
  /-- VAULT_WIPED (spec rule R218): A vault wipe completes, clearing words, seals and key slots and raising VAULT_WIPED. -/
  | vaultWiped
  /-- RX_FRAME (spec rule R226): A received frame completes at a MAC and is checked, counted, timestamped and committed by Massif. -/
  | rxFrame (p : Fin 18) (f : RxFrame)
  /-- PAUSE_RX (spec rule R232): A received PAUSE frame starts or ends a pause of the port's transmitter. -/
  | pauseRx (p : Fin 18) (quanta : Nat) (an : Bool)
  /-- PFC_RX (spec rule R233): A received PFC frame pauses or releases the named classes. -/
  | pfcRx (p : Fin 18) (classes : Nat) (quanta : List Nat)
  /-- PAUSE_END (spec rule R232): The pause time of a port or class expires and frames may start again. -/
  | pauseEnd (p : Fin 18) (c : Fin 9)
  /-- DOWN_REQ (spec rule R248): A received DOWN_REQ saddle frame is answered DOWN_ACK or DOWN_NAK. -/
  | downReq (p : Fin 18) (seq : Nat) (peer : Nat)
  /-- DOWN_ACK (spec rule R249): A received DOWN_ACK arms the step-down switch 8 us after it. -/
  | downAck (p : Fin 18) (seq : Nat)
  /-- DOWN_NAK (spec rule R248): A received DOWN_NAK ends the step-down request. -/
  | downNak (p : Fin 18) (seq : Nat)
  /-- UP_REQ (spec rule R248): A received UP_REQ saddle frame is answered UP_ACK. -/
  | upReq (p : Fin 18) (seq : Nat)
  /-- UP_ACK (spec rule R249): A received UP_ACK arms the step-up switch 8 us after it. -/
  | upAck (p : Fin 18) (seq : Nat)
  /-- LINK_LOSS (spec rule R229): Link present goes to 0 and the declared link state moves under the link table. -/
  | linkLoss (p : Fin 18)
  /-- LINK_RETURN (spec rule R229): Link present goes to 1 and the declared link state moves under the link table. -/
  | linkReturn (p : Fin 18) (phy : Fin 3)
  /-- QUAL_EXPIRY (spec rule R229): The qualification timer expires and the port is declared UP. -/
  | qualExpiry (p : Fin 18)
  /-- HOLD_DOWN_EXPIRY (spec rule R229): The hold-off timer expires and the port is declared DOWN. -/
  | holdDownExpiry (p : Fin 18)
  /-- MODE_CHANGE (spec rule R225): A change of MAC_MODE restarts the port in its new mode. -/
  | modeChange (a : Nat) (p : Fin 18) (w : Word)
  /-- RESTART (spec rule R225): A write of MAC_CTRL.RESTART restarts the port and declares it DOWN. -/
  | restart (p : Fin 18)
  /-- UNSUPPRESS (spec rule R231): A write of MAC_CTRL.UNSUPPRESS takes the port out of SUPPRESSED. -/
  | unsuppress (p : Fin 18)
  /-- FLAP_CLASSIFY (spec rule R231): At each whole second the MAC classes its window of downs and bounces. -/
  | flapClassify (p : Fin 18)
  /-- FLAP_QUIET_EXPIRY (spec rule R231): Link present unbroken for FLAP_QUIET seconds takes a suppressed port to QUALIFYING. -/
  | flapQuietExpiry (p : Fin 18)
  /-- TX_SEND (spec rule R234): A write of MAC_PAUSE.TX_SEND sends one PAUSE or PFC frame at the next frame boundary. -/
  | txSend (a : Nat) (p : Fin 18) (w : Word)
  /-- SEND_TIMED (spec rule R236): The MAC egress unit starts a timed frame at its start instant, or blocks it. -/
  | sendTimed (p : Fin 18)
  /-- TX_FRAME_START (spec rule R298): At a frame boundary the MAC selects and starts the next eligible untimed frame within gates and guard. -/
  | txFrameStart (p : Fin 18) (carrier : Bool)
  /-- TX_FRAME_END (spec rule R261): A transmitted frame ends and its counts and transmit timestamp entry are made. -/
  | txFrameEnd (p : Fin 18)
  /-- PREEMPT_VERIFY (spec rule R240): A preemption verify attempt is sent each VERIFY_TIME and STATUS moves to SUCCEEDED or FAILED. -/
  | preemptVerify (p : Fin 18) (answered : Bool)
  /-- COLLISION (spec rule R243): A half-duplex collision sends jam and schedules a backoff, or discards after 16 attempts. -/
  | collision (p : Fin 18) (dt : Nat)
  /-- BACKOFF_EXPIRY (spec rule R243): The backoff wait after a collision ends and the frame is retried. -/
  | backoffExpiry (p : Fin 18)
  /-- PLCA_TRANSMIT_OPPORTUNITY (spec rule R244): The port's PLCA transmit opportunity arrives and it may send. -/
  | plcaTransmitOpportunity (p : Fin 18)
  /-- LPI_ENTER (spec rule R245): Egress empty for IDLE us makes the MAC assert low-power idle. -/
  | lpiEnter (p : Fin 18)
  /-- LPI_WAKE (spec rule R245): A frame ready during LPI ends LPI and starts WAKE us later. -/
  | lpiWake (p : Fin 18)
  /-- STEP_WINDOW (spec rule R248): At each whole millisecond the MAC measures egress and may send DOWN_REQ or UP_REQ. -/
  | stepWindow (p : Fin 18)
  /-- STEP_REQ_TIMEOUT (spec rule R248): A saddle request unanswered for 1 ms counts as NAK. -/
  | stepReqTimeout (p : Fin 18)
  /-- STEP_SWITCH (spec rule R249): 8 us after the ACK the port switches rate at its next frame boundary. -/
  | stepSwitch (p : Fin 18)
  /-- STEP_CHANGE (spec rule R249): The lane locks at the new rate and STEP_CHANGE is raised. -/
  | stepChange (p : Fin 18)
  /-- STEP_FAIL (spec rule R249): No lock within 4 us returns the lane to the old rate and clears STEP.EN. -/
  | stepFail (p : Fin 18)
  /-- MAC_PLUG_READ (spec rule R253): A read of MAC_PLUG returns UPS, DOWNS and BOUNCES and clears them. -/
  | macPlugRead (a : Nat) (p : Fin 18)
  /-- TXTS_POP (spec rule R261): A read of MAC_TS_TXPOP returns and removes the oldest transmit timestamp entry. -/
  | txtsPop (a : Nat) (p : Fin 18)
  /-- TXTS_LOST_READ (spec rule R276): A read of MAC_TS_TXLOST returns the lost-entry count and clears it. -/
  | txtsLostRead (a : Nat) (p : Fin 18)
  /-- CELL_FORM (spec rule R282): Ingress port logic forms a cell, admits the frame to the buffer and sends the cell into the fabric. -/
  | cellForm (p : Fin 18) (dt : Nat) (back : Nat) (octets : List Nat)
  /-- FABRIC_SLOT (spec rule R278): A fabric stage completes one slot, moving one cell per connection. -/
  | fabricSlot (stage : Fin 2)
  /-- CELL_ARRIVE (spec rule R283): A cell reaches its egress resequencer and is passed on in SEQ order. -/
  | cellArrive (f : Fin 32)
  /-- CELL_LOST (spec rule R283): A held cell waiting 2 us makes the resequencer declare missing cells lost. -/
  | cellLost (e : Fin 20) (i : Fin 20)
  /-- FABRIC_FAULT (spec rule R280): A faulty fabric link is found and the fabric reconfigures around it. -/
  | fabricFault (link : FabricLink) (n : Fin 32) (lost : Nat)
  /-- ELIGIBILITY (spec rule R286): At tick E a frame joins its class queue, is discarded as bad, or misses its eligibility. -/
  | eligibility (p : Fin 18)
  /-- FDB_AGE (spec rule R295): At each whole second expired dynamic entries are removed. -/
  | fdbAge
  /-- AGED (spec rule R302): A frame not started within MAX_WAIT of E is dropped and counted AGED. -/
  | aged (p : Fin 18)
  /-- DUP_FORGET (spec rule R307): A duplicate entry unmatched for FORGET ms is removed and counted unique. -/
  | dupForget (r : Fin 2)
  /-- GATE_CHANGE (spec rule R301): A write of SWC_GCTLp.CHANGE makes the written gate list pending, or is refused. -/
  | gateChange (a : Nat) (p : Fin 18)
  /-- GATE_CANCEL (spec rule R301): A write of SWC_GCTLp.CANCEL withdraws a pending gate change. -/
  | gateCancel (p : Fin 18)
  /-- GATE_SWITCH (spec rule R301): At tick B the pending gate list becomes operational. -/
  | gateSwitch (p : Fin 18)
  /-- GATE_ENTRY (spec rule R299): A gate list entry's interval ends and the next entry's gate states take force. -/
  | gateEntry (p : Fin 18)
  /-- TXQ_ENTRY (spec rule R311): Massif takes an engine frame descriptor from its queue and schedules the frame at NOT_BEFORE. -/
  | txqEntry
  /-- FDB_LOOKUP (spec rule R315): SWC_FDB_CMD LOOKUP finds the entry for a key. -/
  | fdbLookup
  /-- FDB_INSERT (spec rule R315): SWC_FDB_CMD INSERT writes a static entry into its bucket. -/
  | fdbInsert
  /-- FDB_DELETE (spec rule R315): SWC_FDB_CMD DELETE removes the entry for a key. -/
  | fdbDelete
  /-- FDB_READ_INDEX (spec rule R315): SWC_FDB_CMD READ_INDEX returns the entry at an index. -/
  | fdbReadIndex (i : Fin 16384)
  /-- FLUSH_DYN (spec rule R315): A write of SWC_CTRL.FLUSH_DYN removes every dynamic entry. -/
  | flushDyn
  /-- VLAN_READ (spec rule R315): SWC_VLAN_CMD READ returns a VID's settings. -/
  | vlanRead (a : Nat) (v : Fin 4096)
  /-- VLAN_WRITE (spec rule R315): SWC_VLAN_CMD WRITE sets a VID's settings. -/
  | vlanWrite (a : Nat) (v : Fin 4096)
  /-- QCI_READ (spec rule R315): SWC_QCI_CMD READ returns a filter or meter. -/
  | qciRead (a : Nat) (meter : Bool) (i : Fin 1024)
  /-- QCI_WRITE (spec rule R315): SWC_QCI_CMD WRITE sets a filter or meter. -/
  | qciWrite (a : Nat) (meter : Bool) (i : Fin 1024)
  /-- CELL_STAT_READ (spec rule R315): A read of SWC_CELL_STAT returns lost and late cell counts and clears them. -/
  | cellStatRead (a : Nat)
  /-- STS_FRAME (spec rule R317): Stream services takes a completed P19 frame, classifies and matches it, and starts verification or pushes it. -/
  | stsFrame
  /-- AUTH_VERDICT (spec rule R325): A tag unit finishes verification and the frame is pushed or freed under its subscription's policy. -/
  | authVerdict (u : Fin 4) (index : Nat) (flags : Bool) (v : Fin 4) (flagsAgain : Bool) (x : Fin 4)
  /-- STS_FREE (spec rule R320): A write to STS_FREE frees a held frame. -/
  | stsFree (a : Nat) (index : Nat)
  /-- SUB_READ (spec rule R322): STS_SUB_CMD READ returns a subscription entry and its counts. -/
  | subRead (a : Nat) (table : Fin 4) (i : Fin 4096)
  /-- SUB_WRITE (spec rule R322): STS_SUB_CMD WRITE changes a subscription entry as an untimed action. -/
  | subWrite (a : Nat) (table : Fin 4) (i : Fin 4096)
  /-- SUB_WRITE_AT (spec rule R322): STS_SUB_CMD WRITE_AT holds a subscription entry pending until the tick of STS_SUB_AT. -/
  | subWriteAt (a : Nat) (table : Fin 4) (i : Fin 4096)
  /-- WRITE_AT_APPLY (spec rule R322): The pending subscription entry takes effect at its tick and PENDING clears. -/
  | writeAtApply
  /-- CONTRIBUTION (spec rule R330): A write of TAL_SUB_HDR hands one contribution to Terrace, which numbers, places and stores it. -/
  | contribution (a : Nat) (w : Word)
  /-- GROUP_ENABLE (spec rule R328): A write of TAL_GCFGg.EN := 1 checks and enables a group and computes its look-ahead. -/
  | groupEnable (a : Nat) (g : Fin 64) (w : Word)
  /-- GROUP_DISABLE (spec rule R329): A write of TAL_GCFGg.EN := 0 stops a group at GSTART or at once. -/
  | groupDisable (a : Nat) (g : Fin 64) (w : Word)
  /-- ROW_RELEASE (spec rule R338): At a row's release instant Terrace computes it, writes it and pushes it to TARGET_Q. -/
  | rowRelease (g : Fin 64)
  /-- RFREE (spec rule R341): A write to TAL_RFREE frees a delivered row buffer. -/
  | rfree (a : Nat) (off : Nat)
  /-- BADINFO_READ (spec rule R346): A read of TAL_BADINFO returns the last refused contribution record and clears it. -/
  | badinfoRead (a : Nat)
  /-- RL_ENABLE (spec rule R367): A write of RLC_CTRL.EN := 1 takes the controller from OFF to LISTEN. -/
  | rlEnable (a : Nat)
  /-- RL_DISABLE (spec rule R367): A write of RLC_CTRL.EN := 0 closes the guardian and enters OFF. -/
  | rlDisable (a : Nat)
  /-- LISTEN_TIMEOUT (spec rule R367): The listen timer expires and a cold-start node enters COLD_LEAD. -/
  | listenTimeout
  /-- RL_FRAME_RX (spec rule R356): A Ridgeline frame is received on a channel and accepted or counted, driving integration and state changes. -/
  | rlFrameRx (chB : Bool) (code : Bool) (dt : Nat) (back : Nat) (octets : List Nat)
  /-- SLOT_END (spec rule R360): After a static or spare slot ends the RLC fills its receive buffer, counts and sets flags. -/
  | slotEnd (slot : Fin 80)
  /-- CYCLE_START (spec rule R351): A Ridgeline cycle begins and its TBU TSW is recorded. -/
  | cycleStart
  /-- NIT_START (spec rule R363): At the start of the NIT the device computes offset and rate corrections and may become unsynchronised. -/
  | nitStart
  /-- SEND_SLOT (spec rule R358): The Ridgeline slot unit transmits a posted buffer at its slot start, or blocks it. -/
  | sendSlot (slot : Fin 80)
  /-- SPARE_CLAIM (spec rule R370): A device wanting a spare picks a free spare and sends CLAIM frames in it. -/
  | spareClaim
  /-- SPARE_BACKOFF_END (spec rule R370): A spare-claim back-off ends and the claim starts again. -/
  | spareBackoffEnd
  /-- SPARE_RELEASE (spec rule R371): A write of RLC_CTRL.SPARE_RELEASE sends one RELEASE frame for the owned spare. -/
  | spareRelease (a : Nat)
  /-- SPARE_IDLE_EXPIRY (spec rule R371): Sync nodes free a spare with no owner frame for SPARE_IDLE cycles. -/
  | spareIdleExpiry (i : Fin 16)
  /-- REMOTE_ACCESS (spec rule R375): The root takes a BAR2 access from its host and queues it as a record. -/
  | remoteAccess (x : RemoteRequest)
  /-- RQ_SLOT (spec rule R375): The active root sends its RQ frame with GRANT and read records. -/
  | rqSlot
  /-- WR_SLOT (spec rule R375): The active root sends its WR frame of write records. -/
  | wrSlot
  /-- RS_SLOT (spec rule R376): The granted node sends its RS frame of read data, FAIL and EVENT records. -/
  | rsSlot
  /-- READ_RECORD (spec rule R376): A target performs a READ record of an accepted RQ frame. -/
  | readRecord
  /-- READ_FIXED (spec rule R376): A target performs a READ_FIXED record of an accepted RQ frame. -/
  | readFixed
  /-- WRITE_RECORD (spec rule R376): A target performs a WRITE record of an accepted WR frame. -/
  | writeRecord
  /-- WRITE_FIXED (spec rule R376): A target performs a WRITE_FIXED record of an accepted WR frame. -/
  | writeFixed
  /-- GRANT (spec rule R374): A GRANT record names the node allowed to send in this cycle's RS slot. -/
  | grant
  /-- READ_DATA (spec rule R377): The root receives a READ_DATA record and completes the waiting host read. -/
  | readData
  /-- FAIL_RECORD (spec rule R377): The root receives a FAIL record, records it in RLC_FAIL and raises RL_REMOTE_FAIL. -/
  | failRecord
  /-- EVENT_RECORD (spec rule R376): The root receives an EVENT record, sets the sender's RLC_REVT bit and raises RL_REMOTE_EVENT. -/
  | eventRecord
  /-- END_RECORD (spec rule R374): An END record ends the records of a dynamic frame. -/
  | endRecord
  /-- REMOTE_READ_TIMEOUT (spec rule R377): A remote read whose RS is not accepted or lacks data completes with Completer Abort. -/
  | remoteReadTimeout
  /-- FAR_READ (spec rule R379): RLC_FAR_CMD READ carries a single-word remote read. -/
  | farRead (a : Nat) (node : Fin 64)
  /-- FAR_WRITE (spec rule R379): RLC_FAR_CMD WRITE carries a single-word remote write. -/
  | farWrite (a : Nat) (node : Fin 64)
  /-- ROOT_LOSS (spec rule R380): A STANDBY device that accepted no RQ for ROOT_LOSS cycles becomes the active root. -/
  | rootLoss
  /-- RQ_BACKOFF_END (spec rule R380): After an RQ collision the back-off of node number + 1 cycles ends. -/
  | rqBackoffEnd
  /-- RLC_FAIL_READ (spec rule R384): A read of RLC_FAIL returns the last remote failure record and clears it. -/
  | rlcFailRead (a : Nat)
  /-- SLOTCNT_READ (spec rule R384): A read of RLC_SLOTCNTs returns missed and one-channel counts and clears them. -/
  | slotcntRead (a : Nat) (slot : Fin 80)
  /-- CAN_ENABLE (spec rule R387): A write of CAN_CTRL.EN := 1 starts integration. -/
  | canEnable (a : Nat) (c : Fin 8)
  /-- CAN_DISABLE (spec rule R387): A write of CAN_CTRL.EN := 0 stops the channel after the frame in progress. -/
  | canDisable (a : Nat) (c : Fin 8) (busy : Bool)
  /-- INTEGRATION_DONE (spec rule R387): After 11 recessive bits the channel joins the bus. -/
  | integrationDone (c : Fin 8) (dt : Nat)
  /-- TX_PUSH (spec rule R390): CAN_TXCMD PUSH copies the staging set into the transmit FIFO, or is refused. -/
  | txPush (a : Nat) (c : Fin 8)
  /-- TX_PRIO (spec rule R390): CAN_TXCMD PRIO loads the staging set into the priority buffer, or is refused. -/
  | txPrio (a : Nat) (c : Fin 8)
  /-- SEND_AT (spec rule R393): A SEND_AT action opens its frame's window at the first bit boundary at or after its due tick. -/
  | sendAt (c : Fin 8)
  /-- CANCEL_AT (spec rule R396): A CANCEL_AT action cancels one transmit entry at its due tick. -/
  | cancelAt (c : Fin 8)
  /-- WINDOW_CLOSE (spec rule R393): A timed frame's window closes and an unsent frame ends with outcome WINDOW. -/
  | windowClose (c : Fin 8)
  /-- SOF_OPPORTUNITY (spec rule R391): At an SOF opportunity the channel offers one candidate to arbitration. -/
  | sofOpportunity (c : Fin 8)
  /-- CAN_TX_END (spec rule R397): A transmit attempt ends in success, loss, error or clash and its outcome is recorded. -/
  | canTxEnd (c : Fin 8) (r : CanEnd) (dt : Nat)
  /-- TX_CANCEL (spec rule R396): A write to CAN_TXCANCEL cancels one transmit entry. -/
  | txCancel (a : Nat) (c : Fin 8) (source : Fin 8) (tag : Nat)
  /-- TXREC_POP (spec rule R397): A read of CAN_TXPOP returns and removes the oldest transmit record. -/
  | txrecPop (a : Nat) (c : Fin 8)
  /-- CAN_RX_FRAME (spec rule R399): A received error-free frame is filtered and stored in the next ring buffer or dropped. -/
  | canRxFrame (c : Fin 8) (f : CanFrame)
  /-- RX_WORD0_READ (spec rule R400): A read of CAN_RXWIN word 0 locks a FULL buffer to the reader or returns BUSY. -/
  | rxWord0Read (a : Nat) (c : Fin 8)
  /-- RX_WORD19_READ (spec rule R400): A read of CAN_RXWIN word 19 by the lock holder empties and unlocks the buffer. -/
  | rxWord19Read (a : Nat) (c : Fin 8)
  /-- RX_FORCE (spec rule R401): A write to CAN_RXFORCE by a steward or local host releases a buffer and discards its frame. -/
  | rxForce (a : Nat) (c : Fin 8) (n : Fin 64)
  /-- BO_RECOVER (spec rule R402): A write of CAN_CTRL.BO_RECOVER starts bus-off recovery. -/
  | boRecover (a : Nat) (c : Fin 8)
  /-- BUS_OFF_RECOVERED (spec rule R402): After 128 occurrences of 11 recessive bits the channel rejoins the bus. -/
  | busOffRecovered (c : Fin 8) (dt : Nat)
  /-- ERRINFO_READ (spec rule R406): A read of CAN_ERRINFO returns the last error code and clears it. -/
  | errinfoRead (a : Nat) (c : Fin 8)
  /-- TOR_HALT (spec rule R414): Tor HALT stops the channel after its step. -/
  | torHalt (c : Fin 64)
  /-- TOR_BR (spec rule R414): Tor BR branches when its condition holds. -/
  | torBr (c : Fin 64) (prev : Nat) (pins : Nat)
  /-- TOR_BEAT (spec rule R414): Tor BEAT completes in the step in which TM equals N and resets TM. -/
  | torBeat (c : Fin 64)
  /-- TOR_AWAIT (spec rule R414): Tor AWAIT completes in the first step in which its pin level or edge is seen. -/
  | torAwait (c : Fin 64) (dt : Nat) (prev : Nat) (pins : Nat)
  /-- TOR_TAKE (spec rule R414): Tor TAKE shifts N bits into IS. -/
  | torTake (c : Fin 64) (pins : Nat)
  /-- TOR_EMIT (spec rule R414): Tor EMIT shifts N bits out of OS to a destination. -/
  | torEmit (c : Fin 64)
  /-- TOR_SEND (spec rule R414): Tor SEND moves IS into the receive queue, stalling or overrunning when full. -/
  | torSend (c : Fin 64)
  /-- TOR_FETCH (spec rule R414): Tor FETCH loads OS from the transmit queue, stalling or underrunning when empty. -/
  | torFetch (c : Fin 64)
  /-- TOR_LOAD (spec rule R414): Tor LOAD writes an immediate to a destination. -/
  | torLoad (c : Fin 64)
  /-- TOR_COPY (spec rule R414): Tor COPY moves a transformed source to a destination. -/
  | torCopy (c : Fin 64) (pins : Nat)
  /-- TOR_ADD (spec rule R414): Tor ADD adds a signed immediate to X or Y. -/
  | torAdd (c : Fin 64)
  /-- TOR_STAMP (spec rule R414): Tor STAMP places its step's TSW into the receive queue. -/
  | torStamp (c : Fin 64)
  /-- TOR_RAISE (spec rule R414): Tor RAISE sets a Talus task flag. -/
  | torRaise (c : Fin 64)
  /-- TOR_NOP (spec rule R414): Tor NOP has no effect. -/
  | torNop (c : Fin 64)
  /-- TOR_START (spec rule R420): A START from a trigger, post or CTRL.START sets the PC and runs a stopped channel, or is blocked. -/
  | torStart (c : Fin 64) (by_ : Option Nat)
  /-- TOR_STOP (spec rule R420): A STOP from a post or CTRL.STOP stops the channel keeping its registers. -/
  | torStop (c : Fin 64) (by_ : Option Nat)
  /-- TOR_FLUSH (spec rule R421): A write of CTRL.FLUSH clears a stopped channel's shifters and counts. -/
  | torFlush (a : Nat) (c : Fin 64)
  /-- TOR_QCLR (spec rule R421): A write of CTRL.QCLR empties a stopped channel's queues. -/
  | torQclr (a : Nat) (c : Fin 64)
  /-- TOR_TXQ_WRITE (spec rule R417): A write of TOR_CHc_TXQ pushes a word into the transmit queue, or is dropped. -/
  | torTxqWrite (a : Nat) (c : Fin 64) (w : Word)
  /-- TOR_RXQ_READ (spec rule R417): A read of TOR_CHc_RXQ pops the oldest receive word. -/
  | torRxqRead (a : Nat) (c : Fin 64)
  /-- TOR_TX_FORWARD (spec rule R417): A forwarding channel pops its Talus queue when its transmit queue has room. -/
  | torTxForward (c : Fin 64)
  /-- TOR_PDATA_WRITE (spec rule R422): A write of TOR_PDATA stores a program word and advances the address, unless a running window refuses it. -/
  | torPdataWrite (u : Fin 4) (x : Machine.AgentWord)
  /-- TOR_PDATA_READ (spec rule R422): A read of TOR_PDATA returns a program word and advances the address. -/
  | torPdataRead (a : Nat) (u : Fin 4)
  /-- PCIE_RESET (spec rule R430): A Function Level Reset, hot reset or link loss stops every ring and clears event enables. -/
  | pcieReset (kind : Fin 4)
  /-- RING_TAIL_WRITE (spec rule R436): A host write of a ring's TAIL hands descriptors to the device. -/
  | ringTailWrite (a : Nat) (d : Fin 2) (r : Fin 64) (tail : Nat)
  /-- DESC_FETCH (spec rule R436): A descriptor read from host memory completes and is used, or stops the ring if not owned. -/
  | descFetch (d : Fin 2) (r : Fin 64) (desc : Option (List Nat))
  /-- RX_ENTRY_MOVE (spec rule R437): Host DMA pops a receive-ring entry, moves its data, writes back the descriptor and frees the source. -/
  | rxEntryMove (r : Fin 64)
  /-- TX_DESC_MOVE (spec rule R438): Host DMA takes a transmit descriptor's data into the packet buffer and pushes its entry. -/
  | txDescMove (r : Fin 64) (data : Option (List Nat))
  /-- DMA_READ_TIMEOUT (spec rule R429): A device DMA read not completed within 10 ms counts as a fetch error. -/
  | dmaReadTimeout (d : Fin 2) (r : Fin 64) (data : Bool)
  /-- RING_WATCHDOG (spec rule R436): An entry waiting WDOG us at a ring's head raises RING_WATCHDOG. -/
  | ringWatchdog (d : Fin 2) (r : Fin 64)
  /-- RING_DISABLE (spec rule R436): A ring's EN := 0 takes effect at the next descriptor boundary and sets STOPPED. -/
  | ringDisable (a : Nat) (d : Fin 2) (r : Fin 64)
  /-- RING_ENABLE (spec rule R436): A ring's EN := 1 clears STOPPED and resumes the ring. -/
  | ringEnable (a : Nat) (d : Fin 2) (r : Fin 64)
  /-- TXFREE (spec rule R448): A write to HDMA_TXFREE frees a BLOCK area. -/
  | txfree (a : Nat) (i : Fin 131072)
  /-- COAL_TIMEOUT (spec rule R446): COAL_T us after the first unreported descriptor the ring's summary bit is set and RXDONE or TXDONE raised. -/
  | coalTimeout (d : Fin 2) (r : Fin 64)
  /-- SWSET (spec rule R440): A write to EVC_SWSET raises software event 224 + i. -/
  | swset (a : Nat) (i : Fin 32)
  /-- EVC_STAT_CLEAR (spec rule R441): A W1C write to EVC_STATk clears status bits and resends messages of vectors still summarised. -/
  | evcStatClear (a : Nat) (k : Fin 8) (w : Word)
  /-- VHOLD_EXPIRY (spec rule R441): A vector's hold-off ends and a held message is sent if its summary is still 1. -/
  | vholdExpiry (v : Fin 32)
  /-- ERRLOG_READ (spec rule R448): A read of HDMA_ERRLOG returns the last error record and clears it. -/
  | errlogRead (a : Nat)
  /-- POR_ASSERT (spec rule R450): PORn low or a supply below its threshold holds the device in power-on reset. -/
  | porAssert (aonLost : Bool)
  /-- POR_RELEASE (spec rule R451): The release of PORn latches the straps and starts the boot flow. -/
  | porRelease (x : Straps)
  /-- SYS_RESET_PIN (spec rule R452): SYS_RSTn low for 1 us performs a warm reset. -/
  | sysResetPin
  /-- WARM_RST (spec rule R453): A write of PRC_CTRL.WARM_RST with the key performs a warm reset. -/
  | warmRst (a : Nat) (key : Nat)
  /-- BOOT_MARCH_DONE (spec rule R454): The start-up self-tests and marches needed by the loader complete and PHASE moves to LOADER. -/
  | bootMarchDone
  /-- LOADER_DONE (spec rule R454): The loader has loaded and verified the steward image and the stewards start, or the device enters FAILED. -/
  | loaderDone
  /-- DP_READY (spec rule R457): A write of PRC_CTRL.DP_READY declares the data plane ready when its conditions hold. -/
  | dpReady (a : Nat)
  /-- KICK (spec rule R460): A steward's write of PRC_WDOG.KICKs restarts its watchdog timeout. -/
  | kick (a : Nat) (i : Fin 2)
  /-- WDOG_TIMEOUT (spec rule R461): A steward misses its watchdog timeout, causing a switch, a record or a warm reset. -/
  | wdogTimeout (i : Fin 2)
  /-- CLUSTER_SLEEP_CMD (spec rule R464): A write of PRC_CLSc_CTRL.SLEEP starts a cluster's entry into its sleep state. -/
  | clusterSleepCmd (a : Nat) (c : Fin 12)
  /-- CLUSTER_IDLE (spec rule R464): A cluster idle for IDLE us with no ready task starts automatic entry. -/
  | clusterIdle (c : Fin 12)
  /-- DRAIN_DONE (spec rule R464): Every engine of a draining cluster reaches its commit boundary and ENTERING begins. -/
  | drainDone (c : Fin 12)
  /-- ISOLATE (spec rule R465): An entering cluster is isolated, after which wake requests no longer cancel entry. -/
  | isolate (c : Fin 12)
  /-- CLUSTER_SLEEP (spec rule R464): The cluster reaches its sleep state and CLUSTER_SLEEP is raised. -/
  | clusterSleep (c : Fin 12)
  /-- CLUSTER_WAKE_CMD (spec rule R465): A wake request from a write of PRC_CLSc_CTRL.WAKE cancels entry or starts a wake. -/
  | clusterWakeCmd (a : Nat) (c : Fin 12)
  /-- CLUSTER_WAKE (spec rule R466): A wake completes with clear, self-test and reload, and the cluster becomes ACTIVE. -/
  | clusterWake (c : Fin 12) (fails : Fin 16)
  /-- RSTCAUSE_READ (spec rule R471): A read of PRC_RSTCAUSE returns the reset causes and clears them. -/
  | rstcauseRead (a : Nat)
  /-- BEGIN (spec rule R479): FWC_XFER_CMD BEGIN erases a slot and its bitmap to receive an image. -/
  | xferBegin (a : Nat) (k : Fin 2)
  /-- ERASE_DONE (spec rule R479): A slot erase completes and the slot becomes RECEIVING. -/
  | eraseDone (ok : Bool)
  /-- XFER_ABORT (spec rule R479): FWC_XFER_CMD ABORT sets a receiving or complete slot to EMPTY. -/
  | xferAbort (a : Nat) (k : Fin 2)
  /-- PIECE (spec rule R480): A write of FWC_PIECE_CMD starts judging and storing a piece from Shelf RAM. -/
  | piece (a : Nat) (w : Word)
  /-- PIECE_DONE (spec rule R480): A piece completes with its result, bitmap update and PIECE_OK or PIECE_BAD. -/
  | pieceDone
  /-- PENDING_CHECK (spec rule R481): Once the digest table is OK the FWC reads back and judges a pending body piece. -/
  | pendingCheck
  /-- STAGE (spec rule R485): FWC_XFER_CMD STAGE loads the new image into every inactive bank and starts the standby steward on it. -/
  | stage (a : Nat) (k : Fin 2)
  /-- UNSTAGE (spec rule R488): FWC_XFER_CMD UNSTAGE returns a STAGED slot to COMPLETE. -/
  | unstage (a : Nat) (k : Fin 2)
  /-- BOOT_NEXT (spec rule R482): FWC_XFER_CMD BOOT_NEXT marks a complete slot to boot at the next reset. -/
  | bootNext (a : Nat) (k : Fin 2)
  /-- COMMIT (spec rule R482): FWC_XFER_CMD COMMIT confirms the running TRIAL image and may raise MIN_SVN. -/
  | commit (a : Nat) (k : Fin 2)
  /-- HANDOVER (spec rule R485): A write of FWC_ACT_CTRL.HANDOVER makes the new-image steward active and the old one restart as standby. -/
  | handover (a : Nat)
  /-- ACT_REVERT (spec rule R485): A write of FWC_ACT_CTRL.REVERT switches the new-image steward back to its former bank. -/
  | actRevert (a : Nat)
  /-- ACTIVATE_GO (spec rule R486): A write of FWC_ACT_CTRL.GO schedules activation of a STAGED slot at ACT_AT. -/
  | activateGo (a : Nat)
  /-- ACTIVATE_GROUP (spec rule R486): At T or T + S one group of engines stops taking dispatches to switch bank. -/
  | activateGroup (g : Fin 2)
  /-- MIGRATED (spec rule R493): A write of FWC_ACT_CTRL.MIGRATED raises MIGRATION_DONE. -/
  | migrated (a : Nat)
  /-- MIG_FAIL (spec rule R493): A write of FWC_ACT_CTRL.MIG_FAIL raises MIGRATION_FAIL. -/
  | migFail (a : Nat)
  /-- CFG_LOAD (spec rule R490): FWC_CFG_CMD LOAD copies a checked configuration block or its defaults to Shelf RAM. -/
  | cfgLoad (a : Nat) (b : Fin 1024) (shelf : Fin 256) (any : Bool)
  /-- CFG_WRITE (spec rule R491): FWC_CFG_CMD WRITE copies a block from Shelf RAM into the inactive bank. -/
  | cfgWrite (a : Nat) (shelf : Fin 256)
  /-- CFG_ERASE (spec rule R491): FWC_CFG_CMD ERASE clears the inactive configuration bank. -/
  | cfgErase (a : Nat)
  /-- CFG_SWITCH (spec rule R491): FWC_CFG_CMD SWITCH makes the inactive bank active. -/
  | cfgSwitch (a : Nat)
  /-- CFG_REVERT (spec rule R491): FWC_CFG_CMD REVERT makes the previous-generation bank active again. -/
  | cfgRevert (a : Nat)
  /-- CFG_OP_DONE (spec rule R492): A configuration operation completes, clearing BUSY and giving its RESULT. -/
  | cfgOpDone
  /-- PROVISION (spec rule R495): FWC_LC_CMD PROVISION moves the device from MANUFACTURE to PROVISION. -/
  | lcProvision (a : Nat) (key : Nat)
  /-- FIELD (spec rule R495): FWC_LC_CMD FIELD moves the device from PROVISION to FIELD. -/
  | lcField (a : Nat) (key : Nat)
  /-- RETURN (spec rule R495): FWC_LC_CMD RETURN moves the device from FIELD to RETURN with a valid authorisation. -/
  | lcReturn (a : Nat) (key : Nat) (shelf : Fin 256)
  /-- SCRAPPED (spec rule R495): FWC_LC_CMD SCRAPPED moves the device to SCRAPPED. -/
  | lcScrapped (a : Nat) (key : Nat)
  /-- FUSE_KEY (spec rule R494): FWC_LC_CMD FUSE_KEY fuses a key digest into a key slot. -/
  | fuseKey (a : Nat) (key : Nat) (shelf : Fin 256) (slot : Fin 4)
  /-- REVOKE_KEY (spec rule R494): FWC_LC_CMD REVOKE_KEY revokes a key slot. -/
  | revokeKey (a : Nat) (key : Nat) (slot : Fin 4)
  /-- LC_STAT_READ (spec rule R500): A read of FWC_LC_STAT returns the refusal reason and clears it. -/
  | lcStatRead (a : Nat)
  /-- TAMPER (spec rule R497): A tamper detection wipes the vault, latches its source, reports and may warm-reset. -/
  | tamper (k : Fin 7)
  /-- STATE_SECTOR_ROTATE (spec rule R475): Before the current state sector fills the FWC copies records in force and erases the oldest sector. -/
  | stateSectorRotate
  /-- STRATA_RECORD_WRITE (spec rule R503): Strata writes the oldest pending intake entry into the ring as a record. -/
  | strataRecordWrite
  /-- STRATA_TAIL_WRITE (spec rule R504): A write of STRATA_TAIL consumes records. -/
  | strataTailWrite (a : Nat) (w : Word)
  /-- REARM (spec rule R507): A write of STRATA_CTRL.REARM clears FIRST_VALID so the next record is copied to STRATA_FIRST. -/
  | rearm (a : Nat)
  /-- STRATA_LAST_READ (spec rule R508): A read of STRATA_LASTs returns the source's latest report and clears it. -/
  | strataLastRead (a : Nat) (n : Fin 190)
  /-- STRATA_WSTAT_READ (spec rule R525): A read of STRATA_WSTAT returns the last LASTING instance and clears it. -/
  | strataWstatRead (a : Nat)
  /-- STRATA_LOST_READ (spec rule R525): A read of STRATA_LOSTk returns a class's lost count and clears it. -/
  | strataLostRead (a : Nat) (k : Fin 4)
  /-- COPY_FAULT (spec rule R515): The two copies of a shadowed unit disagree or one flags, and the unit switches or repeats the step. -/
  | copyFault (u : Fin 190) (f : Fin 4)
  /-- COPY_TEST_DONE (spec rule R515): The 1 us pattern test of both copies ends and the unit continues on the passing copy. -/
  | copyTestDone (u : Fin 190) (pass : Fin 2)
  /-- DBG_HALT (spec rule R554): TMX_DBG_CMD HALT halts an engine before its next bundle. -/
  | dbgHalt (a : Nat) (e : Fin 50)
  /-- DBG_RESUME (spec rule R554): TMX_DBG_CMD RESUME continues a halted engine. -/
  | dbgResume (a : Nat) (e : Fin 50)
  /-- DBG_STEP (spec rule R554): TMX_DBG_CMD STEP executes one bundle and halts again. -/
  | dbgStep (a : Nat) (e : Fin 50)
  /-- READ_REG (spec rule R554): TMX_DBG_CMD READ_REG returns a register of a halted engine. -/
  | readReg (a : Nat) (e : Fin 50) (idx : Fin 512)
  /-- WRITE_REG (spec rule R554): TMX_DBG_CMD WRITE_REG writes a register of a halted unpaired engine. -/
  | writeReg (a : Nat) (e : Fin 50) (idx : Fin 512)
  /-- SET_BP (spec rule R554): TMX_DBG_CMD SET_BP arms a breakpoint. -/
  | setBp (a : Nat) (e : Fin 50) (idx : Fin 512)
  /-- CLR_BP (spec rule R554): TMX_DBG_CMD CLR_BP clears a breakpoint. -/
  | clrBp (a : Nat) (e : Fin 50) (idx : Fin 512)
  /-- DBG_RELEASE (spec rule R554): TMX_DBG_CMD RELEASE starts the stewards held by BOOT_HALT. -/
  | dbgRelease (a : Nat) (jtag : Bool)
  /-- BREAKPOINT (spec rule R555): An engine reaching a bundle at an armed breakpoint halts and DEBUG_HALT is raised. -/
  | breakpoint (e : Fin 50)
  /-- TEST_LOGIC_RESET (spec rule R549): TRSTn or TMS puts the TAP in Test-Logic-Reset and loads IDCODE. -/
  | testLogicReset
  /-- JTAG_UPDATE_IR (spec rule R552): Update-IR loads an instruction, taking the balls to or from boundary-register control. -/
  | jtagUpdateIr (code : Fin 256)
  /-- TMX_ACCESS (spec rule R553): Update-DR of TMX_ACCESS performs a TMX register access with steward rights. -/
  | tmxAccess (v : Nat)
  /-- BIST_LOGIC (spec rule R557): TMX_BIST_CTRL GO with KIND LOGIC starts a scan test of a halted cluster. -/
  | bistLogic (a : Nat) (c : Fin 16)
  /-- BIST_LOGIC_DONE (spec rule R557): A LOGIC test ends, retiring failed engines and raising BIST_DONE or BIST_FAIL. -/
  | bistLogicDone (fails : Fin 16)
  /-- BIST_PRBS (spec rule R557): TMX_BIST_CTRL GO with KIND PRBS starts PRBS31 on a disabled lane. -/
  | bistPrbs (a : Nat) (lane : Fin 16) (loop : Fin 2)
  /-- PRBS_STOP (spec rule R557): A write of GO := 0 stops a PRBS test. -/
  | prbsStop (a : Nat) (errors : Nat)
  /-- PRBS_ERR_READ (spec rule R560): A read of TMX_PRBS_ERR returns the bit-error count and clears it. -/
  | prbsErrRead (a : Nat) (errors : Nat)
  /-- FIRST_START (spec rule R485): The FWC finishes writing and reading back every inactive bank for STAGE, switches the standby steward's bank, and the standby steward starts the new image at word 0. -/
  | firstStart
  /-- RECEIVE_ERROR (spec rule R402): A CAN channel detects an error while receiving, or a protocol exception under R388, and updates its receive error counter, error state and counts, or integrates again. -/
  | receiveError (c : Fin 8) (e : CanError) (fdf : Bool) (dt : Nat)
  /-- BEACON (spec rule R244): The PLCA sublayer of an MII port sees a BEACON, or stops seeing one, and PLCA_OK and the fall-back to CSMA/CD change accordingly. -/
  | beacon (p : Fin 18) (seen : Bool)
  /-- PEER_LPI (spec rule R245): The peer starts or stops signalling low-power idle, which sets or clears MAC_STAT.LPI_RX and counts LPI_RX_ENTRIES. -/
  | peerLpi (p : Fin 18) (idle : Bool)
  /-- EXTEST_UPDATE_DR (spec rule R551): Update-DR, or a falling TCK edge in Run-Test/Idle under EXTEST_TRAIN, drives the balls from the boundary register under EXTEST, EXTEST_PULSE or EXTEST_TRAIN. -/
  | extestUpdateDr (upd : Option Nat)
  /-- PERSTN_HIGH (spec rule R456): PERSTn going high starts the endpoint's link training and the 1 ms after which it answers configuration requests normally. -/
  | perstnHigh
  deriving DecidableEq, Repr

end Sys2Proof
end

