-- ==== Sys2Proof/Decode.lean ====
section
/-! DEFINITION. Commands the opcode table gives bits. No row of spec/opcode_table.json gives any: a command reaches the
block from outside, so no word spells one. -/
namespace Sys2Proof

/-- The command a word spells by the bits of the opcode table: none, since no row has bits. -/
def decodeTableWord (_nbits _w : Nat) : Option Instr := none

end Sys2Proof
end

