-- ==== Sys2Proof/Config.lean ====
section
/-! DEFINITION. What the part fixes (Config.*) and the values the spec leaves free, each an opaque constant without a body,
so that no proof can see what it is. Times are counted in sixteenths of a nanosecond (spec/00_scope.md R14). -/
namespace Sys2Proof.Config

/-- One nanosecond, in sixteenths. -/
def ns : Nat := 16
/-- One 8 ns tick, in sixteenths. -/
def tick : Nat := 128
/-- One microsecond, in sixteenths. -/
def us : Nat := 16000
/-- One millisecond, in sixteenths. -/
def ms : Nat := 16000000
/-- One second, in sixteenths. -/
def sec : Nat := 16000000000

/-- FREE (log 7): whether the synchroniser takes an action that arrives inside its decision window at the later edge
(spec/01_architecture.md R561: width, position and choice are not specified). The argument is State.freeCtr.
(DESIGN CHOICE, log 7) -/
opaque syncLater : Nat → Bool

/-- FREE (log 8): which of two accesses that meet in one arbitration round is served first (R22, R179, R181, R192).
(DESIGN CHOICE, log 8) -/
opaque arbSecondFirst : Nat → Bool

/-- FREE (log 8): whether two writes on the two ports of Shelf RAM that arrive at one instant meet in one arbitration round (R22,
R192). The argument is State.freeCtr. (DESIGN CHOICE, log 8) -/
opaque sameRound : Nat → Bool

/-- FREE (log 9): an observation value of R20 that the device itself measures (a rate, a depth, a pause).
(DESIGN CHOICE, log 9) -/
opaque observed : Nat → Nat

/-- FREE (log 10): where the start positions of a lane lie within its start interval (R236: fixed by TBU time and the lane's
transmit clock). The argument is the port; the value counts fifths of a sixteenth of a nanosecond.
(DESIGN CHOICE, log 10) -/
opaque lanePhase : Nat → Nat

/-- FREE (log 11): the packet-buffer area the device chooses for a frame it stores (R284, R438). The argument is
State.freeCtr. (DESIGN CHOICE, log 11) -/
opaque frameArea : Nat → Nat

/-- FREE (log 42): the octets a MAC sends where a cell of a frame in transmission is not there (R289 has it send every octet and
does not say what stands for those it never gets). The arguments are State.freeCtr and the octet's number.
(DESIGN CHOICE, log 42) -/
opaque lostOctet : Nat → Nat → BitVec 8

/-- FREE (log 12): the receive error counter after a good frame while error-passive (R402: ISO 11898-1 allows 119 to 127); the
filter number of a frame that no filter matched (R399, R400); the SEQ of the first frame stored (R400).
(DESIGN CHOICE, log 12) -/
opaque canPassiveRec : Nat → Nat
opaque canNoFilter : Nat → Nat
opaque canFirstSeq : Nat → Nat

/-- FREE (log 37): the two bits of a 43-bit code word that the i-th double-bit error of the checker self-test inverts; R205 asks for 64
of them and does not name them. (DESIGN CHOICE, log 37) -/
opaque doubleError : Nat → Nat × Nat

/-- FREE (log 13): SHA-384 of octets (spec/17_firmware_configuration.md R476); the spec names the standard and does not give
the function. (DESIGN CHOICE, log 13) -/
opaque sha384 : List Nat → Nat

/-- FREE (log 13): whether a P-384 signature (last argument) verifies a digest under a public key (R476, R478).
(DESIGN CHOICE, log 13) -/
opaque ecdsaP384 : List Nat → Nat → List Nat → Bool

/-- FREE (log 45): the key identifier and the authentication value that the security extension of a frame carries, and none where
there is no extension or no value in it (R323 locates them as IEC 62351-6 does and does not give its text). The arguments are
whether the frame came over UDP, and its octets. (DESIGN CHOICE, log 45) -/
opaque authExtension : Bool → List Nat → Option (Nat × Nat)

/-- FREE (log 45): the authentication value of a frame (R323 names HMAC-SHA-256 and AES-GMAC over the octets that IEC 62351-6 names,
and gives neither). The arguments are the ALG, the key's words, the TAGLEN, whether the frame came over UDP, and its octets.
(DESIGN CHOICE, log 45) -/
opaque authTag : Nat → List Nat → Nat → Bool → List Nat → Nat

/-- FREE (log 14): the RESULT of a WRITE for which the configuration bank has no room left; R489 bounds the bank and no rule
names the result. (DESIGN CHOICE, log 14) -/
opaque cfgBankFull : Nat → Nat

/-- FREE (log 15): whether a tamper source whose bit is latched still detects at the write that would clear it (R497). The
arguments are State.freeCtr and the source. (DESIGN CHOICE, log 15) -/
opaque stillDetecting : Nat → Nat → Bool

end Sys2Proof.Config
end

