-- ==== Sys2Proof/Machine/RegNames.lean ====
section
/-! DEFINITION. The name of every register of the spec (its BAR0 octet offset) and of every field of it.
A block that exists several times takes its instance first, a register array its index after it. -/
namespace Sys2Proof.Machine.Reg

/-! ### GCTL: spec/01_architecture.md/R33,R34 -/
/-- GCTL_ID, spec/00_scope.md/R2. -/
def GCTL_ID : Nat := 0
/-- GCTL_ID.VENDOR, bits 35 to 28, RO. -/
def GCTL_ID_VENDOR : Fld := ⟨GCTL_ID, 35, 28⟩
/-- GCTL_ID.PART, bits 27 to 12, RO. -/
def GCTL_ID_PART : Fld := ⟨GCTL_ID, 27, 12⟩
/-- GCTL_ID.STEP_MAJOR, bits 11 to 8, RO. -/
def GCTL_ID_STEP_MAJOR : Fld := ⟨GCTL_ID, 11, 8⟩
/-- GCTL_ID.STEP_MINOR, bits 7 to 4, RO. -/
def GCTL_ID_STEP_MINOR : Fld := ⟨GCTL_ID, 7, 4⟩
/-- GCTL_ID.GRADE, bits 3 to 0, RO. -/
def GCTL_ID_GRADE : Fld := ⟨GCTL_ID, 3, 0⟩
/-- GCTL_PROFILE, spec/01_architecture.md/R33,R34. -/
def GCTL_PROFILE : Nat := 8
/-- GCTL_PROFILE.PROFILE, bits 7 to 0, RW. -/
def GCTL_PROFILE_PROFILE : Fld := ⟨GCTL_PROFILE, 7, 0⟩
/-- GCTL_CTRL, spec/01_architecture.md/R33,R34. -/
def GCTL_CTRL : Nat := 0x10
/-- GCTL_CTRL.TELEM_MS, bits 9 to 0, RW. -/
def GCTL_CTRL_TELEM_MS : Fld := ⟨GCTL_CTRL, 9, 0⟩
/-- GCTL_STATUS, spec/01_architecture.md/R33,R34. -/
def GCTL_STATUS : Nat := 0x18
/-- GCTL_STATUS.CFG_DEFAULTED, bits 0 to 0, W1C. -/
def GCTL_STATUS_CFG_DEFAULTED : Fld := ⟨GCTL_STATUS, 0, 0⟩
/-- GCTL_STATUS.CFG_BLOCK, bits 10 to 1, RO. -/
def GCTL_STATUS_CFG_BLOCK : Fld := ⟨GCTL_STATUS, 10, 1⟩
/-- GCTL_STATUS.VMON, bits 11 to 11, W1C. -/
def GCTL_STATUS_VMON : Fld := ⟨GCTL_STATUS, 11, 11⟩
/-- GCTL_STATUS.SUPPLY, bits 13 to 12, RO. -/
def GCTL_STATUS_SUPPLY : Fld := ⟨GCTL_STATUS, 13, 12⟩
/-- GCTL_STATUS.TEMP, bits 14 to 14, W1C. -/
def GCTL_STATUS_TEMP : Fld := ⟨GCTL_STATUS, 14, 14⟩
/-- GCTL_STATUS.BOOT_HDR, bits 16 to 15, RO. -/
def GCTL_STATUS_BOOT_HDR : Fld := ⟨GCTL_STATUS, 16, 15⟩
/-- GCTL_REJECT, spec/01_architecture.md/R33,R34. -/
def GCTL_REJECT : Nat := 0x20
/-- GCTL_REJECT.WORD, bits 22 to 0, RC. -/
def GCTL_REJECT_WORD : Fld := ⟨GCTL_REJECT, 22, 0⟩
/-- GCTL_REJECT.AGENT, bits 28 to 23, RC. -/
def GCTL_REJECT_AGENT : Fld := ⟨GCTL_REJECT, 28, 23⟩
/-- GCTL_REJECT.VALID, bits 35 to 35, RC. -/
def GCTL_REJECT_VALID : Fld := ⟨GCTL_REJECT, 35, 35⟩
/-- GCTL_TELEM, spec/01_architecture.md/R33,R34. -/
def GCTL_TELEM : Nat := 0x28
/-- GCTL_TELEM.FAB_RATE, bits 11 to 0, RO. -/
def GCTL_TELEM_FAB_RATE : Fld := ⟨GCTL_TELEM, 11, 0⟩
/-- GCTL_TELEM.CORE_RATE, bits 23 to 12, RO. -/
def GCTL_TELEM_CORE_RATE : Fld := ⟨GCTL_TELEM, 23, 12⟩
/-- GCTL_SERIAL, spec/01_architecture.md/R33,R34. -/
def GCTL_SERIAL : Nat := 0x30
/-- GCTL_SERIAL.SERIAL, bits 27 to 0, RO. -/
def GCTL_SERIAL_SERIAL : Fld := ⟨GCTL_SERIAL, 27, 0⟩
/-- GCTL_LATE_UNIT, spec/01_architecture.md/R33,R34. -/
def GCTL_LATE_UNIT (i : Nat) : Nat := 0x400 + 8 * i
/-- GCTL_LATE_UNIT.COUNT, bits 35 to 0, RO. -/
def GCTL_LATE_UNIT_COUNT (i : Nat) : Fld := ⟨(GCTL_LATE_UNIT i), 35, 0⟩
/-- GCTL_LATE_AGENT, spec/01_architecture.md/R33,R34. -/
def GCTL_LATE_AGENT (i : Nat) : Nat := 0x800 + 8 * i
/-- GCTL_LATE_AGENT.COUNT, bits 35 to 0, RO. -/
def GCTL_LATE_AGENT_COUNT (i : Nat) : Fld := ⟨(GCTL_LATE_AGENT i), 35, 0⟩

/-! ### EVC: spec/15_host_interface.md/R447,R448 -/
/-- EVC_PROFILE, spec/15_host_interface.md/R447,R448. -/
def EVC_PROFILE : Nat := 0x10000
/-- EVC_PROFILE.PROFILE, bits 7 to 0, RW. -/
def EVC_PROFILE_PROFILE : Fld := ⟨EVC_PROFILE, 7, 0⟩
/-- EVC_CTRL, spec/15_host_interface.md/R447,R448. -/
def EVC_CTRL : Nat := 0x10008
/-- EVC_CTRL.STW_TASK, bits 9 to 0, RW. -/
def EVC_CTRL_STW_TASK : Fld := ⟨EVC_CTRL, 9, 0⟩
/-- EVC_CTRL.STW_FLAG, bits 14 to 10, RW. -/
def EVC_CTRL_STW_FLAG : Fld := ⟨EVC_CTRL, 14, 10⟩
/-- EVC_CTRL.STW_EN, bits 15 to 15, RW. -/
def EVC_CTRL_STW_EN : Fld := ⟨EVC_CTRL, 15, 15⟩
/-- EVC_SWSET, spec/15_host_interface.md/R447,R448. -/
def EVC_SWSET : Nat := 0x10010
/-- EVC_SWSET.SW, bits 4 to 0, WO. -/
def EVC_SWSET_SW : Fld := ⟨EVC_SWSET, 4, 0⟩
/-- EVC_VSUM, spec/15_host_interface.md/R447,R448. -/
def EVC_VSUM : Nat := 0x10018
/-- EVC_VSUM.VECTORS, bits 31 to 0, RO. -/
def EVC_VSUM_VECTORS : Fld := ⟨EVC_VSUM, 31, 0⟩
/-- EVC_STAT, spec/15_host_interface.md/R447,R448. -/
def EVC_STAT (i : Nat) : Nat := 0x10100 + 8 * i
/-- EVC_STAT.STAT, bits 31 to 0, W1C. -/
def EVC_STAT_STAT (i : Nat) : Fld := ⟨(EVC_STAT i), 31, 0⟩
/-- EVC_EN, spec/15_host_interface.md/R447,R448. -/
def EVC_EN (i : Nat) : Nat := 0x10140 + 8 * i
/-- EVC_EN.EN, bits 31 to 0, RW. -/
def EVC_EN_EN (i : Nat) : Fld := ⟨(EVC_EN i), 31, 0⟩
/-- EVC_RSTAT, spec/15_host_interface.md/R447,R448. -/
def EVC_RSTAT (i : Nat) : Nat := 0x10180 + 8 * i
/-- EVC_RSTAT.RSTAT, bits 31 to 0, W1C. -/
def EVC_RSTAT_RSTAT (i : Nat) : Fld := ⟨(EVC_RSTAT i), 31, 0⟩
/-- EVC_VHOLD, spec/15_host_interface.md/R447,R448. -/
def EVC_VHOLD (i : Nat) : Nat := 0x10200 + 8 * i
/-- EVC_VHOLD.HOLD, bits 7 to 0, RW. -/
def EVC_VHOLD_HOLD (i : Nat) : Fld := ⟨(EVC_VHOLD i), 7, 0⟩
/-- EVC_MAP, spec/15_host_interface.md/R447,R448. -/
def EVC_MAP (i : Nat) : Nat := 0x11000 + 8 * i
/-- EVC_MAP.VEC, bits 4 to 0, RW. -/
def EVC_MAP_VEC (i : Nat) : Fld := ⟨(EVC_MAP i), 4, 0⟩
/-- EVC_MAP.REMOTE, bits 5 to 5, RW. -/
def EVC_MAP_REMOTE (i : Nat) : Fld := ⟨(EVC_MAP i), 5, 5⟩
/-- EVC_MAP.STW, bits 6 to 6, RW. -/
def EVC_MAP_STW (i : Nat) : Fld := ⟨(EVC_MAP i), 6, 6⟩

/-! ### TBU: spec/02_time_base.md/R65,R66 -/
/-- TBU_PROFILE, spec/02_time_base.md/R65,R66. -/
def TBU_PROFILE : Nat := 0x20000
/-- TBU_PROFILE.PROFILE, bits 7 to 0, RW. -/
def TBU_PROFILE_PROFILE : Fld := ⟨TBU_PROFILE, 7, 0⟩
/-- TBU_CTRL, spec/02_time_base.md/R65,R66. -/
def TBU_CTRL : Nat := 0x20008
/-- TBU_CTRL.STEP_GO, bits 0 to 0, WO. -/
def TBU_CTRL_STEP_GO : Fld := ⟨TBU_CTRL, 0, 0⟩
/-- TBU_CTRL.SET_GO, bits 1 to 1, WO. -/
def TBU_CTRL_SET_GO : Fld := ⟨TBU_CTRL, 1, 1⟩
/-- TBU_STAT, spec/02_time_base.md/R65,R66. -/
def TBU_STAT : Nat := 0x20010
/-- TBU_STAT.PLL_LOCK, bits 0 to 0, RO. -/
def TBU_STAT_PLL_LOCK : Fld := ⟨TBU_STAT, 0, 0⟩
/-- TBU_STAT.TIME_SET, bits 1 to 1, RO. -/
def TBU_STAT_TIME_SET : Fld := ⟨TBU_STAT, 1, 1⟩
/-- TBU_STAT.HOLDOVER, bits 2 to 2, RO. -/
def TBU_STAT_HOLDOVER : Fld := ⟨TBU_STAT, 2, 2⟩
/-- TBU_STAT.CAL_VALID, bits 3 to 3, RO. -/
def TBU_STAT_CAL_VALID : Fld := ⟨TBU_STAT, 3, 3⟩
/-- TBU_STAT.STEP_PENDING, bits 4 to 4, RO. -/
def TBU_STAT_STEP_PENDING : Fld := ⟨TBU_STAT, 4, 4⟩
/-- TBU_STAT.PLL_HOLD, bits 5 to 5, RO. -/
def TBU_STAT_PLL_HOLD : Fld := ⟨TBU_STAT, 5, 5⟩
/-- TBU_STAT.STEPS, bits 15 to 8, RO. -/
def TBU_STAT_STEPS : Fld := ⟨TBU_STAT, 15, 8⟩
/-- TBU_OSC_CTRL, spec/02_time_base.md/R65,R66. -/
def TBU_OSC_CTRL : Nat := 0x20018
/-- TBU_OSC_CTRL.FREQ_A, bits 0 to 0, RW. -/
def TBU_OSC_CTRL_FREQ_A : Fld := ⟨TBU_OSC_CTRL, 0, 0⟩
/-- TBU_OSC_CTRL.FREQ_B, bits 1 to 1, RW. -/
def TBU_OSC_CTRL_FREQ_B : Fld := ⟨TBU_OSC_CTRL, 1, 1⟩
/-- TBU_OSC_CTRL.PREFER, bits 2 to 2, RW. -/
def TBU_OSC_CTRL_PREFER : Fld := ⟨TBU_OSC_CTRL, 2, 2⟩
/-- TBU_OSC_CTRL.REVERTIVE, bits 3 to 3, RW. -/
def TBU_OSC_CTRL_REVERTIVE : Fld := ⟨TBU_OSC_CTRL, 3, 3⟩
/-- TBU_OSC_CTRL.TOL, bits 11 to 4, RW. -/
def TBU_OSC_CTRL_TOL : Fld := ⟨TBU_OSC_CTRL, 11, 4⟩
/-- TBU_OSC_CTRL.QUAL, bits 19 to 12, RW. -/
def TBU_OSC_CTRL_QUAL : Fld := ⟨TBU_OSC_CTRL, 19, 12⟩
/-- TBU_OSC_STAT, spec/02_time_base.md/R65,R66. -/
def TBU_OSC_STAT : Nat := 0x20020
/-- TBU_OSC_STAT.A_OK, bits 0 to 0, RO. -/
def TBU_OSC_STAT_A_OK : Fld := ⟨TBU_OSC_STAT, 0, 0⟩
/-- TBU_OSC_STAT.B_OK, bits 1 to 1, RO. -/
def TBU_OSC_STAT_B_OK : Fld := ⟨TBU_OSC_STAT, 1, 1⟩
/-- TBU_OSC_STAT.ACTIVE, bits 2 to 2, RO. -/
def TBU_OSC_STAT_ACTIVE : Fld := ⟨TBU_OSC_STAT, 2, 2⟩
/-- TBU_OSC_STAT.HOLDOVER, bits 3 to 3, RO. -/
def TBU_OSC_STAT_HOLDOVER : Fld := ⟨TBU_OSC_STAT, 3, 3⟩
/-- TBU_OSC_STAT.SWITCHES, bits 15 to 8, RC. -/
def TBU_OSC_STAT_SWITCHES : Fld := ⟨TBU_OSC_STAT, 15, 8⟩
/-- TBU_RATE, spec/02_time_base.md/R65,R66. -/
def TBU_RATE : Nat := 0x20028
/-- TBU_RATE.RATE, bits 35 to 0, RW. -/
def TBU_RATE_RATE : Fld := ⟨TBU_RATE, 35, 0⟩
/-- TBU_STEP, spec/02_time_base.md/R65,R66. -/
def TBU_STEP : Nat := 0x20030
/-- TBU_STEP.STEP, bits 35 to 0, RW. -/
def TBU_STEP_STEP : Fld := ⟨TBU_STEP, 35, 0⟩
/-- TBU_SET_SECH, spec/02_time_base.md/R65,R66. -/
def TBU_SET_SECH : Nat := 0x20038
/-- TBU_SET_SECH.SEC, bits 15 to 0, RW. -/
def TBU_SET_SECH_SEC : Fld := ⟨TBU_SET_SECH, 15, 0⟩
/-- TBU_SET_SECL, spec/02_time_base.md/R65,R66. -/
def TBU_SET_SECL : Nat := 0x20040
/-- TBU_SET_SECL.SEC, bits 31 to 0, RW. -/
def TBU_SET_SECL_SEC : Fld := ⟨TBU_SET_SECL, 31, 0⟩
/-- TBU_SET_NS, spec/02_time_base.md/R65,R66. -/
def TBU_SET_NS : Nat := 0x20048
/-- TBU_SET_NS.NS, bits 33 to 4, RW. -/
def TBU_SET_NS_NS : Fld := ⟨TBU_SET_NS, 33, 4⟩
/-- TBU_SET_NS.SUB, bits 3 to 0, RW. -/
def TBU_SET_NS_SUB : Fld := ⟨TBU_SET_NS, 3, 0⟩
/-- TBU_SNAP_SECH, spec/02_time_base.md/R65,R66. -/
def TBU_SNAP_SECH : Nat := 0x20050
/-- TBU_SNAP_SECH.SEC, bits 15 to 0, RO. -/
def TBU_SNAP_SECH_SEC : Fld := ⟨TBU_SNAP_SECH, 15, 0⟩
/-- TBU_SNAP_SECL, spec/02_time_base.md/R65,R66. -/
def TBU_SNAP_SECL : Nat := 0x20058
/-- TBU_SNAP_SECL.SEC, bits 31 to 0, RO. -/
def TBU_SNAP_SECL_SEC : Fld := ⟨TBU_SNAP_SECL, 31, 0⟩
/-- TBU_SNAP_NS, spec/02_time_base.md/R65,R66. -/
def TBU_SNAP_NS : Nat := 0x20060
/-- TBU_SNAP_NS.NS, bits 33 to 4, RO. -/
def TBU_SNAP_NS_NS : Fld := ⟨TBU_SNAP_NS, 33, 4⟩
/-- TBU_SNAP_NS.SUB, bits 3 to 0, RO. -/
def TBU_SNAP_NS_SUB : Fld := ⟨TBU_SNAP_NS, 3, 0⟩
/-- TBU_NOW_TSW, spec/02_time_base.md/R65,R66. -/
def TBU_NOW_TSW : Nat := 0x20068
/-- TBU_NOW_TSW.TSW, bits 35 to 0, RO. -/
def TBU_NOW_TSW_TSW : Fld := ⟨TBU_NOW_TSW, 35, 0⟩
/-- TBU_MARK_SECH, spec/02_time_base.md/R65,R66. -/
def TBU_MARK_SECH : Nat := 0x20070
/-- TBU_MARK_SECH.SEC, bits 15 to 0, RO. -/
def TBU_MARK_SECH_SEC : Fld := ⟨TBU_MARK_SECH, 15, 0⟩
/-- TBU_MARK_SECL, spec/02_time_base.md/R65,R66. -/
def TBU_MARK_SECL : Nat := 0x20078
/-- TBU_MARK_SECL.SEC, bits 31 to 0, RO. -/
def TBU_MARK_SECL_SEC : Fld := ⟨TBU_MARK_SECL, 31, 0⟩
/-- TBU_CAL_CTRL, spec/02_time_base.md/R65,R66. -/
def TBU_CAL_CTRL : Nat := 0x20080
/-- TBU_CAL_CTRL.GO, bits 0 to 0, WO. -/
def TBU_CAL_CTRL_GO : Fld := ⟨TBU_CAL_CTRL, 0, 0⟩
/-- TBU_CAL_CTRL.AUTO, bits 1 to 1, RW. -/
def TBU_CAL_CTRL_AUTO : Fld := ⟨TBU_CAL_CTRL, 1, 1⟩
/-- TBU_CAL_CTRL.INTERVAL, bits 9 to 2, RW. -/
def TBU_CAL_CTRL_INTERVAL : Fld := ⟨TBU_CAL_CTRL, 9, 2⟩
/-- TBU_CAL_CTRL.TEMP_STEP, bits 15 to 10, RW. -/
def TBU_CAL_CTRL_TEMP_STEP : Fld := ⟨TBU_CAL_CTRL, 15, 10⟩
/-- TBU_CAL_STAT, spec/02_time_base.md/R65,R66. -/
def TBU_CAL_STAT : Nat := 0x20088
/-- TBU_CAL_STAT.BUSY, bits 0 to 0, RO. -/
def TBU_CAL_STAT_BUSY : Fld := ⟨TBU_CAL_STAT, 0, 0⟩
/-- TBU_CAL_STAT.FAILED, bits 1 to 1, W1C. -/
def TBU_CAL_STAT_FAILED : Fld := ⟨TBU_CAL_STAT, 1, 1⟩
/-- TBU_CAL_STAT.WORST, bits 15 to 8, RO. -/
def TBU_CAL_STAT_WORST : Fld := ⟨TBU_CAL_STAT, 15, 8⟩
/-- TBU_PPSI_CTRL, spec/02_time_base.md/R65,R66. -/
def TBU_PPSI_CTRL (i : Nat) : Nat := 0x20100 + 0x20 * i
/-- TBU_PPSI_CTRL.EN, bits 0 to 0, RW. -/
def TBU_PPSI_CTRL_EN (i : Nat) : Fld := ⟨(TBU_PPSI_CTRL i), 0, 0⟩
/-- TBU_PPSI_CTRL.EDGE, bits 1 to 1, RW. -/
def TBU_PPSI_CTRL_EDGE (i : Nat) : Fld := ⟨(TBU_PPSI_CTRL i), 1, 1⟩
/-- TBU_PPSI_CTRL.DLY, bits 17 to 2, RW. -/
def TBU_PPSI_CTRL_DLY (i : Nat) : Fld := ⟨(TBU_PPSI_CTRL i), 17, 2⟩
/-- TBU_PPSI_STAT, spec/02_time_base.md/R65,R66. -/
def TBU_PPSI_STAT (i : Nat) : Nat := 0x20108 + 0x20 * i
/-- TBU_PPSI_STAT.OFFSET, bits 33 to 0, RO. -/
def TBU_PPSI_STAT_OFFSET (i : Nat) : Fld := ⟨(TBU_PPSI_STAT i), 33, 0⟩
/-- TBU_PPSI_STAT.VALID, bits 34 to 34, RO. -/
def TBU_PPSI_STAT_VALID (i : Nat) : Fld := ⟨(TBU_PPSI_STAT i), 34, 34⟩
/-- TBU_PPSI_STAT.MISSED, bits 35 to 35, W1C. -/
def TBU_PPSI_STAT_MISSED (i : Nat) : Fld := ⟨(TBU_PPSI_STAT i), 35, 35⟩
/-- TBU_PPSO_CTRL, spec/02_time_base.md/R65,R66. -/
def TBU_PPSO_CTRL (i : Nat) : Nat := 0x20140 + 0x20 * i
/-- TBU_PPSO_CTRL.EN, bits 0 to 0, RW. -/
def TBU_PPSO_CTRL_EN (i : Nat) : Fld := ⟨(TBU_PPSO_CTRL i), 0, 0⟩
/-- TBU_PPSO_CTRL.POL, bits 1 to 1, RW. -/
def TBU_PPSO_CTRL_POL (i : Nat) : Fld := ⟨(TBU_PPSO_CTRL i), 1, 1⟩
/-- TBU_PPSO_CTRL.WIDTH, bits 20 to 2, RW. -/
def TBU_PPSO_CTRL_WIDTH (i : Nat) : Fld := ⟨(TBU_PPSO_CTRL i), 20, 2⟩
/-- TBU_PPSO_CTRL.FREE, bits 21 to 21, RW. -/
def TBU_PPSO_CTRL_FREE (i : Nat) : Fld := ⟨(TBU_PPSO_CTRL i), 21, 21⟩
/-- TBU_PPSO_DLY, spec/02_time_base.md/R65,R66. -/
def TBU_PPSO_DLY (i : Nat) : Nat := 0x20148 + 0x20 * i
/-- TBU_PPSO_DLY.DLY, bits 15 to 0, RW. -/
def TBU_PPSO_DLY_DLY (i : Nat) : Fld := ⟨(TBU_PPSO_DLY i), 15, 0⟩
/-- TBU_CAP_CTRL, spec/02_time_base.md/R65,R66. -/
def TBU_CAP_CTRL (i : Nat) : Nat := 0x20200 + 0x40 * i
/-- TBU_CAP_CTRL.EN, bits 0 to 0, RW. -/
def TBU_CAP_CTRL_EN (i : Nat) : Fld := ⟨(TBU_CAP_CTRL i), 0, 0⟩
/-- TBU_CAP_CTRL.EDGE, bits 2 to 1, RW. -/
def TBU_CAP_CTRL_EDGE (i : Nat) : Fld := ⟨(TBU_CAP_CTRL i), 2, 1⟩
/-- TBU_CAP_CTRL.FILTER, bits 3 to 3, RW. -/
def TBU_CAP_CTRL_FILTER (i : Nat) : Fld := ⟨(TBU_CAP_CTRL i), 3, 3⟩
/-- TBU_CAP_CTRL.TALUS_TASK, bits 13 to 4, RW. -/
def TBU_CAP_CTRL_TALUS_TASK (i : Nat) : Fld := ⟨(TBU_CAP_CTRL i), 13, 4⟩
/-- TBU_CAP_CTRL.TALUS_FLAG, bits 18 to 14, RW. -/
def TBU_CAP_CTRL_TALUS_FLAG (i : Nat) : Fld := ⟨(TBU_CAP_CTRL i), 18, 14⟩
/-- TBU_CAP_CTRL.TALUS_EN, bits 19 to 19, RW. -/
def TBU_CAP_CTRL_TALUS_EN (i : Nat) : Fld := ⟨(TBU_CAP_CTRL i), 19, 19⟩
/-- TBU_CAP_DLY, spec/02_time_base.md/R65,R66. -/
def TBU_CAP_DLY (i : Nat) : Nat := 0x20208 + 0x40 * i
/-- TBU_CAP_DLY.DLY, bits 15 to 0, RW. -/
def TBU_CAP_DLY_DLY (i : Nat) : Fld := ⟨(TBU_CAP_DLY i), 15, 0⟩
/-- TBU_CAP_HEAD, spec/02_time_base.md/R65,R66. -/
def TBU_CAP_HEAD (i : Nat) : Nat := 0x20210 + 0x40 * i
/-- TBU_CAP_HEAD.COUNT, bits 4 to 0, RO. -/
def TBU_CAP_HEAD_COUNT (i : Nat) : Fld := ⟨(TBU_CAP_HEAD i), 4, 0⟩
/-- TBU_CAP_HEAD.EDGE, bits 5 to 5, RO. -/
def TBU_CAP_HEAD_EDGE (i : Nat) : Fld := ⟨(TBU_CAP_HEAD i), 5, 5⟩
/-- TBU_CAP_POP, spec/02_time_base.md/R65,R66. -/
def TBU_CAP_POP (i : Nat) : Nat := 0x20218 + 0x40 * i
/-- TBU_CAP_POP.TSW, bits 35 to 0, RO. -/
def TBU_CAP_POP_TSW (i : Nat) : Fld := ⟨(TBU_CAP_POP i), 35, 0⟩
/-- TBU_CAP_LOST, spec/02_time_base.md/R65,R66. -/
def TBU_CAP_LOST (i : Nat) : Nat := 0x20220 + 0x40 * i
/-- TBU_CAP_LOST.LOST, bits 19 to 0, RC. -/
def TBU_CAP_LOST_LOST (i : Nat) : Fld := ⟨(TBU_CAP_LOST i), 19, 0⟩
/-- TBU_TRG_CTRL, spec/02_time_base.md/R65,R66. -/
def TBU_TRG_CTRL (i : Nat) : Nat := 0x20400 + 0x40 * i
/-- TBU_TRG_CTRL.EN, bits 0 to 0, RW. -/
def TBU_TRG_CTRL_EN (i : Nat) : Fld := ⟨(TBU_TRG_CTRL i), 0, 0⟩
/-- TBU_TRG_CTRL.MODE, bits 2 to 1, RW. -/
def TBU_TRG_CTRL_MODE (i : Nat) : Fld := ⟨(TBU_TRG_CTRL i), 2, 1⟩
/-- TBU_TRG_CTRL.POL, bits 3 to 3, RW. -/
def TBU_TRG_CTRL_POL (i : Nat) : Fld := ⟨(TBU_TRG_CTRL i), 3, 3⟩
/-- TBU_TRG_CTRL.IO, bits 4 to 4, RW. -/
def TBU_TRG_CTRL_IO (i : Nat) : Fld := ⟨(TBU_TRG_CTRL i), 4, 4⟩
/-- TBU_TRG_CTRL.TALUS_TASK, bits 14 to 5, RW. -/
def TBU_TRG_CTRL_TALUS_TASK (i : Nat) : Fld := ⟨(TBU_TRG_CTRL i), 14, 5⟩
/-- TBU_TRG_CTRL.TALUS_FLAG, bits 19 to 15, RW. -/
def TBU_TRG_CTRL_TALUS_FLAG (i : Nat) : Fld := ⟨(TBU_TRG_CTRL i), 19, 15⟩
/-- TBU_TRG_CTRL.TALUS_EN, bits 20 to 20, RW. -/
def TBU_TRG_CTRL_TALUS_EN (i : Nat) : Fld := ⟨(TBU_TRG_CTRL i), 20, 20⟩
/-- TBU_TRG_CTRL.TOR_CH, bits 26 to 21, RW. -/
def TBU_TRG_CTRL_TOR_CH (i : Nat) : Fld := ⟨(TBU_TRG_CTRL i), 26, 21⟩
/-- TBU_TRG_CTRL.TOR_EN, bits 27 to 27, RW. -/
def TBU_TRG_CTRL_TOR_EN (i : Nat) : Fld := ⟨(TBU_TRG_CTRL i), 27, 27⟩
/-- TBU_TRG_CTRL.DIV, bits 35 to 28, RW. -/
def TBU_TRG_CTRL_DIV (i : Nat) : Fld := ⟨(TBU_TRG_CTRL i), 35, 28⟩
/-- TBU_TRG_AT, spec/02_time_base.md/R65,R66. -/
def TBU_TRG_AT (i : Nat) : Nat := 0x20408 + 0x40 * i
/-- TBU_TRG_AT.AT, bits 35 to 0, WO. -/
def TBU_TRG_AT_AT (i : Nat) : Fld := ⟨(TBU_TRG_AT i), 35, 0⟩
/-- TBU_TRG_WIDTH, spec/02_time_base.md/R65,R66. -/
def TBU_TRG_WIDTH (i : Nat) : Nat := 0x20410 + 0x40 * i
/-- TBU_TRG_WIDTH.WIDTH, bits 27 to 0, RW. -/
def TBU_TRG_WIDTH_WIDTH (i : Nat) : Fld := ⟨(TBU_TRG_WIDTH i), 27, 0⟩
/-- TBU_TRG_PERI, spec/02_time_base.md/R65,R66. -/
def TBU_TRG_PERI (i : Nat) : Nat := 0x20418 + 0x40 * i
/-- TBU_TRG_PERI.PERI, bits 35 to 0, RW. -/
def TBU_TRG_PERI_PERI (i : Nat) : Fld := ⟨(TBU_TRG_PERI i), 35, 0⟩
/-- TBU_TRG_PERF, spec/02_time_base.md/R65,R66. -/
def TBU_TRG_PERF (i : Nat) : Nat := 0x20420 + 0x40 * i
/-- TBU_TRG_PERF.PERF, bits 31 to 0, RW. -/
def TBU_TRG_PERF_PERF (i : Nat) : Fld := ⟨(TBU_TRG_PERF i), 31, 0⟩
/-- TBU_TRG_DLY, spec/02_time_base.md/R65,R66. -/
def TBU_TRG_DLY (i : Nat) : Nat := 0x20428 + 0x40 * i
/-- TBU_TRG_DLY.DLY, bits 15 to 0, RW. -/
def TBU_TRG_DLY_DLY (i : Nat) : Fld := ⟨(TBU_TRG_DLY i), 15, 0⟩
/-- TBU_TRG_CNT, spec/02_time_base.md/R65,R66. -/
def TBU_TRG_CNT (i : Nat) : Nat := 0x20430 + 0x40 * i
/-- TBU_TRG_CNT.CNT, bits 35 to 0, RO. -/
def TBU_TRG_CNT_CNT (i : Nat) : Fld := ⟨(TBU_TRG_CNT i), 35, 0⟩

/-! ### STRATA: spec/18_faults_availability.md/R524,R525 -/
/-- STRATA_PROFILE, spec/18_faults_availability.md/R524,R525. -/
def STRATA_PROFILE : Nat := 0x30000
/-- STRATA_PROFILE.PROFILE, bits 7 to 0, RW. -/
def STRATA_PROFILE_PROFILE : Fld := ⟨STRATA_PROFILE, 7, 0⟩
/-- STRATA_CTRL, spec/18_faults_availability.md/R524,R525. -/
def STRATA_CTRL : Nat := 0x30008
/-- STRATA_CTRL.REARM, bits 0 to 0, WO. -/
def STRATA_CTRL_REARM : Fld := ⟨STRATA_CTRL, 0, 0⟩
/-- STRATA_CTRL.SOLO_PAIRED, bits 1 to 1, RW. -/
def STRATA_CTRL_SOLO_PAIRED : Fld := ⟨STRATA_CTRL, 1, 1⟩
/-- STRATA_STAT, spec/18_faults_availability.md/R524,R525. -/
def STRATA_STAT : Nat := 0x30010
/-- STRATA_STAT.PENDING, bits 4 to 0, RO. -/
def STRATA_STAT_PENDING : Fld := ⟨STRATA_STAT, 4, 0⟩
/-- STRATA_STAT.FIRST_VALID, bits 5 to 5, RO. -/
def STRATA_STAT_FIRST_VALID : Fld := ⟨STRATA_STAT, 5, 5⟩
/-- STRATA_STAT.FULL, bits 6 to 6, RO. -/
def STRATA_STAT_FULL : Fld := ⟨STRATA_STAT, 6, 6⟩
/-- STRATA_HEAD, spec/18_faults_availability.md/R524,R525. -/
def STRATA_HEAD : Nat := 0x30018
/-- STRATA_HEAD.HEAD, bits 15 to 0, RO. -/
def STRATA_HEAD_HEAD : Fld := ⟨STRATA_HEAD, 15, 0⟩
/-- STRATA_TAIL, spec/18_faults_availability.md/R524,R525. -/
def STRATA_TAIL : Nat := 0x30020
/-- STRATA_TAIL.TAIL, bits 15 to 0, RW. -/
def STRATA_TAIL_TAIL : Fld := ⟨STRATA_TAIL, 15, 0⟩
/-- STRATA_WSTAT, spec/18_faults_availability.md/R524,R525. -/
def STRATA_WSTAT : Nat := 0x30028
/-- STRATA_WSTAT.SOURCE, bits 7 to 0, RC. -/
def STRATA_WSTAT_SOURCE : Fld := ⟨STRATA_WSTAT, 7, 0⟩
/-- STRATA_WSTAT.KIND, bits 10 to 8, RC. -/
def STRATA_WSTAT_KIND : Fld := ⟨STRATA_WSTAT, 10, 8⟩
/-- STRATA_WSTAT.INSTANCE, bits 18 to 11, RC. -/
def STRATA_WSTAT_INSTANCE : Fld := ⟨STRATA_WSTAT, 18, 11⟩
/-- STRATA_WSTAT.VALID, bits 35 to 35, RC. -/
def STRATA_WSTAT_VALID : Fld := ⟨STRATA_WSTAT, 35, 35⟩
/-- STRATA_LOST, spec/18_faults_availability.md/R524,R525. -/
def STRATA_LOST (i : Nat) : Nat := 0x30040 + 8 * i
/-- STRATA_LOST.LOST, bits 19 to 0, RC. -/
def STRATA_LOST_LOST (i : Nat) : Fld := ⟨(STRATA_LOST i), 19, 0⟩
/-- STRATA_FIRST, spec/18_faults_availability.md/R524,R525. -/
def STRATA_FIRST (i : Nat) : Nat := 0x30060 + 8 * i
/-- STRATA_FIRST.WORD, bits 35 to 0, RO. -/
def STRATA_FIRST_WORD (i : Nat) : Fld := ⟨(STRATA_FIRST i), 35, 0⟩
/-- STRATA_WCFG, spec/18_faults_availability.md/R524,R525. -/
def STRATA_WCFG (i : Nat) : Nat := 0x30080 + 8 * i
/-- STRATA_WCFG.N, bits 3 to 0, RW. -/
def STRATA_WCFG_N (i : Nat) : Fld := ⟨(STRATA_WCFG i), 3, 0⟩
/-- STRATA_WCFG.W, bits 13 to 4, RW. -/
def STRATA_WCFG_W (i : Nat) : Fld := ⟨(STRATA_WCFG i), 13, 4⟩
/-- STRATA_WCFG.UNIT, bits 15 to 14, RW. -/
def STRATA_WCFG_UNIT (i : Nat) : Fld := ⟨(STRATA_WCFG i), 15, 14⟩
/-- STRATA_WCFG.ACTION, bits 18 to 16, RW. -/
def STRATA_WCFG_ACTION (i : Nat) : Fld := ⟨(STRATA_WCFG i), 18, 16⟩
/-- STRATA_LAST, spec/18_faults_availability.md/R524,R525. -/
def STRATA_LAST (i : Nat) : Nat := 0x30800 + 8 * i
/-- STRATA_LAST.TYPE, bits 35 to 27, RC. -/
def STRATA_LAST_TYPE (i : Nat) : Fld := ⟨(STRATA_LAST i), 35, 27⟩
/-- STRATA_LAST.DETAIL, bits 26 to 11, RC. -/
def STRATA_LAST_DETAIL (i : Nat) : Fld := ⟨(STRATA_LAST i), 26, 11⟩
/-- STRATA_LAST.REPORTS, bits 10 to 0, RC. -/
def STRATA_LAST_REPORTS (i : Nat) : Fld := ⟨(STRATA_LAST i), 10, 0⟩
/-- STRATA_REC, spec/18_faults_availability.md/R524,R525. -/
def STRATA_REC (i j : Nat) : Nat := 0x31000 + 0x20 * i + 8 * j
/-- STRATA_REC.WORD, bits 35 to 0, RO. -/
def STRATA_REC_WORD (i j : Nat) : Fld := ⟨(STRATA_REC i j), 35, 0⟩

/-! ### TALUS: spec/05_talus_scheduler.md/R162,R163 -/
/-- TALUS_PROFILE, spec/05_talus_scheduler.md/R162,R163. -/
def TALUS_PROFILE : Nat := 0x40000
/-- TALUS_PROFILE.PROFILE, bits 7 to 0, RW. -/
def TALUS_PROFILE_PROFILE : Fld := ⟨TALUS_PROFILE, 7, 0⟩
/-- TALUS_CTRL, spec/05_talus_scheduler.md/R162,R163. -/
def TALUS_CTRL : Nat := 0x40008
/-- TALUS_CTRL.ACTIVE_SE, bits 0 to 0, RW. -/
def TALUS_CTRL_ACTIVE_SE : Fld := ⟨TALUS_CTRL, 0, 0⟩
/-- TALUS_CTRL.HOLD, bits 1 to 1, RW. -/
def TALUS_CTRL_HOLD : Fld := ⟨TALUS_CTRL, 1, 1⟩
/-- TALUS_STAT, spec/05_talus_scheduler.md/R162,R163. -/
def TALUS_STAT : Nat := 0x40010
/-- TALUS_STAT.READY, bits 10 to 0, RO. -/
def TALUS_STAT_READY : Fld := ⟨TALUS_STAT, 10, 0⟩
/-- TALUS_STAT.DOM_STALLED, bits 11 to 11, RO. -/
def TALUS_STAT_DOM_STALLED : Fld := ⟨TALUS_STAT, 11, 11⟩
/-- TALUS_STAT.Q_STALLED, bits 12 to 12, RO. -/
def TALUS_STAT_Q_STALLED : Fld := ⟨TALUS_STAT, 12, 12⟩
/-- TALUS_LIMITS, spec/05_talus_scheduler.md/R162,R163. -/
def TALUS_LIMITS : Nat := 0x40018
/-- TALUS_LIMITS.PAIR_HOLD, bits 7 to 0, RW. -/
def TALUS_LIMITS_PAIR_HOLD : Fld := ⟨TALUS_LIMITS, 7, 0⟩
/-- TALUS_LIMITS.DOM_WARN, bits 17 to 8, RW. -/
def TALUS_LIMITS_DOM_WARN : Fld := ⟨TALUS_LIMITS, 17, 8⟩
/-- TALUS_LIMITS.PUSH_WARN, bits 27 to 18, RW. -/
def TALUS_LIMITS_PUSH_WARN : Fld := ⟨TALUS_LIMITS, 27, 18⟩
/-- TALUS_SIGNAL, spec/05_talus_scheduler.md/R162,R163. -/
def TALUS_SIGNAL : Nat := 0x40020
/-- TALUS_SIGNAL.TASK, bits 9 to 0, WO. -/
def TALUS_SIGNAL_TASK : Fld := ⟨TALUS_SIGNAL, 9, 0⟩
/-- TALUS_SIGNAL.FLAG, bits 14 to 10, WO. -/
def TALUS_SIGNAL_FLAG : Fld := ⟨TALUS_SIGNAL, 14, 10⟩
/-- TALUS_SIGNAL.SET, bits 15 to 15, WO. -/
def TALUS_SIGNAL_SET : Fld := ⟨TALUS_SIGNAL, 15, 15⟩
/-- TALUS_DREL, spec/05_talus_scheduler.md/R162,R163. -/
def TALUS_DREL : Nat := 0x40028
/-- TALUS_DREL.ANY, bits 35 to 0, WO. -/
def TALUS_DREL_ANY : Fld := ⟨TALUS_DREL, 35, 0⟩
/-- TALUS_HIST_SEL, spec/05_talus_scheduler.md/R162,R163. -/
def TALUS_HIST_SEL : Nat := 0x40030
/-- TALUS_HIST_SEL.QUEUE, bits 7 to 0, RW. -/
def TALUS_HIST_SEL_QUEUE : Fld := ⟨TALUS_HIST_SEL, 7, 0⟩
/-- TALUS_HIST, spec/05_talus_scheduler.md/R162,R163. -/
def TALUS_HIST (i : Nat) : Nat := 0x40038 + 8 * i
/-- TALUS_HIST.COUNT, bits 31 to 0, RC. -/
def TALUS_HIST_COUNT (i : Nat) : Fld := ⟨(TALUS_HIST i), 31, 0⟩
/-- TALUS_BUSY, spec/05_talus_scheduler.md/R162,R163. -/
def TALUS_BUSY (i : Nat) : Nat := 0x40400 + 8 * i
/-- TALUS_BUSY.LAST, bits 10 to 0, RO. -/
def TALUS_BUSY_LAST (i : Nat) : Fld := ⟨(TALUS_BUSY i), 10, 0⟩
/-- TALUS_BUSY.PEAK, bits 21 to 11, RC. -/
def TALUS_BUSY_PEAK (i : Nat) : Fld := ⟨(TALUS_BUSY i), 21, 11⟩
/-- TALUS_DOM, spec/05_talus_scheduler.md/R162,R163. -/
def TALUS_DOM (i : Nat) : Nat := 0x41000 + 8 * i
/-- TALUS_DOM.HEAD, bits 15 to 0, RO. -/
def TALUS_DOM_HEAD (i : Nat) : Fld := ⟨(TALUS_DOM i), 15, 0⟩
/-- TALUS_DOM.NEXT, bits 31 to 16, RO. -/
def TALUS_DOM_NEXT (i : Nat) : Fld := ⟨(TALUS_DOM i), 31, 16⟩
/-- TALUS_QCFG, spec/05_talus_scheduler.md/R162,R163. -/
def TALUS_QCFG (i : Nat) : Nat := 0x42000 + 0x20 * i
/-- TALUS_QCFG.BASE, bits 13 to 0, RW. -/
def TALUS_QCFG_BASE (i : Nat) : Fld := ⟨(TALUS_QCFG i), 13, 0⟩
/-- TALUS_QCFG.SIZE, bits 17 to 14, RW. -/
def TALUS_QCFG_SIZE (i : Nat) : Fld := ⟨(TALUS_QCFG i), 17, 14⟩
/-- TALUS_QCFG.EN, bits 18 to 18, RW. -/
def TALUS_QCFG_EN (i : Nat) : Fld := ⟨(TALUS_QCFG i), 18, 18⟩
/-- TALUS_QCFG.HIGH, bits 31 to 19, RW. -/
def TALUS_QCFG_HIGH (i : Nat) : Fld := ⟨(TALUS_QCFG i), 31, 19⟩
/-- TALUS_QDATA, spec/05_talus_scheduler.md/R162,R163. -/
def TALUS_QDATA (i : Nat) : Nat := 0x42008 + 0x20 * i
/-- TALUS_QDATA.ENTRY, bits 31 to 0, RW. -/
def TALUS_QDATA_ENTRY (i : Nat) : Fld := ⟨(TALUS_QDATA i), 31, 0⟩
/-- TALUS_QDATA.ECC, bits 34 to 34, RO. -/
def TALUS_QDATA_ECC (i : Nat) : Fld := ⟨(TALUS_QDATA i), 34, 34⟩
/-- TALUS_QDATA.VALID, bits 35 to 35, RO. -/
def TALUS_QDATA_VALID (i : Nat) : Fld := ⟨(TALUS_QDATA i), 35, 35⟩
/-- TALUS_QORD, spec/05_talus_scheduler.md/R162,R163. -/
def TALUS_QORD (i : Nat) : Nat := 0x42010 + 0x20 * i
/-- TALUS_QORD.ENTRY, bits 31 to 0, WO. -/
def TALUS_QORD_ENTRY (i : Nat) : Fld := ⟨(TALUS_QORD i), 31, 0⟩
/-- TALUS_QSTAT, spec/05_talus_scheduler.md/R162,R163. -/
def TALUS_QSTAT (i : Nat) : Nat := 0x42018 + 0x20 * i
/-- TALUS_QSTAT.COUNT, bits 12 to 0, RO. -/
def TALUS_QSTAT_COUNT (i : Nat) : Fld := ⟨(TALUS_QSTAT i), 12, 0⟩
/-- TALUS_QSTAT.MAX, bits 25 to 13, RC. -/
def TALUS_QSTAT_MAX (i : Nat) : Fld := ⟨(TALUS_QSTAT i), 25, 13⟩
/-- TALUS_QSTAT.STALLED, bits 26 to 26, RO. -/
def TALUS_QSTAT_STALLED (i : Nat) : Fld := ⟨(TALUS_QSTAT i), 26, 26⟩
/-- TALUS_TCFG, spec/05_talus_scheduler.md/R162,R163. -/
def TALUS_TCFG (i : Nat) : Nat := 0x44000 + 0x30 * i
/-- TALUS_TCFG.ENTRY, bits 15 to 0, RW. -/
def TALUS_TCFG_ENTRY (i : Nat) : Fld := ⟨(TALUS_TCFG i), 15, 0⟩
/-- TALUS_TCFG.CLUSTER, bits 19 to 16, RW. -/
def TALUS_TCFG_CLUSTER (i : Nat) : Fld := ⟨(TALUS_TCFG i), 19, 16⟩
/-- TALUS_TCFG.PRIO, bits 22 to 20, RW. -/
def TALUS_TCFG_PRIO (i : Nat) : Fld := ⟨(TALUS_TCFG i), 22, 20⟩
/-- TALUS_TCFG.PAIRED, bits 23 to 23, RW. -/
def TALUS_TCFG_PAIRED (i : Nat) : Fld := ⟨(TALUS_TCFG i), 23, 23⟩
/-- TALUS_TCFG.BIND, bits 26 to 24, RW. -/
def TALUS_TCFG_BIND (i : Nat) : Fld := ⟨(TALUS_TCFG i), 26, 24⟩
/-- TALUS_TCFG.ALL, bits 27 to 27, RW. -/
def TALUS_TCFG_ALL (i : Nat) : Fld := ⟨(TALUS_TCFG i), 27, 27⟩
/-- TALUS_TCFG.EN, bits 28 to 28, RW. -/
def TALUS_TCFG_EN (i : Nat) : Fld := ⟨(TALUS_TCFG i), 28, 28⟩
/-- TALUS_TCFG.INST, bits 30 to 29, RW. -/
def TALUS_TCFG_INST (i : Nat) : Fld := ⟨(TALUS_TCFG i), 30, 29⟩
/-- TALUS_TLINK, spec/05_talus_scheduler.md/R162,R163. -/
def TALUS_TLINK (i : Nat) : Nat := 0x44008 + 0x30 * i
/-- TALUS_TLINK.QUEUE, bits 7 to 0, RW. -/
def TALUS_TLINK_QUEUE (i : Nat) : Fld := ⟨(TALUS_TLINK i), 7, 0⟩
/-- TALUS_TLINK.QFED, bits 8 to 8, RW. -/
def TALUS_TLINK_QFED (i : Nat) : Fld := ⟨(TALUS_TLINK i), 8, 8⟩
/-- TALUS_TLINK.QFLAG, bits 13 to 9, RW. -/
def TALUS_TLINK_QFLAG (i : Nat) : Fld := ⟨(TALUS_TLINK i), 13, 9⟩
/-- TALUS_TLINK.DOMAIN, bits 22 to 14, RW. -/
def TALUS_TLINK_DOMAIN (i : Nat) : Fld := ⟨(TALUS_TLINK i), 22, 14⟩
/-- TALUS_TLINK.DOM_EN, bits 23 to 23, RW. -/
def TALUS_TLINK_DOM_EN (i : Nat) : Fld := ⟨(TALUS_TLINK i), 23, 23⟩
/-- TALUS_TMASK, spec/05_talus_scheduler.md/R162,R163. -/
def TALUS_TMASK (i : Nat) : Nat := 0x44010 + 0x30 * i
/-- TALUS_TMASK.MASK, bits 31 to 0, RW. -/
def TALUS_TMASK_MASK (i : Nat) : Fld := ⟨(TALUS_TMASK i), 31, 0⟩
/-- TALUS_TEVT, spec/05_talus_scheduler.md/R162,R163. -/
def TALUS_TEVT (i : Nat) : Nat := 0x44018 + 0x30 * i
/-- TALUS_TEVT.EVENTS, bits 31 to 0, RO. -/
def TALUS_TEVT_EVENTS (i : Nat) : Fld := ⟨(TALUS_TEVT i), 31, 0⟩
/-- TALUS_TARG, spec/05_talus_scheduler.md/R162,R163. -/
def TALUS_TARG (i : Nat) : Nat := 0x44020 + 0x30 * i
/-- TALUS_TARG.ARG, bits 35 to 0, RW. -/
def TALUS_TARG_ARG (i : Nat) : Fld := ⟨(TALUS_TARG i), 35, 0⟩
/-- TALUS_TSTAT, spec/05_talus_scheduler.md/R162,R163. -/
def TALUS_TSTAT (i : Nat) : Nat := 0x44028 + 0x30 * i
/-- TALUS_TSTAT.RUNNING, bits 2 to 0, RO. -/
def TALUS_TSTAT_RUNNING (i : Nat) : Fld := ⟨(TALUS_TSTAT i), 2, 0⟩
/-- TALUS_TSTAT.READY, bits 3 to 3, RO. -/
def TALUS_TSTAT_READY (i : Nat) : Fld := ⟨(TALUS_TSTAT i), 3, 3⟩
/-- TALUS_TSTAT.STRANDED, bits 4 to 4, RO. -/
def TALUS_TSTAT_STRANDED (i : Nat) : Fld := ⟨(TALUS_TSTAT i), 4, 4⟩
/-- TALUS_TSTAT.DISPATCHES, bits 35 to 8, RO. -/
def TALUS_TSTAT_DISPATCHES (i : Nat) : Fld := ⟨(TALUS_TSTAT i), 35, 8⟩

/-! ### COL: spec/06_col_mailboxes.md/R183,R184 -/
/-- COL_PROFILE, spec/06_col_mailboxes.md/R183,R184. -/
def COL_PROFILE : Nat := 0x50000
/-- COL_PROFILE.PROFILE, bits 7 to 0, RW. -/
def COL_PROFILE_PROFILE : Fld := ⟨COL_PROFILE, 7, 0⟩
/-- COL_LIMITS, spec/06_col_mailboxes.md/R183,R184. -/
def COL_LIMITS : Nat := 0x50008
/-- COL_LIMITS.WAIT_WARN, bits 9 to 0, RW. -/
def COL_LIMITS_WAIT_WARN : Fld := ⟨COL_LIMITS, 9, 0⟩
/-- COL_RING, spec/06_col_mailboxes.md/R183,R184. -/
def COL_RING : Nat := 0x50010
/-- COL_RING.MBX, bits 6 to 0, WO. -/
def COL_RING_MBX : Fld := ⟨COL_RING, 6, 0⟩
/-- COL_TAKE, spec/06_col_mailboxes.md/R183,R184. -/
def COL_TAKE : Nat := 0x50018
/-- COL_TAKE.MBX, bits 6 to 0, WO. -/
def COL_TAKE_MBX : Fld := ⟨COL_TAKE, 6, 0⟩
/-- COL_FLUSH, spec/06_col_mailboxes.md/R183,R184. -/
def COL_FLUSH : Nat := 0x50020
/-- COL_FLUSH.MBX, bits 6 to 0, WO. -/
def COL_FLUSH_MBX : Fld := ⟨COL_FLUSH, 6, 0⟩
/-- COL_WAIT_CANCEL, spec/06_col_mailboxes.md/R183,R184. -/
def COL_WAIT_CANCEL : Nat := 0x50028
/-- COL_WAIT_CANCEL.AGENT, bits 5 to 0, WO. -/
def COL_WAIT_CANCEL_AGENT : Fld := ⟨COL_WAIT_CANCEL, 5, 0⟩
/-- COL_CYCLE, spec/06_col_mailboxes.md/R183,R184. -/
def COL_CYCLE : Nat := 0x50030
/-- COL_CYCLE.MBX_A, bits 6 to 0, RC. -/
def COL_CYCLE_MBX_A : Fld := ⟨COL_CYCLE, 6, 0⟩
/-- COL_CYCLE.MBX_B, bits 13 to 7, RC. -/
def COL_CYCLE_MBX_B : Fld := ⟨COL_CYCLE, 13, 7⟩
/-- COL_CYCLE.AGENT_X, bits 19 to 14, RC. -/
def COL_CYCLE_AGENT_X : Fld := ⟨COL_CYCLE, 19, 14⟩
/-- COL_CYCLE.AGENT_Y, bits 25 to 20, RC. -/
def COL_CYCLE_AGENT_Y : Fld := ⟨COL_CYCLE, 25, 20⟩
/-- COL_CYCLE.REASON, bits 28 to 26, RC. -/
def COL_CYCLE_REASON : Fld := ⟨COL_CYCLE, 28, 26⟩
/-- COL_CYCLE.VALID, bits 35 to 35, RC. -/
def COL_CYCLE_VALID : Fld := ⟨COL_CYCLE, 35, 35⟩
/-- COL_REFUSE, spec/06_col_mailboxes.md/R183,R184. -/
def COL_REFUSE : Nat := 0x50038
/-- COL_REFUSE.MBX_A, bits 6 to 0, RC. -/
def COL_REFUSE_MBX_A : Fld := ⟨COL_REFUSE, 6, 0⟩
/-- COL_REFUSE.MBX_B, bits 13 to 7, RC. -/
def COL_REFUSE_MBX_B : Fld := ⟨COL_REFUSE, 13, 7⟩
/-- COL_REFUSE.AGENT_X, bits 19 to 14, RC. -/
def COL_REFUSE_AGENT_X : Fld := ⟨COL_REFUSE, 19, 14⟩
/-- COL_REFUSE.AGENT_Y, bits 25 to 20, RC. -/
def COL_REFUSE_AGENT_Y : Fld := ⟨COL_REFUSE, 25, 20⟩
/-- COL_REFUSE.REASON, bits 28 to 26, RC. -/
def COL_REFUSE_REASON : Fld := ⟨COL_REFUSE, 28, 26⟩
/-- COL_REFUSE.VALID, bits 35 to 35, RC. -/
def COL_REFUSE_VALID : Fld := ⟨COL_REFUSE, 35, 35⟩
/-- COL_WAITINFO, spec/06_col_mailboxes.md/R183,R184. -/
def COL_WAITINFO : Nat := 0x50040
/-- COL_WAITINFO.MBX_A, bits 6 to 0, RC. -/
def COL_WAITINFO_MBX_A : Fld := ⟨COL_WAITINFO, 6, 0⟩
/-- COL_WAITINFO.MBX_B, bits 13 to 7, RC. -/
def COL_WAITINFO_MBX_B : Fld := ⟨COL_WAITINFO, 13, 7⟩
/-- COL_WAITINFO.AGENT_X, bits 19 to 14, RC. -/
def COL_WAITINFO_AGENT_X : Fld := ⟨COL_WAITINFO, 19, 14⟩
/-- COL_WAITINFO.AGENT_Y, bits 25 to 20, RC. -/
def COL_WAITINFO_AGENT_Y : Fld := ⟨COL_WAITINFO, 25, 20⟩
/-- COL_WAITINFO.REASON, bits 28 to 26, RC. -/
def COL_WAITINFO_REASON : Fld := ⟨COL_WAITINFO, 28, 26⟩
/-- COL_WAITINFO.VALID, bits 35 to 35, RC. -/
def COL_WAITINFO_VALID : Fld := ⟨COL_WAITINFO, 35, 35⟩
/-- COL_PEND_LH, spec/06_col_mailboxes.md/R183,R184. -/
def COL_PEND_LH (i : Nat) : Nat := 0x50080 + 8 * i
/-- COL_PEND_LH.PEND, bits 31 to 0, RO. -/
def COL_PEND_LH_PEND (i : Nat) : Fld := ⟨(COL_PEND_LH i), 31, 0⟩
/-- COL_PEND_RH, spec/06_col_mailboxes.md/R183,R184. -/
def COL_PEND_RH (i : Nat) : Nat := 0x500A0 + 8 * i
/-- COL_PEND_RH.PEND, bits 31 to 0, RO. -/
def COL_PEND_RH_PEND (i : Nat) : Fld := ⟨(COL_PEND_RH i), 31, 0⟩
/-- COL_EMPTIED_LH, spec/06_col_mailboxes.md/R183,R184. -/
def COL_EMPTIED_LH (i : Nat) : Nat := 0x500C0 + 8 * i
/-- COL_EMPTIED_LH.EMPTIED, bits 31 to 0, W1C. -/
def COL_EMPTIED_LH_EMPTIED (i : Nat) : Fld := ⟨(COL_EMPTIED_LH i), 31, 0⟩
/-- COL_EMPTIED_RH, spec/06_col_mailboxes.md/R183,R184. -/
def COL_EMPTIED_RH (i : Nat) : Nat := 0x500E0 + 8 * i
/-- COL_EMPTIED_RH.EMPTIED, bits 31 to 0, W1C. -/
def COL_EMPTIED_RH_EMPTIED (i : Nat) : Fld := ⟨(COL_EMPTIED_RH i), 31, 0⟩
/-- COL_MBX_CFG, spec/06_col_mailboxes.md/R183,R184. -/
def COL_MBX_CFG (i : Nat) : Nat := 0x51000 + 0x20 * i
/-- COL_MBX_CFG.EN, bits 0 to 0, RW. -/
def COL_MBX_CFG_EN (i : Nat) : Fld := ⟨(COL_MBX_CFG i), 0, 0⟩
/-- COL_MBX_CFG.RX_KIND, bits 2 to 1, RW. -/
def COL_MBX_CFG_RX_KIND (i : Nat) : Fld := ⟨(COL_MBX_CFG i), 2, 1⟩
/-- COL_MBX_CFG.RX_TASK, bits 12 to 3, RW. -/
def COL_MBX_CFG_RX_TASK (i : Nat) : Fld := ⟨(COL_MBX_CFG i), 12, 3⟩
/-- COL_MBX_CFG.RX_FLAG, bits 17 to 13, RW. -/
def COL_MBX_CFG_RX_FLAG (i : Nat) : Fld := ⟨(COL_MBX_CFG i), 17, 13⟩
/-- COL_MBX_CFG.TX_KIND, bits 19 to 18, RW. -/
def COL_MBX_CFG_TX_KIND (i : Nat) : Fld := ⟨(COL_MBX_CFG i), 19, 18⟩
/-- COL_MBX_CFG.TX_TASK, bits 29 to 20, RW. -/
def COL_MBX_CFG_TX_TASK (i : Nat) : Fld := ⟨(COL_MBX_CFG i), 29, 20⟩
/-- COL_MBX_CFG.TX_FLAG, bits 34 to 30, RW. -/
def COL_MBX_CFG_TX_FLAG (i : Nat) : Fld := ⟨(COL_MBX_CFG i), 34, 30⟩
/-- COL_MBX_SEND, spec/06_col_mailboxes.md/R183,R184. -/
def COL_MBX_SEND (i : Nat) : Nat := 0x51008 + 0x20 * i
/-- COL_MBX_SEND.SENDER, bits 5 to 0, RW. -/
def COL_MBX_SEND_SENDER (i : Nat) : Fld := ⟨(COL_MBX_SEND i), 5, 0⟩
/-- COL_MBX_STAT, spec/06_col_mailboxes.md/R183,R184. -/
def COL_MBX_STAT (i : Nat) : Nat := 0x51010 + 0x20 * i
/-- COL_MBX_STAT.STATE, bits 0 to 0, RO. -/
def COL_MBX_STAT_STATE (i : Nat) : Fld := ⟨(COL_MBX_STAT i), 0, 0⟩
/-- COL_MBX_STAT.SENDER, bits 6 to 1, RO. -/
def COL_MBX_STAT_SENDER (i : Nat) : Fld := ⟨(COL_MBX_STAT i), 6, 1⟩
/-- COL_MBX_STAT.SEQ, bits 22 to 7, RO. -/
def COL_MBX_STAT_SEQ (i : Nat) : Fld := ⟨(COL_MBX_STAT i), 22, 7⟩
/-- COL_MBX_STAT.FLUSHED, bits 23 to 23, RO. -/
def COL_MBX_STAT_FLUSHED (i : Nat) : Fld := ⟨(COL_MBX_STAT i), 23, 23⟩
/-- COL_MBX_WAIT, spec/06_col_mailboxes.md/R183,R184. -/
def COL_MBX_WAIT (i : Nat) : Nat := 0x51018 + 0x20 * i
/-- COL_MBX_WAIT.EMPTY, bits 35 to 35, RO. -/
def COL_MBX_WAIT_EMPTY (i : Nat) : Fld := ⟨(COL_MBX_WAIT i), 35, 35⟩
/-- COL_MBX_LOCK, spec/06_col_mailboxes.md/R183,R184. -/
def COL_MBX_LOCK (i : Nat) : Nat := 0x52000 + 8 * i
/-- COL_MBX_LOCK.OWNER, bits 5 to 0, RLK. -/
def COL_MBX_LOCK_OWNER (i : Nat) : Fld := ⟨(COL_MBX_LOCK i), 5, 0⟩

/-! ### MEMC: spec/07_memory.md/R220,R221 -/
/-- MEMC_PROFILE, spec/07_memory.md/R220,R221. -/
def MEMC_PROFILE : Nat := 0x60000
/-- MEMC_PROFILE.PROFILE, bits 7 to 0, RW. -/
def MEMC_PROFILE_PROFILE : Fld := ⟨MEMC_PROFILE, 7, 0⟩
/-- MEMC_CTRL, spec/07_memory.md/R220,R221. -/
def MEMC_CTRL : Nat := 0x60008
/-- MEMC_CTRL.FLUSH, bits 0 to 0, WO. -/
def MEMC_CTRL_FLUSH : Fld := ⟨MEMC_CTRL, 0, 0⟩
/-- MEMC_STAT, spec/07_memory.md/R220,R221. -/
def MEMC_STAT : Nat := 0x60010
/-- MEMC_STAT.MARCHED, bits 0 to 0, RO. -/
def MEMC_STAT_MARCHED : Fld := ⟨MEMC_STAT, 0, 0⟩
/-- MEMC_STAT.MARCH_BUSY, bits 1 to 1, RO. -/
def MEMC_STAT_MARCH_BUSY : Fld := ⟨MEMC_STAT, 1, 1⟩
/-- MEMC_STAT.CHECKER_OK, bits 2 to 2, RO. -/
def MEMC_STAT_CHECKER_OK : Fld := ⟨MEMC_STAT, 2, 2⟩
/-- MEMC_STAT.REPAIR_PENDING, bits 3 to 3, RO. -/
def MEMC_STAT_REPAIR_PENDING : Fld := ⟨MEMC_STAT, 3, 3⟩
/-- MEMC_LIMITS, spec/07_memory.md/R220,R221. -/
def MEMC_LIMITS : Nat := 0x60018
/-- MEMC_LIMITS.CE_N, bits 3 to 0, RW. -/
def MEMC_LIMITS_CE_N : Fld := ⟨MEMC_LIMITS, 3, 0⟩
/-- MEMC_LIMITS.CE_WINDOW, bits 11 to 4, RW. -/
def MEMC_LIMITS_CE_WINDOW : Fld := ⟨MEMC_LIMITS, 11, 4⟩
/-- MEMC_LIMITS.SCRUB_H, bits 19 to 12, RW. -/
def MEMC_LIMITS_SCRUB_H : Fld := ⟨MEMC_LIMITS, 19, 12⟩
/-- MEMC_LIMITS.REPAIR_MODE, bits 20 to 20, RW. -/
def MEMC_LIMITS_REPAIR_MODE : Fld := ⟨MEMC_LIMITS, 20, 20⟩
/-- MEMC_FLIP_CTRL, spec/07_memory.md/R220,R221. -/
def MEMC_FLIP_CTRL : Nat := 0x60020
/-- MEMC_FLIP_CTRL.CTRL, bits 5 to 0, RW. -/
def MEMC_FLIP_CTRL_CTRL : Fld := ⟨MEMC_FLIP_CTRL, 5, 0⟩
/-- MEMC_FLIP_CTRL.ARRAY, bits 7 to 6, RW. -/
def MEMC_FLIP_CTRL_ARRAY : Fld := ⟨MEMC_FLIP_CTRL, 7, 6⟩
/-- MEMC_FLIP_CTRL.CHK, bits 14 to 8, RW. -/
def MEMC_FLIP_CTRL_CHK : Fld := ⟨MEMC_FLIP_CTRL, 14, 8⟩
/-- MEMC_FLIP_CTRL.ARM, bits 15 to 15, RW. -/
def MEMC_FLIP_CTRL_ARM : Fld := ⟨MEMC_FLIP_CTRL, 15, 15⟩
/-- MEMC_FLIP_CTRL.DONE, bits 16 to 16, W1C. -/
def MEMC_FLIP_CTRL_DONE : Fld := ⟨MEMC_FLIP_CTRL, 16, 16⟩
/-- MEMC_FLIP_DATA, spec/07_memory.md/R220,R221. -/
def MEMC_FLIP_DATA : Nat := 0x60028
/-- MEMC_FLIP_DATA.DATA, bits 35 to 0, RW. -/
def MEMC_FLIP_DATA_DATA : Fld := ⟨MEMC_FLIP_DATA, 35, 0⟩
/-- MEMC_FLIP_ADDR, spec/07_memory.md/R220,R221. -/
def MEMC_FLIP_ADDR : Nat := 0x60030
/-- MEMC_FLIP_ADDR.ADDR, bits 20 to 0, RW. -/
def MEMC_FLIP_ADDR_ADDR : Fld := ⟨MEMC_FLIP_ADDR, 20, 0⟩
/-- MEMC_MARCH_CTRL, spec/07_memory.md/R220,R221. -/
def MEMC_MARCH_CTRL : Nat := 0x60038
/-- MEMC_MARCH_CTRL.GO, bits 0 to 0, WO. -/
def MEMC_MARCH_CTRL_GO : Fld := ⟨MEMC_MARCH_CTRL, 0, 0⟩
/-- MEMC_MARCH_CTRL.PRESERVE, bits 1 to 1, WO. -/
def MEMC_MARCH_CTRL_PRESERVE : Fld := ⟨MEMC_MARCH_CTRL, 1, 1⟩
/-- MEMC_MARCH_CTRL.CHECK, bits 2 to 2, WO. -/
def MEMC_MARCH_CTRL_CHECK : Fld := ⟨MEMC_MARCH_CTRL, 2, 2⟩
/-- MEMC_MARCH_CTRL.CTRL, bits 8 to 3, WO. -/
def MEMC_MARCH_CTRL_CTRL : Fld := ⟨MEMC_MARCH_CTRL, 8, 3⟩
/-- MEMC_MARCH_CTRL.ARRAY, bits 10 to 9, WO. -/
def MEMC_MARCH_CTRL_ARRAY : Fld := ⟨MEMC_MARCH_CTRL, 10, 9⟩
/-- MEMC_MARCH_STAT, spec/07_memory.md/R220,R221. -/
def MEMC_MARCH_STAT : Nat := 0x60040
/-- MEMC_MARCH_STAT.BUSY, bits 0 to 0, RO. -/
def MEMC_MARCH_STAT_BUSY : Fld := ⟨MEMC_MARCH_STAT, 0, 0⟩
/-- MEMC_MARCH_STAT.FAILED, bits 1 to 1, W1C. -/
def MEMC_MARCH_STAT_FAILED : Fld := ⟨MEMC_MARCH_STAT, 1, 1⟩
/-- MEMC_MARCH_STAT.CTRL, bits 7 to 2, RO. -/
def MEMC_MARCH_STAT_CTRL : Fld := ⟨MEMC_MARCH_STAT, 7, 2⟩
/-- MEMC_MARCH_STAT.REPAIRED, bits 17 to 8, RO. -/
def MEMC_MARCH_STAT_REPAIRED : Fld := ⟨MEMC_MARCH_STAT, 17, 8⟩
/-- MEMC_REPAIR_CTRL, spec/07_memory.md/R220,R221. -/
def MEMC_REPAIR_CTRL : Nat := 0x60048
/-- MEMC_REPAIR_CTRL.GO, bits 0 to 0, WO. -/
def MEMC_REPAIR_CTRL_GO : Fld := ⟨MEMC_REPAIR_CTRL, 0, 0⟩
/-- MEMC_REPAIR_CTRL.CTRL, bits 6 to 1, WO. -/
def MEMC_REPAIR_CTRL_CTRL : Fld := ⟨MEMC_REPAIR_CTRL, 6, 1⟩
/-- MEMC_REPAIR_CTRL.ARRAY, bits 8 to 7, WO. -/
def MEMC_REPAIR_CTRL_ARRAY : Fld := ⟨MEMC_REPAIR_CTRL, 8, 7⟩
/-- MEMC_REPAIR_CTRL.BANK, bits 12 to 9, WO. -/
def MEMC_REPAIR_CTRL_BANK : Fld := ⟨MEMC_REPAIR_CTRL, 12, 9⟩
/-- MEMC_REPAIR_CTRL.ROW, bits 23 to 13, WO. -/
def MEMC_REPAIR_CTRL_ROW : Fld := ⟨MEMC_REPAIR_CTRL, 23, 13⟩
/-- MEMC_REPAIR_STAT, spec/07_memory.md/R220,R221. -/
def MEMC_REPAIR_STAT : Nat := 0x60050
/-- MEMC_REPAIR_STAT.PENDING, bits 5 to 0, RO. -/
def MEMC_REPAIR_STAT_PENDING : Fld := ⟨MEMC_REPAIR_STAT, 5, 0⟩
/-- MEMC_REPAIR_STAT.BUSY, bits 6 to 6, RO. -/
def MEMC_REPAIR_STAT_BUSY : Fld := ⟨MEMC_REPAIR_STAT, 6, 6⟩
/-- MEMC_REPAIR_STAT.NEXT, bits 30 to 8, RO. -/
def MEMC_REPAIR_STAT_NEXT : Fld := ⟨MEMC_REPAIR_STAT, 30, 8⟩
/-- MEMC_HOST_CTRL, spec/07_memory.md/R220,R221. -/
def MEMC_HOST_CTRL : Nat := 0x60058
/-- MEMC_HOST_CTRL.CLOSE_PB, bits 0 to 0, RW. -/
def MEMC_HOST_CTRL_CLOSE_PB : Fld := ⟨MEMC_HOST_CTRL, 0, 0⟩
/-- MEMC_HOST_CTRL.CLOSE_TS, bits 1 to 1, RW. -/
def MEMC_HOST_CTRL_CLOSE_TS : Fld := ⟨MEMC_HOST_CTRL, 1, 1⟩
/-- MEMC_HOST_CTRL.CLOSE_ED, bits 2 to 2, RW. -/
def MEMC_HOST_CTRL_CLOSE_ED : Fld := ⟨MEMC_HOST_CTRL, 2, 2⟩
/-- MEMC_HOST_CTRL.CLOSE_SH, bits 3 to 3, RW. -/
def MEMC_HOST_CTRL_CLOSE_SH : Fld := ⟨MEMC_HOST_CTRL, 3, 3⟩
/-- MEMC_HOST_CTRL.CLOSE_IND, bits 4 to 4, RW. -/
def MEMC_HOST_CTRL_CLOSE_IND : Fld := ⟨MEMC_HOST_CTRL, 4, 4⟩
/-- MEMC_HOST_CTRL.LOCK, bits 5 to 5, RW. -/
def MEMC_HOST_CTRL_LOCK : Fld := ⟨MEMC_HOST_CTRL, 5, 5⟩
/-- MEMC_IND_ADDR, spec/07_memory.md/R220,R221. -/
def MEMC_IND_ADDR : Nat := 0x60060
/-- MEMC_IND_ADDR.ADDR, bits 20 to 0, RW. -/
def MEMC_IND_ADDR_ADDR : Fld := ⟨MEMC_IND_ADDR, 20, 0⟩
/-- MEMC_IND_ADDR.ARRAY, bits 22 to 21, RW. -/
def MEMC_IND_ADDR_ARRAY : Fld := ⟨MEMC_IND_ADDR, 22, 21⟩
/-- MEMC_IND_ADDR.CTRL, bits 28 to 23, RW. -/
def MEMC_IND_ADDR_CTRL : Fld := ⟨MEMC_IND_ADDR, 28, 23⟩
/-- MEMC_IND_DATA, spec/07_memory.md/R220,R221. -/
def MEMC_IND_DATA : Nat := 0x60068
/-- MEMC_IND_DATA.DATA, bits 35 to 0, RW. -/
def MEMC_IND_DATA_DATA : Fld := ⟨MEMC_IND_DATA, 35, 0⟩
/-- MEMC_IND_CHK, spec/07_memory.md/R220,R221. -/
def MEMC_IND_CHK : Nat := 0x60070
/-- MEMC_IND_CHK.CHK, bits 6 to 0, RO. -/
def MEMC_IND_CHK_CHK : Fld := ⟨MEMC_IND_CHK, 6, 0⟩
/-- MEMC_IND_CHK.SYND, bits 13 to 7, RO. -/
def MEMC_IND_CHK_SYND : Fld := ⟨MEMC_IND_CHK, 13, 7⟩
/-- MEMC_REFUSE, spec/07_memory.md/R220,R221. -/
def MEMC_REFUSE : Nat := 0x60078
/-- MEMC_REFUSE.CTRL, bits 5 to 0, RC. -/
def MEMC_REFUSE_CTRL : Fld := ⟨MEMC_REFUSE, 5, 0⟩
/-- MEMC_REFUSE.AGENT, bits 11 to 6, RC. -/
def MEMC_REFUSE_AGENT : Fld := ⟨MEMC_REFUSE, 11, 6⟩
/-- MEMC_REFUSE.REASON, bits 14 to 12, RC. -/
def MEMC_REFUSE_REASON : Fld := ⟨MEMC_REFUSE, 14, 12⟩
/-- MEMC_REFUSE.VALID, bits 35 to 35, RC. -/
def MEMC_REFUSE_VALID : Fld := ⟨MEMC_REFUSE, 35, 35⟩
/-- MEMC_CE_UNTRACKED, spec/07_memory.md/R220,R221. -/
def MEMC_CE_UNTRACKED : Nat := 0x60080
/-- MEMC_CE_UNTRACKED.COUNT, bits 31 to 0, RO. -/
def MEMC_CE_UNTRACKED_COUNT : Fld := ⟨MEMC_CE_UNTRACKED, 31, 0⟩
/-- MEMC_LAST, spec/07_memory.md/R220,R221. -/
def MEMC_LAST (i : Nat) : Nat := 0x60100 + 8 * i
/-- MEMC_LAST.ADDR, bits 20 to 0, RC. -/
def MEMC_LAST_ADDR (i : Nat) : Fld := ⟨(MEMC_LAST i), 20, 0⟩
/-- MEMC_LAST.ARRAY, bits 22 to 21, RC. -/
def MEMC_LAST_ARRAY (i : Nat) : Fld := ⟨(MEMC_LAST i), 22, 21⟩
/-- MEMC_LAST.KIND, bits 24 to 23, RC. -/
def MEMC_LAST_KIND (i : Nat) : Fld := ⟨(MEMC_LAST i), 24, 23⟩
/-- MEMC_LAST.AGENT, bits 30 to 25, RC. -/
def MEMC_LAST_AGENT (i : Nat) : Fld := ⟨(MEMC_LAST i), 30, 25⟩
/-- MEMC_LAST.FLIP, bits 31 to 31, RC. -/
def MEMC_LAST_FLIP (i : Nat) : Fld := ⟨(MEMC_LAST i), 31, 31⟩
/-- MEMC_LAST.VALID, bits 35 to 35, RC. -/
def MEMC_LAST_VALID (i : Nat) : Fld := ⟨(MEMC_LAST i), 35, 35⟩
/-- MEMC_SEC, spec/07_memory.md/R220,R221. -/
def MEMC_SEC (i : Nat) : Nat := 0x60300 + 8 * i
/-- MEMC_SEC.COUNT, bits 31 to 0, RO. -/
def MEMC_SEC_COUNT (i : Nat) : Fld := ⟨(MEMC_SEC i), 31, 0⟩
/-- MEMC_DED, spec/07_memory.md/R220,R221. -/
def MEMC_DED (i : Nat) : Nat := 0x60500 + 8 * i
/-- MEMC_DED.COUNT, bits 31 to 0, RO. -/
def MEMC_DED_COUNT (i : Nat) : Fld := ⟨(MEMC_DED i), 31, 0⟩
/-- MEMC_SPARE, spec/07_memory.md/R220,R221. -/
def MEMC_SPARE (i : Nat) : Nat := 0x60700 + 8 * i
/-- MEMC_SPARE.FUSED, bits 7 to 0, RO. -/
def MEMC_SPARE_FUSED (i : Nat) : Fld := ⟨(MEMC_SPARE i), 7, 0⟩
/-- MEMC_SPARE.SOFT, bits 15 to 8, RO. -/
def MEMC_SPARE_SOFT (i : Nat) : Fld := ⟨(MEMC_SPARE i), 15, 8⟩
/-- MEMC_SPARE.FREE, bits 23 to 16, RO. -/
def MEMC_SPARE_FREE (i : Nat) : Fld := ⟨(MEMC_SPARE i), 23, 16⟩
/-- MEMC_SPARE.EXHAUSTED, bits 24 to 24, RO. -/
def MEMC_SPARE_EXHAUSTED (i : Nat) : Fld := ⟨(MEMC_SPARE i), 24, 24⟩

/-! ### VAULT: spec/07_memory.md/R222,R223 -/
/-- VAULT_PROFILE, spec/07_memory.md/R222,R223. -/
def VAULT_PROFILE : Nat := 0x70000
/-- VAULT_PROFILE.PROFILE, bits 7 to 0, RW. -/
def VAULT_PROFILE_PROFILE : Fld := ⟨VAULT_PROFILE, 7, 0⟩
/-- VAULT_CTRL, spec/07_memory.md/R222,R223. -/
def VAULT_CTRL : Nat := 0x70008
/-- VAULT_CTRL.WIPE, bits 0 to 0, WO. -/
def VAULT_CTRL_WIPE : Fld := ⟨VAULT_CTRL, 0, 0⟩
/-- VAULT_STAT, spec/07_memory.md/R222,R223. -/
def VAULT_STAT : Nat := 0x70010
/-- VAULT_STAT.WIPING, bits 0 to 0, RO. -/
def VAULT_STAT_WIPING : Fld := ⟨VAULT_STAT, 0, 0⟩
/-- VAULT_STAT.LOST, bits 1 to 1, W1C. -/
def VAULT_STAT_LOST : Fld := ⟨VAULT_STAT, 1, 1⟩
/-- VAULT_STAT.SEALED, bits 15 to 2, RO. -/
def VAULT_STAT_SEALED : Fld := ⟨VAULT_STAT, 15, 2⟩
/-- VAULT_STAT.WIPES, bits 31 to 16, RO. -/
def VAULT_STAT_WIPES : Fld := ⟨VAULT_STAT, 31, 16⟩
/-- VAULT_ADDR, spec/07_memory.md/R222,R223. -/
def VAULT_ADDR : Nat := 0x70018
/-- VAULT_ADDR.ADDR, bits 12 to 0, RW. -/
def VAULT_ADDR_ADDR : Fld := ⟨VAULT_ADDR, 12, 0⟩
/-- VAULT_ADDR.SEAL, bits 13 to 13, RW. -/
def VAULT_ADDR_SEAL : Fld := ⟨VAULT_ADDR, 13, 13⟩
/-- VAULT_DATA, spec/07_memory.md/R222,R223. -/
def VAULT_DATA : Nat := 0x70020
/-- VAULT_DATA.DATA, bits 35 to 0, RW. -/
def VAULT_DATA_DATA : Fld := ⟨VAULT_DATA, 35, 0⟩
/-- VAULT_KEYLOAD, spec/07_memory.md/R222,R223. -/
def VAULT_KEYLOAD : Nat := 0x70028
/-- VAULT_KEYLOAD.SRC, bits 12 to 0, WO. -/
def VAULT_KEYLOAD_SRC : Fld := ⟨VAULT_KEYLOAD, 12, 0⟩
/-- VAULT_KEYLOAD.LEN, bits 16 to 13, WO. -/
def VAULT_KEYLOAD_LEN : Fld := ⟨VAULT_KEYLOAD, 16, 13⟩
/-- VAULT_KEYLOAD.SLOT, bits 24 to 17, WO. -/
def VAULT_KEYLOAD_SLOT : Fld := ⟨VAULT_KEYLOAD, 24, 17⟩

/-! ### FWC: spec/17_firmware_configuration.md/R499,R500 -/
/-- FWC_PROFILE, spec/17_firmware_configuration.md/R499,R500. -/
def FWC_PROFILE : Nat := 0x80000
/-- FWC_PROFILE.PROFILE, bits 7 to 0, RW. -/
def FWC_PROFILE_PROFILE : Fld := ⟨FWC_PROFILE, 7, 0⟩
/-- FWC_XFER_CMD, spec/17_firmware_configuration.md/R499,R500. -/
def FWC_XFER_CMD : Nat := 0x80008
/-- FWC_XFER_CMD.OP, bits 2 to 0, WO. -/
def FWC_XFER_CMD_OP : Fld := ⟨FWC_XFER_CMD, 2, 0⟩
/-- FWC_XFER_CMD.SLOT, bits 3 to 3, WO. -/
def FWC_XFER_CMD_SLOT : Fld := ⟨FWC_XFER_CMD, 3, 3⟩
/-- FWC_XFER_CMD.BUSY, bits 4 to 4, RO. -/
def FWC_XFER_CMD_BUSY : Fld := ⟨FWC_XFER_CMD, 4, 4⟩
/-- FWC_XFER_CMD.RESULT, bits 6 to 5, RO. -/
def FWC_XFER_CMD_RESULT : Fld := ⟨FWC_XFER_CMD, 6, 5⟩
/-- FWC_PIECE_CMD, spec/17_firmware_configuration.md/R499,R500. -/
def FWC_PIECE_CMD : Nat := 0x80010
/-- FWC_PIECE_CMD.PIECE, bits 14 to 0, WO. -/
def FWC_PIECE_CMD_PIECE : Fld := ⟨FWC_PIECE_CMD, 14, 0⟩
/-- FWC_PIECE_CMD.SLOT, bits 15 to 15, WO. -/
def FWC_PIECE_CMD_SLOT : Fld := ⟨FWC_PIECE_CMD, 15, 15⟩
/-- FWC_PIECE_CMD.SHELF, bits 23 to 16, WO. -/
def FWC_PIECE_CMD_SHELF : Fld := ⟨FWC_PIECE_CMD, 23, 16⟩
/-- FWC_PIECE_STAT, spec/17_firmware_configuration.md/R499,R500. -/
def FWC_PIECE_STAT : Nat := 0x80018
/-- FWC_PIECE_STAT.PIECE, bits 14 to 0, RO. -/
def FWC_PIECE_STAT_PIECE : Fld := ⟨FWC_PIECE_STAT, 14, 0⟩
/-- FWC_PIECE_STAT.SLOT, bits 15 to 15, RO. -/
def FWC_PIECE_STAT_SLOT : Fld := ⟨FWC_PIECE_STAT, 15, 15⟩
/-- FWC_PIECE_STAT.RESULT, bits 18 to 16, RO. -/
def FWC_PIECE_STAT_RESULT : Fld := ⟨FWC_PIECE_STAT, 18, 16⟩
/-- FWC_PIECE_STAT.REASON, bits 21 to 19, RO. -/
def FWC_PIECE_STAT_REASON : Fld := ⟨FWC_PIECE_STAT, 21, 19⟩
/-- FWC_PIECE_STAT.BUSY, bits 22 to 22, RO. -/
def FWC_PIECE_STAT_BUSY : Fld := ⟨FWC_PIECE_STAT, 22, 22⟩
/-- FWC_SLOT, spec/17_firmware_configuration.md/R499,R500. -/
def FWC_SLOT (i : Nat) : Nat := 0x80020 + 8 * i
/-- FWC_SLOT.STATE, bits 2 to 0, RO. -/
def FWC_SLOT_STATE (i : Nat) : Fld := ⟨(FWC_SLOT i), 2, 0⟩
/-- FWC_SLOT.TRIAL_FAILED, bits 3 to 3, W1C. -/
def FWC_SLOT_TRIAL_FAILED (i : Nat) : Fld := ⟨(FWC_SLOT i), 3, 3⟩
/-- FWC_SLOT.BOOTED, bits 4 to 4, RO. -/
def FWC_SLOT_BOOTED (i : Nat) : Fld := ⟨(FWC_SLOT i), 4, 4⟩
/-- FWC_SLOT.OK, bits 19 to 5, RO. -/
def FWC_SLOT_OK (i : Nat) : Fld := ⟨(FWC_SLOT i), 19, 5⟩
/-- FWC_SLOT.SVN, bits 25 to 20, RO. -/
def FWC_SLOT_SVN (i : Nat) : Fld := ⟨(FWC_SLOT i), 25, 20⟩
/-- FWC_BITMAP_SEL, spec/17_firmware_configuration.md/R499,R500. -/
def FWC_BITMAP_SEL : Nat := 0x80030
/-- FWC_BITMAP_SEL.GROUP, bits 10 to 0, RW. -/
def FWC_BITMAP_SEL_GROUP : Fld := ⟨FWC_BITMAP_SEL, 10, 0⟩
/-- FWC_BITMAP_SEL.SLOT, bits 11 to 11, RW. -/
def FWC_BITMAP_SEL_SLOT : Fld := ⟨FWC_BITMAP_SEL, 11, 11⟩
/-- FWC_BITMAP, spec/17_firmware_configuration.md/R499,R500. -/
def FWC_BITMAP : Nat := 0x80038
/-- FWC_BITMAP.STATES, bits 31 to 0, RO. -/
def FWC_BITMAP_STATES : Fld := ⟨FWC_BITMAP, 31, 0⟩
/-- FWC_LIMITS, spec/17_firmware_configuration.md/R499,R500. -/
def FWC_LIMITS : Nat := 0x80040
/-- FWC_LIMITS.STAGGER, bits 9 to 0, RW. -/
def FWC_LIMITS_STAGGER : Fld := ⟨FWC_LIMITS, 9, 0⟩
/-- FWC_ACT_AT, spec/17_firmware_configuration.md/R499,R500. -/
def FWC_ACT_AT : Nat := 0x80048
/-- FWC_ACT_AT.AT, bits 35 to 0, RW. -/
def FWC_ACT_AT_AT : Fld := ⟨FWC_ACT_AT, 35, 0⟩
/-- FWC_ACT_CTRL, spec/17_firmware_configuration.md/R499,R500. -/
def FWC_ACT_CTRL : Nat := 0x80050
/-- FWC_ACT_CTRL.GO, bits 0 to 0, WO. -/
def FWC_ACT_CTRL_GO : Fld := ⟨FWC_ACT_CTRL, 0, 0⟩
/-- FWC_ACT_CTRL.HANDOVER, bits 1 to 1, WO. -/
def FWC_ACT_CTRL_HANDOVER : Fld := ⟨FWC_ACT_CTRL, 1, 1⟩
/-- FWC_ACT_CTRL.REVERT, bits 2 to 2, WO. -/
def FWC_ACT_CTRL_REVERT : Fld := ⟨FWC_ACT_CTRL, 2, 2⟩
/-- FWC_ACT_CTRL.MIGRATED, bits 3 to 3, WO. -/
def FWC_ACT_CTRL_MIGRATED : Fld := ⟨FWC_ACT_CTRL, 3, 3⟩
/-- FWC_ACT_CTRL.MIG_FAIL, bits 4 to 4, WO. -/
def FWC_ACT_CTRL_MIG_FAIL : Fld := ⟨FWC_ACT_CTRL, 4, 4⟩
/-- FWC_ACT_STAT, spec/17_firmware_configuration.md/R499,R500. -/
def FWC_ACT_STAT : Nat := 0x80058
/-- FWC_ACT_STAT.STATE, bits 1 to 0, RO. -/
def FWC_ACT_STAT_STATE : Fld := ⟨FWC_ACT_STAT, 1, 0⟩
/-- FWC_ACT_STAT.SWITCHED, bits 7 to 2, RO. -/
def FWC_ACT_STAT_SWITCHED : Fld := ⟨FWC_ACT_STAT, 7, 2⟩
/-- FWC_ACT_STAT.SLOW, bits 13 to 8, RO. -/
def FWC_ACT_STAT_SLOW : Fld := ⟨FWC_ACT_STAT, 13, 8⟩
/-- FWC_ACT_STAT.MAX_PAUSE, bits 27 to 14, RO. -/
def FWC_ACT_STAT_MAX_PAUSE : Fld := ⟨FWC_ACT_STAT, 27, 14⟩
/-- FWC_CFG_CMD, spec/17_firmware_configuration.md/R499,R500. -/
def FWC_CFG_CMD : Nat := 0x80060
/-- FWC_CFG_CMD.OP, bits 2 to 0, WO. -/
def FWC_CFG_CMD_OP : Fld := ⟨FWC_CFG_CMD, 2, 0⟩
/-- FWC_CFG_CMD.BLOCK, bits 12 to 3, WO. -/
def FWC_CFG_CMD_BLOCK : Fld := ⟨FWC_CFG_CMD, 12, 3⟩
/-- FWC_CFG_CMD.SHELF, bits 20 to 13, WO. -/
def FWC_CFG_CMD_SHELF : Fld := ⟨FWC_CFG_CMD, 20, 13⟩
/-- FWC_CFG_CMD.ANYVER, bits 21 to 21, WO. -/
def FWC_CFG_CMD_ANYVER : Fld := ⟨FWC_CFG_CMD, 21, 21⟩
/-- FWC_CFG_CMD.BUSY, bits 22 to 22, RO. -/
def FWC_CFG_CMD_BUSY : Fld := ⟨FWC_CFG_CMD, 22, 22⟩
/-- FWC_CFG_CMD.RESULT, bits 25 to 23, RO. -/
def FWC_CFG_CMD_RESULT : Fld := ⟨FWC_CFG_CMD, 25, 23⟩
/-- FWC_CFG_CMD.VERSION, bits 35 to 26, RO. -/
def FWC_CFG_CMD_VERSION : Fld := ⟨FWC_CFG_CMD, 35, 26⟩
/-- FWC_CFG_STAT, spec/17_firmware_configuration.md/R499,R500. -/
def FWC_CFG_STAT : Nat := 0x80068
/-- FWC_CFG_STAT.BANK, bits 0 to 0, RO. -/
def FWC_CFG_STAT_BANK : Fld := ⟨FWC_CFG_STAT, 0, 0⟩
/-- FWC_CFG_STAT.GENERATION, bits 16 to 1, RO. -/
def FWC_CFG_STAT_GENERATION : Fld := ⟨FWC_CFG_STAT, 16, 1⟩
/-- FWC_CFG_STAT.LAST_DEFAULTED, bits 26 to 17, RO. -/
def FWC_CFG_STAT_LAST_DEFAULTED : Fld := ⟨FWC_CFG_STAT, 26, 17⟩
/-- FWC_CFG_STAT.DEFAULTED, bits 35 to 27, RO. -/
def FWC_CFG_STAT_DEFAULTED : Fld := ⟨FWC_CFG_STAT, 35, 27⟩
/-- FWC_LC_CMD, spec/17_firmware_configuration.md/R499,R500. -/
def FWC_LC_CMD : Nat := 0x80070
/-- FWC_LC_CMD.TARGET, bits 2 to 0, WO. -/
def FWC_LC_CMD_TARGET : Fld := ⟨FWC_LC_CMD, 2, 0⟩
/-- FWC_LC_CMD.KEY, bits 14 to 3, WO. -/
def FWC_LC_CMD_KEY : Fld := ⟨FWC_LC_CMD, 14, 3⟩
/-- FWC_LC_CMD.SHELF, bits 22 to 15, WO. -/
def FWC_LC_CMD_SHELF : Fld := ⟨FWC_LC_CMD, 22, 15⟩
/-- FWC_LC_CMD.KSLOT, bits 24 to 23, WO. -/
def FWC_LC_CMD_KSLOT : Fld := ⟨FWC_LC_CMD, 24, 23⟩
/-- FWC_LC_STAT, spec/17_firmware_configuration.md/R499,R500. -/
def FWC_LC_STAT : Nat := 0x80078
/-- FWC_LC_STAT.STATE, bits 2 to 0, RO. -/
def FWC_LC_STAT_STATE : Fld := ⟨FWC_LC_STAT, 2, 0⟩
/-- FWC_LC_STAT.REASON, bits 5 to 3, RC. -/
def FWC_LC_STAT_REASON : Fld := ⟨FWC_LC_STAT, 5, 3⟩
/-- FWC_KEYSTAT, spec/17_firmware_configuration.md/R499,R500. -/
def FWC_KEYSTAT : Nat := 0x80080
/-- FWC_KEYSTAT.VALID, bits 3 to 0, RO. -/
def FWC_KEYSTAT_VALID : Fld := ⟨FWC_KEYSTAT, 3, 0⟩
/-- FWC_KEYSTAT.REVOKED, bits 7 to 4, RO. -/
def FWC_KEYSTAT_REVOKED : Fld := ⟨FWC_KEYSTAT, 7, 4⟩
/-- FWC_KEYSTAT.MIN_SVN, bits 13 to 8, RO. -/
def FWC_KEYSTAT_MIN_SVN : Fld := ⟨FWC_KEYSTAT, 13, 8⟩
/-- FWC_TAMPER_CTRL, spec/17_firmware_configuration.md/R499,R500. -/
def FWC_TAMPER_CTRL : Nat := 0x80088
/-- FWC_TAMPER_CTRL.EN_PIN, bits 3 to 0, RW. -/
def FWC_TAMPER_CTRL_EN_PIN : Fld := ⟨FWC_TAMPER_CTRL, 3, 0⟩
/-- FWC_TAMPER_CTRL.POL, bits 7 to 4, RW. -/
def FWC_TAMPER_CTRL_POL : Fld := ⟨FWC_TAMPER_CTRL, 7, 4⟩
/-- FWC_TAMPER_CTRL.EN_MESH, bits 8 to 8, RW. -/
def FWC_TAMPER_CTRL_EN_MESH : Fld := ⟨FWC_TAMPER_CTRL, 8, 8⟩
/-- FWC_TAMPER_CTRL.EN_VMON, bits 9 to 9, RW. -/
def FWC_TAMPER_CTRL_EN_VMON : Fld := ⟨FWC_TAMPER_CTRL, 9, 9⟩
/-- FWC_TAMPER_CTRL.EN_TEMP, bits 10 to 10, RW. -/
def FWC_TAMPER_CTRL_EN_TEMP : Fld := ⟨FWC_TAMPER_CTRL, 10, 10⟩
/-- FWC_TAMPER_CTRL.ACTION, bits 11 to 11, RW. -/
def FWC_TAMPER_CTRL_ACTION : Fld := ⟨FWC_TAMPER_CTRL, 11, 11⟩
/-- FWC_TAMPER_CTRL.LOCK, bits 12 to 12, RW. -/
def FWC_TAMPER_CTRL_LOCK : Fld := ⟨FWC_TAMPER_CTRL, 12, 12⟩
/-- FWC_TAMPER_STAT, spec/17_firmware_configuration.md/R499,R500. -/
def FWC_TAMPER_STAT : Nat := 0x80090
/-- FWC_TAMPER_STAT.SOURCE, bits 6 to 0, W1C. -/
def FWC_TAMPER_STAT_SOURCE : Fld := ⟨FWC_TAMPER_STAT, 6, 0⟩
/-- FWC_TAMPER_STAT.COUNT, bits 22 to 7, RO. -/
def FWC_TAMPER_STAT_COUNT : Fld := ⟨FWC_TAMPER_STAT, 22, 7⟩

/-! ### PRC: spec/16_startup_power.md/R470,R471 -/
/-- PRC_PROFILE, spec/16_startup_power.md/R470,R471. -/
def PRC_PROFILE : Nat := 0x90000
/-- PRC_PROFILE.PROFILE, bits 7 to 0, RW. -/
def PRC_PROFILE_PROFILE : Fld := ⟨PRC_PROFILE, 7, 0⟩
/-- PRC_CTRL, spec/16_startup_power.md/R470,R471. -/
def PRC_CTRL : Nat := 0x90008
/-- PRC_CTRL.DP_READY, bits 0 to 0, WO. -/
def PRC_CTRL_DP_READY : Fld := ⟨PRC_CTRL, 0, 0⟩
/-- PRC_CTRL.WARM_RST, bits 1 to 1, WO. -/
def PRC_CTRL_WARM_RST : Fld := ⟨PRC_CTRL, 1, 1⟩
/-- PRC_CTRL.KEY, bits 13 to 2, WO. -/
def PRC_CTRL_KEY : Fld := ⟨PRC_CTRL, 13, 2⟩
/-- PRC_STAT, spec/16_startup_power.md/R470,R471. -/
def PRC_STAT : Nat := 0x90010
/-- PRC_STAT.PHASE, bits 2 to 0, RO. -/
def PRC_STAT_PHASE : Fld := ⟨PRC_STAT, 2, 0⟩
/-- PRC_STAT.DP_READY, bits 3 to 3, RO. -/
def PRC_STAT_DP_READY : Fld := ⟨PRC_STAT, 3, 3⟩
/-- PRC_STAT.STANDBY_OK, bits 4 to 4, RO. -/
def PRC_STAT_STANDBY_OK : Fld := ⟨PRC_STAT, 4, 4⟩
/-- PRC_STAT.SLOT, bits 5 to 5, RO. -/
def PRC_STAT_SLOT : Fld := ⟨PRC_STAT, 5, 5⟩
/-- PRC_STRAP, spec/16_startup_power.md/R470,R471. -/
def PRC_STRAP : Nat := 0x90018
/-- PRC_STRAP.RID, bits 5 to 0, RO. -/
def PRC_STRAP_RID : Fld := ⟨PRC_STRAP, 5, 0⟩
/-- PRC_STRAP.REF_FREQ_A, bits 6 to 6, RO. -/
def PRC_STRAP_REF_FREQ_A : Fld := ⟨PRC_STRAP, 6, 6⟩
/-- PRC_STRAP.REF_FREQ_B, bits 7 to 7, RO. -/
def PRC_STRAP_REF_FREQ_B : Fld := ⟨PRC_STRAP, 7, 7⟩
/-- PRC_STRAP.BOOT_FAST, bits 8 to 8, RO. -/
def PRC_STRAP_BOOT_FAST : Fld := ⟨PRC_STRAP, 8, 8⟩
/-- PRC_STRAP.BOOT_HALT, bits 9 to 9, RO. -/
def PRC_STRAP_BOOT_HALT : Fld := ⟨PRC_STRAP, 9, 9⟩
/-- PRC_STRAP.FLASH_SLOW, bits 10 to 10, RO. -/
def PRC_STRAP_FLASH_SLOW : Fld := ⟨PRC_STRAP, 10, 10⟩
/-- PRC_RSTCAUSE, spec/16_startup_power.md/R470,R471. -/
def PRC_RSTCAUSE : Nat := 0x90020
/-- PRC_RSTCAUSE.POWER_ON, bits 0 to 0, RC. -/
def PRC_RSTCAUSE_POWER_ON : Fld := ⟨PRC_RSTCAUSE, 0, 0⟩
/-- PRC_RSTCAUSE.PIN, bits 1 to 1, RC. -/
def PRC_RSTCAUSE_PIN : Fld := ⟨PRC_RSTCAUSE, 1, 1⟩
/-- PRC_RSTCAUSE.SOFTWARE, bits 2 to 2, RC. -/
def PRC_RSTCAUSE_SOFTWARE : Fld := ⟨PRC_RSTCAUSE, 2, 2⟩
/-- PRC_RSTCAUSE.WDOG, bits 3 to 3, RC. -/
def PRC_RSTCAUSE_WDOG : Fld := ⟨PRC_RSTCAUSE, 3, 3⟩
/-- PRC_RSTCAUSE.AON_LOST, bits 4 to 4, RC. -/
def PRC_RSTCAUSE_AON_LOST : Fld := ⟨PRC_RSTCAUSE, 4, 4⟩
/-- PRC_RSTCAUSE.TAMPER, bits 5 to 5, RC. -/
def PRC_RSTCAUSE_TAMPER : Fld := ⟨PRC_RSTCAUSE, 5, 5⟩
/-- PRC_WDOG, spec/16_startup_power.md/R470,R471. -/
def PRC_WDOG : Nat := 0x90028
/-- PRC_WDOG.KICK0, bits 0 to 0, WO. -/
def PRC_WDOG_KICK0 : Fld := ⟨PRC_WDOG, 0, 0⟩
/-- PRC_WDOG.KICK1, bits 1 to 1, WO. -/
def PRC_WDOG_KICK1 : Fld := ⟨PRC_WDOG, 1, 1⟩
/-- PRC_WDOG.TIMEOUT, bits 11 to 2, RW. -/
def PRC_WDOG_TIMEOUT : Fld := ⟨PRC_WDOG, 11, 2⟩
/-- PRC_TELEM0, spec/16_startup_power.md/R470,R471. -/
def PRC_TELEM0 : Nat := 0x90030
/-- PRC_TELEM0.VDD_CORE, bits 11 to 0, RO. -/
def PRC_TELEM0_VDD_CORE : Fld := ⟨PRC_TELEM0, 11, 0⟩
/-- PRC_TELEM0.VDD_EDGE, bits 23 to 12, RO. -/
def PRC_TELEM0_VDD_EDGE : Fld := ⟨PRC_TELEM0, 23, 12⟩
/-- PRC_TELEM0.VDD_SRAM, bits 35 to 24, RO. -/
def PRC_TELEM0_VDD_SRAM : Fld := ⟨PRC_TELEM0, 35, 24⟩
/-- PRC_TELEM1, spec/16_startup_power.md/R470,R471. -/
def PRC_TELEM1 : Nat := 0x90038
/-- PRC_TELEM1.VDD_AON, bits 11 to 0, RO. -/
def PRC_TELEM1_VDD_AON : Fld := ⟨PRC_TELEM1, 11, 0⟩
/-- PRC_TELEM1.TJ, bits 23 to 12, RO. -/
def PRC_TELEM1_TJ : Fld := ⟨PRC_TELEM1, 23, 12⟩
/-- PRC_CLS_CTRL, spec/16_startup_power.md/R470,R471. -/
def PRC_CLS_CTRL (i : Nat) : Nat := 0x90100 + 0x20 * i
/-- PRC_CLS_CTRL.SLEEP, bits 0 to 0, WO. -/
def PRC_CLS_CTRL_SLEEP (i : Nat) : Fld := ⟨(PRC_CLS_CTRL i), 0, 0⟩
/-- PRC_CLS_CTRL.WAKE, bits 1 to 1, WO. -/
def PRC_CLS_CTRL_WAKE (i : Nat) : Fld := ⟨(PRC_CLS_CTRL i), 1, 1⟩
/-- PRC_CLS_CTRL.DEPTH, bits 3 to 2, RW. -/
def PRC_CLS_CTRL_DEPTH (i : Nat) : Fld := ⟨(PRC_CLS_CTRL i), 3, 2⟩
/-- PRC_CLS_CTRL.IDLE, bits 13 to 4, RW. -/
def PRC_CLS_CTRL_IDLE (i : Nat) : Fld := ⟨(PRC_CLS_CTRL i), 13, 4⟩
/-- PRC_CLS_STAT, spec/16_startup_power.md/R470,R471. -/
def PRC_CLS_STAT (i : Nat) : Nat := 0x90108 + 0x20 * i
/-- PRC_CLS_STAT.STATE, bits 2 to 0, RO. -/
def PRC_CLS_STAT_STATE (i : Nat) : Fld := ⟨(PRC_CLS_STAT i), 2, 0⟩
/-- PRC_CLS_STAT.IMG_ERR, bits 3 to 3, W1C. -/
def PRC_CLS_STAT_IMG_ERR (i : Nat) : Fld := ⟨(PRC_CLS_STAT i), 3, 3⟩
/-- PRC_CLS_STAT.WAKES, bits 19 to 4, RO. -/
def PRC_CLS_STAT_WAKES (i : Nat) : Fld := ⟨(PRC_CLS_STAT i), 19, 4⟩
/-- PRC_CLS_STAT.ABORTS, bits 35 to 20, RO. -/
def PRC_CLS_STAT_ABORTS (i : Nat) : Fld := ⟨(PRC_CLS_STAT i), 35, 20⟩
/-- PRC_CLS_IMG, spec/16_startup_power.md/R470,R471. -/
def PRC_CLS_IMG (i : Nat) : Nat := 0x90110 + 0x20 * i
/-- PRC_CLS_IMG.OFFSET, bits 18 to 0, RW. -/
def PRC_CLS_IMG_OFFSET (i : Nat) : Fld := ⟨(PRC_CLS_IMG i), 18, 0⟩
/-- PRC_CLS_IMG.VALID, bits 19 to 19, RW. -/
def PRC_CLS_IMG_VALID (i : Nat) : Fld := ⟨(PRC_CLS_IMG i), 19, 19⟩

/-! ### TMX: spec/20_test_debug.md/R559,R560 -/
/-- TMX_PROFILE, spec/20_test_debug.md/R559,R560. -/
def TMX_PROFILE : Nat := 0xA0000
/-- TMX_PROFILE.PROFILE, bits 7 to 0, RW. -/
def TMX_PROFILE_PROFILE : Fld := ⟨TMX_PROFILE, 7, 0⟩
/-- TMX_MUX, spec/20_test_debug.md/R559,R560. -/
def TMX_MUX (i : Nat) : Nat := 0xA0008 + 8 * i
/-- TMX_MUX.SEL, bits 4 to 0, RW. -/
def TMX_MUX_SEL (i : Nat) : Fld := ⟨(TMX_MUX i), 4, 0⟩
/-- TMX_MUX.ARG, bits 12 to 5, RW. -/
def TMX_MUX_ARG (i : Nat) : Fld := ⟨(TMX_MUX i), 12, 5⟩
/-- TMX_MUX.DIV, bits 16 to 13, RW. -/
def TMX_MUX_DIV (i : Nat) : Fld := ⟨(TMX_MUX i), 16, 13⟩
/-- TMX_MUX.POL, bits 17 to 17, RW. -/
def TMX_MUX_POL (i : Nat) : Fld := ⟨(TMX_MUX i), 17, 17⟩
/-- TMX_STAT, spec/20_test_debug.md/R559,R560. -/
def TMX_STAT : Nat := 0xA0028
/-- TMX_STAT.JTAG_EXT, bits 0 to 0, RO. -/
def TMX_STAT_JTAG_EXT : Fld := ⟨TMX_STAT, 0, 0⟩
/-- TMX_STAT.JTAG_PRIV, bits 1 to 1, RO. -/
def TMX_STAT_JTAG_PRIV : Fld := ⟨TMX_STAT, 1, 1⟩
/-- TMX_DBG_CMD, spec/20_test_debug.md/R559,R560. -/
def TMX_DBG_CMD : Nat := 0xA0040
/-- TMX_DBG_CMD.OP, bits 3 to 0, RW. -/
def TMX_DBG_CMD_OP : Fld := ⟨TMX_DBG_CMD, 3, 0⟩
/-- TMX_DBG_CMD.ENGINE, bits 9 to 4, RW. -/
def TMX_DBG_CMD_ENGINE : Fld := ⟨TMX_DBG_CMD, 9, 4⟩
/-- TMX_DBG_CMD.INDEX, bits 18 to 10, RW. -/
def TMX_DBG_CMD_INDEX : Fld := ⟨TMX_DBG_CMD, 18, 10⟩
/-- TMX_DBG_CMD.BUSY, bits 19 to 19, RO. -/
def TMX_DBG_CMD_BUSY : Fld := ⟨TMX_DBG_CMD, 19, 19⟩
/-- TMX_DBG_CMD.RESULT, bits 21 to 20, RO. -/
def TMX_DBG_CMD_RESULT : Fld := ⟨TMX_DBG_CMD, 21, 20⟩
/-- TMX_DBG_DATA, spec/20_test_debug.md/R559,R560. -/
def TMX_DBG_DATA : Nat := 0xA0048
/-- TMX_DBG_DATA.DATA, bits 35 to 0, RW. -/
def TMX_DBG_DATA_DATA : Fld := ⟨TMX_DBG_DATA, 35, 0⟩
/-- TMX_DBG_HALT, spec/20_test_debug.md/R559,R560. -/
def TMX_DBG_HALT (i : Nat) : Nat := 0xA0050 + 8 * i
/-- TMX_DBG_HALT.HALTED, bits 31 to 0, RO. -/
def TMX_DBG_HALT_HALTED (i : Nat) : Fld := ⟨(TMX_DBG_HALT i), 31, 0⟩
/-- TMX_BIST_CTRL, spec/20_test_debug.md/R559,R560. -/
def TMX_BIST_CTRL : Nat := 0xA0080
/-- TMX_BIST_CTRL.GO, bits 0 to 0, RW. -/
def TMX_BIST_CTRL_GO : Fld := ⟨TMX_BIST_CTRL, 0, 0⟩
/-- TMX_BIST_CTRL.KIND, bits 2 to 1, RW. -/
def TMX_BIST_CTRL_KIND : Fld := ⟨TMX_BIST_CTRL, 2, 1⟩
/-- TMX_BIST_CTRL.TARGET, bits 6 to 3, RW. -/
def TMX_BIST_CTRL_TARGET : Fld := ⟨TMX_BIST_CTRL, 6, 3⟩
/-- TMX_BIST_CTRL.LOOP, bits 7 to 7, RW. -/
def TMX_BIST_CTRL_LOOP : Fld := ⟨TMX_BIST_CTRL, 7, 7⟩
/-- TMX_BIST_STAT, spec/20_test_debug.md/R559,R560. -/
def TMX_BIST_STAT : Nat := 0xA0088
/-- TMX_BIST_STAT.BUSY, bits 0 to 0, RO. -/
def TMX_BIST_STAT_BUSY : Fld := ⟨TMX_BIST_STAT, 0, 0⟩
/-- TMX_BIST_STAT.FAILED, bits 1 to 1, W1C. -/
def TMX_BIST_STAT_FAILED : Fld := ⟨TMX_BIST_STAT, 1, 1⟩
/-- TMX_BIST_STAT.ENGINES, bits 5 to 2, RO. -/
def TMX_BIST_STAT_ENGINES : Fld := ⟨TMX_BIST_STAT, 5, 2⟩
/-- TMX_PRBS_ERR, spec/20_test_debug.md/R559,R560. -/
def TMX_PRBS_ERR : Nat := 0xA0090
/-- TMX_PRBS_ERR.COUNT, bits 35 to 0, RC. -/
def TMX_PRBS_ERR_COUNT : Fld := ⟨TMX_PRBS_ERR, 35, 0⟩

/-! ### MAC: spec/08_ethernet_mac.md/R252,R253 -/
/-- MAC_PROFILE, spec/08_ethernet_mac.md/R252,R253. -/
def MAC_PROFILE (u : Nat) : Nat := 0x100000 + 0x4000 * u
/-- MAC_PROFILE.PROFILE, bits 7 to 0, RW. -/
def MAC_PROFILE_PROFILE (u : Nat) : Fld := ⟨(MAC_PROFILE u), 7, 0⟩
/-- MAC_CTRL, spec/08_ethernet_mac.md/R252,R253. -/
def MAC_CTRL (u : Nat) : Nat := 0x100008 + 0x4000 * u
/-- MAC_CTRL.RESTART, bits 0 to 0, WO. -/
def MAC_CTRL_RESTART (u : Nat) : Fld := ⟨(MAC_CTRL u), 0, 0⟩
/-- MAC_CTRL.LINK_SRC, bits 1 to 1, RW. -/
def MAC_CTRL_LINK_SRC (u : Nat) : Fld := ⟨(MAC_CTRL u), 1, 1⟩
/-- MAC_CTRL.LINK_SW, bits 2 to 2, RW. -/
def MAC_CTRL_LINK_SW (u : Nat) : Fld := ⟨(MAC_CTRL u), 2, 2⟩
/-- MAC_CTRL.UNSUPPRESS, bits 3 to 3, WO. -/
def MAC_CTRL_UNSUPPRESS (u : Nat) : Fld := ⟨(MAC_CTRL u), 3, 3⟩
/-- MAC_MODE, spec/08_ethernet_mac.md/R252,R253. -/
def MAC_MODE (u : Nat) : Nat := 0x100010 + 0x4000 * u
/-- MAC_MODE.MODE, bits 2 to 0, RW. -/
def MAC_MODE_MODE (u : Nat) : Fld := ⟨(MAC_MODE u), 2, 0⟩
/-- MAC_MODE.SPEED, bits 4 to 3, RW. -/
def MAC_MODE_SPEED (u : Nat) : Fld := ⟨(MAC_MODE u), 4, 3⟩
/-- MAC_MODE.DUPLEX, bits 5 to 5, RW. -/
def MAC_MODE_DUPLEX (u : Nat) : Fld := ⟨(MAC_MODE u), 5, 5⟩
/-- MAC_MODE.AN, bits 6 to 6, RW. -/
def MAC_MODE_AN (u : Nat) : Fld := ⟨(MAC_MODE u), 6, 6⟩
/-- MAC_CFG, spec/08_ethernet_mac.md/R252,R253. -/
def MAC_CFG (u : Nat) : Nat := 0x100018 + 0x4000 * u
/-- MAC_CFG.MAX_LEN, bits 13 to 0, RW. -/
def MAC_CFG_MAX_LEN (u : Nat) : Fld := ⟨(MAC_CFG u), 13, 0⟩
/-- MAC_CFG.TIMED, bits 14 to 14, RW. -/
def MAC_CFG_TIMED (u : Nat) : Fld := ⟨(MAC_CFG u), 14, 14⟩
/-- MAC_CFG.RX_PAUSE, bits 15 to 15, RW. -/
def MAC_CFG_RX_PAUSE (u : Nat) : Fld := ⟨(MAC_CFG u), 15, 15⟩
/-- MAC_CFG.PFC_EN, bits 16 to 16, RW. -/
def MAC_CFG_PFC_EN (u : Nat) : Fld := ⟨(MAC_CFG u), 16, 16⟩
/-- MAC_CFG.DONE_Q, bits 24 to 17, RW. -/
def MAC_CFG_DONE_Q (u : Nat) : Fld := ⟨(MAC_CFG u), 24, 17⟩
/-- MAC_CFG.DONE_EN, bits 25 to 25, RW. -/
def MAC_CFG_DONE_EN (u : Nat) : Fld := ⟨(MAC_CFG u), 25, 25⟩
/-- MAC_STAT, spec/08_ethernet_mac.md/R252,R253. -/
def MAC_STAT (u : Nat) : Nat := 0x100020 + 0x4000 * u
/-- MAC_STAT.LINK, bits 2 to 0, RO. -/
def MAC_STAT_LINK (u : Nat) : Fld := ⟨(MAC_STAT u), 2, 0⟩
/-- MAC_STAT.CLASS, bits 4 to 3, RO. -/
def MAC_STAT_CLASS (u : Nat) : Fld := ⟨(MAC_STAT u), 4, 3⟩
/-- MAC_STAT.RATE, bits 7 to 5, RO. -/
def MAC_STAT_RATE (u : Nat) : Fld := ⟨(MAC_STAT u), 7, 5⟩
/-- MAC_STAT.HALF, bits 8 to 8, RO. -/
def MAC_STAT_HALF (u : Nat) : Fld := ⟨(MAC_STAT u), 8, 8⟩
/-- MAC_STAT.PAUSED, bits 9 to 9, RO. -/
def MAC_STAT_PAUSED (u : Nat) : Fld := ⟨(MAC_STAT u), 9, 9⟩
/-- MAC_STAT.PFC_PAUSED, bits 17 to 10, RO. -/
def MAC_STAT_PFC_PAUSED (u : Nat) : Fld := ⟨(MAC_STAT u), 17, 10⟩
/-- MAC_STAT.LPI_TX, bits 18 to 18, RO. -/
def MAC_STAT_LPI_TX (u : Nat) : Fld := ⟨(MAC_STAT u), 18, 18⟩
/-- MAC_STAT.LPI_RX, bits 19 to 19, RO. -/
def MAC_STAT_LPI_RX (u : Nat) : Fld := ⟨(MAC_STAT u), 19, 19⟩
/-- MAC_STAT.STEPPED, bits 20 to 20, RO. -/
def MAC_STAT_STEPPED (u : Nat) : Fld := ⟨(MAC_STAT u), 20, 20⟩
/-- MAC_STAT.STEP_PEER, bits 22 to 21, RO. -/
def MAC_STAT_STEP_PEER (u : Nat) : Fld := ⟨(MAC_STAT u), 22, 21⟩
/-- MAC_STAT.PLCA_OK, bits 23 to 23, RO. -/
def MAC_STAT_PLCA_OK (u : Nat) : Fld := ⟨(MAC_STAT u), 23, 23⟩
/-- MAC_LINK, spec/08_ethernet_mac.md/R252,R253. -/
def MAC_LINK (u : Nat) : Nat := 0x100028 + 0x4000 * u
/-- MAC_LINK.HOLD_DOWN, bits 7 to 0, RW. -/
def MAC_LINK_HOLD_DOWN (u : Nat) : Fld := ⟨(MAC_LINK u), 7, 0⟩
/-- MAC_LINK.QUAL_UP, bits 15 to 8, RW. -/
def MAC_LINK_QUAL_UP (u : Nat) : Fld := ⟨(MAC_LINK u), 15, 8⟩
/-- MAC_FLAP, spec/08_ethernet_mac.md/R252,R253. -/
def MAC_FLAP (u : Nat) : Nat := 0x100030 + 0x4000 * u
/-- MAC_FLAP.FLAP_WIN, bits 7 to 0, RW. -/
def MAC_FLAP_FLAP_WIN (u : Nat) : Fld := ⟨(MAC_FLAP u), 7, 0⟩
/-- MAC_FLAP.FLAP_QUIET, bits 15 to 8, RW. -/
def MAC_FLAP_FLAP_QUIET (u : Nat) : Fld := ⟨(MAC_FLAP u), 15, 8⟩
/-- MAC_FLAP.FLAP_N, bits 19 to 16, RW. -/
def MAC_FLAP_FLAP_N (u : Nat) : Fld := ⟨(MAC_FLAP u), 19, 16⟩
/-- MAC_FLAP.BOUNCE_N, bits 23 to 20, RW. -/
def MAC_FLAP_BOUNCE_N (u : Nat) : Fld := ⟨(MAC_FLAP u), 23, 20⟩
/-- MAC_FLAP.SUPPRESS, bits 24 to 24, RW. -/
def MAC_FLAP_SUPPRESS (u : Nat) : Fld := ⟨(MAC_FLAP u), 24, 24⟩
/-- MAC_PLUG, spec/08_ethernet_mac.md/R252,R253. -/
def MAC_PLUG (u : Nat) : Nat := 0x100038 + 0x4000 * u
/-- MAC_PLUG.UPS, bits 11 to 0, RC. -/
def MAC_PLUG_UPS (u : Nat) : Fld := ⟨(MAC_PLUG u), 11, 0⟩
/-- MAC_PLUG.DOWNS, bits 23 to 12, RC. -/
def MAC_PLUG_DOWNS (u : Nat) : Fld := ⟨(MAC_PLUG u), 23, 12⟩
/-- MAC_PLUG.BOUNCES, bits 35 to 24, RC. -/
def MAC_PLUG_BOUNCES (u : Nat) : Fld := ⟨(MAC_PLUG u), 35, 24⟩
/-- MAC_PAUSE, spec/08_ethernet_mac.md/R252,R253. -/
def MAC_PAUSE (u : Nat) : Nat := 0x100040 + 0x4000 * u
/-- MAC_PAUSE.TX_QUANTA, bits 15 to 0, RW. -/
def MAC_PAUSE_TX_QUANTA (u : Nat) : Fld := ⟨(MAC_PAUSE u), 15, 0⟩
/-- MAC_PAUSE.TX_CLASSES, bits 23 to 16, RW. -/
def MAC_PAUSE_TX_CLASSES (u : Nat) : Fld := ⟨(MAC_PAUSE u), 23, 16⟩
/-- MAC_PAUSE.TX_SEND, bits 24 to 24, WO. -/
def MAC_PAUSE_TX_SEND (u : Nat) : Fld := ⟨(MAC_PAUSE u), 24, 24⟩
/-- MAC_PREEMPT, spec/08_ethernet_mac.md/R252,R253. -/
def MAC_PREEMPT (u : Nat) : Nat := 0x100048 + 0x4000 * u
/-- MAC_PREEMPT.EN, bits 0 to 0, RW. -/
def MAC_PREEMPT_EN (u : Nat) : Fld := ⟨(MAC_PREEMPT u), 0, 0⟩
/-- MAC_PREEMPT.EXPRESS, bits 8 to 1, RW. -/
def MAC_PREEMPT_EXPRESS (u : Nat) : Fld := ⟨(MAC_PREEMPT u), 8, 1⟩
/-- MAC_PREEMPT.ADD_FRAG, bits 10 to 9, RW. -/
def MAC_PREEMPT_ADD_FRAG (u : Nat) : Fld := ⟨(MAC_PREEMPT u), 10, 9⟩
/-- MAC_PREEMPT.VERIFY_DIS, bits 11 to 11, RW. -/
def MAC_PREEMPT_VERIFY_DIS (u : Nat) : Fld := ⟨(MAC_PREEMPT u), 11, 11⟩
/-- MAC_PREEMPT.VERIFY_TIME, bits 18 to 12, RW. -/
def MAC_PREEMPT_VERIFY_TIME (u : Nat) : Fld := ⟨(MAC_PREEMPT u), 18, 12⟩
/-- MAC_PREEMPT.STATUS, bits 21 to 19, RO. -/
def MAC_PREEMPT_STATUS (u : Nat) : Fld := ⟨(MAC_PREEMPT u), 21, 19⟩
/-- MAC_HDX, spec/08_ethernet_mac.md/R252,R253. -/
def MAC_HDX (u : Nat) : Nat := 0x100050 + 0x4000 * u
/-- MAC_HDX.SEED, bits 15 to 0, RW. -/
def MAC_HDX_SEED (u : Nat) : Fld := ⟨(MAC_HDX u), 15, 0⟩
/-- MAC_PLCA, spec/08_ethernet_mac.md/R252,R253. -/
def MAC_PLCA (u : Nat) : Nat := 0x100058 + 0x4000 * u
/-- MAC_PLCA.EN, bits 0 to 0, RW. -/
def MAC_PLCA_EN (u : Nat) : Fld := ⟨(MAC_PLCA u), 0, 0⟩
/-- MAC_PLCA.NODE_ID, bits 8 to 1, RW. -/
def MAC_PLCA_NODE_ID (u : Nat) : Fld := ⟨(MAC_PLCA u), 8, 1⟩
/-- MAC_PLCA.NODE_CNT, bits 16 to 9, RW. -/
def MAC_PLCA_NODE_CNT (u : Nat) : Fld := ⟨(MAC_PLCA u), 16, 9⟩
/-- MAC_PLCA.TO_TIMER, bits 24 to 17, RW. -/
def MAC_PLCA_TO_TIMER (u : Nat) : Fld := ⟨(MAC_PLCA u), 24, 17⟩
/-- MAC_PLCA.BURST_CNT, bits 32 to 25, RW. -/
def MAC_PLCA_BURST_CNT (u : Nat) : Fld := ⟨(MAC_PLCA u), 32, 25⟩
/-- MAC_PLCA_B, spec/08_ethernet_mac.md/R252,R253. -/
def MAC_PLCA_B (u : Nat) : Nat := 0x100060 + 0x4000 * u
/-- MAC_PLCA_B.BURST_TMR, bits 7 to 0, RW. -/
def MAC_PLCA_B_BURST_TMR (u : Nat) : Fld := ⟨(MAC_PLCA_B u), 7, 0⟩
/-- MAC_LPI, spec/08_ethernet_mac.md/R252,R253. -/
def MAC_LPI (u : Nat) : Nat := 0x100068 + 0x4000 * u
/-- MAC_LPI.EN, bits 0 to 0, RW. -/
def MAC_LPI_EN (u : Nat) : Fld := ⟨(MAC_LPI u), 0, 0⟩
/-- MAC_LPI.IDLE, bits 12 to 1, RW. -/
def MAC_LPI_IDLE (u : Nat) : Fld := ⟨(MAC_LPI u), 12, 1⟩
/-- MAC_LPI.WAKE, bits 20 to 13, RW. -/
def MAC_LPI_WAKE (u : Nat) : Fld := ⟨(MAC_LPI u), 20, 13⟩
/-- MAC_STEP, spec/08_ethernet_mac.md/R252,R253. -/
def MAC_STEP (u : Nat) : Nat := 0x100070 + 0x4000 * u
/-- MAC_STEP.EN, bits 0 to 0, RW. -/
def MAC_STEP_EN (u : Nat) : Fld := ⟨(MAC_STEP u), 0, 0⟩
/-- MAC_STEP.LOW, bits 7 to 1, RW. -/
def MAC_STEP_LOW (u : Nat) : Fld := ⟨(MAC_STEP u), 7, 1⟩
/-- MAC_STEP.HIGH, bits 14 to 8, RW. -/
def MAC_STEP_HIGH (u : Nat) : Fld := ⟨(MAC_STEP u), 14, 8⟩
/-- MAC_STEP.HOLD, bits 22 to 15, RW. -/
def MAC_STEP_HOLD (u : Nat) : Fld := ⟨(MAC_STEP u), 22, 15⟩
/-- MAC_EVTSTAT, spec/08_ethernet_mac.md/R252,R253. -/
def MAC_EVTSTAT (u : Nat) : Nat := 0x100078 + 0x4000 * u
/-- MAC_EVTSTAT.EVT, bits 5 to 0, W1C. -/
def MAC_EVTSTAT_EVT (u : Nat) : Fld := ⟨(MAC_EVTSTAT u), 5, 0⟩
/-- MAC_ADDR_HI, spec/08_ethernet_mac.md/R252,R253. -/
def MAC_ADDR_HI (u i : Nat) : Nat := 0x100080 + 0x4000 * u + 0x10 * i
/-- MAC_ADDR_HI.ADDR_HI, bits 15 to 0, RW. -/
def MAC_ADDR_HI_ADDR_HI (u i : Nat) : Fld := ⟨(MAC_ADDR_HI u i), 15, 0⟩
/-- MAC_ADDR_HI.EN, bits 16 to 16, RW. -/
def MAC_ADDR_HI_EN (u i : Nat) : Fld := ⟨(MAC_ADDR_HI u i), 16, 16⟩
/-- MAC_ADDR_HI.DEST, bits 17 to 17, RW. -/
def MAC_ADDR_HI_DEST (u i : Nat) : Fld := ⟨(MAC_ADDR_HI u i), 17, 17⟩
/-- MAC_ADDR_LO, spec/08_ethernet_mac.md/R252,R253. -/
def MAC_ADDR_LO (u i : Nat) : Nat := 0x100088 + 0x4000 * u + 0x10 * i
/-- MAC_ADDR_LO.ADDR_LO, bits 31 to 0, RW. -/
def MAC_ADDR_LO_ADDR_LO (u i : Nat) : Fld := ⟨(MAC_ADDR_LO u i), 31, 0⟩
/-- MAC_CNT, spec/08_ethernet_mac.md/R250. -/
def MAC_CNT (u i : Nat) : Nat := 0x100800 + 0x4000 * u + 8 * i
/-- MAC_CNT.COUNT, bits 35 to 0, RO. -/
def MAC_CNT_COUNT (u i : Nat) : Fld := ⟨(MAC_CNT u i), 35, 0⟩
/-- MAC_SUMMARY, spec/08_ethernet_mac.md/R252,R253. -/
def MAC_SUMMARY (u : Nat) : Nat := 0x103F00 + 0x4000 * u
/-- MAC_SUMMARY.PORTS, bits 17 to 0, RO. -/
def MAC_SUMMARY_PORTS (u : Nat) : Fld := ⟨(MAC_SUMMARY u), 17, 0⟩
/-- MAC_TS_CFG, spec/09_timestamping_ptp.md/R275,R276. -/
def MAC_TS_CFG (u : Nat) : Nat := 0x101000 + 0x4000 * u
/-- MAC_TS_CFG.TC_MODE, bits 1 to 0, RW. -/
def MAC_TS_CFG_TC_MODE (u : Nat) : Fld := ⟨(MAC_TS_CFG u), 1, 0⟩
/-- MAC_TS_CFG.TX_AUTO, bits 5 to 2, RW. -/
def MAC_TS_CFG_TX_AUTO (u : Nat) : Fld := ⟨(MAC_TS_CFG u), 5, 2⟩
/-- MAC_TS_CFG.IPV6_TRAIL, bits 6 to 6, RW. -/
def MAC_TS_CFG_IPV6_TRAIL (u : Nat) : Fld := ⟨(MAC_TS_CFG u), 6, 6⟩
/-- MAC_TS_CFG.RES_MAX, bits 23 to 8, RW. -/
def MAC_TS_CFG_RES_MAX (u : Nat) : Fld := ⟨(MAC_TS_CFG u), 23, 8⟩
/-- MAC_TS_RXADJ, spec/09_timestamping_ptp.md/R275,R276. -/
def MAC_TS_RXADJ (u : Nat) : Nat := 0x101008 + 0x4000 * u
/-- MAC_TS_RXADJ.ADJ, bits 15 to 0, RW. -/
def MAC_TS_RXADJ_ADJ (u : Nat) : Fld := ⟨(MAC_TS_RXADJ u), 15, 0⟩
/-- MAC_TS_TXADJ, spec/09_timestamping_ptp.md/R275,R276. -/
def MAC_TS_TXADJ (u : Nat) : Nat := 0x101010 + 0x4000 * u
/-- MAC_TS_TXADJ.ADJ, bits 15 to 0, RW. -/
def MAC_TS_TXADJ_ADJ (u : Nat) : Fld := ⟨(MAC_TS_TXADJ u), 15, 0⟩
/-- MAC_TS_LINKDLY, spec/09_timestamping_ptp.md/R275,R276. -/
def MAC_TS_LINKDLY (u : Nat) : Nat := 0x101018 + 0x4000 * u
/-- MAC_TS_LINKDLY.DLY, bits 27 to 0, RW. -/
def MAC_TS_LINKDLY_DLY (u : Nat) : Fld := ⟨(MAC_TS_LINKDLY u), 27, 0⟩
/-- MAC_TS_CONST, spec/09_timestamping_ptp.md/R255,R276. -/
def MAC_TS_CONST (u : Nat) : Nat := 0x101020 + 0x4000 * u
/-- MAC_TS_CONST.RX_CORR, bits 17 to 0, RO. -/
def MAC_TS_CONST_RX_CORR (u : Nat) : Fld := ⟨(MAC_TS_CONST u), 17, 0⟩
/-- MAC_TS_CONST.TX_CORR, bits 35 to 18, RO. -/
def MAC_TS_CONST_TX_CORR (u : Nat) : Fld := ⟨(MAC_TS_CONST u), 35, 18⟩
/-- MAC_TS_TXHEAD, spec/09_timestamping_ptp.md/R275,R276. -/
def MAC_TS_TXHEAD (u : Nat) : Nat := 0x101028 + 0x4000 * u
/-- MAC_TS_TXHEAD.COUNT, bits 5 to 0, RO. -/
def MAC_TS_TXHEAD_COUNT (u : Nat) : Fld := ⟨(MAC_TS_TXHEAD u), 5, 0⟩
/-- MAC_TS_TXHEAD.STATUS, bits 7 to 6, RO. -/
def MAC_TS_TXHEAD_STATUS (u : Nat) : Fld := ⟨(MAC_TS_TXHEAD u), 7, 6⟩
/-- MAC_TS_TXHEAD.SRC, bits 8 to 8, RO. -/
def MAC_TS_TXHEAD_SRC (u : Nat) : Fld := ⟨(MAC_TS_TXHEAD u), 8, 8⟩
/-- MAC_TS_TXHEAD.MSGTYPE, bits 12 to 9, RO. -/
def MAC_TS_TXHEAD_MSGTYPE (u : Nat) : Fld := ⟨(MAC_TS_TXHEAD u), 12, 9⟩
/-- MAC_TS_TXHEAD.TAG, bits 28 to 13, RO. -/
def MAC_TS_TXHEAD_TAG (u : Nat) : Fld := ⟨(MAC_TS_TXHEAD u), 28, 13⟩
/-- MAC_TS_TXPOP, spec/09_timestamping_ptp.md/R275,R276. -/
def MAC_TS_TXPOP (u : Nat) : Nat := 0x101030 + 0x4000 * u
/-- MAC_TS_TXPOP.TSW, bits 35 to 0, RO. -/
def MAC_TS_TXPOP_TSW (u : Nat) : Fld := ⟨(MAC_TS_TXPOP u), 35, 0⟩
/-- MAC_TS_TXLOST, spec/09_timestamping_ptp.md/R275,R276. -/
def MAC_TS_TXLOST (u : Nat) : Nat := 0x101038 + 0x4000 * u
/-- MAC_TS_TXLOST.LOST, bits 19 to 0, RC. -/
def MAC_TS_TXLOST_LOST (u : Nat) : Fld := ⟨(MAC_TS_TXLOST u), 19, 0⟩
/-- MAC_TS_STAT, spec/09_timestamping_ptp.md/R275,R276. -/
def MAC_TS_STAT (u : Nat) : Nat := 0x101040 + 0x4000 * u
/-- MAC_TS_STAT.TXTS_OVF, bits 0 to 0, W1C. -/
def MAC_TS_STAT_TXTS_OVF (u : Nat) : Fld := ⟨(MAC_TS_STAT u), 0, 0⟩
/-- MAC_TS_STAT.ONESTEP_ERR, bits 1 to 1, W1C. -/
def MAC_TS_STAT_ONESTEP_ERR (u : Nat) : Fld := ⟨(MAC_TS_STAT u), 1, 1⟩
/-- MAC_TS_STAT.TC_DROP, bits 2 to 2, W1C. -/
def MAC_TS_STAT_TC_DROP (u : Nat) : Fld := ⟨(MAC_TS_STAT u), 2, 2⟩
/-- MAC_TS_CNT, spec/09_timestamping_ptp.md/R275,R276. -/
def MAC_TS_CNT (u i : Nat) : Nat := 0x101080 + 0x4000 * u + 8 * i
/-- MAC_TS_CNT.COUNT, bits 35 to 0, RO. -/
def MAC_TS_CNT_COUNT (u i : Nat) : Fld := ⟨(MAC_TS_CNT u i), 35, 0⟩
/-- MAC_TS_SUMMARY, spec/09_timestamping_ptp.md/R275,R276. -/
def MAC_TS_SUMMARY (u : Nat) : Nat := 0x103F08 + 0x4000 * u
/-- MAC_TS_SUMMARY.PORTS, bits 17 to 0, RO. -/
def MAC_TS_SUMMARY_PORTS (u : Nat) : Fld := ⟨(MAC_TS_SUMMARY u), 17, 0⟩

/-! ### SWC: spec/10_massif_switch.md/R314,R315 -/
/-- SWC_PROFILE, spec/10_massif_switch.md/R314,R315. -/
def SWC_PROFILE : Nat := 0x180000
/-- SWC_PROFILE.PROFILE, bits 7 to 0, RW. -/
def SWC_PROFILE_PROFILE : Fld := ⟨SWC_PROFILE, 7, 0⟩
/-- SWC_CTRL, spec/10_massif_switch.md/R314,R315. -/
def SWC_CTRL : Nat := 0x180008
/-- SWC_CTRL.TXQ, bits 7 to 0, RW. -/
def SWC_CTRL_TXQ : Fld := ⟨SWC_CTRL, 7, 0⟩
/-- SWC_CTRL.TXQ_EN, bits 8 to 8, RW. -/
def SWC_CTRL_TXQ_EN : Fld := ⟨SWC_CTRL, 8, 8⟩
/-- SWC_CTRL.FLUSH_DYN, bits 9 to 9, WO. -/
def SWC_CTRL_FLUSH_DYN : Fld := ⟨SWC_CTRL, 9, 9⟩
/-- SWC_LIMITS, spec/10_massif_switch.md/R314,R315. -/
def SWC_LIMITS : Nat := 0x180010
/-- SWC_LIMITS.AGE, bits 9 to 0, RW. -/
def SWC_LIMITS_AGE : Fld := ⟨SWC_LIMITS, 9, 0⟩
/-- SWC_LIMITS.FORGET, bits 19 to 10, RW. -/
def SWC_LIMITS_FORGET : Fld := ⟨SWC_LIMITS, 19, 10⟩
/-- SWC_LIMITS.MAX_WAIT, bits 27 to 20, RW. -/
def SWC_LIMITS_MAX_WAIT : Fld := ⟨SWC_LIMITS, 27, 20⟩
/-- SWC_FAB_STAT, spec/10_massif_switch.md/R314,R315. -/
def SWC_FAB_STAT : Nat := 0x180018
/-- SWC_FAB_STAT.MIDS, bits 31 to 0, RO. -/
def SWC_FAB_STAT_MIDS : Fld := ⟨SWC_FAB_STAT, 31, 0⟩
/-- SWC_FAB_SPARE, spec/10_massif_switch.md/R314,R315. -/
def SWC_FAB_SPARE : Nat := 0x180020
/-- SWC_FAB_SPARE.SUBST, bits 4 to 0, RO. -/
def SWC_FAB_SPARE_SUBST : Fld := ⟨SWC_FAB_SPARE, 4, 0⟩
/-- SWC_FAB_SPARE.USED, bits 5 to 5, RO. -/
def SWC_FAB_SPARE_USED : Fld := ⟨SWC_FAB_SPARE, 5, 5⟩
/-- SWC_CELL_STAT, spec/10_massif_switch.md/R314,R315. -/
def SWC_CELL_STAT : Nat := 0x180028
/-- SWC_CELL_STAT.LOST, bits 15 to 0, RC. -/
def SWC_CELL_STAT_LOST : Fld := ⟨SWC_CELL_STAT, 15, 0⟩
/-- SWC_CELL_STAT.LATE_CELL, bits 31 to 16, RC. -/
def SWC_CELL_STAT_LATE_CELL : Fld := ⟨SWC_CELL_STAT, 31, 16⟩
/-- SWC_FDB_CMD, spec/10_massif_switch.md/R314,R315. -/
def SWC_FDB_CMD : Nat := 0x180030
/-- SWC_FDB_CMD.OP, bits 2 to 0, WO. -/
def SWC_FDB_CMD_OP : Fld := ⟨SWC_FDB_CMD, 2, 0⟩
/-- SWC_FDB_CMD.INDEX, bits 16 to 3, RW. -/
def SWC_FDB_CMD_INDEX : Fld := ⟨SWC_FDB_CMD, 16, 3⟩
/-- SWC_FDB_CMD.BUSY, bits 17 to 17, RO. -/
def SWC_FDB_CMD_BUSY : Fld := ⟨SWC_FDB_CMD, 17, 17⟩
/-- SWC_FDB_CMD.FOUND, bits 18 to 18, RO. -/
def SWC_FDB_CMD_FOUND : Fld := ⟨SWC_FDB_CMD, 18, 18⟩
/-- SWC_FDB_CMD.FULL, bits 19 to 19, RO. -/
def SWC_FDB_CMD_FULL : Fld := ⟨SWC_FDB_CMD, 19, 19⟩
/-- SWC_FDB_KEY0, spec/10_massif_switch.md/R314,R315. -/
def SWC_FDB_KEY0 : Nat := 0x180038
/-- SWC_FDB_KEY0.ADDR_LO, bits 31 to 0, RW. -/
def SWC_FDB_KEY0_ADDR_LO : Fld := ⟨SWC_FDB_KEY0, 31, 0⟩
/-- SWC_FDB_KEY1, spec/10_massif_switch.md/R314,R315. -/
def SWC_FDB_KEY1 : Nat := 0x180040
/-- SWC_FDB_KEY1.ADDR_HI, bits 15 to 0, RW. -/
def SWC_FDB_KEY1_ADDR_HI : Fld := ⟨SWC_FDB_KEY1, 15, 0⟩
/-- SWC_FDB_KEY1.VID, bits 27 to 16, RW. -/
def SWC_FDB_KEY1_VID : Fld := ⟨SWC_FDB_KEY1, 27, 16⟩
/-- SWC_FDB_DATA, spec/10_massif_switch.md/R314,R315. -/
def SWC_FDB_DATA : Nat := 0x180048
/-- SWC_FDB_DATA.DEST, bits 21 to 0, RW. -/
def SWC_FDB_DATA_DEST : Fld := ⟨SWC_FDB_DATA, 21, 0⟩
/-- SWC_FDB_DATA.STATIC, bits 22 to 22, RW. -/
def SWC_FDB_DATA_STATIC : Fld := ⟨SWC_FDB_DATA, 22, 22⟩
/-- SWC_FDB_DATA.VALID, bits 23 to 23, RO. -/
def SWC_FDB_DATA_VALID : Fld := ⟨SWC_FDB_DATA, 23, 23⟩
/-- SWC_FDB_DATA.DROP, bits 24 to 24, RW. -/
def SWC_FDB_DATA_DROP : Fld := ⟨SWC_FDB_DATA, 24, 24⟩
/-- SWC_VLAN_CMD, spec/10_massif_switch.md/R314,R315. -/
def SWC_VLAN_CMD : Nat := 0x180050
/-- SWC_VLAN_CMD.VID, bits 11 to 0, WO. -/
def SWC_VLAN_CMD_VID : Fld := ⟨SWC_VLAN_CMD, 11, 0⟩
/-- SWC_VLAN_CMD.OP, bits 13 to 12, WO. -/
def SWC_VLAN_CMD_OP : Fld := ⟨SWC_VLAN_CMD, 13, 12⟩
/-- SWC_VLAN_DATA0, spec/10_massif_switch.md/R314,R315. -/
def SWC_VLAN_DATA0 : Nat := 0x180058
/-- SWC_VLAN_DATA0.MEMBER, bits 19 to 0, RW. -/
def SWC_VLAN_DATA0_MEMBER : Fld := ⟨SWC_VLAN_DATA0, 19, 0⟩
/-- SWC_VLAN_DATA0.FLOOD, bits 20 to 20, RW. -/
def SWC_VLAN_DATA0_FLOOD : Fld := ⟨SWC_VLAN_DATA0, 20, 20⟩
/-- SWC_VLAN_DATA0.LEARN, bits 21 to 21, RW. -/
def SWC_VLAN_DATA0_LEARN : Fld := ⟨SWC_VLAN_DATA0, 21, 21⟩
/-- SWC_VLAN_DATA0.VALID, bits 22 to 22, RW. -/
def SWC_VLAN_DATA0_VALID : Fld := ⟨SWC_VLAN_DATA0, 22, 22⟩
/-- SWC_VLAN_DATA1, spec/10_massif_switch.md/R314,R315. -/
def SWC_VLAN_DATA1 : Nat := 0x180060
/-- SWC_VLAN_DATA1.UNTAG, bits 17 to 0, RW. -/
def SWC_VLAN_DATA1_UNTAG : Fld := ⟨SWC_VLAN_DATA1, 17, 0⟩
/-- SWC_QCI_CMD, spec/10_massif_switch.md/R314,R315. -/
def SWC_QCI_CMD : Nat := 0x180068
/-- SWC_QCI_CMD.OP, bits 1 to 0, WO. -/
def SWC_QCI_CMD_OP : Fld := ⟨SWC_QCI_CMD, 1, 0⟩
/-- SWC_QCI_CMD.TABLE, bits 2 to 2, WO. -/
def SWC_QCI_CMD_TABLE : Fld := ⟨SWC_QCI_CMD, 2, 2⟩
/-- SWC_QCI_CMD.INDEX, bits 12 to 3, WO. -/
def SWC_QCI_CMD_INDEX : Fld := ⟨SWC_QCI_CMD, 12, 3⟩
/-- SWC_QCI_DATA0, spec/10_massif_switch.md/R314,R315. -/
def SWC_QCI_DATA0 : Nat := 0x180070
/-- SWC_QCI_DATA0.ADDR_LO, bits 31 to 0, RW. -/
def SWC_QCI_DATA0_ADDR_LO : Fld := ⟨SWC_QCI_DATA0, 31, 0⟩
/-- SWC_QCI_DATA1, spec/10_massif_switch.md/R314,R315. -/
def SWC_QCI_DATA1 : Nat := 0x180078
/-- SWC_QCI_DATA1.ADDR_HI, bits 15 to 0, RW. -/
def SWC_QCI_DATA1_ADDR_HI : Fld := ⟨SWC_QCI_DATA1, 15, 0⟩
/-- SWC_QCI_DATA1.VID, bits 27 to 16, RW. -/
def SWC_QCI_DATA1_VID : Fld := ⟨SWC_QCI_DATA1, 27, 16⟩
/-- SWC_QCI_DATA1.MODE, bits 29 to 28, RW. -/
def SWC_QCI_DATA1_MODE : Fld := ⟨SWC_QCI_DATA1, 29, 28⟩
/-- SWC_QCI_DATA1.PORT, bits 34 to 30, RW. -/
def SWC_QCI_DATA1_PORT : Fld := ⟨SWC_QCI_DATA1, 34, 30⟩
/-- SWC_QCI_DATA1.EN, bits 35 to 35, RW. -/
def SWC_QCI_DATA1_EN : Fld := ⟨SWC_QCI_DATA1, 35, 35⟩
/-- SWC_QCI_DATA2, spec/10_massif_switch.md/R314,R315. -/
def SWC_QCI_DATA2 : Nat := 0x180080
/-- SWC_QCI_DATA2.MAX_SDU, bits 13 to 0, RW. -/
def SWC_QCI_DATA2_MAX_SDU : Fld := ⟨SWC_QCI_DATA2, 13, 0⟩
/-- SWC_QCI_DATA2.GATE_PORT, bits 18 to 14, RW. -/
def SWC_QCI_DATA2_GATE_PORT : Fld := ⟨SWC_QCI_DATA2, 18, 14⟩
/-- SWC_QCI_DATA2.GATE_CLASS, bits 21 to 19, RW. -/
def SWC_QCI_DATA2_GATE_CLASS : Fld := ⟨SWC_QCI_DATA2, 21, 19⟩
/-- SWC_QCI_DATA2.GATE_EN, bits 22 to 22, RW. -/
def SWC_QCI_DATA2_GATE_EN : Fld := ⟨SWC_QCI_DATA2, 22, 22⟩
/-- SWC_QCI_DATA2.METER, bits 30 to 23, RW. -/
def SWC_QCI_DATA2_METER : Fld := ⟨SWC_QCI_DATA2, 30, 23⟩
/-- SWC_QCI_DATA2.METER_EN, bits 31 to 31, RW. -/
def SWC_QCI_DATA2_METER_EN : Fld := ⟨SWC_QCI_DATA2, 31, 31⟩
/-- SWC_QCI_DATA2.BLOCK_OVERSIZE, bits 32 to 32, RW. -/
def SWC_QCI_DATA2_BLOCK_OVERSIZE : Fld := ⟨SWC_QCI_DATA2, 32, 32⟩
/-- SWC_QCI_DATA2.BLOCKED, bits 33 to 33, RW. -/
def SWC_QCI_DATA2_BLOCKED : Fld := ⟨SWC_QCI_DATA2, 33, 33⟩
/-- SWC_QCI_DATA2.MIRROR, bits 34 to 34, RW. -/
def SWC_QCI_DATA2_MIRROR : Fld := ⟨SWC_QCI_DATA2, 34, 34⟩
/-- SWC_MIRROR, spec/10_massif_switch.md/R314,R315. -/
def SWC_MIRROR : Nat := 0x180088
/-- SWC_MIRROR.PORT, bits 4 to 0, RW. -/
def SWC_MIRROR_PORT : Fld := ⟨SWC_MIRROR, 4, 0⟩
/-- SWC_MIRROR.EN, bits 5 to 5, RW. -/
def SWC_MIRROR_EN : Fld := ⟨SWC_MIRROR, 5, 5⟩
/-- SWC_MIRROR.N, bits 21 to 6, RW. -/
def SWC_MIRROR_N : Fld := ⟨SWC_MIRROR, 21, 6⟩
/-- SWC_MIRROR.MCLASS, bits 24 to 22, RW. -/
def SWC_MIRROR_MCLASS : Fld := ⟨SWC_MIRROR, 24, 22⟩
/-- SWC_PCFG, spec/10_massif_switch.md/R314,R315. -/
def SWC_PCFG (i : Nat) : Nat := 0x181000 + 0x100 * i
/-- SWC_PCFG.EN, bits 0 to 0, RW. -/
def SWC_PCFG_EN (i : Nat) : Fld := ⟨(SWC_PCFG i), 0, 0⟩
/-- SWC_PCFG.LEARN, bits 1 to 1, RW. -/
def SWC_PCFG_LEARN (i : Nat) : Fld := ⟨(SWC_PCFG i), 1, 1⟩
/-- SWC_PCFG.CUT, bits 2 to 2, RW. -/
def SWC_PCFG_CUT (i : Nat) : Fld := ⟨(SWC_PCFG i), 2, 2⟩
/-- SWC_PCFG.INGRESS_FILTER, bits 3 to 3, RW. -/
def SWC_PCFG_INGRESS_FILTER (i : Nat) : Fld := ⟨(SWC_PCFG i), 3, 3⟩
/-- SWC_PCFG.LL_DEST, bits 4 to 4, RW. -/
def SWC_PCFG_LL_DEST (i : Nat) : Fld := ⟨(SWC_PCFG i), 4, 4⟩
/-- SWC_PCFG.REMOVE_RCT, bits 6 to 6, RW. -/
def SWC_PCFG_REMOVE_RCT (i : Nat) : Fld := ⟨(SWC_PCFG i), 6, 6⟩
/-- SWC_PCFG.MIRROR_RX, bits 7 to 7, RW. -/
def SWC_PCFG_MIRROR_RX (i : Nat) : Fld := ⟨(SWC_PCFG i), 7, 7⟩
/-- SWC_PCFG.MIRROR_TX, bits 8 to 8, RW. -/
def SWC_PCFG_MIRROR_TX (i : Nat) : Fld := ⟨(SWC_PCFG i), 8, 8⟩
/-- SWC_PCFG.LAT, bits 21 to 9, RW. -/
def SWC_PCFG_LAT (i : Nat) : Fld := ⟨(SWC_PCFG i), 21, 9⟩
/-- SWC_PVLAN, spec/10_massif_switch.md/R314,R315. -/
def SWC_PVLAN (i : Nat) : Nat := 0x181008 + 0x100 * i
/-- SWC_PVLAN.PVID, bits 11 to 0, RW. -/
def SWC_PVLAN_PVID (i : Nat) : Fld := ⟨(SWC_PVLAN i), 11, 0⟩
/-- SWC_PVLAN.CLASSMAP, bits 35 to 12, RW. -/
def SWC_PVLAN_CLASSMAP (i : Nat) : Fld := ⟨(SWC_PVLAN i), 35, 12⟩
/-- SWC_PBUF, spec/10_massif_switch.md/R314,R315. -/
def SWC_PBUF (i : Nat) : Nat := 0x181010 + 0x100 * i
/-- SWC_PBUF.LIMIT, bits 16 to 0, RW. -/
def SWC_PBUF_LIMIT (i : Nat) : Fld := ⟨(SWC_PBUF i), 16, 0⟩
/-- SWC_PBUF.RESERVE, bits 29 to 17, RW. -/
def SWC_PBUF_RESERVE (i : Nat) : Fld := ⟨(SWC_PBUF i), 29, 17⟩
/-- SWC_PBUF.HIGH_CLASS, bits 32 to 30, RW. -/
def SWC_PBUF_HIGH_CLASS (i : Nat) : Fld := ⟨(SWC_PBUF i), 32, 30⟩
/-- SWC_PFLOW, spec/10_massif_switch.md/R314,R315. -/
def SWC_PFLOW (i : Nat) : Nat := 0x181018 + 0x100 * i
/-- SWC_PFLOW.XOFF, bits 15 to 0, RW. -/
def SWC_PFLOW_XOFF (i : Nat) : Fld := ⟨(SWC_PFLOW i), 15, 0⟩
/-- SWC_PFLOW.XON, bits 31 to 16, RW. -/
def SWC_PFLOW_XON (i : Nat) : Fld := ⟨(SWC_PFLOW i), 31, 16⟩
/-- SWC_PFLOW.FC_EN, bits 32 to 32, RW. -/
def SWC_PFLOW_FC_EN (i : Nat) : Fld := ⟨(SWC_PFLOW i), 32, 32⟩
/-- SWC_GCTL, spec/10_massif_switch.md/R314,R315. -/
def SWC_GCTL (i : Nat) : Nat := 0x181020 + 0x100 * i
/-- SWC_GCTL.EN, bits 0 to 0, RW. -/
def SWC_GCTL_EN (i : Nat) : Fld := ⟨(SWC_GCTL i), 0, 0⟩
/-- SWC_GCTL.LEN, bits 8 to 1, RW. -/
def SWC_GCTL_LEN (i : Nat) : Fld := ⟨(SWC_GCTL i), 8, 1⟩
/-- SWC_GCTL.OPER, bits 9 to 9, RO. -/
def SWC_GCTL_OPER (i : Nat) : Fld := ⟨(SWC_GCTL i), 9, 9⟩
/-- SWC_GCTL.CHANGE, bits 10 to 10, WO. -/
def SWC_GCTL_CHANGE (i : Nat) : Fld := ⟨(SWC_GCTL i), 10, 10⟩
/-- SWC_GCTL.PENDING, bits 11 to 11, RO. -/
def SWC_GCTL_PENDING (i : Nat) : Fld := ⟨(SWC_GCTL i), 11, 11⟩
/-- SWC_GCTL.CANCEL, bits 12 to 12, WO. -/
def SWC_GCTL_CANCEL (i : Nat) : Fld := ⟨(SWC_GCTL i), 12, 12⟩
/-- SWC_GBASE, spec/10_massif_switch.md/R314,R315. -/
def SWC_GBASE (i : Nat) : Nat := 0x181028 + 0x100 * i
/-- SWC_GBASE.BASE, bits 35 to 0, RW. -/
def SWC_GBASE_BASE (i : Nat) : Fld := ⟨(SWC_GBASE i), 35, 0⟩
/-- SWC_GCL_ADDR, spec/10_massif_switch.md/R314,R315. -/
def SWC_GCL_ADDR (i : Nat) : Nat := 0x181030 + 0x100 * i
/-- SWC_GCL_ADDR.ENTRY, bits 7 to 0, RW. -/
def SWC_GCL_ADDR_ENTRY (i : Nat) : Fld := ⟨(SWC_GCL_ADDR i), 7, 0⟩
/-- SWC_GCL_ADDR.BANK, bits 8 to 8, RW. -/
def SWC_GCL_ADDR_BANK (i : Nat) : Fld := ⟨(SWC_GCL_ADDR i), 8, 8⟩
/-- SWC_GCL_DATA, spec/10_massif_switch.md/R314,R315. -/
def SWC_GCL_DATA (i : Nat) : Nat := 0x181038 + 0x100 * i
/-- SWC_GCL_DATA.GATES, bits 7 to 0, RW. -/
def SWC_GCL_DATA_GATES (i : Nat) : Fld := ⟨(SWC_GCL_DATA i), 7, 0⟩
/-- SWC_GCL_DATA.INTERVAL, bits 35 to 8, RW. -/
def SWC_GCL_DATA_INTERVAL (i : Nat) : Fld := ⟨(SWC_GCL_DATA i), 35, 8⟩
/-- SWC_GSTAT, spec/10_massif_switch.md/R314,R315. -/
def SWC_GSTAT (i : Nat) : Nat := 0x181040 + 0x100 * i
/-- SWC_GSTAT.GATE_ERR, bits 0 to 0, W1C. -/
def SWC_GSTAT_GATE_ERR (i : Nat) : Fld := ⟨(SWC_GSTAT i), 0, 0⟩
/-- SWC_GSTAT.GATES, bits 8 to 1, RO. -/
def SWC_GSTAT_GATES (i : Nat) : Fld := ⟨(SWC_GSTAT i), 8, 1⟩
/-- SWC_PCNT, spec/10_massif_switch.md/R314,R315. -/
def SWC_PCNT (i j : Nat) : Nat := 0x181080 + 0x100 * i + 8 * j
/-- SWC_PCNT.COUNT, bits 35 to 0, RO. -/
def SWC_PCNT_COUNT (i j : Nat) : Fld := ⟨(SWC_PCNT i j), 35, 0⟩
/-- SWC_RPCFG, spec/10_massif_switch.md/R314,R315. -/
def SWC_RPCFG (i : Nat) : Nat := 0x183000 + 0x80 * i
/-- SWC_RPCFG.EN, bits 0 to 0, RW. -/
def SWC_RPCFG_EN (i : Nat) : Fld := ⟨(SWC_RPCFG i), 0, 0⟩
/-- SWC_RPCFG.MODE, bits 1 to 1, RW. -/
def SWC_RPCFG_MODE (i : Nat) : Fld := ⟨(SWC_RPCFG i), 1, 1⟩
/-- SWC_RPCFG.PORT_A, bits 5 to 2, RW. -/
def SWC_RPCFG_PORT_A (i : Nat) : Fld := ⟨(SWC_RPCFG i), 5, 2⟩
/-- SWC_RPCFG.PORT_B, bits 9 to 6, RW. -/
def SWC_RPCFG_PORT_B (i : Nat) : Fld := ⟨(SWC_RPCFG i), 9, 6⟩
/-- SWC_RPSEQ, spec/10_massif_switch.md/R314,R315. -/
def SWC_RPSEQ (i : Nat) : Nat := 0x183008 + 0x80 * i
/-- SWC_RPSEQ.SEQ, bits 15 to 0, RW. -/
def SWC_RPSEQ_SEQ (i : Nat) : Fld := ⟨(SWC_RPSEQ i), 15, 0⟩
/-- SWC_RPCNT, spec/10_massif_switch.md/R314,R315. -/
def SWC_RPCNT (i j : Nat) : Nat := 0x183040 + 0x80 * i + 8 * j
/-- SWC_RPCNT.COUNT, bits 35 to 0, RO. -/
def SWC_RPCNT_COUNT (i j : Nat) : Fld := ⟨(SWC_RPCNT i j), 35, 0⟩

/-! ### STS: spec/11_stream_services.md/R344,R345 -/
/-- STS_PROFILE, spec/11_stream_services.md/R344,R345. -/
def STS_PROFILE : Nat := 0x200000
/-- STS_PROFILE.PROFILE, bits 7 to 0, RW. -/
def STS_PROFILE_PROFILE : Fld := ⟨STS_PROFILE, 7, 0⟩
/-- STS_CTRL, spec/11_stream_services.md/R344,R345. -/
def STS_CTRL : Nat := 0x200008
/-- STS_CTRL.EN, bits 0 to 0, RW. -/
def STS_CTRL_EN : Fld := ⟨STS_CTRL, 0, 0⟩
/-- STS_CTRL.MISS_Q, bits 8 to 1, RW. -/
def STS_CTRL_MISS_Q : Fld := ⟨STS_CTRL, 8, 1⟩
/-- STS_CTRL.MISS_EN, bits 9 to 9, RW. -/
def STS_CTRL_MISS_EN : Fld := ⟨STS_CTRL, 9, 9⟩
/-- STS_LIMITS, spec/11_stream_services.md/R344,R345. -/
def STS_LIMITS : Nat := 0x200010
/-- STS_LIMITS.R_PORT, bits 15 to 0, RW. -/
def STS_LIMITS_R_PORT : Fld := ⟨STS_LIMITS, 15, 0⟩
/-- STS_LIMITS.C37_PORT, bits 31 to 16, RW. -/
def STS_LIMITS_C37_PORT : Fld := ⟨STS_LIMITS, 31, 16⟩
/-- STS_FREE, spec/11_stream_services.md/R344,R345. -/
def STS_FREE : Nat := 0x200018
/-- STS_FREE.FRAME, bits 16 to 0, WO. -/
def STS_FREE_FRAME : Fld := ⟨STS_FREE, 16, 0⟩
/-- STS_SUB_CMD, spec/11_stream_services.md/R344,R345. -/
def STS_SUB_CMD : Nat := 0x200020
/-- STS_SUB_CMD.OP, bits 1 to 0, WO. -/
def STS_SUB_CMD_OP : Fld := ⟨STS_SUB_CMD, 1, 0⟩
/-- STS_SUB_CMD.TABLE, bits 3 to 2, WO. -/
def STS_SUB_CMD_TABLE : Fld := ⟨STS_SUB_CMD, 3, 2⟩
/-- STS_SUB_CMD.INDEX, bits 15 to 4, WO. -/
def STS_SUB_CMD_INDEX : Fld := ⟨STS_SUB_CMD, 15, 4⟩
/-- STS_SUB_CMD.BUSY, bits 16 to 16, RO. -/
def STS_SUB_CMD_BUSY : Fld := ⟨STS_SUB_CMD, 16, 16⟩
/-- STS_SUB_CMD.PENDING, bits 17 to 17, RO. -/
def STS_SUB_CMD_PENDING : Fld := ⟨STS_SUB_CMD, 17, 17⟩
/-- STS_SUB_DATA0, spec/11_stream_services.md/R344,R345. -/
def STS_SUB_DATA0 : Nat := 0x200028
/-- STS_SUB_DATA0.KEY_LO, bits 31 to 0, RW. -/
def STS_SUB_DATA0_KEY_LO : Fld := ⟨STS_SUB_DATA0, 31, 0⟩
/-- STS_SUB_DATA1, spec/11_stream_services.md/R344,R345. -/
def STS_SUB_DATA1 : Nat := 0x200030
/-- STS_SUB_DATA1.KEY_HI, bits 15 to 0, RW. -/
def STS_SUB_DATA1_KEY_HI : Fld := ⟨STS_SUB_DATA1, 15, 0⟩
/-- STS_SUB_DATA1.ID, bits 31 to 16, RW. -/
def STS_SUB_DATA1_ID : Fld := ⟨STS_SUB_DATA1, 31, 16⟩
/-- STS_SUB_DATA2, spec/11_stream_services.md/R344,R345. -/
def STS_SUB_DATA2 : Nat := 0x200038
/-- STS_SUB_DATA2.VID, bits 11 to 0, RW. -/
def STS_SUB_DATA2_VID : Fld := ⟨STS_SUB_DATA2, 11, 0⟩
/-- STS_SUB_DATA2.VID_ANY, bits 12 to 12, RW. -/
def STS_SUB_DATA2_VID_ANY : Fld := ⟨STS_SUB_DATA2, 12, 12⟩
/-- STS_SUB_DATA2.UDP, bits 13 to 13, RW. -/
def STS_SUB_DATA2_UDP : Fld := ⟨STS_SUB_DATA2, 13, 13⟩
/-- STS_SUB_DATA2.QUEUE, bits 21 to 14, RW. -/
def STS_SUB_DATA2_QUEUE : Fld := ⟨STS_SUB_DATA2, 21, 14⟩
/-- STS_SUB_DATA2.EN, bits 22 to 22, RW. -/
def STS_SUB_DATA2_EN : Fld := ⟨STS_SUB_DATA2, 22, 22⟩
/-- STS_SUB_DATA3, spec/11_stream_services.md/R344,R345. -/
def STS_SUB_DATA3 : Nat := 0x200040
/-- STS_SUB_DATA3.KEY_PAIR, bits 6 to 0, RW. -/
def STS_SUB_DATA3_KEY_PAIR : Fld := ⟨STS_SUB_DATA3, 6, 0⟩
/-- STS_SUB_DATA3.AUTH, bits 8 to 7, RW. -/
def STS_SUB_DATA3_AUTH : Fld := ⟨STS_SUB_DATA3, 8, 7⟩
/-- STS_SUB_DATA3.TAGLEN, bits 10 to 9, RW. -/
def STS_SUB_DATA3_TAGLEN : Fld := ⟨STS_SUB_DATA3, 10, 9⟩
/-- STS_SUB_AT, spec/11_stream_services.md/R344,R345. -/
def STS_SUB_AT : Nat := 0x200048
/-- STS_SUB_AT.AT, bits 35 to 0, RW. -/
def STS_SUB_AT_AT : Fld := ⟨STS_SUB_AT, 35, 0⟩
/-- STS_SUB_CNT, spec/11_stream_services.md/R344,R345. -/
def STS_SUB_CNT : Nat := 0x200050
/-- STS_SUB_CNT.MATCHED, bits 17 to 0, RO. -/
def STS_SUB_CNT_MATCHED : Fld := ⟨STS_SUB_CNT, 17, 0⟩
/-- STS_SUB_CNT.AUTH_FAILS, bits 35 to 18, RO. -/
def STS_SUB_CNT_AUTH_FAILS : Fld := ⟨STS_SUB_CNT, 35, 18⟩
/-- STS_CNT, spec/11_stream_services.md/R344,R345. -/
def STS_CNT (i : Nat) : Nat := 0x200100 + 8 * i
/-- STS_CNT.COUNT, bits 35 to 0, RO. -/
def STS_CNT_COUNT (i : Nat) : Fld := ⟨(STS_CNT i), 35, 0⟩
/-- STS_KSLOT, spec/11_stream_services.md/R344,R345. -/
def STS_KSLOT (i : Nat) : Nat := 0x201000 + 8 * i
/-- STS_KSLOT.KEY_ID, bits 31 to 0, RW. -/
def STS_KSLOT_KEY_ID (i : Nat) : Fld := ⟨(STS_KSLOT i), 31, 0⟩
/-- STS_KSLOT.ALG, bits 33 to 32, RW. -/
def STS_KSLOT_ALG (i : Nat) : Fld := ⟨(STS_KSLOT i), 33, 32⟩
/-- STS_KSLOT.LOADED, bits 35 to 35, RO. -/
def STS_KSLOT_LOADED (i : Nat) : Fld := ⟨(STS_KSLOT i), 35, 35⟩

/-! ### TAL: spec/11_stream_services.md/R344,R346 -/
/-- TAL_PROFILE, spec/11_stream_services.md/R344,R346. -/
def TAL_PROFILE : Nat := 0x280000
/-- TAL_PROFILE.PROFILE, bits 7 to 0, RW. -/
def TAL_PROFILE_PROFILE : Fld := ⟨TAL_PROFILE, 7, 0⟩
/-- TAL_STAT, spec/11_stream_services.md/R344,R346. -/
def TAL_STAT : Nat := 0x280008
/-- TAL_STAT.GROUPS, bits 6 to 0, RO. -/
def TAL_STAT_GROUPS : Fld := ⟨TAL_STAT, 6, 0⟩
/-- TAL_STAT.ABSENT, bits 17 to 7, RO. -/
def TAL_STAT_ABSENT : Fld := ⟨TAL_STAT, 17, 7⟩
/-- TAL_BADINFO, spec/11_stream_services.md/R344,R346. -/
def TAL_BADINFO : Nat := 0x280010
/-- TAL_BADINFO.STREAM, bits 9 to 0, RC. -/
def TAL_BADINFO_STREAM : Fld := ⟨TAL_BADINFO, 9, 0⟩
/-- TAL_BADINFO.AGENT, bits 15 to 10, RC. -/
def TAL_BADINFO_AGENT : Fld := ⟨TAL_BADINFO, 15, 10⟩
/-- TAL_BADINFO.REASON, bits 18 to 16, RC. -/
def TAL_BADINFO_REASON : Fld := ⟨TAL_BADINFO, 18, 16⟩
/-- TAL_BADINFO.VALID, bits 35 to 35, RC. -/
def TAL_BADINFO_VALID : Fld := ⟨TAL_BADINFO, 35, 35⟩
/-- TAL_RFREE, spec/11_stream_services.md/R344,R346. -/
def TAL_RFREE : Nat := 0x280018
/-- TAL_RFREE.OFFSET, bits 18 to 0, WO. -/
def TAL_RFREE_OFFSET : Fld := ⟨TAL_RFREE, 18, 0⟩
/-- TAL_SUB_TSW, spec/11_stream_services.md/R344,R346. -/
def TAL_SUB_TSW : Nat := 0x280040
/-- TAL_SUB_TSW.TSW, bits 35 to 0, WO. -/
def TAL_SUB_TSW_TSW : Fld := ⟨TAL_SUB_TSW, 35, 0⟩
/-- TAL_SUB_CTICK, spec/11_stream_services.md/R344,R346. -/
def TAL_SUB_CTICK : Nat := 0x280048
/-- TAL_SUB_CTICK.CTICK, bits 28 to 0, WO. -/
def TAL_SUB_CTICK_CTICK : Fld := ⟨TAL_SUB_CTICK, 28, 0⟩
/-- TAL_SUB_VAL, spec/11_stream_services.md/R344,R346. -/
def TAL_SUB_VAL (i : Nat) : Nat := 0x280050 + 8 * i
/-- TAL_SUB_VAL.VALUE, bits 31 to 0, WO. -/
def TAL_SUB_VAL_VALUE (i : Nat) : Fld := ⟨(TAL_SUB_VAL i), 31, 0⟩
/-- TAL_SUB_HDR, spec/11_stream_services.md/R344,R346. -/
def TAL_SUB_HDR : Nat := 0x280090
/-- TAL_SUB_HDR.STREAM, bits 9 to 0, WO. -/
def TAL_SUB_HDR_STREAM : Fld := ⟨TAL_SUB_HDR, 9, 0⟩
/-- TAL_SUB_HDR.SMPCNT, bits 25 to 10, WO. -/
def TAL_SUB_HDR_SMPCNT : Fld := ⟨TAL_SUB_HDR, 25, 10⟩
/-- TAL_SUB_HDR.SMPSYNCH, bits 33 to 26, WO. -/
def TAL_SUB_HDR_SMPSYNCH : Fld := ⟨TAL_SUB_HDR, 33, 26⟩
/-- TAL_SUB_HDR.INVALID, bits 34 to 34, WO. -/
def TAL_SUB_HDR_INVALID : Fld := ⟨TAL_SUB_HDR, 34, 34⟩
/-- TAL_SUB_HDR.TEST, bits 35 to 35, WO. -/
def TAL_SUB_HDR_TEST : Fld := ⟨TAL_SUB_HDR, 35, 35⟩
/-- TAL_CNT, spec/11_stream_services.md/R344,R346. -/
def TAL_CNT (i : Nat) : Nat := 0x280100 + 8 * i
/-- TAL_CNT.COUNT, bits 35 to 0, RO. -/
def TAL_CNT_COUNT (i : Nat) : Fld := ⟨(TAL_CNT i), 35, 0⟩
/-- TAL_GCFG, spec/11_stream_services.md/R344,R346. -/
def TAL_GCFG (i : Nat) : Nat := 0x280800 + 0x40 * i
/-- TAL_GCFG.EN, bits 0 to 0, RW. -/
def TAL_GCFG_EN (i : Nat) : Fld := ⟨(TAL_GCFG i), 0, 0⟩
/-- TAL_GCFG.RATE, bits 2 to 1, RW. -/
def TAL_GCFG_RATE (i : Nat) : Fld := ⟨(TAL_GCFG i), 2, 1⟩
/-- TAL_GCFG.METHOD, bits 3 to 3, RW. -/
def TAL_GCFG_METHOD (i : Nat) : Fld := ⟨(TAL_GCFG i), 3, 3⟩
/-- TAL_GCFG.STOP_AT, bits 4 to 4, RW. -/
def TAL_GCFG_STOP_AT (i : Nat) : Fld := ⟨(TAL_GCFG i), 4, 4⟩
/-- TAL_GCFG.CHCOUNT, bits 12 to 5, RW. -/
def TAL_GCFG_CHCOUNT (i : Nat) : Fld := ⟨(TAL_GCFG i), 12, 5⟩
/-- TAL_GCFG.TARGET_Q, bits 20 to 13, RW. -/
def TAL_GCFG_TARGET_Q (i : Nat) : Fld := ⟨(TAL_GCFG i), 20, 13⟩
/-- TAL_GTIME, spec/11_stream_services.md/R344,R346. -/
def TAL_GTIME (i : Nat) : Nat := 0x280808 + 0x40 * i
/-- TAL_GTIME.MAXWAIT, bits 10 to 0, RW. -/
def TAL_GTIME_MAXWAIT (i : Nat) : Fld := ⟨(TAL_GTIME i), 10, 0⟩
/-- TAL_GTIME.MARGIN, bits 23 to 11, RW. -/
def TAL_GTIME_MARGIN (i : Nat) : Fld := ⟨(TAL_GTIME i), 23, 11⟩
/-- TAL_GTIME.ABSENT_ROWS, bits 27 to 24, RW. -/
def TAL_GTIME_ABSENT_ROWS (i : Nat) : Fld := ⟨(TAL_GTIME i), 27, 24⟩
/-- TAL_GSTART, spec/11_stream_services.md/R344,R346. -/
def TAL_GSTART (i : Nat) : Nat := 0x280810 + 0x40 * i
/-- TAL_GSTART.START, bits 35 to 0, RW. -/
def TAL_GSTART_START (i : Nat) : Fld := ⟨(TAL_GSTART i), 35, 0⟩
/-- TAL_GROWS, spec/11_stream_services.md/R344,R346. -/
def TAL_GROWS (i : Nat) : Nat := 0x280818 + 0x40 * i
/-- TAL_GROWS.BASE, bits 18 to 0, RW. -/
def TAL_GROWS_BASE (i : Nat) : Fld := ⟨(TAL_GROWS i), 18, 0⟩
/-- TAL_GROWS.NROWS, bits 26 to 19, RW. -/
def TAL_GROWS_NROWS (i : Nat) : Fld := ⟨(TAL_GROWS i), 26, 19⟩
/-- TAL_GSTAT, spec/11_stream_services.md/R344,R346. -/
def TAL_GSTAT (i : Nat) : Nat := 0x280820 + 0x40 * i
/-- TAL_GSTAT.RUNNING, bits 0 to 0, RO. -/
def TAL_GSTAT_RUNNING (i : Nat) : Fld := ⟨(TAL_GSTAT i), 0, 0⟩
/-- TAL_GSTAT.PENDING, bits 1 to 1, RO. -/
def TAL_GSTAT_PENDING (i : Nat) : Fld := ⟨(TAL_GSTAT i), 1, 1⟩
/-- TAL_GSTAT.LOOKAHEAD, bits 31 to 2, RO. -/
def TAL_GSTAT_LOOKAHEAD (i : Nat) : Fld := ⟨(TAL_GSTAT i), 31, 2⟩
/-- TAL_GCNT, spec/11_stream_services.md/R344,R346. -/
def TAL_GCNT (i : Nat) : Nat := 0x280828 + 0x40 * i
/-- TAL_GCNT.ROWS, bits 17 to 0, RO. -/
def TAL_GCNT_ROWS (i : Nat) : Fld := ⟨(TAL_GCNT i), 17, 0⟩
/-- TAL_GCNT.MISSING, bits 35 to 18, RO. -/
def TAL_GCNT_MISSING (i : Nat) : Fld := ⟨(TAL_GCNT i), 35, 18⟩
/-- TAL_SCFG, spec/11_stream_services.md/R344,R346. -/
def TAL_SCFG (i : Nat) : Nat := 0x290000 + 0x40 * i
/-- TAL_SCFG.EN, bits 0 to 0, RW. -/
def TAL_SCFG_EN (i : Nat) : Fld := ⟨(TAL_SCFG i), 0, 0⟩
/-- TAL_SCFG.SLOT, bits 5 to 1, RW. -/
def TAL_SCFG_SLOT (i : Nat) : Fld := ⟨(TAL_SCFG i), 5, 1⟩
/-- TAL_SCFG.GROUP, bits 11 to 6, RW. -/
def TAL_SCFG_GROUP (i : Nat) : Fld := ⟨(TAL_SCFG i), 11, 6⟩
/-- TAL_SCFG.CHBASE, bits 19 to 12, RW. -/
def TAL_SCFG_CHBASE (i : Nat) : Fld := ⟨(TAL_SCFG i), 19, 12⟩
/-- TAL_SCFG.NCH, bits 22 to 20, RW. -/
def TAL_SCFG_NCH (i : Nat) : Fld := ⟨(TAL_SCFG i), 22, 20⟩
/-- TAL_SCFG.SYNC_REQ, bits 23 to 23, RW. -/
def TAL_SCFG_SYNC_REQ (i : Nat) : Fld := ⟨(TAL_SCFG i), 23, 23⟩
/-- TAL_SRATE, spec/11_stream_services.md/R344,R346. -/
def TAL_SRATE (i : Nat) : Nat := 0x290008 + 0x40 * i
/-- TAL_SRATE.RATE, bits 13 to 0, RW. -/
def TAL_SRATE_RATE (i : Nat) : Fld := ⟨(TAL_SRATE i), 13, 0⟩
/-- TAL_SRATE.DEPTH, bits 15 to 14, RW. -/
def TAL_SRATE_DEPTH (i : Nat) : Fld := ⟨(TAL_SRATE i), 15, 14⟩
/-- TAL_SRATE.BASE, bits 34 to 16, RW. -/
def TAL_SRATE_BASE (i : Nat) : Fld := ⟨(TAL_SRATE i), 34, 16⟩
/-- TAL_SDLY, spec/11_stream_services.md/R344,R346. -/
def TAL_SDLY (i : Nat) : Nat := 0x290010 + 0x40 * i
/-- TAL_SDLY.DELAY, bits 25 to 0, RW. -/
def TAL_SDLY_DELAY (i : Nat) : Fld := ⟨(TAL_SDLY i), 25, 0⟩
/-- TAL_SADLY, spec/11_stream_services.md/R344,R346. -/
def TAL_SADLY (i : Nat) : Nat := 0x290018 + 0x40 * i
/-- TAL_SADLY.ARR_DLY, bits 25 to 0, RW. -/
def TAL_SADLY_ARR_DLY (i : Nat) : Fld := ⟨(TAL_SADLY i), 25, 0⟩
/-- TAL_SSTAT, spec/11_stream_services.md/R344,R346. -/
def TAL_SSTAT (i : Nat) : Nat := 0x290020 + 0x40 * i
/-- TAL_SSTAT.ABSENT, bits 0 to 0, RO. -/
def TAL_SSTAT_ABSENT (i : Nat) : Fld := ⟨(TAL_SSTAT i), 0, 0⟩
/-- TAL_SSTAT.ATIMED, bits 1 to 1, RO. -/
def TAL_SSTAT_ATIMED (i : Nat) : Fld := ⟨(TAL_SSTAT i), 1, 1⟩
/-- TAL_SSTAT.SMPCNT, bits 17 to 2, RO. -/
def TAL_SSTAT_SMPCNT (i : Nat) : Fld := ⟨(TAL_SSTAT i), 17, 2⟩
/-- TAL_SCNT, spec/11_stream_services.md/R344,R346. -/
def TAL_SCNT (i : Nat) : Nat := 0x290028 + 0x40 * i
/-- TAL_SCNT.LATE, bits 17 to 0, RO. -/
def TAL_SCNT_LATE (i : Nat) : Fld := ⟨(TAL_SCNT i), 17, 0⟩
/-- TAL_SCNT.MISSING, bits 35 to 18, RO. -/
def TAL_SCNT_MISSING (i : Nat) : Fld := ⟨(TAL_SCNT i), 35, 18⟩

/-! ### RLC: spec/12_ridgeline.md/R383,R384 -/
/-- RLC_PROFILE, spec/12_ridgeline.md/R383,R384. -/
def RLC_PROFILE : Nat := 0x300000
/-- RLC_PROFILE.PROFILE, bits 7 to 0, RW. -/
def RLC_PROFILE_PROFILE : Fld := ⟨RLC_PROFILE, 7, 0⟩
/-- RLC_CTRL, spec/12_ridgeline.md/R383,R384. -/
def RLC_CTRL : Nat := 0x300008
/-- RLC_CTRL.EN, bits 0 to 0, RW. -/
def RLC_CTRL_EN : Fld := ⟨RLC_CTRL, 0, 0⟩
/-- RLC_CTRL.TX_DIS, bits 1 to 1, RW. -/
def RLC_CTRL_TX_DIS : Fld := ⟨RLC_CTRL, 1, 1⟩
/-- RLC_CTRL.SPARE_WANT, bits 2 to 2, RW. -/
def RLC_CTRL_SPARE_WANT : Fld := ⟨RLC_CTRL, 2, 2⟩
/-- RLC_CTRL.SPARE_RELEASE, bits 3 to 3, WO. -/
def RLC_CTRL_SPARE_RELEASE : Fld := ⟨RLC_CTRL, 3, 3⟩
/-- RLC_CFG, spec/12_ridgeline.md/R383,R384. -/
def RLC_CFG : Nat := 0x300010
/-- RLC_CFG.SYNC_NODE, bits 0 to 0, RW. -/
def RLC_CFG_SYNC_NODE : Fld := ⟨RLC_CFG, 0, 0⟩
/-- RLC_CFG.COLDSTART, bits 1 to 1, RW. -/
def RLC_CFG_COLDSTART : Fld := ⟨RLC_CFG, 1, 1⟩
/-- RLC_CFG.CH_A_EN, bits 2 to 2, RW. -/
def RLC_CFG_CH_A_EN : Fld := ⟨RLC_CFG, 2, 2⟩
/-- RLC_CFG.CH_B_EN, bits 3 to 3, RW. -/
def RLC_CFG_CH_B_EN : Fld := ⟨RLC_CFG, 3, 3⟩
/-- RLC_CFG.REMOTE_EN, bits 5 to 5, RW. -/
def RLC_CFG_REMOTE_EN : Fld := ⟨RLC_CFG, 5, 5⟩
/-- RLC_STAT, spec/12_ridgeline.md/R383,R384. -/
def RLC_STAT : Nat := 0x300018
/-- RLC_STAT.NODE, bits 5 to 0, RO. -/
def RLC_STAT_NODE : Fld := ⟨RLC_STAT, 5, 0⟩
/-- RLC_STAT.STATE, bits 8 to 6, RO. -/
def RLC_STAT_STATE : Fld := ⟨RLC_STAT, 8, 6⟩
/-- RLC_STAT.SYNC_SEEN, bits 12 to 9, RO. -/
def RLC_STAT_SYNC_SEEN : Fld := ⟨RLC_STAT, 12, 9⟩
/-- RLC_STAT.CH_A_OK, bits 13 to 13, RO. -/
def RLC_STAT_CH_A_OK : Fld := ⟨RLC_STAT, 13, 13⟩
/-- RLC_STAT.CH_B_OK, bits 14 to 14, RO. -/
def RLC_STAT_CH_B_OK : Fld := ⟨RLC_STAT, 14, 14⟩
/-- RLC_SYNC, spec/12_ridgeline.md/R383,R384. -/
def RLC_SYNC : Nat := 0x300020
/-- RLC_SYNC.WINDOW, bits 8 to 0, RW. -/
def RLC_SYNC_WINDOW : Fld := ⟨RLC_SYNC, 8, 0⟩
/-- RLC_SYNC.PREC, bits 15 to 9, RW. -/
def RLC_SYNC_PREC : Fld := ⟨RLC_SYNC, 15, 9⟩
/-- RLC_SYNC.NOSYNC_MAX, bits 19 to 16, RW. -/
def RLC_SYNC_NOSYNC_MAX : Fld := ⟨RLC_SYNC, 19, 16⟩
/-- RLC_SYNC.ROOT_LOSS, bits 23 to 20, RW. -/
def RLC_SYNC_ROOT_LOSS : Fld := ⟨RLC_SYNC, 23, 20⟩
/-- RLC_SYNC.SPARE_IDLE, bits 31 to 24, RW. -/
def RLC_SYNC_SPARE_IDLE : Fld := ⟨RLC_SYNC, 31, 24⟩
/-- RLC_CYCLE, spec/12_ridgeline.md/R383,R384. -/
def RLC_CYCLE : Nat := 0x300028
/-- RLC_CYCLE.CYCLE, bits 31 to 0, RO. -/
def RLC_CYCLE_CYCLE : Fld := ⟨RLC_CYCLE, 31, 0⟩
/-- RLC_NOW, spec/12_ridgeline.md/R383,R384. -/
def RLC_NOW : Nat := 0x300030
/-- RLC_NOW.RTSW, bits 35 to 0, RO. -/
def RLC_NOW_RTSW : Fld := ⟨RLC_NOW, 35, 0⟩
/-- RLC_CYC_TSW, spec/12_ridgeline.md/R383,R384. -/
def RLC_CYC_TSW : Nat := 0x300038
/-- RLC_CYC_TSW.TSW, bits 35 to 0, RO. -/
def RLC_CYC_TSW_TSW : Fld := ⟨RLC_CYC_TSW, 35, 0⟩
/-- RLC_CORR, spec/12_ridgeline.md/R383,R384. -/
def RLC_CORR : Nat := 0x300040
/-- RLC_CORR.O, bits 15 to 0, RO. -/
def RLC_CORR_O : Fld := ⟨RLC_CORR, 15, 0⟩
/-- RLC_CORR.RHO, bits 35 to 16, RO. -/
def RLC_CORR_RHO : Fld := ⟨RLC_CORR, 35, 16⟩
/-- RLC_RXCFG, spec/12_ridgeline.md/R383,R384. -/
def RLC_RXCFG : Nat := 0x300048
/-- RLC_RXCFG.RX_TASK, bits 9 to 0, RW. -/
def RLC_RXCFG_RX_TASK : Fld := ⟨RLC_RXCFG, 9, 0⟩
/-- RLC_RXCFG.RX_FLAG, bits 14 to 10, RW. -/
def RLC_RXCFG_RX_FLAG : Fld := ⟨RLC_RXCFG, 14, 10⟩
/-- RLC_RXCFG.RX_EN, bits 15 to 15, RW. -/
def RLC_RXCFG_RX_EN : Fld := ⟨RLC_RXCFG, 15, 15⟩
/-- RLC_RXCFG.SLOT_FLAG, bits 20 to 16, RW. -/
def RLC_RXCFG_SLOT_FLAG : Fld := ⟨RLC_RXCFG, 20, 16⟩
/-- RLC_RXMASK, spec/12_ridgeline.md/R383,R384. -/
def RLC_RXMASK (i : Nat) : Nat := 0x300050 + 8 * i
/-- RLC_RXMASK.MASK, bits 31 to 0, RW. -/
def RLC_RXMASK_MASK (i : Nat) : Fld := ⟨(RLC_RXMASK i), 31, 0⟩
/-- RLC_SPARE, spec/12_ridgeline.md/R383,R384. -/
def RLC_SPARE : Nat := 0x300068
/-- RLC_SPARE.OWNED, bits 6 to 0, RO. -/
def RLC_SPARE_OWNED : Fld := ⟨RLC_SPARE, 6, 0⟩
/-- RLC_SPARE.SSTATE, bits 8 to 7, RO. -/
def RLC_SPARE_SSTATE : Fld := ⟨RLC_SPARE, 8, 7⟩
/-- RLC_ROOT, spec/12_ridgeline.md/R383,R384. -/
def RLC_ROOT : Nat := 0x300070
/-- RLC_ROOT.ROLE, bits 1 to 0, RW. -/
def RLC_ROOT_ROLE : Fld := ⟨RLC_ROOT, 1, 0⟩
/-- RLC_ROOT.ACTIVE_ROOT, bits 7 to 2, RO. -/
def RLC_ROOT_ACTIVE_ROOT : Fld := ⟨RLC_ROOT, 7, 2⟩
/-- RLC_ROOT.ROOT_VALID, bits 8 to 8, RO. -/
def RLC_ROOT_ROOT_VALID : Fld := ⟨RLC_ROOT, 8, 8⟩
/-- RLC_ROOT.IS_ROOT, bits 9 to 9, RO. -/
def RLC_ROOT_IS_ROOT : Fld := ⟨RLC_ROOT, 9, 9⟩
/-- RLC_FAR_CMD, spec/12_ridgeline.md/R383,R384. -/
def RLC_FAR_CMD : Nat := 0x300078
/-- RLC_FAR_CMD.OP, bits 1 to 0, WO. -/
def RLC_FAR_CMD_OP : Fld := ⟨RLC_FAR_CMD, 1, 0⟩
/-- RLC_FAR_CMD.NODE, bits 7 to 2, WO. -/
def RLC_FAR_CMD_NODE : Fld := ⟨RLC_FAR_CMD, 7, 2⟩
/-- RLC_FAR_CMD.BUSY, bits 8 to 8, RO. -/
def RLC_FAR_CMD_BUSY : Fld := ⟨RLC_FAR_CMD, 8, 8⟩
/-- RLC_FAR_CMD.FAILED, bits 9 to 9, RO. -/
def RLC_FAR_CMD_FAILED : Fld := ⟨RLC_FAR_CMD, 9, 9⟩
/-- RLC_FAR_ADDR, spec/12_ridgeline.md/R383,R384. -/
def RLC_FAR_ADDR : Nat := 0x300080
/-- RLC_FAR_ADDR.ADDR, bits 25 to 0, RW. -/
def RLC_FAR_ADDR_ADDR : Fld := ⟨RLC_FAR_ADDR, 25, 0⟩
/-- RLC_FAR_DATA, spec/12_ridgeline.md/R383,R384. -/
def RLC_FAR_DATA : Nat := 0x300088
/-- RLC_FAR_DATA.DATA, bits 35 to 0, RW. -/
def RLC_FAR_DATA_DATA : Fld := ⟨RLC_FAR_DATA, 35, 0⟩
/-- RLC_FAIL, spec/12_ridgeline.md/R383,R384. -/
def RLC_FAIL : Nat := 0x300090
/-- RLC_FAIL.NODE, bits 5 to 0, RC. -/
def RLC_FAIL_NODE : Fld := ⟨RLC_FAIL, 5, 0⟩
/-- RLC_FAIL.WORD, bits 28 to 6, RC. -/
def RLC_FAIL_WORD : Fld := ⟨RLC_FAIL, 28, 6⟩
/-- RLC_FAIL.REASON, bits 31 to 29, RC. -/
def RLC_FAIL_REASON : Fld := ⟨RLC_FAIL, 31, 29⟩
/-- RLC_FAIL.VALID, bits 35 to 35, RC. -/
def RLC_FAIL_VALID : Fld := ⟨RLC_FAIL, 35, 35⟩
/-- RLC_REVT, spec/12_ridgeline.md/R383,R384. -/
def RLC_REVT (i : Nat) : Nat := 0x300098 + 8 * i
/-- RLC_REVT.NODES, bits 31 to 0, W1C. -/
def RLC_REVT_NODES (i : Nat) : Fld := ⟨(RLC_REVT i), 31, 0⟩
/-- RLC_SMAP, spec/12_ridgeline.md/R383,R384. -/
def RLC_SMAP (i : Nat) : Nat := 0x3000A8 + 8 * i
/-- RLC_SMAP.MAP, bits 31 to 0, RO. -/
def RLC_SMAP_MAP (i : Nat) : Fld := ⟨(RLC_SMAP i), 31, 0⟩
/-- RLC_CNT, spec/12_ridgeline.md/R383,R384. -/
def RLC_CNT (i : Nat) : Nat := 0x300100 + 8 * i
/-- RLC_CNT.COUNT, bits 35 to 0, RO. -/
def RLC_CNT_COUNT (i : Nat) : Fld := ⟨(RLC_CNT i), 35, 0⟩
/-- RLC_PDLY, spec/12_ridgeline.md/R383,R384. -/
def RLC_PDLY (i : Nat) : Nat := 0x300400 + 8 * i
/-- RLC_PDLY.DLY_A, bits 13 to 0, RW. -/
def RLC_PDLY_DLY_A (i : Nat) : Fld := ⟨(RLC_PDLY i), 13, 0⟩
/-- RLC_PDLY.DLY_B, bits 27 to 14, RW. -/
def RLC_PDLY_DLY_B (i : Nat) : Fld := ⟨(RLC_PDLY i), 27, 14⟩
/-- RLC_SLOTCNT, spec/12_ridgeline.md/R383,R384. -/
def RLC_SLOTCNT (i : Nat) : Nat := 0x300800 + 8 * i
/-- RLC_SLOTCNT.MISSED, bits 17 to 0, RC. -/
def RLC_SLOTCNT_MISSED (i : Nat) : Fld := ⟨(RLC_SLOTCNT i), 17, 0⟩
/-- RLC_SLOTCNT.ONE_CH, bits 35 to 18, RC. -/
def RLC_SLOTCNT_ONE_CH (i : Nat) : Fld := ⟨(RLC_SLOTCNT i), 35, 18⟩
/-- RLC_TXBUF, spec/12_ridgeline.md/R383,R384. -/
def RLC_TXBUF (i j : Nat) : Nat := 0x307000 + 0xA0 * i + 8 * j
/-- RLC_TXBUF.DATA, bits 35 to 0, RW. -/
def RLC_TXBUF_DATA (i j : Nat) : Fld := ⟨(RLC_TXBUF i j), 35, 0⟩
/-- RLC_RXBUF, spec/12_ridgeline.md/R383,R384. -/
def RLC_RXBUF (i j : Nat) : Nat := 0x308000 + 0xC0 * i + 8 * j
/-- RLC_RXBUF.DATA, bits 35 to 0, RO. -/
def RLC_RXBUF_DATA (i j : Nat) : Fld := ⟨(RLC_RXBUF i j), 35, 0⟩

/-! ### CAN: spec/13_can_fd.md/R405,R406 -/
/-- CAN_PROFILE, spec/13_can_fd.md/R405,R406. -/
def CAN_PROFILE (u : Nat) : Nat := 0x310000 + 0x2000 * u
/-- CAN_PROFILE.PROFILE, bits 7 to 0, RW. -/
def CAN_PROFILE_PROFILE (u : Nat) : Fld := ⟨(CAN_PROFILE u), 7, 0⟩
/-- CAN_CTRL, spec/13_can_fd.md/R405,R406. -/
def CAN_CTRL (u : Nat) : Nat := 0x310008 + 0x2000 * u
/-- CAN_CTRL.EN, bits 0 to 0, RW. -/
def CAN_CTRL_EN (u : Nat) : Fld := ⟨(CAN_CTRL u), 0, 0⟩
/-- CAN_CTRL.MODE, bits 2 to 1, RW. -/
def CAN_CTRL_MODE (u : Nat) : Fld := ⟨(CAN_CTRL u), 2, 1⟩
/-- CAN_CTRL.BO_RECOVER, bits 3 to 3, WO. -/
def CAN_CTRL_BO_RECOVER (u : Nat) : Fld := ⟨(CAN_CTRL u), 3, 3⟩
/-- CAN_CFG, spec/13_can_fd.md/R405,R406. -/
def CAN_CFG (u : Nat) : Nat := 0x310010 + 0x2000 * u
/-- CAN_CFG.FD_EN, bits 0 to 0, RW. -/
def CAN_CFG_FD_EN (u : Nat) : Fld := ⟨(CAN_CFG u), 0, 0⟩
/-- CAN_CFG.DAR, bits 1 to 1, RW. -/
def CAN_CFG_DAR (u : Nat) : Fld := ⟨(CAN_CFG u), 1, 1⟩
/-- CAN_CFG.ACCEPT_ALL, bits 2 to 2, RW. -/
def CAN_CFG_ACCEPT_ALL (u : Nat) : Fld := ⟨(CAN_CFG u), 2, 2⟩
/-- CAN_CFG.BO_AUTO, bits 3 to 3, RW. -/
def CAN_CFG_BO_AUTO (u : Nat) : Fld := ⟨(CAN_CFG u), 3, 3⟩
/-- CAN_CFG.CLASH_LIMIT, bits 7 to 4, RW. -/
def CAN_CFG_CLASH_LIMIT (u : Nat) : Fld := ⟨(CAN_CFG u), 7, 4⟩
/-- CAN_CFG.DONE_Q, bits 15 to 8, RW. -/
def CAN_CFG_DONE_Q (u : Nat) : Fld := ⟨(CAN_CFG u), 15, 8⟩
/-- CAN_CFG.DONE_EN, bits 16 to 16, RW. -/
def CAN_CFG_DONE_EN (u : Nat) : Fld := ⟨(CAN_CFG u), 16, 16⟩
/-- CAN_CFG.RX_Q, bits 24 to 17, RW. -/
def CAN_CFG_RX_Q (u : Nat) : Fld := ⟨(CAN_CFG u), 24, 17⟩
/-- CAN_CFG.RX_EN, bits 25 to 25, RW. -/
def CAN_CFG_RX_EN (u : Nat) : Fld := ⟨(CAN_CFG u), 25, 25⟩
/-- CAN_CFG.PXHD, bits 26 to 26, RW. -/
def CAN_CFG_PXHD (u : Nat) : Fld := ⟨(CAN_CFG u), 26, 26⟩
/-- CAN_NBT, spec/13_can_fd.md/R405,R406. -/
def CAN_NBT (u : Nat) : Nat := 0x310018 + 0x2000 * u
/-- CAN_NBT.NBRP, bits 7 to 0, RW. -/
def CAN_NBT_NBRP (u : Nat) : Fld := ⟨(CAN_NBT u), 7, 0⟩
/-- CAN_NBT.NTSEG1, bits 15 to 8, RW. -/
def CAN_NBT_NTSEG1 (u : Nat) : Fld := ⟨(CAN_NBT u), 15, 8⟩
/-- CAN_NBT.NTSEG2, bits 22 to 16, RW. -/
def CAN_NBT_NTSEG2 (u : Nat) : Fld := ⟨(CAN_NBT u), 22, 16⟩
/-- CAN_NBT.NSJW, bits 29 to 23, RW. -/
def CAN_NBT_NSJW (u : Nat) : Fld := ⟨(CAN_NBT u), 29, 23⟩
/-- CAN_DBT, spec/13_can_fd.md/R405,R406. -/
def CAN_DBT (u : Nat) : Nat := 0x310020 + 0x2000 * u
/-- CAN_DBT.DBRP, bits 4 to 0, RW. -/
def CAN_DBT_DBRP (u : Nat) : Fld := ⟨(CAN_DBT u), 4, 0⟩
/-- CAN_DBT.DTSEG1, bits 9 to 5, RW. -/
def CAN_DBT_DTSEG1 (u : Nat) : Fld := ⟨(CAN_DBT u), 9, 5⟩
/-- CAN_DBT.DTSEG2, bits 13 to 10, RW. -/
def CAN_DBT_DTSEG2 (u : Nat) : Fld := ⟨(CAN_DBT u), 13, 10⟩
/-- CAN_DBT.DSJW, bits 17 to 14, RW. -/
def CAN_DBT_DSJW (u : Nat) : Fld := ⟨(CAN_DBT u), 17, 14⟩
/-- CAN_DBT.TDC_EN, bits 18 to 18, RW. -/
def CAN_DBT_TDC_EN (u : Nat) : Fld := ⟨(CAN_DBT u), 18, 18⟩
/-- CAN_DBT.TDCO, bits 25 to 19, RW. -/
def CAN_DBT_TDCO (u : Nat) : Fld := ⟨(CAN_DBT u), 25, 19⟩
/-- CAN_STAT, spec/13_can_fd.md/R405,R406. -/
def CAN_STAT (u : Nat) : Nat := 0x310028 + 0x2000 * u
/-- CAN_STAT.STATE, bits 2 to 0, RO. -/
def CAN_STAT_STATE (u : Nat) : Fld := ⟨(CAN_STAT u), 2, 0⟩
/-- CAN_STAT.TEC, bits 10 to 3, RO. -/
def CAN_STAT_TEC (u : Nat) : Fld := ⟨(CAN_STAT u), 10, 3⟩
/-- CAN_STAT.REC, bits 18 to 11, RO. -/
def CAN_STAT_REC (u : Nat) : Fld := ⟨(CAN_STAT u), 18, 11⟩
/-- CAN_STAT.TXF_COUNT, bits 24 to 19, RO. -/
def CAN_STAT_TXF_COUNT (u : Nat) : Fld := ⟨(CAN_STAT u), 24, 19⟩
/-- CAN_STAT.PRIO_FULL, bits 25 to 25, RO. -/
def CAN_STAT_PRIO_FULL (u : Nat) : Fld := ⟨(CAN_STAT u), 25, 25⟩
/-- CAN_STAT.TTB_PEND, bits 29 to 26, RO. -/
def CAN_STAT_TTB_PEND (u : Nat) : Fld := ⟨(CAN_STAT u), 29, 26⟩
/-- CAN_RXSTAT, spec/13_can_fd.md/R405,R406. -/
def CAN_RXSTAT (u : Nat) : Nat := 0x310030 + 0x2000 * u
/-- CAN_RXSTAT.COUNT, bits 6 to 0, RO. -/
def CAN_RXSTAT_COUNT (u : Nat) : Fld := ⟨(CAN_RXSTAT u), 6, 0⟩
/-- CAN_RXSTAT.NEXT, bits 12 to 7, RO. -/
def CAN_RXSTAT_NEXT (u : Nat) : Fld := ⟨(CAN_RXSTAT u), 12, 7⟩
/-- CAN_ERRINFO, spec/13_can_fd.md/R405,R406. -/
def CAN_ERRINFO (u : Nat) : Nat := 0x310038 + 0x2000 * u
/-- CAN_ERRINFO.LEC, bits 2 to 0, RC. -/
def CAN_ERRINFO_LEC (u : Nat) : Fld := ⟨(CAN_ERRINFO u), 2, 0⟩
/-- CAN_ERRINFO.DATA_PHASE, bits 3 to 3, RC. -/
def CAN_ERRINFO_DATA_PHASE (u : Nat) : Fld := ⟨(CAN_ERRINFO u), 3, 3⟩
/-- CAN_ERRINFO.TDCV, bits 13 to 4, RO. -/
def CAN_ERRINFO_TDCV (u : Nat) : Fld := ⟨(CAN_ERRINFO u), 13, 4⟩
/-- CAN_TXCMD, spec/13_can_fd.md/R405,R406. -/
def CAN_TXCMD (u : Nat) : Nat := 0x310040 + 0x2000 * u
/-- CAN_TXCMD.OP, bits 1 to 0, WO. -/
def CAN_TXCMD_OP (u : Nat) : Fld := ⟨(CAN_TXCMD u), 1, 0⟩
/-- CAN_TXCANCEL, spec/13_can_fd.md/R405,R406. -/
def CAN_TXCANCEL (u : Nat) : Nat := 0x310048 + 0x2000 * u
/-- CAN_TXCANCEL.SOURCE, bits 2 to 0, WO. -/
def CAN_TXCANCEL_SOURCE (u : Nat) : Fld := ⟨(CAN_TXCANCEL u), 2, 0⟩
/-- CAN_TXCANCEL.TAG, bits 18 to 3, WO. -/
def CAN_TXCANCEL_TAG (u : Nat) : Fld := ⟨(CAN_TXCANCEL u), 18, 3⟩
/-- CAN_TXHEAD, spec/13_can_fd.md/R405,R406. -/
def CAN_TXHEAD (u : Nat) : Nat := 0x310050 + 0x2000 * u
/-- CAN_TXHEAD.COUNT, bits 5 to 0, RO. -/
def CAN_TXHEAD_COUNT (u : Nat) : Fld := ⟨(CAN_TXHEAD u), 5, 0⟩
/-- CAN_TXHEAD.OUTCOME, bits 8 to 6, RO. -/
def CAN_TXHEAD_OUTCOME (u : Nat) : Fld := ⟨(CAN_TXHEAD u), 8, 6⟩
/-- CAN_TXHEAD.SOURCE, bits 11 to 9, RO. -/
def CAN_TXHEAD_SOURCE (u : Nat) : Fld := ⟨(CAN_TXHEAD u), 11, 9⟩
/-- CAN_TXHEAD.TAG, bits 27 to 12, RO. -/
def CAN_TXHEAD_TAG (u : Nat) : Fld := ⟨(CAN_TXHEAD u), 27, 12⟩
/-- CAN_TXPOP, spec/13_can_fd.md/R405,R406. -/
def CAN_TXPOP (u : Nat) : Nat := 0x310058 + 0x2000 * u
/-- CAN_TXPOP.TSW, bits 35 to 0, RO. -/
def CAN_TXPOP_TSW (u : Nat) : Fld := ⟨(CAN_TXPOP u), 35, 0⟩
/-- CAN_RXFORCE, spec/13_can_fd.md/R405,R406. -/
def CAN_RXFORCE (u : Nat) : Nat := 0x310060 + 0x2000 * u
/-- CAN_RXFORCE.BUF, bits 5 to 0, WO. -/
def CAN_RXFORCE_BUF (u : Nat) : Fld := ⟨(CAN_RXFORCE u), 5, 0⟩
/-- CAN_EVTSTAT, spec/13_can_fd.md/R405,R406. -/
def CAN_EVTSTAT (u : Nat) : Nat := 0x310068 + 0x2000 * u
/-- CAN_EVTSTAT.EVT, bits 6 to 0, W1C. -/
def CAN_EVTSTAT_EVT (u : Nat) : Fld := ⟨(CAN_EVTSTAT u), 6, 0⟩
/-- CAN_CNT, spec/13_can_fd.md/R405,R406. -/
def CAN_CNT (u i : Nat) : Nat := 0x310080 + 0x2000 * u + 8 * i
/-- CAN_CNT.COUNT, bits 35 to 0, RO. -/
def CAN_CNT_COUNT (u i : Nat) : Fld := ⟨(CAN_CNT u i), 35, 0⟩
/-- CAN_FLT_ID, spec/13_can_fd.md/R405,R406. -/
def CAN_FLT_ID (u i : Nat) : Nat := 0x310200 + 0x2000 * u + 0x10 * i
/-- CAN_FLT_ID.ID, bits 28 to 0, RW. -/
def CAN_FLT_ID_ID (u i : Nat) : Fld := ⟨(CAN_FLT_ID u i), 28, 0⟩
/-- CAN_FLT_ID.EXT, bits 29 to 29, RW. -/
def CAN_FLT_ID_EXT (u i : Nat) : Fld := ⟨(CAN_FLT_ID u i), 29, 29⟩
/-- CAN_FLT_ID.TYPE, bits 30 to 30, RW. -/
def CAN_FLT_ID_TYPE (u i : Nat) : Fld := ⟨(CAN_FLT_ID u i), 30, 30⟩
/-- CAN_FLT_ID.EN, bits 31 to 31, RW. -/
def CAN_FLT_ID_EN (u i : Nat) : Fld := ⟨(CAN_FLT_ID u i), 31, 31⟩
/-- CAN_FLT_MASK, spec/13_can_fd.md/R405,R406. -/
def CAN_FLT_MASK (u i : Nat) : Nat := 0x310208 + 0x2000 * u + 0x10 * i
/-- CAN_FLT_MASK.MASK, bits 28 to 0, RW. -/
def CAN_FLT_MASK_MASK (u i : Nat) : Fld := ⟨(CAN_FLT_MASK u i), 28, 0⟩
/-- CAN_TXSTAGE, spec/13_can_fd.md/R405,R406. -/
def CAN_TXSTAGE (u i : Nat) : Nat := 0x310400 + 0x2000 * u + 8 * i
/-- CAN_TXSTAGE.DATA, bits 35 to 0, RW. -/
def CAN_TXSTAGE_DATA (u i : Nat) : Fld := ⟨(CAN_TXSTAGE u i), 35, 0⟩
/-- CAN_TTB, spec/13_can_fd.md/R405,R406. -/
def CAN_TTB (u i j : Nat) : Nat := 0x310500 + 0x2000 * u + 0x90 * i + 8 * j
/-- CAN_TTB.DATA, bits 35 to 0, RW. -/
def CAN_TTB_DATA (u i j : Nat) : Fld := ⟨(CAN_TTB u i j), 35, 0⟩
/-- CAN_RXSEL, spec/13_can_fd.md/R405,R406. -/
def CAN_RXSEL (u : Nat) : Nat := 0x310800 + 0x2000 * u
/-- CAN_RXSEL.BUF, bits 5 to 0, RW. -/
def CAN_RXSEL_BUF (u : Nat) : Fld := ⟨(CAN_RXSEL u), 5, 0⟩
/-- CAN_RXWIN, spec/13_can_fd.md/R405,R406. -/
def CAN_RXWIN (u i : Nat) : Nat := 0x310808 + 0x2000 * u + 8 * i
/-- CAN_RXWIN.DATA, bits 35 to 0, RO. -/
def CAN_RXWIN_DATA (u i : Nat) : Fld := ⟨(CAN_RXWIN u i), 35, 0⟩
/-- CAN_SUMMARY, spec/13_can_fd.md/R405,R406. -/
def CAN_SUMMARY (u : Nat) : Nat := 0x311F00 + 0x2000 * u
/-- CAN_SUMMARY.CHANNELS, bits 7 to 0, RO. -/
def CAN_SUMMARY_CHANNELS (u : Nat) : Fld := ⟨(CAN_SUMMARY u), 7, 0⟩

/-! ### TOR: spec/14_tor_units.md/R424,R425 -/
/-- TOR_PROFILE, spec/14_tor_units.md/R424,R425. -/
def TOR_PROFILE (u : Nat) : Nat := 0x320000 + 0x4000 * u
/-- TOR_PROFILE.PROFILE, bits 7 to 0, RW. -/
def TOR_PROFILE_PROFILE (u : Nat) : Fld := ⟨(TOR_PROFILE u), 7, 0⟩
/-- TOR_PADDR, spec/14_tor_units.md/R424,R425. -/
def TOR_PADDR (u : Nat) : Nat := 0x320008 + 0x4000 * u
/-- TOR_PADDR.ADDR, bits 9 to 0, RW. -/
def TOR_PADDR_ADDR (u : Nat) : Fld := ⟨(TOR_PADDR u), 9, 0⟩
/-- TOR_PDATA, spec/14_tor_units.md/R424,R425. -/
def TOR_PDATA (u : Nat) : Nat := 0x320010 + 0x4000 * u
/-- TOR_PDATA.INSN, bits 17 to 0, RW. -/
def TOR_PDATA_INSN (u : Nat) : Fld := ⟨(TOR_PDATA u), 17, 0⟩
/-- TOR_EVTSTAT, spec/14_tor_units.md/R424,R425. -/
def TOR_EVTSTAT (u : Nat) : Nat := 0x320018 + 0x4000 * u
/-- TOR_EVTSTAT.EVT, bits 2 to 0, W1C. -/
def TOR_EVTSTAT_EVT (u : Nat) : Fld := ⟨(TOR_EVTSTAT u), 2, 0⟩
/-- TOR_EVTSTAT.POS, bits 18 to 3, W1C. -/
def TOR_EVTSTAT_POS (u : Nat) : Fld := ⟨(TOR_EVTSTAT u), 18, 3⟩
/-- TOR_CNT, spec/14_tor_units.md/R424,R425. -/
def TOR_CNT (u i : Nat) : Nat := 0x320020 + 0x4000 * u + 8 * i
/-- TOR_CNT.COUNT, bits 35 to 0, RO. -/
def TOR_CNT_COUNT (u i : Nat) : Fld := ⟨(TOR_CNT u i), 35, 0⟩
/-- TOR_CH_CTRL, spec/14_tor_units.md/R424,R425. -/
def TOR_CH_CTRL (u i : Nat) : Nat := 0x320800 + 0x4000 * u + 0x80 * i
/-- TOR_CH_CTRL.START, bits 0 to 0, WO. -/
def TOR_CH_CTRL_START (u i : Nat) : Fld := ⟨(TOR_CH_CTRL u i), 0, 0⟩
/-- TOR_CH_CTRL.STOP, bits 1 to 1, WO. -/
def TOR_CH_CTRL_STOP (u i : Nat) : Fld := ⟨(TOR_CH_CTRL u i), 1, 1⟩
/-- TOR_CH_CTRL.FLUSH, bits 2 to 2, WO. -/
def TOR_CH_CTRL_FLUSH (u i : Nat) : Fld := ⟨(TOR_CH_CTRL u i), 2, 2⟩
/-- TOR_CH_CTRL.QCLR, bits 3 to 3, WO. -/
def TOR_CH_CTRL_QCLR (u i : Nat) : Fld := ⟨(TOR_CH_CTRL u i), 3, 3⟩
/-- TOR_CH_CTRL.START_PC, bits 9 to 4, RW. -/
def TOR_CH_CTRL_START_PC (u i : Nat) : Fld := ⟨(TOR_CH_CTRL u i), 9, 4⟩
/-- TOR_CH_CFG, spec/14_tor_units.md/R424,R425. -/
def TOR_CH_CFG (u i : Nat) : Nat := 0x320808 + 0x4000 * u + 0x80 * i
/-- TOR_CH_CFG.ORIGIN, bits 6 to 0, RW. -/
def TOR_CH_CFG_ORIGIN (u i : Nat) : Fld := ⟨(TOR_CH_CFG u i), 6, 0⟩
/-- TOR_CH_CFG.LEN, bits 12 to 7, RW. -/
def TOR_CH_CFG_LEN (u i : Nat) : Fld := ⟨(TOR_CH_CFG u i), 12, 7⟩
/-- TOR_CH_CFG.QMODE, bits 14 to 13, RW. -/
def TOR_CH_CFG_QMODE (u i : Nat) : Fld := ⟨(TOR_CH_CFG u i), 14, 13⟩
/-- TOR_CH_CFG.RX_Q, bits 22 to 15, RW. -/
def TOR_CH_CFG_RX_Q (u i : Nat) : Fld := ⟨(TOR_CH_CFG u i), 22, 15⟩
/-- TOR_CH_CFG.RX_FWD, bits 23 to 23, RW. -/
def TOR_CH_CFG_RX_FWD (u i : Nat) : Fld := ⟨(TOR_CH_CFG u i), 23, 23⟩
/-- TOR_CH_CFG.TX_Q, bits 31 to 24, RW. -/
def TOR_CH_CFG_TX_Q (u i : Nat) : Fld := ⟨(TOR_CH_CFG u i), 31, 24⟩
/-- TOR_CH_CFG.TX_FWD, bits 32 to 32, RW. -/
def TOR_CH_CFG_TX_FWD (u i : Nat) : Fld := ⟨(TOR_CH_CFG u i), 32, 32⟩
/-- TOR_CH_PINS, spec/14_tor_units.md/R424,R425. -/
def TOR_CH_PINS (u i : Nat) : Nat := 0x320810 + 0x4000 * u + 0x80 * i
/-- TOR_CH_PINS.IG_BASE, bits 5 to 0, RW. -/
def TOR_CH_PINS_IG_BASE (u i : Nat) : Fld := ⟨(TOR_CH_PINS u i), 5, 0⟩
/-- TOR_CH_PINS.OG_BASE, bits 11 to 6, RW. -/
def TOR_CH_PINS_OG_BASE (u i : Nat) : Fld := ⟨(TOR_CH_PINS u i), 11, 6⟩
/-- TOR_CH_PINS.OG_WIDTH, bits 17 to 12, RW. -/
def TOR_CH_PINS_OG_WIDTH (u i : Nat) : Fld := ⟨(TOR_CH_PINS u i), 17, 12⟩
/-- TOR_CH_SHIFT, spec/14_tor_units.md/R424,R425. -/
def TOR_CH_SHIFT (u i : Nat) : Nat := 0x320818 + 0x4000 * u + 0x80 * i
/-- TOR_CH_SHIFT.IS_LIMIT, bits 4 to 0, RW. -/
def TOR_CH_SHIFT_IS_LIMIT (u i : Nat) : Fld := ⟨(TOR_CH_SHIFT u i), 4, 0⟩
/-- TOR_CH_SHIFT.OS_LOAD, bits 9 to 5, RW. -/
def TOR_CH_SHIFT_OS_LOAD (u i : Nat) : Fld := ⟨(TOR_CH_SHIFT u i), 9, 5⟩
/-- TOR_CH_SHIFT.MSB_FIRST, bits 10 to 10, RW. -/
def TOR_CH_SHIFT_MSB_FIRST (u i : Nat) : Fld := ⟨(TOR_CH_SHIFT u i), 10, 10⟩
/-- TOR_CH_SHIFT.STRICT, bits 11 to 11, RW. -/
def TOR_CH_SHIFT_STRICT (u i : Nat) : Fld := ⟨(TOR_CH_SHIFT u i), 11, 11⟩
/-- TOR_CH_SIG, spec/14_tor_units.md/R424,R425. -/
def TOR_CH_SIG (u i : Nat) : Nat := 0x320820 + 0x4000 * u + 0x80 * i
/-- TOR_CH_SIG.TASK, bits 9 to 0, RW. -/
def TOR_CH_SIG_TASK (u i : Nat) : Fld := ⟨(TOR_CH_SIG u i), 9, 0⟩
/-- TOR_CH_SIG.EN, bits 10 to 10, RW. -/
def TOR_CH_SIG_EN (u i : Nat) : Fld := ⟨(TOR_CH_SIG u i), 10, 10⟩
/-- TOR_CH_STAT, spec/14_tor_units.md/R424,R425. -/
def TOR_CH_STAT (u i : Nat) : Nat := 0x320828 + 0x4000 * u + 0x80 * i
/-- TOR_CH_STAT.STATE, bits 1 to 0, RO. -/
def TOR_CH_STAT_STATE (u i : Nat) : Fld := ⟨(TOR_CH_STAT u i), 1, 0⟩
/-- TOR_CH_STAT.PC, bits 7 to 2, RO. -/
def TOR_CH_STAT_PC (u i : Nat) : Fld := ⟨(TOR_CH_STAT u i), 7, 2⟩
/-- TOR_CH_STAT.ICNT, bits 13 to 8, RO. -/
def TOR_CH_STAT_ICNT (u i : Nat) : Fld := ⟨(TOR_CH_STAT u i), 13, 8⟩
/-- TOR_CH_STAT.OCNT, bits 19 to 14, RO. -/
def TOR_CH_STAT_OCNT (u i : Nat) : Fld := ⟨(TOR_CH_STAT u i), 19, 14⟩
/-- TOR_CH_STAT.TXQ_LEVEL, bits 23 to 20, RO. -/
def TOR_CH_STAT_TXQ_LEVEL (u i : Nat) : Fld := ⟨(TOR_CH_STAT u i), 23, 20⟩
/-- TOR_CH_STAT.RXQ_LEVEL, bits 27 to 24, RO. -/
def TOR_CH_STAT_RXQ_LEVEL (u i : Nat) : Fld := ⟨(TOR_CH_STAT u i), 27, 24⟩
/-- TOR_CH_STAT.CAUSE, bits 30 to 28, RO. -/
def TOR_CH_STAT_CAUSE (u i : Nat) : Fld := ⟨(TOR_CH_STAT u i), 30, 28⟩
/-- TOR_CH_STAT.SEND_MISSED, bits 31 to 31, W1C. -/
def TOR_CH_STAT_SEND_MISSED (u i : Nat) : Fld := ⟨(TOR_CH_STAT u i), 31, 31⟩
/-- TOR_CH_STAT.FETCH_MISSED, bits 32 to 32, W1C. -/
def TOR_CH_STAT_FETCH_MISSED (u i : Nat) : Fld := ⟨(TOR_CH_STAT u i), 32, 32⟩
/-- TOR_CH_STAT.BEAT_SLIP, bits 33 to 33, W1C. -/
def TOR_CH_STAT_BEAT_SLIP (u i : Nat) : Fld := ⟨(TOR_CH_STAT u i), 33, 33⟩
/-- TOR_CH_TRAP, spec/14_tor_units.md/R424,R425. -/
def TOR_CH_TRAP (u i : Nat) : Nat := 0x320830 + 0x4000 * u + 0x80 * i
/-- TOR_CH_TRAP.PC, bits 5 to 0, RO. -/
def TOR_CH_TRAP_PC (u i : Nat) : Fld := ⟨(TOR_CH_TRAP u i), 5, 0⟩
/-- TOR_CH_TRAP.INSN, bits 23 to 6, RO. -/
def TOR_CH_TRAP_INSN (u i : Nat) : Fld := ⟨(TOR_CH_TRAP u i), 23, 6⟩
/-- TOR_CH_X, spec/14_tor_units.md/R424,R425. -/
def TOR_CH_X (u i : Nat) : Nat := 0x320838 + 0x4000 * u + 0x80 * i
/-- TOR_CH_X.VALUE, bits 31 to 0, RW. -/
def TOR_CH_X_VALUE (u i : Nat) : Fld := ⟨(TOR_CH_X u i), 31, 0⟩
/-- TOR_CH_Y, spec/14_tor_units.md/R424,R425. -/
def TOR_CH_Y (u i : Nat) : Nat := 0x320840 + 0x4000 * u + 0x80 * i
/-- TOR_CH_Y.VALUE, bits 31 to 0, RW. -/
def TOR_CH_Y_VALUE (u i : Nat) : Fld := ⟨(TOR_CH_Y u i), 31, 0⟩
/-- TOR_CH_TXQ, spec/14_tor_units.md/R424,R425. -/
def TOR_CH_TXQ (u i : Nat) : Nat := 0x320848 + 0x4000 * u + 0x80 * i
/-- TOR_CH_TXQ.WORD, bits 31 to 0, WO. -/
def TOR_CH_TXQ_WORD (u i : Nat) : Fld := ⟨(TOR_CH_TXQ u i), 31, 0⟩
/-- TOR_CH_RXQ, spec/14_tor_units.md/R424,R425. -/
def TOR_CH_RXQ (u i : Nat) : Nat := 0x320850 + 0x4000 * u + 0x80 * i
/-- TOR_CH_RXQ.WORD, bits 31 to 0, RO. -/
def TOR_CH_RXQ_WORD (u i : Nat) : Fld := ⟨(TOR_CH_RXQ u i), 31, 0⟩
/-- TOR_CH_RXQ.VALID, bits 35 to 35, RO. -/
def TOR_CH_RXQ_VALID (u i : Nat) : Fld := ⟨(TOR_CH_RXQ u i), 35, 35⟩
/-- TOR_CH_TM, spec/14_tor_units.md/R424,R425. -/
def TOR_CH_TM (u i : Nat) : Nat := 0x320858 + 0x4000 * u + 0x80 * i
/-- TOR_CH_TM.VALUE, bits 31 to 0, RW. -/
def TOR_CH_TM_VALUE (u i : Nat) : Fld := ⟨(TOR_CH_TM u i), 31, 0⟩
/-- TOR_PIN, spec/14_tor_units.md/R424,R425. -/
def TOR_PIN (u i : Nat) : Nat := 0x321000 + 0x4000 * u + 8 * i
/-- TOR_PIN.OWNER, bits 5 to 0, RW. -/
def TOR_PIN_OWNER (u i : Nat) : Fld := ⟨(TOR_PIN u i), 5, 0⟩
/-- TOR_PIN.OWNED, bits 6 to 6, RW. -/
def TOR_PIN_OWNED (u i : Nat) : Fld := ⟨(TOR_PIN u i), 6, 6⟩
/-- TOR_PIN.PULL, bits 8 to 7, RW. -/
def TOR_PIN_PULL (u i : Nat) : Fld := ⟨(TOR_PIN u i), 8, 7⟩
/-- TOR_PIN.LEVEL, bits 9 to 9, RO. -/
def TOR_PIN_LEVEL (u i : Nat) : Fld := ⟨(TOR_PIN u i), 9, 9⟩
/-- TOR_PIN.OE, bits 10 to 10, RO. -/
def TOR_PIN_OE (u i : Nat) : Fld := ⟨(TOR_PIN u i), 10, 10⟩

/-! ### HDMA: spec/15_host_interface.md/R447,R448 -/
/-- HDMA_PROFILE, spec/15_host_interface.md/R447,R448. -/
def HDMA_PROFILE : Nat := 0x330000
/-- HDMA_PROFILE.PROFILE, bits 7 to 0, RW. -/
def HDMA_PROFILE_PROFILE : Fld := ⟨HDMA_PROFILE, 7, 0⟩
/-- HDMA_CTRL, spec/15_host_interface.md/R447,R448. -/
def HDMA_CTRL : Nat := 0x330008
/-- HDMA_CTRL.P18_BASE, bits 5 to 0, RW. -/
def HDMA_CTRL_P18_BASE : Fld := ⟨HDMA_CTRL, 5, 0⟩
/-- HDMA_CTRL.P18_EN, bits 6 to 6, RW. -/
def HDMA_CTRL_P18_EN : Fld := ⟨HDMA_CTRL, 6, 6⟩
/-- HDMA_CTRL.DONE_Q, bits 14 to 7, RW. -/
def HDMA_CTRL_DONE_Q : Fld := ⟨HDMA_CTRL, 14, 7⟩
/-- HDMA_CTRL.DONE_EN, bits 15 to 15, RW. -/
def HDMA_CTRL_DONE_EN : Fld := ⟨HDMA_CTRL, 15, 15⟩
/-- HDMA_CTRL.RO_EN, bits 16 to 16, RW. -/
def HDMA_CTRL_RO_EN : Fld := ⟨HDMA_CTRL, 16, 16⟩
/-- HDMA_LINK, spec/15_host_interface.md/R447,R448. -/
def HDMA_LINK : Nat := 0x330010
/-- HDMA_LINK.SPEED, bits 2 to 0, RO. -/
def HDMA_LINK_SPEED : Fld := ⟨HDMA_LINK, 2, 0⟩
/-- HDMA_LINK.WIDTH, bits 5 to 3, RO. -/
def HDMA_LINK_WIDTH : Fld := ⟨HDMA_LINK, 5, 3⟩
/-- HDMA_LINK.UP, bits 6 to 6, RO. -/
def HDMA_LINK_UP : Fld := ⟨HDMA_LINK, 6, 6⟩
/-- HDMA_ERRLOG, spec/15_host_interface.md/R447,R448. -/
def HDMA_ERRLOG : Nat := 0x330018
/-- HDMA_ERRLOG.RING, bits 5 to 0, RC. -/
def HDMA_ERRLOG_RING : Fld := ⟨HDMA_ERRLOG, 5, 0⟩
/-- HDMA_ERRLOG.DIR, bits 6 to 6, RC. -/
def HDMA_ERRLOG_DIR : Fld := ⟨HDMA_ERRLOG, 6, 6⟩
/-- HDMA_ERRLOG.REASON, bits 9 to 7, RC. -/
def HDMA_ERRLOG_REASON : Fld := ⟨HDMA_ERRLOG, 9, 7⟩
/-- HDMA_ERRLOG.VALID, bits 35 to 35, RC. -/
def HDMA_ERRLOG_VALID : Fld := ⟨HDMA_ERRLOG, 35, 35⟩
/-- HDMA_RXSUM, spec/15_host_interface.md/R447,R448. -/
def HDMA_RXSUM (i : Nat) : Nat := 0x330020 + 8 * i
/-- HDMA_RXSUM.RINGS, bits 31 to 0, W1C. -/
def HDMA_RXSUM_RINGS (i : Nat) : Fld := ⟨(HDMA_RXSUM i), 31, 0⟩
/-- HDMA_TXSUM, spec/15_host_interface.md/R447,R448. -/
def HDMA_TXSUM (i : Nat) : Nat := 0x330030 + 8 * i
/-- HDMA_TXSUM.RINGS, bits 31 to 0, W1C. -/
def HDMA_TXSUM_RINGS (i : Nat) : Fld := ⟨(HDMA_TXSUM i), 31, 0⟩
/-- HDMA_TXFREE, spec/15_host_interface.md/R447,R448. -/
def HDMA_TXFREE : Nat := 0x330040
/-- HDMA_TXFREE.FRAME, bits 16 to 0, WO. -/
def HDMA_TXFREE_FRAME : Fld := ⟨HDMA_TXFREE, 16, 0⟩
/-- HDMA_CNT, spec/15_host_interface.md/R447,R448. -/
def HDMA_CNT (i : Nat) : Nat := 0x330080 + 8 * i
/-- HDMA_CNT.COUNT, bits 35 to 0, RO. -/
def HDMA_CNT_COUNT (i : Nat) : Fld := ⟨(HDMA_CNT i), 35, 0⟩
/-- HDMA_RING_BASE_LO, spec/15_host_interface.md/R447,R448. -/
def HDMA_RING_BASE_LO (i j : Nat) : Nat := 0x331000 + 0x1000 * i + 0x40 * j
/-- HDMA_RING_BASE_LO.ADDR, bits 31 to 0, RW. -/
def HDMA_RING_BASE_LO_ADDR (i j : Nat) : Fld := ⟨(HDMA_RING_BASE_LO i j), 31, 0⟩
/-- HDMA_RING_BASE_HI, spec/15_host_interface.md/R447,R448. -/
def HDMA_RING_BASE_HI (i j : Nat) : Nat := 0x331008 + 0x1000 * i + 0x40 * j
/-- HDMA_RING_BASE_HI.ADDR, bits 31 to 0, RW. -/
def HDMA_RING_BASE_HI_ADDR (i j : Nat) : Fld := ⟨(HDMA_RING_BASE_HI i j), 31, 0⟩
/-- HDMA_RING_CFG, spec/15_host_interface.md/R447,R448. -/
def HDMA_RING_CFG (i j : Nat) : Nat := 0x331010 + 0x1000 * i + 0x40 * j
/-- HDMA_RING_CFG.EN, bits 0 to 0, RW. -/
def HDMA_RING_CFG_EN (i j : Nat) : Fld := ⟨(HDMA_RING_CFG i j), 0, 0⟩
/-- HDMA_RING_CFG.SIZE, bits 4 to 1, RW. -/
def HDMA_RING_CFG_SIZE (i j : Nat) : Fld := ⟨(HDMA_RING_CFG i j), 4, 1⟩
/-- HDMA_RING_CFG.COAL_N, bits 12 to 5, RW. -/
def HDMA_RING_CFG_COAL_N (i j : Nat) : Fld := ⟨(HDMA_RING_CFG i j), 12, 5⟩
/-- HDMA_RING_CFG.COAL_T, bits 20 to 13, RW. -/
def HDMA_RING_CFG_COAL_T (i j : Nat) : Fld := ⟨(HDMA_RING_CFG i j), 20, 13⟩
/-- HDMA_RING_CFG.WDOG, bits 30 to 21, RW. -/
def HDMA_RING_CFG_WDOG (i j : Nat) : Fld := ⟨(HDMA_RING_CFG i j), 30, 21⟩
/-- HDMA_RING_CFG.MODE, bits 31 to 31, RW. -/
def HDMA_RING_CFG_MODE (i j : Nat) : Fld := ⟨(HDMA_RING_CFG i j), 31, 31⟩
/-- HDMA_RING_TAIL, spec/15_host_interface.md/R447,R448. -/
def HDMA_RING_TAIL (i j : Nat) : Nat := 0x331018 + 0x1000 * i + 0x40 * j
/-- HDMA_RING_TAIL.TAIL, bits 15 to 0, RW. -/
def HDMA_RING_TAIL_TAIL (i j : Nat) : Fld := ⟨(HDMA_RING_TAIL i j), 15, 0⟩
/-- HDMA_RING_HEAD, spec/15_host_interface.md/R447,R448. -/
def HDMA_RING_HEAD (i j : Nat) : Nat := 0x331020 + 0x1000 * i + 0x40 * j
/-- HDMA_RING_HEAD.HEAD, bits 15 to 0, RO. -/
def HDMA_RING_HEAD_HEAD (i j : Nat) : Fld := ⟨(HDMA_RING_HEAD i j), 15, 0⟩
/-- HDMA_RING_HEAD.STOPPED, bits 16 to 16, RO. -/
def HDMA_RING_HEAD_STOPPED (i j : Nat) : Fld := ⟨(HDMA_RING_HEAD i j), 16, 16⟩

/-! ### CE: spec/03_crag_engines.md/R104,R105 -/
/-- CE_PROFILE, spec/03_crag_engines.md/R104,R105. -/
def CE_PROFILE (u : Nat) : Nat := 0x400000 + 0x10000 * u
/-- CE_PROFILE.PROFILE, bits 7 to 0, RW. -/
def CE_PROFILE_PROFILE (u : Nat) : Fld := ⟨(CE_PROFILE u), 7, 0⟩
/-- CE_CTRL, spec/03_crag_engines.md/R104,R105. -/
def CE_CTRL (u : Nat) : Nat := 0x400008 + 0x10000 * u
/-- CE_CTRL.RUN, bits 0 to 0, RW. -/
def CE_CTRL_RUN (u : Nat) : Fld := ⟨(CE_CTRL u), 0, 0⟩
/-- CE_CTRL.BANK, bits 1 to 1, RW. -/
def CE_CTRL_BANK (u : Nat) : Fld := ⟨(CE_CTRL u), 1, 1⟩
/-- CE_CTRL.PAIR_EN, bits 2 to 2, RW. -/
def CE_CTRL_PAIR_EN (u : Nat) : Fld := ⟨(CE_CTRL u), 2, 2⟩
/-- CE_CTRL.RETIRE, bits 3 to 3, RW. -/
def CE_CTRL_RETIRE (u : Nat) : Fld := ⟨(CE_CTRL u), 3, 3⟩
/-- CE_STAT, spec/03_crag_engines.md/R104,R105. -/
def CE_STAT (u : Nat) : Nat := 0x400010 + 0x10000 * u
/-- CE_STAT.STATE, bits 2 to 0, RO. -/
def CE_STAT_STATE (u : Nat) : Fld := ⟨(CE_STAT u), 2, 0⟩
/-- CE_STAT.BANK, bits 3 to 3, RO. -/
def CE_STAT_BANK (u : Nat) : Fld := ⟨(CE_STAT u), 3, 3⟩
/-- CE_STAT.PAIRED, bits 4 to 4, RO. -/
def CE_STAT_PAIRED (u : Nat) : Fld := ⟨(CE_STAT u), 4, 4⟩
/-- CE_STAT.SOLO, bits 5 to 5, RO. -/
def CE_STAT_SOLO (u : Nat) : Fld := ⟨(CE_STAT u), 5, 5⟩
/-- CE_STAT.TASK, bits 15 to 6, RO. -/
def CE_STAT_TASK (u : Nat) : Fld := ⟨(CE_STAT u), 15, 6⟩
/-- CE_STAT.CQ_COUNT, bits 20 to 16, RO. -/
def CE_STAT_CQ_COUNT (u : Nat) : Fld := ⟨(CE_STAT u), 20, 16⟩
/-- CE_STAT.RS_DEPTH, bits 27 to 21, RO. -/
def CE_STAT_RS_DEPTH (u : Nat) : Fld := ⟨(CE_STAT u), 27, 21⟩
/-- CE_TRAPCTL, spec/03_crag_engines.md/R104,R105. -/
def CE_TRAPCTL (u : Nat) : Nat := 0x400018 + 0x10000 * u
/-- CE_TRAPCTL.DIV_ZERO, bits 0 to 0, RW. -/
def CE_TRAPCTL_DIV_ZERO (u : Nat) : Fld := ⟨(CE_TRAPCTL u), 0, 0⟩
/-- CE_TRAPCTL.UNINIT, bits 1 to 1, RW. -/
def CE_TRAPCTL_UNINIT (u : Nat) : Fld := ⟨(CE_TRAPCTL u), 1, 1⟩
/-- CE_TRAP_CAUSE, spec/03_crag_engines.md/R104,R105. -/
def CE_TRAP_CAUSE (u : Nat) : Nat := 0x400020 + 0x10000 * u
/-- CE_TRAP_CAUSE.CAUSE, bits 4 to 0, RO. -/
def CE_TRAP_CAUSE_CAUSE (u : Nat) : Fld := ⟨(CE_TRAP_CAUSE u), 4, 0⟩
/-- CE_TRAP_CAUSE.PAIRED, bits 5 to 5, RO. -/
def CE_TRAP_CAUSE_PAIRED (u : Nat) : Fld := ⟨(CE_TRAP_CAUSE u), 5, 5⟩
/-- CE_TRAP_PC, spec/03_crag_engines.md/R104,R105. -/
def CE_TRAP_PC (u : Nat) : Nat := 0x400028 + 0x10000 * u
/-- CE_TRAP_PC.PC, bits 15 to 0, RO. -/
def CE_TRAP_PC_PC (u : Nat) : Fld := ⟨(CE_TRAP_PC u), 15, 0⟩
/-- CE_TRAP_PC.BANK, bits 16 to 16, RO. -/
def CE_TRAP_PC_BANK (u : Nat) : Fld := ⟨(CE_TRAP_PC u), 16, 16⟩
/-- CE_TRAP_PC.INSN, bits 30 to 17, RO. -/
def CE_TRAP_PC_INSN (u : Nat) : Fld := ⟨(CE_TRAP_PC u), 30, 17⟩
/-- CE_TRAP_PC.LITS, bits 32 to 31, RO. -/
def CE_TRAP_PC_LITS (u : Nat) : Fld := ⟨(CE_TRAP_PC u), 32, 31⟩
/-- CE_TRAP_ADDR, spec/03_crag_engines.md/R104,R105. -/
def CE_TRAP_ADDR (u : Nat) : Nat := 0x400030 + 0x10000 * u
/-- CE_TRAP_ADDR.ADDR, bits 23 to 0, RO. -/
def CE_TRAP_ADDR_ADDR (u : Nat) : Fld := ⟨(CE_TRAP_ADDR u), 23, 0⟩
/-- CE_RESUME, spec/03_crag_engines.md/R104,R105. -/
def CE_RESUME (u : Nat) : Nat := 0x400038 + 0x10000 * u
/-- CE_RESUME.ACTION, bits 1 to 0, WO. -/
def CE_RESUME_ACTION (u : Nat) : Fld := ⟨(CE_RESUME u), 1, 0⟩
/-- CE_PLOAD_ADDR, spec/03_crag_engines.md/R104,R105. -/
def CE_PLOAD_ADDR (u : Nat) : Nat := 0x400040 + 0x10000 * u
/-- CE_PLOAD_ADDR.ADDR, bits 15 to 0, RW. -/
def CE_PLOAD_ADDR_ADDR (u : Nat) : Fld := ⟨(CE_PLOAD_ADDR u), 15, 0⟩
/-- CE_PLOAD_ADDR.BANK, bits 16 to 16, RW. -/
def CE_PLOAD_ADDR_BANK (u : Nat) : Fld := ⟨(CE_PLOAD_ADDR u), 16, 16⟩
/-- CE_PLOAD_DATA, spec/03_crag_engines.md/R104,R105. -/
def CE_PLOAD_DATA (u : Nat) : Nat := 0x400048 + 0x10000 * u
/-- CE_PLOAD_DATA.INSN, bits 13 to 0, RW. -/
def CE_PLOAD_DATA_INSN (u : Nat) : Fld := ⟨(CE_PLOAD_DATA u), 13, 0⟩
/-- CE_SPILL_BASE, spec/03_crag_engines.md/R104,R105. -/
def CE_SPILL_BASE (u : Nat) : Nat := 0x400050 + 0x10000 * u
/-- CE_SPILL_BASE.ADDR, bits 17 to 0, RW. -/
def CE_SPILL_BASE_ADDR (u : Nat) : Fld := ⟨(CE_SPILL_BASE u), 17, 0⟩
/-- CE_SPILL_LIMIT, spec/03_crag_engines.md/R104,R105. -/
def CE_SPILL_LIMIT (u : Nat) : Nat := 0x400058 + 0x10000 * u
/-- CE_SPILL_LIMIT.ADDR, bits 17 to 0, RW. -/
def CE_SPILL_LIMIT_ADDR (u : Nat) : Fld := ⟨(CE_SPILL_LIMIT u), 17, 0⟩
/-- CE_DS_BASE, spec/03_crag_engines.md/R104,R105. -/
def CE_DS_BASE (u : Nat) : Nat := 0x400060 + 0x10000 * u
/-- CE_DS_BASE.ADDR, bits 17 to 0, RW. -/
def CE_DS_BASE_ADDR (u : Nat) : Fld := ⟨(CE_DS_BASE u), 17, 0⟩
/-- CE_DS_LIMIT, spec/03_crag_engines.md/R104,R105. -/
def CE_DS_LIMIT (u : Nat) : Nat := 0x400068 + 0x10000 * u
/-- CE_DS_LIMIT.ADDR, bits 17 to 0, RW. -/
def CE_DS_LIMIT_ADDR (u : Nat) : Fld := ⟨(CE_DS_LIMIT u), 17, 0⟩
/-- CE_LIMITS, spec/03_crag_engines.md/R104,R105. -/
def CE_LIMITS (u : Nat) : Nat := 0x400070 + 0x10000 * u
/-- CE_LIMITS.TASK_BUDGET, bits 15 to 0, RW. -/
def CE_LIMITS_TASK_BUDGET (u : Nat) : Fld := ⟨(CE_LIMITS u), 15, 0⟩
/-- CE_LIMITS.SLACK_WARN, bits 25 to 16, RW. -/
def CE_LIMITS_SLACK_WARN (u : Nat) : Fld := ⟨(CE_LIMITS u), 25, 16⟩
/-- CE_LIMITS.PAIR_TIMEOUT, bits 31 to 26, RW. -/
def CE_LIMITS_PAIR_TIMEOUT (u : Nat) : Fld := ⟨(CE_LIMITS u), 31, 26⟩
/-- CE_MPU_BASE, spec/03_crag_engines.md/R104,R105. -/
def CE_MPU_BASE (u i : Nat) : Nat := 0x400080 + 0x10000 * u + 0x10 * i
/-- CE_MPU_BASE.BLOCK, bits 23 to 6, RW. -/
def CE_MPU_BASE_BLOCK (u i : Nat) : Fld := ⟨(CE_MPU_BASE u i), 23, 6⟩
/-- CE_MPU_LIM, spec/03_crag_engines.md/R104,R105. -/
def CE_MPU_LIM (u i : Nat) : Nat := 0x400088 + 0x10000 * u + 0x10 * i
/-- CE_MPU_LIM.BLOCK, bits 23 to 6, RW. -/
def CE_MPU_LIM_BLOCK (u i : Nat) : Fld := ⟨(CE_MPU_LIM u i), 23, 6⟩
/-- CE_MPU_LIM.R, bits 24 to 24, RW. -/
def CE_MPU_LIM_R (u i : Nat) : Fld := ⟨(CE_MPU_LIM u i), 24, 24⟩
/-- CE_MPU_LIM.W, bits 25 to 25, RW. -/
def CE_MPU_LIM_W (u i : Nat) : Fld := ⟨(CE_MPU_LIM u i), 25, 25⟩
/-- CE_MPU_LIM.EN, bits 26 to 26, RW. -/
def CE_MPU_LIM_EN (u i : Nat) : Fld := ⟨(CE_MPU_LIM u i), 26, 26⟩
/-- CE_SLACK_MIN, spec/03_crag_engines.md/R104,R105. -/
def CE_SLACK_MIN (u : Nat) : Nat := 0x400100 + 0x10000 * u
/-- CE_SLACK_MIN.MIN, bits 19 to 0, RC. -/
def CE_SLACK_MIN_MIN (u : Nat) : Fld := ⟨(CE_SLACK_MIN u), 19, 0⟩
/-- CE_SLACK_HIST, spec/03_crag_engines.md/R104,R105. -/
def CE_SLACK_HIST (u i : Nat) : Nat := 0x400108 + 0x10000 * u + 8 * i
/-- CE_SLACK_HIST.COUNT, bits 31 to 0, RC. -/
def CE_SLACK_HIST_COUNT (u i : Nat) : Fld := ⟨(CE_SLACK_HIST u i), 31, 0⟩
/-- CE_LATE, spec/03_crag_engines.md/R104,R105. -/
def CE_LATE (u : Nat) : Nat := 0x400148 + 0x10000 * u
/-- CE_LATE.LATE, bits 31 to 0, RO. -/
def CE_LATE_LATE (u : Nat) : Fld := ⟨(CE_LATE u), 31, 0⟩
/-- CE_BUNDLES, spec/03_crag_engines.md/R104,R105. -/
def CE_BUNDLES (u : Nat) : Nat := 0x400150 + 0x10000 * u
/-- CE_BUNDLES.BUNDLES, bits 35 to 0, RO. -/
def CE_BUNDLES_BUNDLES (u : Nat) : Fld := ⟨(CE_BUNDLES u), 35, 0⟩
/-- CE_STALLS, spec/03_crag_engines.md/R104,R105. -/
def CE_STALLS (u : Nat) : Nat := 0x400158 + 0x10000 * u
/-- CE_STALLS.STALLS, bits 35 to 0, RO. -/
def CE_STALLS_STALLS (u : Nat) : Fld := ⟨(CE_STALLS u), 35, 0⟩
/-- CE_PAIR_STAT, spec/03_crag_engines.md/R104,R105. -/
def CE_PAIR_STAT (u : Nat) : Nat := 0x400160 + 0x10000 * u
/-- CE_PAIR_STAT.FLAGGED, bits 15 to 0, RO. -/
def CE_PAIR_STAT_FLAGGED (u : Nat) : Fld := ⟨(CE_PAIR_STAT u), 15, 0⟩
/-- CE_PAIR_STAT.MISMATCH, bits 31 to 16, RO. -/
def CE_PAIR_STAT_MISMATCH (u : Nat) : Fld := ⟨(CE_PAIR_STAT u), 31, 16⟩

end Sys2Proof.Machine.Reg
end

