-- ==== Sys2Proof/Machine/RegTable.lean ====
section
/-! DEFINITION. The register and field tables of the spec: for every register its offset, its arrays, its reset
word and its fields with access code, level and the encodings that are not reserved (R9, R10, R12). -/
namespace Sys2Proof.Machine.RegTable
/-- GCTL_ID: spec/00_scope.md/R2. -/
def rGctl_ID : RegDesc := ⟨0, [], 0xC59648B01,
  [⟨35, 28, .ro, false, .any⟩,
   ⟨27, 12, .ro, false, .any⟩,
   ⟨11, 8, .ro, false, .any⟩,
   ⟨7, 4, .ro, false, .any⟩,
   ⟨3, 0, .ro, false, .any⟩]⟩
/-- GCTL_PROFILE: spec/01_architecture.md/R33,R34. -/
def rGctl_PROFILE : RegDesc := ⟨8, [], 1,
  [⟨7, 0, .rw, false, .within [(0, 2)]⟩]⟩
/-- GCTL_CTRL: spec/01_architecture.md/R33,R34. -/
def rGctl_CTRL : RegDesc := ⟨0x10, [], 0x40,
  [⟨9, 0, .rw, true, .within [(1, 1000)]⟩]⟩
/-- GCTL_STATUS: spec/01_architecture.md/R33,R34. -/
def rGctl_STATUS : RegDesc := ⟨0x18, [], 0,
  [⟨0, 0, .w1c, false, .any⟩,
   ⟨10, 1, .ro, false, .any⟩,
   ⟨11, 11, .w1c, false, .any⟩,
   ⟨13, 12, .ro, false, .any⟩,
   ⟨14, 14, .w1c, false, .any⟩,
   ⟨16, 15, .ro, false, .any⟩]⟩
/-- GCTL_REJECT: spec/01_architecture.md/R33,R34. -/
def rGctl_REJECT : RegDesc := ⟨0x20, [], 0,
  [⟨22, 0, .rc, false, .any⟩,
   ⟨28, 23, .rc, false, .any⟩,
   ⟨35, 35, .rc, false, .any⟩]⟩
/-- GCTL_TELEM: spec/01_architecture.md/R33,R34. -/
def rGctl_TELEM : RegDesc := ⟨0x28, [], 0,
  [⟨11, 0, .ro, false, .any⟩,
   ⟨23, 12, .ro, false, .any⟩]⟩
/-- GCTL_SERIAL: spec/01_architecture.md/R33,R34. -/
def rGctl_SERIAL : RegDesc := ⟨0x30, [], 0,
  [⟨27, 0, .ro, false, .any⟩]⟩
/-- GCTL_LATE_UNIT: spec/01_architecture.md/R33,R34. -/
def rGctl_LATE_UNIT : RegDesc := ⟨0x400, [(8, 101)], 0,
  [⟨35, 0, .ro, false, .any⟩]⟩
/-- GCTL_LATE_AGENT: spec/01_architecture.md/R33,R34. -/
def rGctl_LATE_AGENT : RegDesc := ⟨0x800, [(8, 10)], 0,
  [⟨35, 0, .ro, false, .any⟩]⟩
/-- The registers of GCTL: spec/01_architecture.md/R33,R34. -/
def regsGCTL : List RegDesc :=
  [rGctl_ID, rGctl_PROFILE, rGctl_CTRL, rGctl_STATUS, rGctl_REJECT, rGctl_TELEM, rGctl_SERIAL, rGctl_LATE_UNIT, rGctl_LATE_AGENT]
/-- Profile 1 of GCTL: spec/01_architecture.md/R33,R34. -/
def profileGCTL_1 : List ProfileSet :=
  [⟨0x10, [], 9, 0, 0x40, false⟩]
/-- Profile 2 of GCTL: spec/01_architecture.md/R33,R34. -/
def profileGCTL_2 : List ProfileSet :=
  [⟨0x10, [], 9, 0, 8, false⟩]
/-- EVC_PROFILE: spec/15_host_interface.md/R447,R448. -/
def rEvc_PROFILE : RegDesc := ⟨0, [], 1,
  [⟨7, 0, .rw, false, .within [(0, 2)]⟩]⟩
/-- EVC_CTRL: spec/15_host_interface.md/R447,R448. -/
def rEvc_CTRL : RegDesc := ⟨8, [], 0,
  [⟨9, 0, .rw, false, .any⟩,
   ⟨14, 10, .rw, false, .any⟩,
   ⟨15, 15, .rw, false, .any⟩]⟩
/-- EVC_SWSET: spec/15_host_interface.md/R447,R448. -/
def rEvc_SWSET : RegDesc := ⟨0x10, [], 0,
  [⟨4, 0, .wo, false, .any⟩]⟩
/-- EVC_VSUM: spec/15_host_interface.md/R447,R448. -/
def rEvc_VSUM : RegDesc := ⟨0x18, [], 0,
  [⟨31, 0, .ro, false, .any⟩]⟩
/-- EVC_STAT: spec/15_host_interface.md/R447,R448. -/
def rEvc_STAT : RegDesc := ⟨0x100, [(8, 8)], 0,
  [⟨31, 0, .w1c, false, .any⟩]⟩
/-- EVC_EN: spec/15_host_interface.md/R447,R448. -/
def rEvc_EN : RegDesc := ⟨0x140, [(8, 8)], 0,
  [⟨31, 0, .rw, false, .any⟩]⟩
/-- EVC_RSTAT: spec/15_host_interface.md/R447,R448. -/
def rEvc_RSTAT : RegDesc := ⟨0x180, [(8, 8)], 0,
  [⟨31, 0, .w1c, false, .any⟩]⟩
/-- EVC_VHOLD: spec/15_host_interface.md/R447,R448. -/
def rEvc_VHOLD : RegDesc := ⟨0x200, [(8, 32)], 0,
  [⟨7, 0, .rw, true, .any⟩]⟩
/-- EVC_MAP: spec/15_host_interface.md/R447,R448. -/
def rEvc_MAP : RegDesc := ⟨0x1000, [(8, 256)], 0x40,
  [⟨4, 0, .rw, false, .any⟩,
   ⟨5, 5, .rw, false, .any⟩,
   ⟨6, 6, .rw, false, .any⟩]⟩
/-- The registers of EVC: spec/15_host_interface.md/R447,R448. -/
def regsEVC : List RegDesc :=
  [rEvc_PROFILE, rEvc_CTRL, rEvc_SWSET, rEvc_VSUM, rEvc_STAT, rEvc_EN, rEvc_RSTAT, rEvc_VHOLD, rEvc_MAP]
/-- Profile 1 of EVC: spec/15_host_interface.md/R447,R448. -/
def profileEVC_1 : List ProfileSet :=
  [⟨0x200, [(8, 32)], 7, 0, 0, false⟩]
/-- Profile 2 of EVC: spec/15_host_interface.md/R447,R448. -/
def profileEVC_2 : List ProfileSet :=
  [⟨0x200, [(8, 32)], 7, 0, 0xA, false⟩]
/-- TBU_PROFILE: spec/02_time_base.md/R65,R66. -/
def rTbu_PROFILE : RegDesc := ⟨0, [], 1,
  [⟨7, 0, .rw, false, .within [(0, 3)]⟩]⟩
/-- TBU_CTRL: spec/02_time_base.md/R65,R66. -/
def rTbu_CTRL : RegDesc := ⟨8, [], 0,
  [⟨0, 0, .wo, false, .any⟩,
   ⟨1, 1, .wo, false, .any⟩]⟩
/-- TBU_STAT: spec/02_time_base.md/R65,R66. -/
def rTbu_STAT : RegDesc := ⟨0x10, [], 0,
  [⟨0, 0, .ro, false, .any⟩,
   ⟨1, 1, .ro, false, .any⟩,
   ⟨2, 2, .ro, false, .any⟩,
   ⟨3, 3, .ro, false, .any⟩,
   ⟨4, 4, .ro, false, .any⟩,
   ⟨5, 5, .ro, false, .any⟩,
   ⟨15, 8, .ro, false, .any⟩]⟩
/-- TBU_OSC_CTRL: spec/02_time_base.md/R65,R66. -/
def rTbu_OSC_CTRL : RegDesc := ⟨0x18, [], 0xA640,
  [⟨0, 0, .rw, false, .any⟩,
   ⟨1, 1, .rw, false, .any⟩,
   ⟨2, 2, .rw, true, .any⟩,
   ⟨3, 3, .rw, true, .any⟩,
   ⟨11, 4, .rw, true, .within [(1, 255)]⟩,
   ⟨19, 12, .rw, true, .within [(1, 255)]⟩]⟩
/-- TBU_OSC_STAT: spec/02_time_base.md/R65,R66. -/
def rTbu_OSC_STAT : RegDesc := ⟨0x20, [], 0,
  [⟨0, 0, .ro, false, .any⟩,
   ⟨1, 1, .ro, false, .any⟩,
   ⟨2, 2, .ro, false, .any⟩,
   ⟨3, 3, .ro, false, .any⟩,
   ⟨15, 8, .rc, false, .any⟩]⟩
/-- TBU_RATE: spec/02_time_base.md/R65,R66. -/
def rTbu_RATE : RegDesc := ⟨0x28, [], 0,
  [⟨35, 0, .rw, false, .signed 4294967⟩]⟩
/-- TBU_STEP: spec/02_time_base.md/R65,R66. -/
def rTbu_STEP : RegDesc := ⟨0x30, [], 0,
  [⟨35, 0, .rw, false, .any⟩]⟩
/-- TBU_SET_SECH: spec/02_time_base.md/R65,R66. -/
def rTbu_SET_SECH : RegDesc := ⟨0x38, [], 0,
  [⟨15, 0, .rw, false, .any⟩]⟩
/-- TBU_SET_SECL: spec/02_time_base.md/R65,R66. -/
def rTbu_SET_SECL : RegDesc := ⟨0x40, [], 0,
  [⟨31, 0, .rw, false, .any⟩]⟩
/-- TBU_SET_NS: spec/02_time_base.md/R65,R66. -/
def rTbu_SET_NS : RegDesc := ⟨0x48, [], 0,
  [⟨33, 4, .rw, false, .within [(0, 999999999)]⟩,
   ⟨3, 0, .rw, false, .any⟩]⟩
/-- TBU_SNAP_SECH: spec/02_time_base.md/R65,R66. -/
def rTbu_SNAP_SECH : RegDesc := ⟨0x50, [], 0,
  [⟨15, 0, .ro, false, .any⟩]⟩
/-- TBU_SNAP_SECL: spec/02_time_base.md/R65,R66. -/
def rTbu_SNAP_SECL : RegDesc := ⟨0x58, [], 0,
  [⟨31, 0, .ro, false, .any⟩]⟩
/-- TBU_SNAP_NS: spec/02_time_base.md/R65,R66. -/
def rTbu_SNAP_NS : RegDesc := ⟨0x60, [], 0,
  [⟨33, 4, .ro, false, .any⟩,
   ⟨3, 0, .ro, false, .any⟩]⟩
/-- TBU_NOW_TSW: spec/02_time_base.md/R65,R66. -/
def rTbu_NOW_TSW : RegDesc := ⟨0x68, [], 0,
  [⟨35, 0, .ro, false, .any⟩]⟩
/-- TBU_MARK_SECH: spec/02_time_base.md/R65,R66. -/
def rTbu_MARK_SECH : RegDesc := ⟨0x70, [], 0,
  [⟨15, 0, .ro, false, .any⟩]⟩
/-- TBU_MARK_SECL: spec/02_time_base.md/R65,R66. -/
def rTbu_MARK_SECL : RegDesc := ⟨0x78, [], 0,
  [⟨31, 0, .ro, false, .any⟩]⟩
/-- TBU_CAL_CTRL: spec/02_time_base.md/R65,R66. -/
def rTbu_CAL_CTRL : RegDesc := ⟨0x80, [], 0x142A,
  [⟨0, 0, .wo, false, .any⟩,
   ⟨1, 1, .rw, true, .any⟩,
   ⟨9, 2, .rw, true, .within [(1, 255)]⟩,
   ⟨15, 10, .rw, true, .within [(1, 63)]⟩]⟩
/-- TBU_CAL_STAT: spec/02_time_base.md/R65,R66. -/
def rTbu_CAL_STAT : RegDesc := ⟨0x88, [], 0,
  [⟨0, 0, .ro, false, .any⟩,
   ⟨1, 1, .w1c, false, .any⟩,
   ⟨15, 8, .ro, false, .any⟩]⟩
/-- TBU_PPSI_CTRL: spec/02_time_base.md/R65,R66. -/
def rTbu_PPSI_CTRL : RegDesc := ⟨0x100, [(0x20, 2)], 0,
  [⟨0, 0, .rw, false, .any⟩,
   ⟨1, 1, .rw, false, .any⟩,
   ⟨17, 2, .rw, false, .any⟩]⟩
/-- TBU_PPSI_STAT: spec/02_time_base.md/R65,R66. -/
def rTbu_PPSI_STAT : RegDesc := ⟨0x108, [(0x20, 2)], 0,
  [⟨33, 0, .ro, false, .any⟩,
   ⟨34, 34, .ro, false, .any⟩,
   ⟨35, 35, .w1c, false, .any⟩]⟩
/-- TBU_PPSO_CTRL: spec/02_time_base.md/R65,R66. -/
def rTbu_PPSO_CTRL : RegDesc := ⟨0x140, [(0x20, 2)], 0,
  [⟨0, 0, .rw, false, .any⟩,
   ⟨1, 1, .rw, false, .any⟩,
   ⟨20, 2, .rw, false, .within [(0, 500000)]⟩,
   ⟨21, 21, .rw, false, .any⟩]⟩
/-- TBU_PPSO_DLY: spec/02_time_base.md/R65,R66. -/
def rTbu_PPSO_DLY : RegDesc := ⟨0x148, [(0x20, 2)], 0,
  [⟨15, 0, .rw, false, .any⟩]⟩
/-- TBU_CAP_CTRL: spec/02_time_base.md/R65,R66. -/
def rTbu_CAP_CTRL : RegDesc := ⟨0x200, [(0x40, 8)], 2,
  [⟨0, 0, .rw, false, .any⟩,
   ⟨2, 1, .rw, false, .within [(1, 3)]⟩,
   ⟨3, 3, .rw, false, .any⟩,
   ⟨13, 4, .rw, false, .any⟩,
   ⟨18, 14, .rw, false, .any⟩,
   ⟨19, 19, .rw, false, .any⟩]⟩
/-- TBU_CAP_DLY: spec/02_time_base.md/R65,R66. -/
def rTbu_CAP_DLY : RegDesc := ⟨0x208, [(0x40, 8)], 0,
  [⟨15, 0, .rw, false, .any⟩]⟩
/-- TBU_CAP_HEAD: spec/02_time_base.md/R65,R66. -/
def rTbu_CAP_HEAD : RegDesc := ⟨0x210, [(0x40, 8)], 0,
  [⟨4, 0, .ro, false, .any⟩,
   ⟨5, 5, .ro, false, .any⟩]⟩
/-- TBU_CAP_POP: spec/02_time_base.md/R65,R66. -/
def rTbu_CAP_POP : RegDesc := ⟨0x218, [(0x40, 8)], 0,
  [⟨35, 0, .ro, false, .any⟩]⟩
/-- TBU_CAP_LOST: spec/02_time_base.md/R65,R66. -/
def rTbu_CAP_LOST : RegDesc := ⟨0x220, [(0x40, 8)], 0,
  [⟨19, 0, .rc, false, .any⟩]⟩
/-- TBU_TRG_CTRL: spec/02_time_base.md/R65,R66. -/
def rTbu_TRG_CTRL : RegDesc := ⟨0x400, [(0x40, 8)], 0,
  [⟨0, 0, .rw, false, .any⟩,
   ⟨2, 1, .rw, false, .within [(0, 1)]⟩,
   ⟨3, 3, .rw, false, .any⟩,
   ⟨4, 4, .rw, false, .any⟩,
   ⟨14, 5, .rw, false, .any⟩,
   ⟨19, 15, .rw, false, .any⟩,
   ⟨20, 20, .rw, false, .any⟩,
   ⟨26, 21, .rw, false, .any⟩,
   ⟨27, 27, .rw, false, .any⟩,
   ⟨35, 28, .rw, false, .any⟩]⟩
/-- TBU_TRG_AT: spec/02_time_base.md/R65,R66. -/
def rTbu_TRG_AT : RegDesc := ⟨0x408, [(0x40, 8)], 0,
  [⟨35, 0, .wo, false, .any⟩]⟩
/-- TBU_TRG_WIDTH: spec/02_time_base.md/R65,R66. -/
def rTbu_TRG_WIDTH : RegDesc := ⟨0x410, [(0x40, 8)], 0,
  [⟨27, 0, .rw, false, .any⟩]⟩
/-- TBU_TRG_PERI: spec/02_time_base.md/R65,R66. -/
def rTbu_TRG_PERI : RegDesc := ⟨0x418, [(0x40, 8)], 0,
  [⟨35, 0, .rw, false, .any⟩]⟩
/-- TBU_TRG_PERF: spec/02_time_base.md/R65,R66. -/
def rTbu_TRG_PERF : RegDesc := ⟨0x420, [(0x40, 8)], 0,
  [⟨31, 0, .rw, false, .any⟩]⟩
/-- TBU_TRG_DLY: spec/02_time_base.md/R65,R66. -/
def rTbu_TRG_DLY : RegDesc := ⟨0x428, [(0x40, 8)], 0,
  [⟨15, 0, .rw, false, .any⟩]⟩
/-- TBU_TRG_CNT: spec/02_time_base.md/R65,R66. -/
def rTbu_TRG_CNT : RegDesc := ⟨0x430, [(0x40, 8)], 0,
  [⟨35, 0, .ro, false, .any⟩]⟩
/-- The registers of TBU: spec/02_time_base.md/R65,R66. -/
def regsTBU : List RegDesc :=
  [rTbu_PROFILE, rTbu_CTRL, rTbu_STAT, rTbu_OSC_CTRL, rTbu_OSC_STAT, rTbu_RATE, rTbu_STEP, rTbu_SET_SECH, rTbu_SET_SECL, rTbu_SET_NS, rTbu_SNAP_SECH, rTbu_SNAP_SECL] ++
  [rTbu_SNAP_NS, rTbu_NOW_TSW, rTbu_MARK_SECH, rTbu_MARK_SECL, rTbu_CAL_CTRL, rTbu_CAL_STAT, rTbu_PPSI_CTRL, rTbu_PPSI_STAT, rTbu_PPSO_CTRL, rTbu_PPSO_DLY, rTbu_CAP_CTRL, rTbu_CAP_DLY] ++
  [rTbu_CAP_HEAD, rTbu_CAP_POP, rTbu_CAP_LOST, rTbu_TRG_CTRL, rTbu_TRG_AT, rTbu_TRG_WIDTH, rTbu_TRG_PERI, rTbu_TRG_PERF, rTbu_TRG_DLY, rTbu_TRG_CNT]
/-- Profile 1 of TBU: spec/02_time_base.md/R65,R66. -/
def profileTBU_1 : List ProfileSet :=
  [⟨0x18, [], 2, 2, 0, false⟩,
   ⟨0x18, [], 3, 3, 0, false⟩,
   ⟨0x18, [], 11, 4, 0x64, false⟩,
   ⟨0x18, [], 19, 12, 0xA, false⟩,
   ⟨0x80, [], 1, 1, 1, false⟩,
   ⟨0x80, [], 9, 2, 0xA, false⟩,
   ⟨0x80, [], 15, 10, 5, false⟩]
/-- Profile 2 of TBU: spec/02_time_base.md/R65,R66. -/
def profileTBU_2 : List ProfileSet :=
  [⟨0x18, [], 2, 2, 0, false⟩,
   ⟨0x18, [], 3, 3, 1, false⟩,
   ⟨0x18, [], 11, 4, 0x64, false⟩,
   ⟨0x18, [], 19, 12, 0xA, false⟩,
   ⟨0x80, [], 1, 1, 1, false⟩,
   ⟨0x80, [], 9, 2, 0xA, false⟩,
   ⟨0x80, [], 15, 10, 5, false⟩]
/-- Profile 3 of TBU: spec/02_time_base.md/R65,R66. -/
def profileTBU_3 : List ProfileSet :=
  [⟨0x18, [], 2, 2, 0, false⟩,
   ⟨0x18, [], 3, 3, 0, false⟩,
   ⟨0x18, [], 11, 4, 0x64, false⟩,
   ⟨0x18, [], 19, 12, 0xA, false⟩,
   ⟨0x80, [], 1, 1, 1, false⟩,
   ⟨0x80, [], 9, 2, 1, false⟩,
   ⟨0x80, [], 15, 10, 1, false⟩]
/-- STRATA_PROFILE: spec/18_faults_availability.md/R524,R525. -/
def rStrata_PROFILE : RegDesc := ⟨0, [], 1,
  [⟨7, 0, .rw, false, .within [(0, 2)]⟩]⟩
/-- STRATA_CTRL: spec/18_faults_availability.md/R524,R525. -/
def rStrata_CTRL : RegDesc := ⟨8, [], 2,
  [⟨0, 0, .wo, false, .any⟩,
   ⟨1, 1, .rw, false, .any⟩]⟩
/-- STRATA_STAT: spec/18_faults_availability.md/R524,R525. -/
def rStrata_STAT : RegDesc := ⟨0x10, [], 0,
  [⟨4, 0, .ro, false, .any⟩,
   ⟨5, 5, .ro, false, .any⟩,
   ⟨6, 6, .ro, false, .any⟩]⟩
/-- STRATA_HEAD: spec/18_faults_availability.md/R524,R525. -/
def rStrata_HEAD : RegDesc := ⟨0x18, [], 0,
  [⟨15, 0, .ro, false, .any⟩]⟩
/-- STRATA_TAIL: spec/18_faults_availability.md/R524,R525. -/
def rStrata_TAIL : RegDesc := ⟨0x20, [], 0,
  [⟨15, 0, .rw, false, .any⟩]⟩
/-- STRATA_WSTAT: spec/18_faults_availability.md/R524,R525. -/
def rStrata_WSTAT : RegDesc := ⟨0x28, [], 0,
  [⟨7, 0, .rc, false, .any⟩,
   ⟨10, 8, .rc, false, .any⟩,
   ⟨18, 11, .rc, false, .any⟩,
   ⟨35, 35, .rc, false, .any⟩]⟩
/-- STRATA_LOST: spec/18_faults_availability.md/R524,R525. -/
def rStrata_LOST : RegDesc := ⟨0x40, [(8, 4)], 0,
  [⟨19, 0, .rc, false, .any⟩]⟩
/-- STRATA_FIRST: spec/18_faults_availability.md/R524,R525. -/
def rStrata_FIRST : RegDesc := ⟨0x60, [(8, 4)], 0,
  [⟨35, 0, .ro, false, .any⟩]⟩
/-- STRATA_WCFG: spec/18_faults_availability.md/R524,R525. -/
def rStrata_WCFG : RegDesc := ⟨0x80, [(8, 7)], 0,
  [⟨3, 0, .rw, true, .within [(2, 15)]⟩,
   ⟨13, 4, .rw, true, .within [(1, 1023)]⟩,
   ⟨15, 14, .rw, true, .within [(0, 2)]⟩,
   ⟨18, 16, .rw, true, .within [(0, 4)]⟩]⟩
/-- STRATA_LAST: spec/18_faults_availability.md/R524,R525. -/
def rStrata_LAST : RegDesc := ⟨0x800, [(8, 190)], 0,
  [⟨35, 27, .rc, false, .any⟩,
   ⟨26, 11, .rc, false, .any⟩,
   ⟨10, 0, .rc, false, .any⟩]⟩
/-- STRATA_REC: spec/18_faults_availability.md/R524,R525. -/
def rStrata_REC : RegDesc := ⟨0x1000, [(0x20, 512), (8, 4)], 0,
  [⟨35, 0, .ro, false, .any⟩]⟩
/-- The registers of STRATA: spec/18_faults_availability.md/R524,R525. -/
def regsSTRATA : List RegDesc :=
  [rStrata_PROFILE, rStrata_CTRL, rStrata_STAT, rStrata_HEAD, rStrata_TAIL, rStrata_WSTAT, rStrata_LOST, rStrata_FIRST, rStrata_WCFG, rStrata_LAST, rStrata_REC]
/-- Profile 1 of STRATA: spec/18_faults_availability.md/R524,R525. -/
def profileSTRATA_1 : List ProfileSet :=
  [⟨0x80, [], 18, 0, 0x14012, false⟩,
   ⟨0x88, [], 18, 0, 0x24013, false⟩,
   ⟨0x90, [], 18, 0, 0x34012, false⟩,
   ⟨0x98, [], 18, 0, 0x44012, false⟩,
   ⟨0xA0, [], 18, 0, 0x401F, false⟩,
   ⟨0xA8, [], 18, 0, 0x401F, false⟩,
   ⟨0xB0, [], 18, 0, 0x401F, false⟩]
/-- Profile 2 of STRATA: spec/18_faults_availability.md/R524,R525. -/
def profileSTRATA_2 : List ProfileSet :=
  [⟨0x80, [], 18, 0, 0x14012, false⟩,
   ⟨0x88, [], 18, 0, 0x24012, false⟩,
   ⟨0x90, [], 18, 0, 0x34012, false⟩,
   ⟨0x98, [], 18, 0, 0x44012, false⟩,
   ⟨0xA0, [], 18, 0, 0x401F, false⟩,
   ⟨0xA8, [], 18, 0, 0x401F, false⟩,
   ⟨0xB0, [], 18, 0, 0x4014, false⟩]
/-- TALUS_PROFILE: spec/05_talus_scheduler.md/R162,R163. -/
def rTalus_PROFILE : RegDesc := ⟨0, [], 1,
  [⟨7, 0, .rw, false, .within [(0, 3)]⟩]⟩
/-- TALUS_CTRL: spec/05_talus_scheduler.md/R162,R163. -/
def rTalus_CTRL : RegDesc := ⟨8, [], 0,
  [⟨0, 0, .rw, false, .any⟩,
   ⟨1, 1, .rw, false, .any⟩]⟩
/-- TALUS_STAT: spec/05_talus_scheduler.md/R162,R163. -/
def rTalus_STAT : RegDesc := ⟨0x10, [], 0,
  [⟨10, 0, .ro, false, .any⟩,
   ⟨11, 11, .ro, false, .any⟩,
   ⟨12, 12, .ro, false, .any⟩]⟩
/-- TALUS_LIMITS: spec/05_talus_scheduler.md/R162,R163. -/
def rTalus_LIMITS : RegDesc := ⟨0x18, [], 0x1004008,
  [⟨7, 0, .rw, true, .within [(1, 255)]⟩,
   ⟨17, 8, .rw, true, .within [(1, 1023)]⟩,
   ⟨27, 18, .rw, true, .within [(1, 1023)]⟩]⟩
/-- TALUS_SIGNAL: spec/05_talus_scheduler.md/R162,R163. -/
def rTalus_SIGNAL : RegDesc := ⟨0x20, [], 0,
  [⟨9, 0, .wo, false, .any⟩,
   ⟨14, 10, .wo, false, .any⟩,
   ⟨15, 15, .wo, false, .any⟩]⟩
/-- TALUS_DREL: spec/05_talus_scheduler.md/R162,R163. -/
def rTalus_DREL : RegDesc := ⟨0x28, [], 0,
  [⟨35, 0, .wo, false, .any⟩]⟩
/-- TALUS_HIST_SEL: spec/05_talus_scheduler.md/R162,R163. -/
def rTalus_HIST_SEL : RegDesc := ⟨0x30, [], 0,
  [⟨7, 0, .rw, false, .any⟩]⟩
/-- TALUS_HIST: spec/05_talus_scheduler.md/R162,R163. -/
def rTalus_HIST : RegDesc := ⟨0x38, [(8, 8)], 0,
  [⟨31, 0, .rc, false, .any⟩]⟩
/-- TALUS_BUSY: spec/05_talus_scheduler.md/R162,R163. -/
def rTalus_BUSY : RegDesc := ⟨0x400, [(8, 50)], 0,
  [⟨10, 0, .ro, false, .any⟩,
   ⟨21, 11, .rc, false, .any⟩]⟩
/-- TALUS_DOM: spec/05_talus_scheduler.md/R162,R163. -/
def rTalus_DOM : RegDesc := ⟨0x1000, [(8, 512)], 0,
  [⟨15, 0, .ro, false, .any⟩,
   ⟨31, 16, .ro, false, .any⟩]⟩
/-- TALUS_QCFG: spec/05_talus_scheduler.md/R162,R163. -/
def rTalus_QCFG : RegDesc := ⟨0x2000, [(0x20, 256)], 0x58000,
  [⟨13, 0, .rw, false, .any⟩,
   ⟨17, 14, .rw, false, .within [(2, 12)]⟩,
   ⟨18, 18, .rw, false, .any⟩,
   ⟨31, 19, .rw, false, .within [(0, 4096)]⟩]⟩
/-- TALUS_QDATA: spec/05_talus_scheduler.md/R162,R163. -/
def rTalus_QDATA : RegDesc := ⟨0x2008, [(0x20, 256)], 0,
  [⟨31, 0, .rw, false, .any⟩,
   ⟨34, 34, .ro, false, .any⟩,
   ⟨35, 35, .ro, false, .any⟩]⟩
/-- TALUS_QORD: spec/05_talus_scheduler.md/R162,R163. -/
def rTalus_QORD : RegDesc := ⟨0x2010, [(0x20, 256)], 0,
  [⟨31, 0, .wo, false, .any⟩]⟩
/-- TALUS_QSTAT: spec/05_talus_scheduler.md/R162,R163. -/
def rTalus_QSTAT : RegDesc := ⟨0x2018, [(0x20, 256)], 0,
  [⟨12, 0, .ro, false, .any⟩,
   ⟨25, 13, .rc, false, .any⟩,
   ⟨26, 26, .ro, false, .any⟩]⟩
/-- TALUS_TCFG: spec/05_talus_scheduler.md/R162,R163. -/
def rTalus_TCFG : RegDesc := ⟨0x4000, [(0x30, 1024)], 0,
  [⟨15, 0, .rw, false, .any⟩,
   ⟨19, 16, .rw, false, .within [(0, 12)]⟩,
   ⟨22, 20, .rw, false, .any⟩,
   ⟨23, 23, .rw, false, .any⟩,
   ⟨26, 24, .rw, false, .within [(0, 4)]⟩,
   ⟨27, 27, .rw, false, .any⟩,
   ⟨28, 28, .rw, false, .any⟩,
   ⟨30, 29, .rw, false, .any⟩]⟩
/-- TALUS_TLINK: spec/05_talus_scheduler.md/R162,R163. -/
def rTalus_TLINK : RegDesc := ⟨0x4008, [(0x30, 1024)], 0,
  [⟨7, 0, .rw, false, .any⟩,
   ⟨8, 8, .rw, false, .any⟩,
   ⟨13, 9, .rw, false, .any⟩,
   ⟨22, 14, .rw, false, .any⟩,
   ⟨23, 23, .rw, false, .any⟩]⟩
/-- TALUS_TMASK: spec/05_talus_scheduler.md/R162,R163. -/
def rTalus_TMASK : RegDesc := ⟨0x4010, [(0x30, 1024)], 0,
  [⟨31, 0, .rw, false, .any⟩]⟩
/-- TALUS_TEVT: spec/05_talus_scheduler.md/R162,R163. -/
def rTalus_TEVT : RegDesc := ⟨0x4018, [(0x30, 1024)], 0,
  [⟨31, 0, .ro, false, .any⟩]⟩
/-- TALUS_TARG: spec/05_talus_scheduler.md/R162,R163. -/
def rTalus_TARG : RegDesc := ⟨0x4020, [(0x30, 1024)], 0,
  [⟨35, 0, .rw, false, .any⟩]⟩
/-- TALUS_TSTAT: spec/05_talus_scheduler.md/R162,R163. -/
def rTalus_TSTAT : RegDesc := ⟨0x4028, [(0x30, 1024)], 0,
  [⟨2, 0, .ro, false, .any⟩,
   ⟨3, 3, .ro, false, .any⟩,
   ⟨4, 4, .ro, false, .any⟩,
   ⟨35, 8, .ro, false, .any⟩]⟩
/-- The registers of TALUS: spec/05_talus_scheduler.md/R162,R163. -/
def regsTALUS : List RegDesc :=
  [rTalus_PROFILE, rTalus_CTRL, rTalus_STAT, rTalus_LIMITS, rTalus_SIGNAL, rTalus_DREL, rTalus_HIST_SEL, rTalus_HIST, rTalus_BUSY, rTalus_DOM, rTalus_QCFG, rTalus_QDATA] ++
  [rTalus_QORD, rTalus_QSTAT, rTalus_TCFG, rTalus_TLINK, rTalus_TMASK, rTalus_TEVT, rTalus_TARG, rTalus_TSTAT]
/-- Profile 1 of TALUS: spec/05_talus_scheduler.md/R162,R163. -/
def profileTALUS_1 : List ProfileSet :=
  [⟨0x18, [], 7, 0, 8, false⟩,
   ⟨0x18, [], 17, 8, 0x40, false⟩,
   ⟨0x18, [], 27, 18, 0x40, false⟩]
/-- Profile 2 of TALUS: spec/05_talus_scheduler.md/R162,R163. -/
def profileTALUS_2 : List ProfileSet :=
  [⟨0x18, [], 7, 0, 4, false⟩,
   ⟨0x18, [], 17, 8, 0x10, false⟩,
   ⟨0x18, [], 27, 18, 0x10, false⟩]
/-- Profile 3 of TALUS: spec/05_talus_scheduler.md/R162,R163. -/
def profileTALUS_3 : List ProfileSet :=
  [⟨0x18, [], 7, 0, 0x28, false⟩,
   ⟨0x18, [], 17, 8, 0x3E8, false⟩,
   ⟨0x18, [], 27, 18, 0x3E8, false⟩]
/-- COL_PROFILE: spec/06_col_mailboxes.md/R183,R184. -/
def rCol_PROFILE : RegDesc := ⟨0, [], 1,
  [⟨7, 0, .rw, false, .within [(0, 3)]⟩]⟩
/-- COL_LIMITS: spec/06_col_mailboxes.md/R183,R184. -/
def rCol_LIMITS : RegDesc := ⟨8, [], 0x64,
  [⟨9, 0, .rw, true, .within [(1, 1023)]⟩]⟩
/-- COL_RING: spec/06_col_mailboxes.md/R183,R184. -/
def rCol_RING : RegDesc := ⟨0x10, [], 0,
  [⟨6, 0, .wo, false, .any⟩]⟩
/-- COL_TAKE: spec/06_col_mailboxes.md/R183,R184. -/
def rCol_TAKE : RegDesc := ⟨0x18, [], 0,
  [⟨6, 0, .wo, false, .any⟩]⟩
/-- COL_FLUSH: spec/06_col_mailboxes.md/R183,R184. -/
def rCol_FLUSH : RegDesc := ⟨0x20, [], 0,
  [⟨6, 0, .wo, false, .any⟩]⟩
/-- COL_WAIT_CANCEL: spec/06_col_mailboxes.md/R183,R184. -/
def rCol_WAIT_CANCEL : RegDesc := ⟨0x28, [], 0,
  [⟨5, 0, .wo, false, .any⟩]⟩
/-- COL_CYCLE: spec/06_col_mailboxes.md/R183,R184. -/
def rCol_CYCLE : RegDesc := ⟨0x30, [], 0,
  [⟨6, 0, .rc, false, .any⟩,
   ⟨13, 7, .rc, false, .any⟩,
   ⟨19, 14, .rc, false, .any⟩,
   ⟨25, 20, .rc, false, .any⟩,
   ⟨28, 26, .rc, false, .any⟩,
   ⟨35, 35, .rc, false, .any⟩]⟩
/-- COL_REFUSE: spec/06_col_mailboxes.md/R183,R184. -/
def rCol_REFUSE : RegDesc := ⟨0x38, [], 0,
  [⟨6, 0, .rc, false, .any⟩,
   ⟨13, 7, .rc, false, .any⟩,
   ⟨19, 14, .rc, false, .any⟩,
   ⟨25, 20, .rc, false, .any⟩,
   ⟨28, 26, .rc, false, .any⟩,
   ⟨35, 35, .rc, false, .any⟩]⟩
/-- COL_WAITINFO: spec/06_col_mailboxes.md/R183,R184. -/
def rCol_WAITINFO : RegDesc := ⟨0x40, [], 0,
  [⟨6, 0, .rc, false, .any⟩,
   ⟨13, 7, .rc, false, .any⟩,
   ⟨19, 14, .rc, false, .any⟩,
   ⟨25, 20, .rc, false, .any⟩,
   ⟨28, 26, .rc, false, .any⟩,
   ⟨35, 35, .rc, false, .any⟩]⟩
/-- COL_PEND_LH: spec/06_col_mailboxes.md/R183,R184. -/
def rCol_PEND_LH : RegDesc := ⟨0x80, [(8, 4)], 0,
  [⟨31, 0, .ro, false, .any⟩]⟩
/-- COL_PEND_RH: spec/06_col_mailboxes.md/R183,R184. -/
def rCol_PEND_RH : RegDesc := ⟨0xA0, [(8, 4)], 0,
  [⟨31, 0, .ro, false, .any⟩]⟩
/-- COL_EMPTIED_LH: spec/06_col_mailboxes.md/R183,R184. -/
def rCol_EMPTIED_LH : RegDesc := ⟨0xC0, [(8, 4)], 0,
  [⟨31, 0, .w1c, false, .any⟩]⟩
/-- COL_EMPTIED_RH: spec/06_col_mailboxes.md/R183,R184. -/
def rCol_EMPTIED_RH : RegDesc := ⟨0xE0, [(8, 4)], 0,
  [⟨31, 0, .w1c, false, .any⟩]⟩
/-- COL_MBX_CFG: spec/06_col_mailboxes.md/R183,R184. -/
def rCol_MBX_CFG : RegDesc := ⟨0x1000, [(0x20, 128)], 0,
  [⟨0, 0, .rw, false, .any⟩,
   ⟨2, 1, .rw, false, .any⟩,
   ⟨12, 3, .rw, false, .any⟩,
   ⟨17, 13, .rw, false, .any⟩,
   ⟨19, 18, .rw, false, .any⟩,
   ⟨29, 20, .rw, false, .any⟩,
   ⟨34, 30, .rw, false, .any⟩]⟩
/-- COL_MBX_SEND: spec/06_col_mailboxes.md/R183,R184. -/
def rCol_MBX_SEND : RegDesc := ⟨0x1008, [(0x20, 128)], 0,
  [⟨5, 0, .rw, false, .within [(0, 60)]⟩]⟩
/-- COL_MBX_STAT: spec/06_col_mailboxes.md/R183,R184. -/
def rCol_MBX_STAT : RegDesc := ⟨0x1010, [(0x20, 128)], 0,
  [⟨0, 0, .ro, false, .any⟩,
   ⟨6, 1, .ro, false, .any⟩,
   ⟨22, 7, .ro, false, .any⟩,
   ⟨23, 23, .ro, false, .any⟩]⟩
/-- COL_MBX_WAIT: spec/06_col_mailboxes.md/R183,R184. -/
def rCol_MBX_WAIT : RegDesc := ⟨0x1018, [(0x20, 128)], 0,
  [⟨35, 35, .ro, false, .any⟩]⟩
/-- COL_MBX_LOCK: spec/06_col_mailboxes.md/R183,R184. -/
def rCol_MBX_LOCK : RegDesc := ⟨0x2000, [(8, 128)], 0,
  [⟨5, 0, .rlk, false, .any⟩]⟩
/-- The registers of COL: spec/06_col_mailboxes.md/R183,R184. -/
def regsCOL : List RegDesc :=
  [rCol_PROFILE, rCol_LIMITS, rCol_RING, rCol_TAKE, rCol_FLUSH, rCol_WAIT_CANCEL, rCol_CYCLE, rCol_REFUSE, rCol_WAITINFO, rCol_PEND_LH, rCol_PEND_RH, rCol_EMPTIED_LH] ++
  [rCol_EMPTIED_RH, rCol_MBX_CFG, rCol_MBX_SEND, rCol_MBX_STAT, rCol_MBX_WAIT, rCol_MBX_LOCK]
/-- Profile 1 of COL: spec/06_col_mailboxes.md/R183,R184. -/
def profileCOL_1 : List ProfileSet :=
  [⟨8, [], 9, 0, 0x64, false⟩]
/-- Profile 2 of COL: spec/06_col_mailboxes.md/R183,R184. -/
def profileCOL_2 : List ProfileSet :=
  [⟨8, [], 9, 0, 0x14, false⟩]
/-- Profile 3 of COL: spec/06_col_mailboxes.md/R183,R184. -/
def profileCOL_3 : List ProfileSet :=
  [⟨8, [], 9, 0, 0x3E8, false⟩]
/-- MEMC_PROFILE: spec/07_memory.md/R220,R221. -/
def rMemc_PROFILE : RegDesc := ⟨0, [], 1,
  [⟨7, 0, .rw, false, .within [(0, 3)]⟩]⟩
/-- MEMC_CTRL: spec/07_memory.md/R220,R221. -/
def rMemc_CTRL : RegDesc := ⟨8, [], 0,
  [⟨0, 0, .wo, false, .any⟩]⟩
/-- MEMC_STAT: spec/07_memory.md/R220,R221. -/
def rMemc_STAT : RegDesc := ⟨0x10, [], 0,
  [⟨0, 0, .ro, false, .any⟩,
   ⟨1, 1, .ro, false, .any⟩,
   ⟨2, 2, .ro, false, .any⟩,
   ⟨3, 3, .ro, false, .any⟩]⟩
/-- MEMC_LIMITS: spec/07_memory.md/R220,R221. -/
def rMemc_LIMITS : RegDesc := ⟨0x18, [], 0x18183,
  [⟨3, 0, .rw, true, .within [(2, 15)]⟩,
   ⟨11, 4, .rw, true, .within [(1, 255)]⟩,
   ⟨19, 12, .rw, true, .any⟩,
   ⟨20, 20, .rw, true, .any⟩]⟩
/-- MEMC_FLIP_CTRL: spec/07_memory.md/R220,R221. -/
def rMemc_FLIP_CTRL : RegDesc := ⟨0x20, [], 0,
  [⟨5, 0, .rw, false, .within [(0, 54)]⟩,
   ⟨7, 6, .rw, false, .within [(0, 2)]⟩,
   ⟨14, 8, .rw, false, .any⟩,
   ⟨15, 15, .rw, false, .any⟩,
   ⟨16, 16, .w1c, false, .any⟩]⟩
/-- MEMC_FLIP_DATA: spec/07_memory.md/R220,R221. -/
def rMemc_FLIP_DATA : RegDesc := ⟨0x28, [], 0,
  [⟨35, 0, .rw, false, .any⟩]⟩
/-- MEMC_FLIP_ADDR: spec/07_memory.md/R220,R221. -/
def rMemc_FLIP_ADDR : RegDesc := ⟨0x30, [], 0,
  [⟨20, 0, .rw, false, .any⟩]⟩
/-- MEMC_MARCH_CTRL: spec/07_memory.md/R220,R221. -/
def rMemc_MARCH_CTRL : RegDesc := ⟨0x38, [], 0,
  [⟨0, 0, .wo, false, .any⟩,
   ⟨1, 1, .wo, false, .any⟩,
   ⟨2, 2, .wo, false, .any⟩,
   ⟨8, 3, .wo, false, .any⟩,
   ⟨10, 9, .wo, false, .any⟩]⟩
/-- MEMC_MARCH_STAT: spec/07_memory.md/R220,R221. -/
def rMemc_MARCH_STAT : RegDesc := ⟨0x40, [], 0,
  [⟨0, 0, .ro, false, .any⟩,
   ⟨1, 1, .w1c, false, .any⟩,
   ⟨7, 2, .ro, false, .any⟩,
   ⟨17, 8, .ro, false, .any⟩]⟩
/-- MEMC_REPAIR_CTRL: spec/07_memory.md/R220,R221. -/
def rMemc_REPAIR_CTRL : RegDesc := ⟨0x48, [], 0,
  [⟨0, 0, .wo, false, .any⟩,
   ⟨6, 1, .wo, false, .any⟩,
   ⟨8, 7, .wo, false, .any⟩,
   ⟨12, 9, .wo, false, .any⟩,
   ⟨23, 13, .wo, false, .any⟩]⟩
/-- MEMC_REPAIR_STAT: spec/07_memory.md/R220,R221. -/
def rMemc_REPAIR_STAT : RegDesc := ⟨0x50, [], 0,
  [⟨5, 0, .ro, false, .any⟩,
   ⟨6, 6, .ro, false, .any⟩,
   ⟨30, 8, .ro, false, .any⟩]⟩
/-- MEMC_HOST_CTRL: spec/07_memory.md/R220,R221. -/
def rMemc_HOST_CTRL : RegDesc := ⟨0x58, [], 0,
  [⟨0, 0, .rw, false, .any⟩,
   ⟨1, 1, .rw, false, .any⟩,
   ⟨2, 2, .rw, false, .any⟩,
   ⟨3, 3, .rw, false, .any⟩,
   ⟨4, 4, .rw, false, .any⟩,
   ⟨5, 5, .rw, false, .any⟩]⟩
/-- MEMC_IND_ADDR: spec/07_memory.md/R220,R221. -/
def rMemc_IND_ADDR : RegDesc := ⟨0x60, [], 0,
  [⟨20, 0, .rw, false, .any⟩,
   ⟨22, 21, .rw, false, .any⟩,
   ⟨28, 23, .rw, false, .within [(0, 3), (5, 54)]⟩]⟩
/-- MEMC_IND_DATA: spec/07_memory.md/R220,R221. -/
def rMemc_IND_DATA : RegDesc := ⟨0x68, [], 0,
  [⟨35, 0, .rw, false, .any⟩]⟩
/-- MEMC_IND_CHK: spec/07_memory.md/R220,R221. -/
def rMemc_IND_CHK : RegDesc := ⟨0x70, [], 0,
  [⟨6, 0, .ro, false, .any⟩,
   ⟨13, 7, .ro, false, .any⟩]⟩
/-- MEMC_REFUSE: spec/07_memory.md/R220,R221. -/
def rMemc_REFUSE : RegDesc := ⟨0x78, [], 0,
  [⟨5, 0, .rc, false, .any⟩,
   ⟨11, 6, .rc, false, .any⟩,
   ⟨14, 12, .rc, false, .any⟩,
   ⟨35, 35, .rc, false, .any⟩]⟩
/-- MEMC_CE_UNTRACKED: spec/07_memory.md/R220,R221. -/
def rMemc_CE_UNTRACKED : RegDesc := ⟨0x80, [], 0,
  [⟨31, 0, .ro, false, .any⟩]⟩
/-- MEMC_LAST: spec/07_memory.md/R220,R221. -/
def rMemc_LAST : RegDesc := ⟨0x100, [(8, 55)], 0,
  [⟨20, 0, .rc, false, .any⟩,
   ⟨22, 21, .rc, false, .any⟩,
   ⟨24, 23, .rc, false, .any⟩,
   ⟨30, 25, .rc, false, .any⟩,
   ⟨31, 31, .rc, false, .any⟩,
   ⟨35, 35, .rc, false, .any⟩]⟩
/-- MEMC_SEC: spec/07_memory.md/R220,R221. -/
def rMemc_SEC : RegDesc := ⟨0x300, [(8, 55)], 0,
  [⟨31, 0, .ro, false, .any⟩]⟩
/-- MEMC_DED: spec/07_memory.md/R220,R221. -/
def rMemc_DED : RegDesc := ⟨0x500, [(8, 55)], 0,
  [⟨31, 0, .ro, false, .any⟩]⟩
/-- MEMC_SPARE: spec/07_memory.md/R220,R221. -/
def rMemc_SPARE : RegDesc := ⟨0x700, [(8, 55)], 0,
  [⟨7, 0, .ro, false, .any⟩,
   ⟨15, 8, .ro, false, .any⟩,
   ⟨23, 16, .ro, false, .any⟩,
   ⟨24, 24, .ro, false, .any⟩]⟩
/-- The registers of MEMC: spec/07_memory.md/R220,R221. -/
def regsMEMC : List RegDesc :=
  [rMemc_PROFILE, rMemc_CTRL, rMemc_STAT, rMemc_LIMITS, rMemc_FLIP_CTRL, rMemc_FLIP_DATA, rMemc_FLIP_ADDR, rMemc_MARCH_CTRL, rMemc_MARCH_STAT, rMemc_REPAIR_CTRL, rMemc_REPAIR_STAT, rMemc_HOST_CTRL] ++
  [rMemc_IND_ADDR, rMemc_IND_DATA, rMemc_IND_CHK, rMemc_REFUSE, rMemc_CE_UNTRACKED, rMemc_LAST, rMemc_SEC, rMemc_DED, rMemc_SPARE]
/-- Profile 1 of MEMC: spec/07_memory.md/R220,R221. -/
def profileMEMC_1 : List ProfileSet :=
  [⟨0x18, [], 3, 0, 3, false⟩,
   ⟨0x18, [], 11, 4, 0x18, false⟩,
   ⟨0x18, [], 19, 12, 0x18, false⟩,
   ⟨0x18, [], 20, 20, 0, false⟩]
/-- Profile 2 of MEMC: spec/07_memory.md/R220,R221. -/
def profileMEMC_2 : List ProfileSet :=
  [⟨0x18, [], 3, 0, 3, false⟩,
   ⟨0x18, [], 11, 4, 0x18, false⟩,
   ⟨0x18, [], 19, 12, 8, false⟩,
   ⟨0x18, [], 20, 20, 1, false⟩]
/-- Profile 3 of MEMC: spec/07_memory.md/R220,R221. -/
def profileMEMC_3 : List ProfileSet :=
  [⟨0x18, [], 3, 0, 2, false⟩,
   ⟨0x18, [], 11, 4, 1, false⟩,
   ⟨0x18, [], 19, 12, 0, false⟩,
   ⟨0x18, [], 20, 20, 1, false⟩]
/-- VAULT_PROFILE: spec/07_memory.md/R222,R223. -/
def rVault_PROFILE : RegDesc := ⟨0, [], 1,
  [⟨7, 0, .rw, false, .within [(0, 1)]⟩]⟩
/-- VAULT_CTRL: spec/07_memory.md/R222,R223. -/
def rVault_CTRL : RegDesc := ⟨8, [], 0,
  [⟨0, 0, .wo, false, .any⟩]⟩
/-- VAULT_STAT: spec/07_memory.md/R222,R223. -/
def rVault_STAT : RegDesc := ⟨0x10, [], 0,
  [⟨0, 0, .ro, false, .any⟩,
   ⟨1, 1, .w1c, false, .any⟩,
   ⟨15, 2, .ro, false, .any⟩,
   ⟨31, 16, .ro, false, .any⟩]⟩
/-- VAULT_ADDR: spec/07_memory.md/R222,R223. -/
def rVault_ADDR : RegDesc := ⟨0x18, [], 0,
  [⟨12, 0, .rw, false, .any⟩,
   ⟨13, 13, .rw, false, .any⟩]⟩
/-- VAULT_DATA: spec/07_memory.md/R222,R223. -/
def rVault_DATA : RegDesc := ⟨0x20, [], 0,
  [⟨35, 0, .rw, false, .any⟩]⟩
/-- VAULT_KEYLOAD: spec/07_memory.md/R222,R223. -/
def rVault_KEYLOAD : RegDesc := ⟨0x28, [], 0,
  [⟨12, 0, .wo, false, .any⟩,
   ⟨16, 13, .wo, false, .any⟩,
   ⟨24, 17, .wo, false, .any⟩]⟩
/-- The registers of VAULT: spec/07_memory.md/R222,R223. -/
def regsVAULT : List RegDesc :=
  [rVault_PROFILE, rVault_CTRL, rVault_STAT, rVault_ADDR, rVault_DATA, rVault_KEYLOAD]
/-- FWC_PROFILE: spec/17_firmware_configuration.md/R499,R500. -/
def rFwc_PROFILE : RegDesc := ⟨0, [], 1,
  [⟨7, 0, .rw, false, .within [(0, 2)]⟩]⟩
/-- FWC_XFER_CMD: spec/17_firmware_configuration.md/R499,R500. -/
def rFwc_XFER_CMD : RegDesc := ⟨8, [], 0,
  [⟨2, 0, .wo, false, .within [(1, 6)]⟩,
   ⟨3, 3, .wo, false, .any⟩,
   ⟨4, 4, .ro, false, .any⟩,
   ⟨6, 5, .ro, false, .any⟩]⟩
/-- FWC_PIECE_CMD: spec/17_firmware_configuration.md/R499,R500. -/
def rFwc_PIECE_CMD : RegDesc := ⟨0x10, [], 0,
  [⟨14, 0, .wo, false, .any⟩,
   ⟨15, 15, .wo, false, .any⟩,
   ⟨23, 16, .wo, false, .any⟩]⟩
/-- FWC_PIECE_STAT: spec/17_firmware_configuration.md/R499,R500. -/
def rFwc_PIECE_STAT : RegDesc := ⟨0x18, [], 0,
  [⟨14, 0, .ro, false, .any⟩,
   ⟨15, 15, .ro, false, .any⟩,
   ⟨18, 16, .ro, false, .any⟩,
   ⟨21, 19, .ro, false, .any⟩,
   ⟨22, 22, .ro, false, .any⟩]⟩
/-- FWC_SLOT: spec/17_firmware_configuration.md/R499,R500. -/
def rFwc_SLOT : RegDesc := ⟨0x20, [(8, 2)], 0,
  [⟨2, 0, .ro, false, .any⟩,
   ⟨3, 3, .w1c, false, .any⟩,
   ⟨4, 4, .ro, false, .any⟩,
   ⟨19, 5, .ro, false, .any⟩,
   ⟨25, 20, .ro, false, .any⟩]⟩
/-- FWC_BITMAP_SEL: spec/17_firmware_configuration.md/R499,R500. -/
def rFwc_BITMAP_SEL : RegDesc := ⟨0x30, [], 0,
  [⟨10, 0, .rw, false, .any⟩,
   ⟨11, 11, .rw, false, .any⟩]⟩
/-- FWC_BITMAP: spec/17_firmware_configuration.md/R499,R500. -/
def rFwc_BITMAP : RegDesc := ⟨0x38, [], 0,
  [⟨31, 0, .ro, false, .any⟩]⟩
/-- FWC_LIMITS: spec/17_firmware_configuration.md/R499,R500. -/
def rFwc_LIMITS : RegDesc := ⟨0x40, [], 0x10,
  [⟨9, 0, .rw, true, .within [(10, 1000)]⟩]⟩
/-- FWC_ACT_AT: spec/17_firmware_configuration.md/R499,R500. -/
def rFwc_ACT_AT : RegDesc := ⟨0x48, [], 0,
  [⟨35, 0, .rw, false, .any⟩]⟩
/-- FWC_ACT_CTRL: spec/17_firmware_configuration.md/R499,R500. -/
def rFwc_ACT_CTRL : RegDesc := ⟨0x50, [], 0,
  [⟨0, 0, .wo, false, .any⟩,
   ⟨1, 1, .wo, false, .any⟩,
   ⟨2, 2, .wo, false, .any⟩,
   ⟨3, 3, .wo, false, .any⟩,
   ⟨4, 4, .wo, false, .any⟩]⟩
/-- FWC_ACT_STAT: spec/17_firmware_configuration.md/R499,R500. -/
def rFwc_ACT_STAT : RegDesc := ⟨0x58, [], 0,
  [⟨1, 0, .ro, false, .any⟩,
   ⟨7, 2, .ro, false, .any⟩,
   ⟨13, 8, .ro, false, .any⟩,
   ⟨27, 14, .ro, false, .any⟩]⟩
/-- FWC_CFG_CMD: spec/17_firmware_configuration.md/R499,R500. -/
def rFwc_CFG_CMD : RegDesc := ⟨0x60, [], 0,
  [⟨2, 0, .wo, false, .within [(1, 5)]⟩,
   ⟨12, 3, .wo, false, .any⟩,
   ⟨20, 13, .wo, false, .any⟩,
   ⟨21, 21, .wo, false, .any⟩,
   ⟨22, 22, .ro, false, .any⟩,
   ⟨25, 23, .ro, false, .any⟩,
   ⟨35, 26, .ro, false, .any⟩]⟩
/-- FWC_CFG_STAT: spec/17_firmware_configuration.md/R499,R500. -/
def rFwc_CFG_STAT : RegDesc := ⟨0x68, [], 0,
  [⟨0, 0, .ro, false, .any⟩,
   ⟨16, 1, .ro, false, .any⟩,
   ⟨26, 17, .ro, false, .any⟩,
   ⟨35, 27, .ro, false, .any⟩]⟩
/-- FWC_LC_CMD: spec/17_firmware_configuration.md/R499,R500. -/
def rFwc_LC_CMD : RegDesc := ⟨0x70, [], 0,
  [⟨2, 0, .wo, false, .within [(1, 6)]⟩,
   ⟨14, 3, .wo, false, .any⟩,
   ⟨22, 15, .wo, false, .any⟩,
   ⟨24, 23, .wo, false, .any⟩]⟩
/-- FWC_LC_STAT: spec/17_firmware_configuration.md/R499,R500. -/
def rFwc_LC_STAT : RegDesc := ⟨0x78, [], 0,
  [⟨2, 0, .ro, false, .any⟩,
   ⟨5, 3, .rc, false, .any⟩]⟩
/-- FWC_KEYSTAT: spec/17_firmware_configuration.md/R499,R500. -/
def rFwc_KEYSTAT : RegDesc := ⟨0x80, [], 0,
  [⟨3, 0, .ro, false, .any⟩,
   ⟨7, 4, .ro, false, .any⟩,
   ⟨13, 8, .ro, false, .any⟩]⟩
/-- FWC_TAMPER_CTRL: spec/17_firmware_configuration.md/R499,R500. -/
def rFwc_TAMPER_CTRL : RegDesc := ⟨0x88, [], 0,
  [⟨3, 0, .rw, false, .any⟩,
   ⟨7, 4, .rw, false, .any⟩,
   ⟨8, 8, .rw, false, .any⟩,
   ⟨9, 9, .rw, false, .any⟩,
   ⟨10, 10, .rw, false, .any⟩,
   ⟨11, 11, .rw, false, .any⟩,
   ⟨12, 12, .rw, false, .any⟩]⟩
/-- FWC_TAMPER_STAT: spec/17_firmware_configuration.md/R499,R500. -/
def rFwc_TAMPER_STAT : RegDesc := ⟨0x90, [], 0,
  [⟨6, 0, .w1c, false, .any⟩,
   ⟨22, 7, .ro, false, .any⟩]⟩
/-- The registers of FWC: spec/17_firmware_configuration.md/R499,R500. -/
def regsFWC : List RegDesc :=
  [rFwc_PROFILE, rFwc_XFER_CMD, rFwc_PIECE_CMD, rFwc_PIECE_STAT, rFwc_SLOT, rFwc_BITMAP_SEL, rFwc_BITMAP, rFwc_LIMITS, rFwc_ACT_AT, rFwc_ACT_CTRL, rFwc_ACT_STAT, rFwc_CFG_CMD] ++
  [rFwc_CFG_STAT, rFwc_LC_CMD, rFwc_LC_STAT, rFwc_KEYSTAT, rFwc_TAMPER_CTRL, rFwc_TAMPER_STAT]
/-- Profile 1 of FWC: spec/17_firmware_configuration.md/R499,R500. -/
def profileFWC_1 : List ProfileSet :=
  [⟨0x40, [], 9, 0, 0x10, false⟩]
/-- Profile 2 of FWC: spec/17_firmware_configuration.md/R499,R500. -/
def profileFWC_2 : List ProfileSet :=
  [⟨0x40, [], 9, 0, 0x64, false⟩]
/-- PRC_PROFILE: spec/16_startup_power.md/R470,R471. -/
def rPrc_PROFILE : RegDesc := ⟨0, [], 1,
  [⟨7, 0, .rw, false, .within [(0, 2)]⟩]⟩
/-- PRC_CTRL: spec/16_startup_power.md/R470,R471. -/
def rPrc_CTRL : RegDesc := ⟨8, [], 0,
  [⟨0, 0, .wo, false, .any⟩,
   ⟨1, 1, .wo, false, .any⟩,
   ⟨13, 2, .wo, false, .any⟩]⟩
/-- PRC_STAT: spec/16_startup_power.md/R470,R471. -/
def rPrc_STAT : RegDesc := ⟨0x10, [], 0,
  [⟨2, 0, .ro, false, .any⟩,
   ⟨3, 3, .ro, false, .any⟩,
   ⟨4, 4, .ro, false, .any⟩,
   ⟨5, 5, .ro, false, .any⟩]⟩
/-- PRC_STRAP: spec/16_startup_power.md/R470,R471. -/
def rPrc_STRAP : RegDesc := ⟨0x18, [], 0,
  [⟨5, 0, .ro, false, .any⟩,
   ⟨6, 6, .ro, false, .any⟩,
   ⟨7, 7, .ro, false, .any⟩,
   ⟨8, 8, .ro, false, .any⟩,
   ⟨9, 9, .ro, false, .any⟩,
   ⟨10, 10, .ro, false, .any⟩]⟩
/-- PRC_RSTCAUSE: spec/16_startup_power.md/R470,R471. -/
def rPrc_RSTCAUSE : RegDesc := ⟨0x20, [], 1,
  [⟨0, 0, .rc, false, .any⟩,
   ⟨1, 1, .rc, false, .any⟩,
   ⟨2, 2, .rc, false, .any⟩,
   ⟨3, 3, .rc, false, .any⟩,
   ⟨4, 4, .rc, false, .any⟩,
   ⟨5, 5, .rc, false, .any⟩]⟩
/-- PRC_WDOG: spec/16_startup_power.md/R470,R471. -/
def rPrc_WDOG : RegDesc := ⟨0x28, [], 0x190,
  [⟨0, 0, .wo, false, .any⟩,
   ⟨1, 1, .wo, false, .any⟩,
   ⟨11, 2, .rw, true, .within [(10, 1000)]⟩]⟩
/-- PRC_TELEM0: spec/16_startup_power.md/R470,R471. -/
def rPrc_TELEM0 : RegDesc := ⟨0x30, [], 0,
  [⟨11, 0, .ro, false, .any⟩,
   ⟨23, 12, .ro, false, .any⟩,
   ⟨35, 24, .ro, false, .any⟩]⟩
/-- PRC_TELEM1: spec/16_startup_power.md/R470,R471. -/
def rPrc_TELEM1 : RegDesc := ⟨0x38, [], 0,
  [⟨11, 0, .ro, false, .any⟩,
   ⟨23, 12, .ro, false, .any⟩]⟩
/-- PRC_CLS_CTRL: spec/16_startup_power.md/R470,R471. -/
def rPrc_CLS_CTRL : RegDesc := ⟨0x100, [(0x20, 12)], 4,
  [⟨0, 0, .wo, false, .any⟩,
   ⟨1, 1, .wo, false, .any⟩,
   ⟨3, 2, .rw, false, .within [(1, 3)]⟩,
   ⟨13, 4, .rw, true, .any⟩]⟩
/-- PRC_CLS_STAT: spec/16_startup_power.md/R470,R471. -/
def rPrc_CLS_STAT : RegDesc := ⟨0x108, [(0x20, 12)], 0,
  [⟨2, 0, .ro, false, .any⟩,
   ⟨3, 3, .w1c, false, .any⟩,
   ⟨19, 4, .ro, false, .any⟩,
   ⟨35, 20, .ro, false, .any⟩]⟩
/-- PRC_CLS_IMG: spec/16_startup_power.md/R470,R471. -/
def rPrc_CLS_IMG : RegDesc := ⟨0x110, [(0x20, 12)], 0,
  [⟨18, 0, .rw, false, .multiple 65536⟩,
   ⟨19, 19, .rw, false, .any⟩]⟩
/-- The registers of PRC: spec/16_startup_power.md/R470,R471. -/
def regsPRC : List RegDesc :=
  [rPrc_PROFILE, rPrc_CTRL, rPrc_STAT, rPrc_STRAP, rPrc_RSTCAUSE, rPrc_WDOG, rPrc_TELEM0, rPrc_TELEM1, rPrc_CLS_CTRL, rPrc_CLS_STAT, rPrc_CLS_IMG]
/-- Profile 1 of PRC: spec/16_startup_power.md/R470,R471. -/
def profilePRC_1 : List ProfileSet :=
  [⟨0x28, [], 11, 2, 0x64, false⟩,
   ⟨0x100, [(0x20, 12)], 13, 4, 0, false⟩]
/-- Profile 2 of PRC: spec/16_startup_power.md/R470,R471. -/
def profilePRC_2 : List ProfileSet :=
  [⟨0x28, [], 11, 2, 0x64, false⟩,
   ⟨0x100, [(0x20, 12)], 13, 4, 0x1F4, false⟩]
/-- TMX_PROFILE: spec/20_test_debug.md/R559,R560. -/
def rTmx_PROFILE : RegDesc := ⟨0, [], 1,
  [⟨7, 0, .rw, false, .within [(0, 1)]⟩]⟩
/-- TMX_MUX: spec/20_test_debug.md/R559,R560. -/
def rTmx_MUX : RegDesc := ⟨8, [(8, 4)], 0,
  [⟨4, 0, .rw, false, .within [(0, 14)]⟩,
   ⟨12, 5, .rw, false, .any⟩,
   ⟨16, 13, .rw, false, .any⟩,
   ⟨17, 17, .rw, false, .any⟩]⟩
/-- TMX_STAT: spec/20_test_debug.md/R559,R560. -/
def rTmx_STAT : RegDesc := ⟨0x28, [], 0,
  [⟨0, 0, .ro, false, .any⟩,
   ⟨1, 1, .ro, false, .any⟩]⟩
/-- TMX_DBG_CMD: spec/20_test_debug.md/R559,R560. -/
def rTmx_DBG_CMD : RegDesc := ⟨0x40, [], 0,
  [⟨3, 0, .rw, false, .within [(1, 8)]⟩,
   ⟨9, 4, .rw, false, .within [(0, 49)]⟩,
   ⟨18, 10, .rw, false, .any⟩,
   ⟨19, 19, .ro, false, .any⟩,
   ⟨21, 20, .ro, false, .any⟩]⟩
/-- TMX_DBG_DATA: spec/20_test_debug.md/R559,R560. -/
def rTmx_DBG_DATA : RegDesc := ⟨0x48, [], 0,
  [⟨35, 0, .rw, false, .any⟩]⟩
/-- TMX_DBG_HALT: spec/20_test_debug.md/R559,R560. -/
def rTmx_DBG_HALT : RegDesc := ⟨0x50, [(8, 2)], 0,
  [⟨31, 0, .ro, false, .any⟩]⟩
/-- TMX_BIST_CTRL: spec/20_test_debug.md/R559,R560. -/
def rTmx_BIST_CTRL : RegDesc := ⟨0x80, [], 0,
  [⟨0, 0, .rw, false, .any⟩,
   ⟨2, 1, .rw, false, .within [(1, 2)]⟩,
   ⟨6, 3, .rw, false, .any⟩,
   ⟨7, 7, .rw, false, .any⟩]⟩
/-- TMX_BIST_STAT: spec/20_test_debug.md/R559,R560. -/
def rTmx_BIST_STAT : RegDesc := ⟨0x88, [], 0,
  [⟨0, 0, .ro, false, .any⟩,
   ⟨1, 1, .w1c, false, .any⟩,
   ⟨5, 2, .ro, false, .any⟩]⟩
/-- TMX_PRBS_ERR: spec/20_test_debug.md/R559,R560. -/
def rTmx_PRBS_ERR : RegDesc := ⟨0x90, [], 0,
  [⟨35, 0, .rc, false, .any⟩]⟩
/-- The registers of TMX: spec/20_test_debug.md/R559,R560. -/
def regsTMX : List RegDesc :=
  [rTmx_PROFILE, rTmx_MUX, rTmx_STAT, rTmx_DBG_CMD, rTmx_DBG_DATA, rTmx_DBG_HALT, rTmx_BIST_CTRL, rTmx_BIST_STAT, rTmx_PRBS_ERR]
/-- MAC_PROFILE: spec/08_ethernet_mac.md/R252,R253. -/
def rMac_PROFILE : RegDesc := ⟨0, [], 1,
  [⟨7, 0, .rw, false, .within [(0, 3)]⟩]⟩
/-- MAC_CTRL: spec/08_ethernet_mac.md/R252,R253. -/
def rMac_CTRL : RegDesc := ⟨8, [], 0,
  [⟨0, 0, .wo, false, .any⟩,
   ⟨1, 1, .rw, false, .any⟩,
   ⟨2, 2, .rw, false, .any⟩,
   ⟨3, 3, .wo, false, .any⟩]⟩
/-- MAC_MODE: spec/08_ethernet_mac.md/R252,R253. -/
def rMac_MODE : RegDesc := ⟨0x10, [], 0,
  [⟨2, 0, .rw, false, .within [(0, 5)]⟩,
   ⟨4, 3, .rw, false, .any⟩,
   ⟨5, 5, .rw, false, .any⟩,
   ⟨6, 6, .rw, false, .any⟩]⟩
/-- MAC_CFG: spec/08_ethernet_mac.md/R252,R253. -/
def rMac_CFG : RegDesc := ⟨0x18, [], 0x8600,
  [⟨13, 0, .rw, false, .within [(1518, 9216)]⟩,
   ⟨14, 14, .rw, false, .any⟩,
   ⟨15, 15, .rw, true, .any⟩,
   ⟨16, 16, .rw, false, .any⟩,
   ⟨24, 17, .rw, false, .any⟩,
   ⟨25, 25, .rw, false, .any⟩]⟩
/-- MAC_STAT: spec/08_ethernet_mac.md/R252,R253. -/
def rMac_STAT : RegDesc := ⟨0x20, [], 0,
  [⟨2, 0, .ro, false, .any⟩,
   ⟨4, 3, .ro, false, .any⟩,
   ⟨7, 5, .ro, false, .any⟩,
   ⟨8, 8, .ro, false, .any⟩,
   ⟨9, 9, .ro, false, .any⟩,
   ⟨17, 10, .ro, false, .any⟩,
   ⟨18, 18, .ro, false, .any⟩,
   ⟨19, 19, .ro, false, .any⟩,
   ⟨20, 20, .ro, false, .any⟩,
   ⟨22, 21, .ro, false, .any⟩,
   ⟨23, 23, .ro, false, .any⟩]⟩
/-- MAC_LINK: spec/08_ethernet_mac.md/R252,R253. -/
def rMac_LINK : RegDesc := ⟨0x28, [], 0x320A,
  [⟨7, 0, .rw, true, .any⟩,
   ⟨15, 8, .rw, true, .within [(1, 255)]⟩]⟩
/-- MAC_FLAP: spec/08_ethernet_mac.md/R252,R253. -/
def rMac_FLAP : RegDesc := ⟨0x30, [], 0xA51E3C,
  [⟨7, 0, .rw, true, .within [(1, 255)]⟩,
   ⟨15, 8, .rw, true, .within [(1, 255)]⟩,
   ⟨19, 16, .rw, true, .within [(2, 15)]⟩,
   ⟨23, 20, .rw, true, .within [(2, 15)]⟩,
   ⟨24, 24, .rw, true, .any⟩]⟩
/-- MAC_PLUG: spec/08_ethernet_mac.md/R252,R253. -/
def rMac_PLUG : RegDesc := ⟨0x38, [], 0,
  [⟨11, 0, .rc, false, .any⟩,
   ⟨23, 12, .rc, false, .any⟩,
   ⟨35, 24, .rc, false, .any⟩]⟩
/-- MAC_PAUSE: spec/08_ethernet_mac.md/R252,R253. -/
def rMac_PAUSE : RegDesc := ⟨0x40, [], 0,
  [⟨15, 0, .rw, false, .any⟩,
   ⟨23, 16, .rw, false, .any⟩,
   ⟨24, 24, .wo, false, .any⟩]⟩
/-- MAC_PREEMPT: spec/08_ethernet_mac.md/R252,R253. -/
def rMac_PREEMPT : RegDesc := ⟨0x48, [], 0xA1FE,
  [⟨0, 0, .rw, false, .any⟩,
   ⟨8, 1, .rw, false, .any⟩,
   ⟨10, 9, .rw, true, .any⟩,
   ⟨11, 11, .rw, true, .any⟩,
   ⟨18, 12, .rw, true, .within [(1, 127)]⟩,
   ⟨21, 19, .ro, false, .any⟩]⟩
/-- MAC_HDX: spec/08_ethernet_mac.md/R252,R253. -/
def rMac_HDX : RegDesc := ⟨0x50, [], 0,
  [⟨15, 0, .rw, true, .within [(1, 65535)]⟩]⟩
/-- MAC_PLCA: spec/08_ethernet_mac.md/R252,R253. -/
def rMac_PLCA : RegDesc := ⟨0x58, [], 0x400000,
  [⟨0, 0, .rw, false, .any⟩,
   ⟨8, 1, .rw, false, .within [(0, 254)]⟩,
   ⟨16, 9, .rw, false, .any⟩,
   ⟨24, 17, .rw, false, .within [(1, 255)]⟩,
   ⟨32, 25, .rw, false, .any⟩]⟩
/-- MAC_PLCA_B: spec/08_ethernet_mac.md/R252,R253. -/
def rMac_PLCA_B : RegDesc := ⟨0x60, [], 0x80,
  [⟨7, 0, .rw, false, .within [(1, 255)]⟩]⟩
/-- MAC_LPI: spec/08_ethernet_mac.md/R252,R253. -/
def rMac_LPI : RegDesc := ⟨0x68, [], 0x220C8,
  [⟨0, 0, .rw, false, .any⟩,
   ⟨12, 1, .rw, true, .within [(1, 4095)]⟩,
   ⟨20, 13, .rw, true, .within [(1, 255)]⟩]⟩
/-- MAC_STEP: spec/08_ethernet_mac.md/R252,R253. -/
def rMac_STEP : RegDesc := ⟨0x70, [], 0x323C28,
  [⟨0, 0, .rw, false, .any⟩,
   ⟨7, 1, .rw, true, .within [(1, 100)]⟩,
   ⟨14, 8, .rw, true, .within [(1, 100)]⟩,
   ⟨22, 15, .rw, true, .within [(1, 255)]⟩]⟩
/-- MAC_EVTSTAT: spec/08_ethernet_mac.md/R252,R253. -/
def rMac_EVTSTAT : RegDesc := ⟨0x78, [], 0,
  [⟨5, 0, .w1c, false, .any⟩]⟩
/-- MAC_ADDR_HI: spec/08_ethernet_mac.md/R252,R253. -/
def rMac_ADDR_HI : RegDesc := ⟨0x80, [(0x10, 8)], 0,
  [⟨15, 0, .rw, false, .any⟩,
   ⟨16, 16, .rw, false, .any⟩,
   ⟨17, 17, .rw, false, .any⟩]⟩
/-- MAC_ADDR_LO: spec/08_ethernet_mac.md/R252,R253. -/
def rMac_ADDR_LO : RegDesc := ⟨0x88, [(0x10, 8)], 0,
  [⟨31, 0, .rw, false, .any⟩]⟩
/-- MAC_CNT: spec/08_ethernet_mac.md/R250. -/
def rMac_CNT : RegDesc := ⟨0x800, [(8, 27)], 0,
  [⟨35, 0, .ro, false, .any⟩]⟩
/-- MAC_SUMMARY: spec/08_ethernet_mac.md/R252,R253. -/
def rMac_SUMMARY : RegDesc := ⟨0x3F00, [], 0,
  [⟨17, 0, .ro, false, .any⟩]⟩
/-- MAC_TS_CFG: spec/09_timestamping_ptp.md/R275,R276. -/
def rMac_TS_CFG : RegDesc := ⟨0x1000, [], 0x271000,
  [⟨1, 0, .rw, false, .within [(0, 2)]⟩,
   ⟨5, 2, .rw, false, .any⟩,
   ⟨6, 6, .rw, false, .any⟩,
   ⟨23, 8, .rw, false, .within [(1, 65535)]⟩]⟩
/-- MAC_TS_RXADJ: spec/09_timestamping_ptp.md/R275,R276. -/
def rMac_TS_RXADJ : RegDesc := ⟨0x1008, [], 0,
  [⟨15, 0, .rw, false, .any⟩]⟩
/-- MAC_TS_TXADJ: spec/09_timestamping_ptp.md/R275,R276. -/
def rMac_TS_TXADJ : RegDesc := ⟨0x1010, [], 0,
  [⟨15, 0, .rw, false, .any⟩]⟩
/-- MAC_TS_LINKDLY: spec/09_timestamping_ptp.md/R275,R276. -/
def rMac_TS_LINKDLY : RegDesc := ⟨0x1018, [], 0,
  [⟨27, 0, .rw, false, .any⟩]⟩
/-- MAC_TS_CONST: spec/09_timestamping_ptp.md/R255,R276. -/
def rMac_TS_CONST : RegDesc := ⟨0x1020, [], 0,
  [⟨17, 0, .ro, false, .any⟩,
   ⟨35, 18, .ro, false, .any⟩]⟩
/-- MAC_TS_TXHEAD: spec/09_timestamping_ptp.md/R275,R276. -/
def rMac_TS_TXHEAD : RegDesc := ⟨0x1028, [], 0,
  [⟨5, 0, .ro, false, .any⟩,
   ⟨7, 6, .ro, false, .any⟩,
   ⟨8, 8, .ro, false, .any⟩,
   ⟨12, 9, .ro, false, .any⟩,
   ⟨28, 13, .ro, false, .any⟩]⟩
/-- MAC_TS_TXPOP: spec/09_timestamping_ptp.md/R275,R276. -/
def rMac_TS_TXPOP : RegDesc := ⟨0x1030, [], 0,
  [⟨35, 0, .ro, false, .any⟩]⟩
/-- MAC_TS_TXLOST: spec/09_timestamping_ptp.md/R275,R276. -/
def rMac_TS_TXLOST : RegDesc := ⟨0x1038, [], 0,
  [⟨19, 0, .rc, false, .any⟩]⟩
/-- MAC_TS_STAT: spec/09_timestamping_ptp.md/R275,R276. -/
def rMac_TS_STAT : RegDesc := ⟨0x1040, [], 0,
  [⟨0, 0, .w1c, false, .any⟩,
   ⟨1, 1, .w1c, false, .any⟩,
   ⟨2, 2, .w1c, false, .any⟩]⟩
/-- MAC_TS_CNT: spec/09_timestamping_ptp.md/R275,R276. -/
def rMac_TS_CNT : RegDesc := ⟨0x1080, [(8, 8)], 0,
  [⟨35, 0, .ro, false, .any⟩]⟩
/-- MAC_TS_SUMMARY: spec/09_timestamping_ptp.md/R275,R276. -/
def rMac_TS_SUMMARY : RegDesc := ⟨0x3F08, [], 0,
  [⟨17, 0, .ro, false, .any⟩]⟩
/-- The registers of MAC: spec/08_ethernet_mac.md/R252,R253. -/
def regsMAC : List RegDesc :=
  [rMac_PROFILE, rMac_CTRL, rMac_MODE, rMac_CFG, rMac_STAT, rMac_LINK, rMac_FLAP, rMac_PLUG, rMac_PAUSE, rMac_PREEMPT, rMac_HDX, rMac_PLCA] ++
  [rMac_PLCA_B, rMac_LPI, rMac_STEP, rMac_EVTSTAT, rMac_ADDR_HI, rMac_ADDR_LO, rMac_CNT, rMac_SUMMARY, rMac_TS_CFG, rMac_TS_RXADJ, rMac_TS_TXADJ, rMac_TS_LINKDLY] ++
  [rMac_TS_CONST, rMac_TS_TXHEAD, rMac_TS_TXPOP, rMac_TS_TXLOST, rMac_TS_STAT, rMac_TS_CNT, rMac_TS_SUMMARY]
/-- Profile 1 of MAC: spec/08_ethernet_mac.md/R252,R253. -/
def profileMAC_1 : List ProfileSet :=
  [⟨0x28, [], 7, 0, 0xA, false⟩,
   ⟨0x28, [], 15, 8, 0x32, false⟩,
   ⟨0x30, [], 7, 0, 0x3C, false⟩,
   ⟨0x30, [], 15, 8, 0x1E, false⟩,
   ⟨0x30, [], 19, 16, 5, false⟩,
   ⟨0x30, [], 23, 20, 0xA, false⟩,
   ⟨0x30, [], 24, 24, 0, false⟩,
   ⟨0x18, [], 15, 15, 1, false⟩,
   ⟨0x48, [], 10, 9, 0, false⟩,
   ⟨0x48, [], 11, 11, 0, false⟩,
   ⟨0x48, [], 18, 12, 0xA, false⟩,
   ⟨0x68, [], 12, 1, 0x64, false⟩,
   ⟨0x68, [], 20, 13, 0x11, false⟩,
   ⟨0x70, [], 7, 1, 0x14, false⟩,
   ⟨0x70, [], 14, 8, 0x3C, false⟩,
   ⟨0x70, [], 22, 15, 0x64, false⟩,
   ⟨0x50, [], 15, 0, 1, true⟩]
/-- Profile 2 of MAC: spec/08_ethernet_mac.md/R252,R253. -/
def profileMAC_2 : List ProfileSet :=
  [⟨0x28, [], 7, 0, 2, false⟩,
   ⟨0x28, [], 15, 8, 0xC8, false⟩,
   ⟨0x30, [], 7, 0, 0x3C, false⟩,
   ⟨0x30, [], 15, 8, 0x3C, false⟩,
   ⟨0x30, [], 19, 16, 3, false⟩,
   ⟨0x30, [], 23, 20, 0xA, false⟩,
   ⟨0x30, [], 24, 24, 1, false⟩,
   ⟨0x18, [], 15, 15, 0, false⟩,
   ⟨0x48, [], 10, 9, 0, false⟩,
   ⟨0x48, [], 11, 11, 0, false⟩,
   ⟨0x48, [], 18, 12, 0xA, false⟩,
   ⟨0x68, [], 12, 1, 0x64, false⟩,
   ⟨0x68, [], 20, 13, 0x11, false⟩,
   ⟨0x70, [], 7, 1, 0x14, false⟩,
   ⟨0x70, [], 14, 8, 0x3C, false⟩,
   ⟨0x70, [], 22, 15, 0x64, false⟩,
   ⟨0x50, [], 15, 0, 1, true⟩]
/-- Profile 3 of MAC: spec/08_ethernet_mac.md/R252,R253. -/
def profileMAC_3 : List ProfileSet :=
  [⟨0x28, [], 7, 0, 0x32, false⟩,
   ⟨0x28, [], 15, 8, 0x14, false⟩,
   ⟨0x30, [], 7, 0, 0x3C, false⟩,
   ⟨0x30, [], 15, 8, 0x1E, false⟩,
   ⟨0x30, [], 19, 16, 5, false⟩,
   ⟨0x30, [], 23, 20, 0xF, false⟩,
   ⟨0x30, [], 24, 24, 0, false⟩,
   ⟨0x18, [], 15, 15, 1, false⟩,
   ⟨0x48, [], 10, 9, 0, false⟩,
   ⟨0x48, [], 11, 11, 0, false⟩,
   ⟨0x48, [], 18, 12, 0xA, false⟩,
   ⟨0x68, [], 12, 1, 0x64, false⟩,
   ⟨0x68, [], 20, 13, 0x11, false⟩,
   ⟨0x70, [], 7, 1, 0x14, false⟩,
   ⟨0x70, [], 14, 8, 0x3C, false⟩,
   ⟨0x70, [], 22, 15, 0x64, false⟩,
   ⟨0x50, [], 15, 0, 1, true⟩]
/-- SWC_PROFILE: spec/10_massif_switch.md/R314,R315. -/
def rSwc_PROFILE : RegDesc := ⟨0, [], 1,
  [⟨7, 0, .rw, false, .within [(0, 3)]⟩]⟩
/-- SWC_CTRL: spec/10_massif_switch.md/R314,R315. -/
def rSwc_CTRL : RegDesc := ⟨8, [], 0,
  [⟨7, 0, .rw, false, .any⟩,
   ⟨8, 8, .rw, false, .any⟩,
   ⟨9, 9, .wo, false, .any⟩]⟩
/-- SWC_LIMITS: spec/10_massif_switch.md/R314,R315. -/
def rSwc_LIMITS : RegDesc := ⟨0x10, [], 0x106412C,
  [⟨9, 0, .rw, true, .within [(10, 1000)]⟩,
   ⟨19, 10, .rw, true, .within [(1, 1023)]⟩,
   ⟨27, 20, .rw, true, .within [(1, 255)]⟩]⟩
/-- SWC_FAB_STAT: spec/10_massif_switch.md/R314,R315. -/
def rSwc_FAB_STAT : RegDesc := ⟨0x18, [], 0xFFFFFFFF,
  [⟨31, 0, .ro, false, .any⟩]⟩
/-- SWC_FAB_SPARE: spec/10_massif_switch.md/R314,R315. -/
def rSwc_FAB_SPARE : RegDesc := ⟨0x20, [], 0,
  [⟨4, 0, .ro, false, .any⟩,
   ⟨5, 5, .ro, false, .any⟩]⟩
/-- SWC_CELL_STAT: spec/10_massif_switch.md/R314,R315. -/
def rSwc_CELL_STAT : RegDesc := ⟨0x28, [], 0,
  [⟨15, 0, .rc, false, .any⟩,
   ⟨31, 16, .rc, false, .any⟩]⟩
/-- SWC_FDB_CMD: spec/10_massif_switch.md/R314,R315. -/
def rSwc_FDB_CMD : RegDesc := ⟨0x30, [], 0,
  [⟨2, 0, .wo, false, .within [(1, 4)]⟩,
   ⟨16, 3, .rw, false, .any⟩,
   ⟨17, 17, .ro, false, .any⟩,
   ⟨18, 18, .ro, false, .any⟩,
   ⟨19, 19, .ro, false, .any⟩]⟩
/-- SWC_FDB_KEY0: spec/10_massif_switch.md/R314,R315. -/
def rSwc_FDB_KEY0 : RegDesc := ⟨0x38, [], 0,
  [⟨31, 0, .rw, false, .any⟩]⟩
/-- SWC_FDB_KEY1: spec/10_massif_switch.md/R314,R315. -/
def rSwc_FDB_KEY1 : RegDesc := ⟨0x40, [], 0,
  [⟨15, 0, .rw, false, .any⟩,
   ⟨27, 16, .rw, false, .within [(1, 4094)]⟩]⟩
/-- SWC_FDB_DATA: spec/10_massif_switch.md/R314,R315. -/
def rSwc_FDB_DATA : RegDesc := ⟨0x48, [], 0,
  [⟨21, 0, .rw, false, .any⟩,
   ⟨22, 22, .rw, false, .any⟩,
   ⟨23, 23, .ro, false, .any⟩,
   ⟨24, 24, .rw, false, .any⟩]⟩
/-- SWC_VLAN_CMD: spec/10_massif_switch.md/R314,R315. -/
def rSwc_VLAN_CMD : RegDesc := ⟨0x50, [], 0,
  [⟨11, 0, .wo, false, .within [(1, 4094)]⟩,
   ⟨13, 12, .wo, false, .within [(1, 2)]⟩]⟩
/-- SWC_VLAN_DATA0: spec/10_massif_switch.md/R314,R315. -/
def rSwc_VLAN_DATA0 : RegDesc := ⟨0x58, [], 0,
  [⟨19, 0, .rw, false, .any⟩,
   ⟨20, 20, .rw, false, .any⟩,
   ⟨21, 21, .rw, false, .any⟩,
   ⟨22, 22, .rw, false, .any⟩]⟩
/-- SWC_VLAN_DATA1: spec/10_massif_switch.md/R314,R315. -/
def rSwc_VLAN_DATA1 : RegDesc := ⟨0x60, [], 0,
  [⟨17, 0, .rw, false, .any⟩]⟩
/-- SWC_QCI_CMD: spec/10_massif_switch.md/R314,R315. -/
def rSwc_QCI_CMD : RegDesc := ⟨0x68, [], 0,
  [⟨1, 0, .wo, false, .within [(1, 2)]⟩,
   ⟨2, 2, .wo, false, .any⟩,
   ⟨12, 3, .wo, false, .any⟩]⟩
/-- SWC_QCI_DATA0: spec/10_massif_switch.md/R314,R315. -/
def rSwc_QCI_DATA0 : RegDesc := ⟨0x70, [], 0,
  [⟨31, 0, .rw, false, .any⟩]⟩
/-- SWC_QCI_DATA1: spec/10_massif_switch.md/R314,R315. -/
def rSwc_QCI_DATA1 : RegDesc := ⟨0x78, [], 0,
  [⟨15, 0, .rw, false, .any⟩,
   ⟨27, 16, .rw, false, .any⟩,
   ⟨29, 28, .rw, false, .within [(0, 2)]⟩,
   ⟨34, 30, .rw, false, .within [(0, 17)]⟩,
   ⟨35, 35, .rw, false, .any⟩]⟩
/-- SWC_QCI_DATA2: spec/10_massif_switch.md/R314,R315. -/
def rSwc_QCI_DATA2 : RegDesc := ⟨0x80, [], 0,
  [⟨13, 0, .rw, false, .any⟩,
   ⟨18, 14, .rw, false, .within [(0, 17)]⟩,
   ⟨21, 19, .rw, false, .any⟩,
   ⟨22, 22, .rw, false, .any⟩,
   ⟨30, 23, .rw, false, .any⟩,
   ⟨31, 31, .rw, false, .any⟩,
   ⟨32, 32, .rw, false, .any⟩,
   ⟨33, 33, .rw, false, .any⟩,
   ⟨34, 34, .rw, false, .any⟩]⟩
/-- SWC_MIRROR: spec/10_massif_switch.md/R314,R315. -/
def rSwc_MIRROR : RegDesc := ⟨0x88, [], 0,
  [⟨4, 0, .rw, false, .within [(0, 18)]⟩,
   ⟨5, 5, .rw, false, .any⟩,
   ⟨21, 6, .rw, false, .any⟩,
   ⟨24, 22, .rw, false, .any⟩]⟩
/-- SWC_PCFG: spec/10_massif_switch.md/R314,R315. -/
def rSwc_PCFG : RegDesc := ⟨0x1000, [(0x100, 18)], 0x2EE5F,
  [⟨0, 0, .rw, false, .any⟩,
   ⟨1, 1, .rw, false, .any⟩,
   ⟨2, 2, .rw, true, .any⟩,
   ⟨3, 3, .rw, false, .any⟩,
   ⟨4, 4, .rw, false, .any⟩,
   ⟨6, 6, .rw, false, .any⟩,
   ⟨7, 7, .rw, false, .any⟩,
   ⟨8, 8, .rw, false, .any⟩,
   ⟨21, 9, .rw, true, .within [(325, 8000)]⟩]⟩
/-- SWC_PCFG of P18 and P19, of which R314 leaves EN, LEARN and LL_DEST; the fields it leaves out read 0. (DEDUCED, log 44) -/
def rSwc_PCFG_P18_P19 : RegDesc := ⟨0x2200, [(0x100, 2)], 0x13,
  [⟨0, 0, .rw, false, .any⟩,
   ⟨1, 1, .rw, false, .any⟩,
   ⟨4, 4, .rw, false, .any⟩]⟩
/-- SWC_PVLAN: spec/10_massif_switch.md/R314,R315. -/
def rSwc_PVLAN : RegDesc := ⟨0x1008, [(0x100, 20)], 0xFAC688001,
  [⟨11, 0, .rw, false, .within [(1, 4094)]⟩,
   ⟨35, 12, .rw, false, .any⟩]⟩
/-- SWC_PBUF: spec/10_massif_switch.md/R314,R315. -/
def rSwc_PBUF : RegDesc := ⟨0x1010, [(0x100, 20)], 0x188001000,
  [⟨16, 0, .rw, false, .within [(1, 131071)]⟩,
   ⟨29, 17, .rw, false, .any⟩,
   ⟨32, 30, .rw, false, .any⟩]⟩
/-- SWC_PFLOW: spec/10_massif_switch.md/R314,R315. -/
def rSwc_PFLOW : RegDesc := ⟨0x1018, [(0x100, 20)], 0x4000800,
  [⟨15, 0, .rw, false, .any⟩,
   ⟨31, 16, .rw, false, .any⟩,
   ⟨32, 32, .rw, false, .any⟩]⟩
/-- SWC_GCTL: spec/10_massif_switch.md/R314,R315. -/
def rSwc_GCTL : RegDesc := ⟨0x1020, [(0x100, 20)], 0,
  [⟨0, 0, .rw, false, .any⟩,
   ⟨8, 1, .rw, false, .any⟩,
   ⟨9, 9, .ro, false, .any⟩,
   ⟨10, 10, .wo, false, .any⟩,
   ⟨11, 11, .ro, false, .any⟩,
   ⟨12, 12, .wo, false, .any⟩]⟩
/-- SWC_GBASE: spec/10_massif_switch.md/R314,R315. -/
def rSwc_GBASE : RegDesc := ⟨0x1028, [(0x100, 20)], 0,
  [⟨35, 0, .rw, false, .any⟩]⟩
/-- SWC_GCL_ADDR: spec/10_massif_switch.md/R314,R315. -/
def rSwc_GCL_ADDR : RegDesc := ⟨0x1030, [(0x100, 20)], 0,
  [⟨7, 0, .rw, false, .any⟩,
   ⟨8, 8, .rw, false, .any⟩]⟩
/-- SWC_GCL_DATA: spec/10_massif_switch.md/R314,R315. -/
def rSwc_GCL_DATA : RegDesc := ⟨0x1038, [(0x100, 20)], 0,
  [⟨7, 0, .rw, false, .any⟩,
   ⟨35, 8, .rw, false, .any⟩]⟩
/-- SWC_GSTAT: spec/10_massif_switch.md/R314,R315. -/
def rSwc_GSTAT : RegDesc := ⟨0x1040, [(0x100, 20)], 0,
  [⟨0, 0, .w1c, false, .any⟩,
   ⟨8, 1, .ro, false, .any⟩]⟩
/-- SWC_PCNT: spec/10_massif_switch.md/R314,R315. -/
def rSwc_PCNT : RegDesc := ⟨0x1080, [(0x100, 20), (8, 16)], 0,
  [⟨35, 0, .ro, false, .any⟩]⟩
/-- SWC_RPCFG: spec/10_massif_switch.md/R314,R315. -/
def rSwc_RPCFG : RegDesc := ⟨0x3000, [(0x80, 2)], 0,
  [⟨0, 0, .rw, false, .any⟩,
   ⟨1, 1, .rw, false, .any⟩,
   ⟨5, 2, .rw, false, .any⟩,
   ⟨9, 6, .rw, false, .any⟩]⟩
/-- SWC_RPSEQ: spec/10_massif_switch.md/R314,R315. -/
def rSwc_RPSEQ : RegDesc := ⟨0x3008, [(0x80, 2)], 0,
  [⟨15, 0, .rw, false, .any⟩]⟩
/-- SWC_RPCNT: spec/10_massif_switch.md/R314,R315. -/
def rSwc_RPCNT : RegDesc := ⟨0x3040, [(0x80, 2), (8, 7)], 0,
  [⟨35, 0, .ro, false, .any⟩]⟩
/-- The registers of SWC: spec/10_massif_switch.md/R314,R315. -/
def regsSWC : List RegDesc :=
  [rSwc_PROFILE, rSwc_CTRL, rSwc_LIMITS, rSwc_FAB_STAT, rSwc_FAB_SPARE, rSwc_CELL_STAT, rSwc_FDB_CMD, rSwc_FDB_KEY0, rSwc_FDB_KEY1, rSwc_FDB_DATA, rSwc_VLAN_CMD, rSwc_VLAN_DATA0] ++
  [rSwc_VLAN_DATA1, rSwc_QCI_CMD, rSwc_QCI_DATA0, rSwc_QCI_DATA1, rSwc_QCI_DATA2, rSwc_MIRROR, rSwc_PCFG, rSwc_PCFG_P18_P19, rSwc_PVLAN, rSwc_PBUF, rSwc_PFLOW, rSwc_GCTL, rSwc_GBASE] ++
  [rSwc_GCL_ADDR, rSwc_GCL_DATA, rSwc_GSTAT, rSwc_PCNT, rSwc_RPCFG, rSwc_RPSEQ, rSwc_RPCNT]
/-- Profile 1 of SWC: spec/10_massif_switch.md/R314,R315. -/
def profileSWC_1 : List ProfileSet :=
  [⟨0x10, [], 9, 0, 0x12C, false⟩,
   ⟨0x10, [], 19, 10, 0x190, false⟩,
   ⟨0x10, [], 27, 20, 0x10, false⟩,
   ⟨0x1000, [(0x100, 18)], 2, 2, 1, false⟩,
   ⟨0x1000, [(0x100, 18)], 21, 9, 0x177, false⟩]
/-- Profile 2 of SWC: spec/10_massif_switch.md/R314,R315. -/
def profileSWC_2 : List ProfileSet :=
  [⟨0x10, [], 9, 0, 0x12C, false⟩,
   ⟨0x10, [], 19, 10, 0x190, false⟩,
   ⟨0x10, [], 27, 20, 4, false⟩,
   ⟨0x1000, [(0x100, 18)], 2, 2, 0, false⟩,
   ⟨0x1000, [(0x100, 18)], 21, 9, 0x177, false⟩]
/-- Profile 3 of SWC: spec/10_massif_switch.md/R314,R315. -/
def profileSWC_3 : List ProfileSet :=
  [⟨0x10, [], 9, 0, 0x12C, false⟩,
   ⟨0x10, [], 19, 10, 0x190, false⟩,
   ⟨0x10, [], 27, 20, 0x10, false⟩,
   ⟨0x1000, [(0x100, 18)], 2, 2, 1, false⟩,
   ⟨0x1000, [(0x100, 18)], 21, 9, 0x145, false⟩]
/-- STS_PROFILE: spec/11_stream_services.md/R344,R345. -/
def rSts_PROFILE : RegDesc := ⟨0, [], 1,
  [⟨7, 0, .rw, false, .within [(0, 1)]⟩]⟩
/-- STS_CTRL: spec/11_stream_services.md/R344,R345. -/
def rSts_CTRL : RegDesc := ⟨8, [], 1,
  [⟨0, 0, .rw, false, .any⟩,
   ⟨8, 1, .rw, false, .any⟩,
   ⟨9, 9, .rw, false, .any⟩]⟩
/-- STS_LIMITS: spec/11_stream_services.md/R344,R345. -/
def rSts_LIMITS : RegDesc := ⟨0x10, [], 0x12690066,
  [⟨15, 0, .rw, true, .within [(1, 65535)]⟩,
   ⟨31, 16, .rw, true, .within [(1, 65535)]⟩]⟩
/-- STS_FREE: spec/11_stream_services.md/R344,R345. -/
def rSts_FREE : RegDesc := ⟨0x18, [], 0,
  [⟨16, 0, .wo, false, .any⟩]⟩
/-- STS_SUB_CMD: spec/11_stream_services.md/R344,R345. -/
def rSts_SUB_CMD : RegDesc := ⟨0x20, [], 0,
  [⟨1, 0, .wo, false, .within [(1, 3)]⟩,
   ⟨3, 2, .wo, false, .within [(0, 2)]⟩,
   ⟨15, 4, .wo, false, .any⟩,
   ⟨16, 16, .ro, false, .any⟩,
   ⟨17, 17, .ro, false, .any⟩]⟩
/-- STS_SUB_DATA0: spec/11_stream_services.md/R344,R345. -/
def rSts_SUB_DATA0 : RegDesc := ⟨0x28, [], 0,
  [⟨31, 0, .rw, false, .any⟩]⟩
/-- STS_SUB_DATA1: spec/11_stream_services.md/R344,R345. -/
def rSts_SUB_DATA1 : RegDesc := ⟨0x30, [], 0,
  [⟨15, 0, .rw, false, .any⟩,
   ⟨31, 16, .rw, false, .any⟩]⟩
/-- STS_SUB_DATA2: spec/11_stream_services.md/R344,R345. -/
def rSts_SUB_DATA2 : RegDesc := ⟨0x38, [], 0,
  [⟨11, 0, .rw, false, .any⟩,
   ⟨12, 12, .rw, false, .any⟩,
   ⟨13, 13, .rw, false, .any⟩,
   ⟨21, 14, .rw, false, .any⟩,
   ⟨22, 22, .rw, false, .any⟩]⟩
/-- STS_SUB_DATA3: spec/11_stream_services.md/R344,R345. -/
def rSts_SUB_DATA3 : RegDesc := ⟨0x40, [], 0,
  [⟨6, 0, .rw, false, .any⟩,
   ⟨8, 7, .rw, false, .within [(0, 2)]⟩,
   ⟨10, 9, .rw, false, .any⟩]⟩
/-- STS_SUB_AT: spec/11_stream_services.md/R344,R345. -/
def rSts_SUB_AT : RegDesc := ⟨0x48, [], 0,
  [⟨35, 0, .rw, false, .any⟩]⟩
/-- STS_SUB_CNT: spec/11_stream_services.md/R344,R345. -/
def rSts_SUB_CNT : RegDesc := ⟨0x50, [], 0,
  [⟨17, 0, .ro, false, .any⟩,
   ⟨35, 18, .ro, false, .any⟩]⟩
/-- STS_CNT: spec/11_stream_services.md/R344,R345. -/
def rSts_CNT : RegDesc := ⟨0x100, [(8, 11)], 0,
  [⟨35, 0, .ro, false, .any⟩]⟩
/-- STS_KSLOT: spec/11_stream_services.md/R344,R345. -/
def rSts_KSLOT : RegDesc := ⟨0x1000, [(8, 256)], 0,
  [⟨31, 0, .rw, false, .any⟩,
   ⟨33, 32, .rw, false, .any⟩,
   ⟨35, 35, .ro, false, .any⟩]⟩
/-- The registers of STS: spec/11_stream_services.md/R344,R345. -/
def regsSTS : List RegDesc :=
  [rSts_PROFILE, rSts_CTRL, rSts_LIMITS, rSts_FREE, rSts_SUB_CMD, rSts_SUB_DATA0, rSts_SUB_DATA1, rSts_SUB_DATA2, rSts_SUB_DATA3, rSts_SUB_AT, rSts_SUB_CNT, rSts_CNT] ++
  [rSts_KSLOT]
/-- Profile 1 of STS: spec/11_stream_services.md/R344,R345. -/
def profileSTS_1 : List ProfileSet :=
  [⟨0x10, [], 15, 0, 0x66, false⟩,
   ⟨0x10, [], 31, 16, 0x1269, false⟩]
/-- TAL_PROFILE: spec/11_stream_services.md/R344,R346. -/
def rTal_PROFILE : RegDesc := ⟨0, [], 1,
  [⟨7, 0, .rw, false, .within [(0, 3)]⟩]⟩
/-- TAL_STAT: spec/11_stream_services.md/R344,R346. -/
def rTal_STAT : RegDesc := ⟨8, [], 0,
  [⟨6, 0, .ro, false, .any⟩,
   ⟨17, 7, .ro, false, .any⟩]⟩
/-- TAL_BADINFO: spec/11_stream_services.md/R344,R346. -/
def rTal_BADINFO : RegDesc := ⟨0x10, [], 0,
  [⟨9, 0, .rc, false, .any⟩,
   ⟨15, 10, .rc, false, .any⟩,
   ⟨18, 16, .rc, false, .any⟩,
   ⟨35, 35, .rc, false, .any⟩]⟩
/-- TAL_RFREE: spec/11_stream_services.md/R344,R346. -/
def rTal_RFREE : RegDesc := ⟨0x18, [], 0,
  [⟨18, 0, .wo, false, .any⟩]⟩
/-- TAL_SUB_TSW: spec/11_stream_services.md/R344,R346. -/
def rTal_SUB_TSW : RegDesc := ⟨0x40, [], 0,
  [⟨35, 0, .wo, false, .any⟩]⟩
/-- TAL_SUB_CTICK: spec/11_stream_services.md/R344,R346. -/
def rTal_SUB_CTICK : RegDesc := ⟨0x48, [], 0,
  [⟨28, 0, .wo, false, .any⟩]⟩
/-- TAL_SUB_VAL: spec/11_stream_services.md/R344,R346. -/
def rTal_SUB_VAL : RegDesc := ⟨0x50, [(8, 8)], 0,
  [⟨31, 0, .wo, false, .any⟩]⟩
/-- TAL_SUB_HDR: spec/11_stream_services.md/R344,R346. -/
def rTal_SUB_HDR : RegDesc := ⟨0x90, [], 0,
  [⟨9, 0, .wo, false, .any⟩,
   ⟨25, 10, .wo, false, .any⟩,
   ⟨33, 26, .wo, false, .any⟩,
   ⟨34, 34, .wo, false, .any⟩,
   ⟨35, 35, .wo, false, .any⟩]⟩
/-- TAL_CNT: spec/11_stream_services.md/R344,R346. -/
def rTal_CNT : RegDesc := ⟨0x100, [(8, 11)], 0,
  [⟨35, 0, .ro, false, .any⟩]⟩
/-- TAL_GCFG: spec/11_stream_services.md/R344,R346. -/
def rTal_GCFG : RegDesc := ⟨0x800, [(0x40, 64)], 0,
  [⟨0, 0, .rw, false, .any⟩,
   ⟨2, 1, .rw, false, .any⟩,
   ⟨3, 3, .rw, false, .any⟩,
   ⟨4, 4, .rw, false, .any⟩,
   ⟨12, 5, .rw, false, .any⟩,
   ⟨20, 13, .rw, false, .within [(0, 191)]⟩]⟩
/-- TAL_GTIME: spec/11_stream_services.md/R344,R346. -/
def rTal_GTIME : RegDesc := ⟨0x808, [(0x40, 64)], 0x41F41F4,
  [⟨10, 0, .rw, true, .within [(1, 2000)]⟩,
   ⟨23, 11, .rw, true, .within [(250, 8000)]⟩,
   ⟨27, 24, .rw, true, .within [(1, 15)]⟩]⟩
/-- TAL_GSTART: spec/11_stream_services.md/R344,R346. -/
def rTal_GSTART : RegDesc := ⟨0x810, [(0x40, 64)], 0,
  [⟨35, 0, .rw, false, .any⟩]⟩
/-- TAL_GROWS: spec/11_stream_services.md/R344,R346. -/
def rTal_GROWS : RegDesc := ⟨0x818, [(0x40, 64)], 0,
  [⟨18, 0, .rw, false, .any⟩,
   ⟨26, 19, .rw, false, .any⟩]⟩
/-- TAL_GSTAT: spec/11_stream_services.md/R344,R346. -/
def rTal_GSTAT : RegDesc := ⟨0x820, [(0x40, 64)], 0,
  [⟨0, 0, .ro, false, .any⟩,
   ⟨1, 1, .ro, false, .any⟩,
   ⟨31, 2, .ro, false, .any⟩]⟩
/-- TAL_GCNT: spec/11_stream_services.md/R344,R346. -/
def rTal_GCNT : RegDesc := ⟨0x828, [(0x40, 64)], 0,
  [⟨17, 0, .ro, false, .any⟩,
   ⟨35, 18, .ro, false, .any⟩]⟩
/-- TAL_SCFG: spec/11_stream_services.md/R344,R346. -/
def rTal_SCFG : RegDesc := ⟨0x10000, [(0x40, 1024)], 0,
  [⟨0, 0, .rw, false, .any⟩,
   ⟨5, 1, .rw, false, .any⟩,
   ⟨11, 6, .rw, false, .any⟩,
   ⟨19, 12, .rw, false, .any⟩,
   ⟨22, 20, .rw, false, .any⟩,
   ⟨23, 23, .rw, false, .any⟩]⟩
/-- TAL_SRATE: spec/11_stream_services.md/R344,R346. -/
def rTal_SRATE : RegDesc := ⟨0x10008, [(0x40, 1024)], 0,
  [⟨13, 0, .rw, false, .any⟩,
   ⟨15, 14, .rw, false, .any⟩,
   ⟨34, 16, .rw, false, .any⟩]⟩
/-- TAL_SDLY: spec/11_stream_services.md/R344,R346. -/
def rTal_SDLY : RegDesc := ⟨0x10010, [(0x40, 1024)], 0,
  [⟨25, 0, .rw, false, .any⟩]⟩
/-- TAL_SADLY: spec/11_stream_services.md/R344,R346. -/
def rTal_SADLY : RegDesc := ⟨0x10018, [(0x40, 1024)], 0,
  [⟨25, 0, .rw, false, .any⟩]⟩
/-- TAL_SSTAT: spec/11_stream_services.md/R344,R346. -/
def rTal_SSTAT : RegDesc := ⟨0x10020, [(0x40, 1024)], 0,
  [⟨0, 0, .ro, false, .any⟩,
   ⟨1, 1, .ro, false, .any⟩,
   ⟨17, 2, .ro, false, .any⟩]⟩
/-- TAL_SCNT: spec/11_stream_services.md/R344,R346. -/
def rTal_SCNT : RegDesc := ⟨0x10028, [(0x40, 1024)], 0,
  [⟨17, 0, .ro, false, .any⟩,
   ⟨35, 18, .ro, false, .any⟩]⟩
/-- The registers of TAL: spec/11_stream_services.md/R344,R346. -/
def regsTAL : List RegDesc :=
  [rTal_PROFILE, rTal_STAT, rTal_BADINFO, rTal_RFREE, rTal_SUB_TSW, rTal_SUB_CTICK, rTal_SUB_VAL, rTal_SUB_HDR, rTal_CNT, rTal_GCFG, rTal_GTIME, rTal_GSTART] ++
  [rTal_GROWS, rTal_GSTAT, rTal_GCNT, rTal_SCFG, rTal_SRATE, rTal_SDLY, rTal_SADLY, rTal_SSTAT, rTal_SCNT]
/-- Profile 1 of TAL: spec/11_stream_services.md/R344,R346. -/
def profileTAL_1 : List ProfileSet :=
  [⟨0x808, [(0x40, 64)], 10, 0, 0x1F4, false⟩,
   ⟨0x808, [(0x40, 64)], 23, 11, 0x3E8, false⟩,
   ⟨0x808, [(0x40, 64)], 27, 24, 4, false⟩]
/-- Profile 2 of TAL: spec/11_stream_services.md/R344,R346. -/
def profileTAL_2 : List ProfileSet :=
  [⟨0x808, [(0x40, 64)], 10, 0, 0xFA, false⟩,
   ⟨0x808, [(0x40, 64)], 23, 11, 0x3E8, false⟩,
   ⟨0x808, [(0x40, 64)], 27, 24, 2, false⟩]
/-- Profile 3 of TAL: spec/11_stream_services.md/R344,R346. -/
def profileTAL_3 : List ProfileSet :=
  [⟨0x808, [(0x40, 64)], 10, 0, 0x7D0, false⟩,
   ⟨0x808, [(0x40, 64)], 23, 11, 0x7D0, false⟩,
   ⟨0x808, [(0x40, 64)], 27, 24, 8, false⟩]
/-- RLC_PROFILE: spec/12_ridgeline.md/R383,R384. -/
def rRlc_PROFILE : RegDesc := ⟨0, [], 1,
  [⟨7, 0, .rw, false, .within [(0, 3)]⟩]⟩
/-- RLC_CTRL: spec/12_ridgeline.md/R383,R384. -/
def rRlc_CTRL : RegDesc := ⟨8, [], 0,
  [⟨0, 0, .rw, false, .any⟩,
   ⟨1, 1, .rw, false, .any⟩,
   ⟨2, 2, .rw, false, .any⟩,
   ⟨3, 3, .wo, false, .any⟩]⟩
/-- RLC_CFG: spec/12_ridgeline.md/R383,R384. -/
def rRlc_CFG : RegDesc := ⟨0x10, [], 0x2C,
  [⟨0, 0, .rw, false, .any⟩,
   ⟨1, 1, .rw, false, .any⟩,
   ⟨2, 2, .rw, false, .any⟩,
   ⟨3, 3, .rw, false, .any⟩,
   ⟨5, 5, .rw, false, .any⟩]⟩
/-- RLC_STAT: spec/12_ridgeline.md/R383,R384. -/
def rRlc_STAT : RegDesc := ⟨0x18, [], 0,
  [⟨5, 0, .ro, false, .any⟩,
   ⟨8, 6, .ro, false, .any⟩,
   ⟨12, 9, .ro, false, .any⟩,
   ⟨13, 13, .ro, false, .any⟩,
   ⟨14, 14, .ro, false, .any⟩]⟩
/-- RLC_SYNC: spec/12_ridgeline.md/R383,R384. -/
def rRlc_SYNC : RegDesc := ⟨0x20, [], 0x40423264,
  [⟨8, 0, .rw, true, .within [(40, 400)]⟩,
   ⟨15, 9, .rw, true, .within [(10, 100)]⟩,
   ⟨19, 16, .rw, true, .within [(1, 15)]⟩,
   ⟨23, 20, .rw, true, .within [(2, 15)]⟩,
   ⟨31, 24, .rw, true, .within [(8, 255)]⟩]⟩
/-- RLC_CYCLE: spec/12_ridgeline.md/R383,R384. -/
def rRlc_CYCLE : RegDesc := ⟨0x28, [], 0,
  [⟨31, 0, .ro, false, .any⟩]⟩
/-- RLC_NOW: spec/12_ridgeline.md/R383,R384. -/
def rRlc_NOW : RegDesc := ⟨0x30, [], 0,
  [⟨35, 0, .ro, false, .any⟩]⟩
/-- RLC_CYC_TSW: spec/12_ridgeline.md/R383,R384. -/
def rRlc_CYC_TSW : RegDesc := ⟨0x38, [], 0,
  [⟨35, 0, .ro, false, .any⟩]⟩
/-- RLC_CORR: spec/12_ridgeline.md/R383,R384. -/
def rRlc_CORR : RegDesc := ⟨0x40, [], 0,
  [⟨15, 0, .ro, false, .any⟩,
   ⟨35, 16, .ro, false, .any⟩]⟩
/-- RLC_RXCFG: spec/12_ridgeline.md/R383,R384. -/
def rRlc_RXCFG : RegDesc := ⟨0x48, [], 0,
  [⟨9, 0, .rw, false, .any⟩,
   ⟨14, 10, .rw, false, .any⟩,
   ⟨15, 15, .rw, false, .any⟩,
   ⟨20, 16, .rw, false, .any⟩]⟩
/-- RLC_RXMASK: spec/12_ridgeline.md/R383,R384. -/
def rRlc_RXMASK : RegDesc := ⟨0x50, [(8, 3)], 0,
  [⟨31, 0, .rw, false, .any⟩]⟩
/-- RLC_SPARE: spec/12_ridgeline.md/R383,R384. -/
def rRlc_SPARE : RegDesc := ⟨0x68, [], 0,
  [⟨6, 0, .ro, false, .any⟩,
   ⟨8, 7, .ro, false, .any⟩]⟩
/-- RLC_ROOT: spec/12_ridgeline.md/R383,R384. -/
def rRlc_ROOT : RegDesc := ⟨0x70, [], 0,
  [⟨1, 0, .rw, false, .within [(0, 2)]⟩,
   ⟨7, 2, .ro, false, .any⟩,
   ⟨8, 8, .ro, false, .any⟩,
   ⟨9, 9, .ro, false, .any⟩]⟩
/-- RLC_FAR_CMD: spec/12_ridgeline.md/R383,R384. -/
def rRlc_FAR_CMD : RegDesc := ⟨0x78, [], 0,
  [⟨1, 0, .wo, false, .within [(1, 2)]⟩,
   ⟨7, 2, .wo, false, .any⟩,
   ⟨8, 8, .ro, false, .any⟩,
   ⟨9, 9, .ro, false, .any⟩]⟩
/-- RLC_FAR_ADDR: spec/12_ridgeline.md/R383,R384. -/
def rRlc_FAR_ADDR : RegDesc := ⟨0x80, [], 0,
  [⟨25, 0, .rw, false, .multiple 8⟩]⟩
/-- RLC_FAR_DATA: spec/12_ridgeline.md/R383,R384. -/
def rRlc_FAR_DATA : RegDesc := ⟨0x88, [], 0,
  [⟨35, 0, .rw, false, .any⟩]⟩
/-- RLC_FAIL: spec/12_ridgeline.md/R383,R384. -/
def rRlc_FAIL : RegDesc := ⟨0x90, [], 0,
  [⟨5, 0, .rc, false, .any⟩,
   ⟨28, 6, .rc, false, .any⟩,
   ⟨31, 29, .rc, false, .any⟩,
   ⟨35, 35, .rc, false, .any⟩]⟩
/-- RLC_REVT: spec/12_ridgeline.md/R383,R384. -/
def rRlc_REVT : RegDesc := ⟨0x98, [(8, 2)], 0,
  [⟨31, 0, .w1c, false, .any⟩]⟩
/-- RLC_SMAP: spec/12_ridgeline.md/R383,R384. -/
def rRlc_SMAP : RegDesc := ⟨0xA8, [(8, 4)], 0,
  [⟨31, 0, .ro, false, .any⟩]⟩
/-- RLC_CNT: spec/12_ridgeline.md/R383,R384. -/
def rRlc_CNT : RegDesc := ⟨0x100, [(8, 17)], 0,
  [⟨35, 0, .ro, false, .any⟩]⟩
/-- RLC_PDLY: spec/12_ridgeline.md/R383,R384. -/
def rRlc_PDLY : RegDesc := ⟨0x400, [(8, 64)], 0,
  [⟨13, 0, .rw, false, .any⟩,
   ⟨27, 14, .rw, false, .any⟩]⟩
/-- RLC_SLOTCNT: spec/12_ridgeline.md/R383,R384. -/
def rRlc_SLOTCNT : RegDesc := ⟨0x800, [(8, 80)], 0,
  [⟨17, 0, .rc, false, .any⟩,
   ⟨35, 18, .rc, false, .any⟩]⟩
/-- RLC_TXBUF: spec/12_ridgeline.md/R383,R384. -/
def rRlc_TXBUF : RegDesc := ⟨0x7000, [(0xA0, 8), (8, 20)], 0,
  [⟨35, 0, .rw, false, .any⟩]⟩
/-- RLC_RXBUF: spec/12_ridgeline.md/R383,R384. -/
def rRlc_RXBUF : RegDesc := ⟨0x8000, [(0xC0, 160), (8, 24)], 0,
  [⟨35, 0, .ro, false, .any⟩]⟩
/-- The registers of RLC: spec/12_ridgeline.md/R383,R384. -/
def regsRLC : List RegDesc :=
  [rRlc_PROFILE, rRlc_CTRL, rRlc_CFG, rRlc_STAT, rRlc_SYNC, rRlc_CYCLE, rRlc_NOW, rRlc_CYC_TSW, rRlc_CORR, rRlc_RXCFG, rRlc_RXMASK, rRlc_SPARE] ++
  [rRlc_ROOT, rRlc_FAR_CMD, rRlc_FAR_ADDR, rRlc_FAR_DATA, rRlc_FAIL, rRlc_REVT, rRlc_SMAP, rRlc_CNT, rRlc_PDLY, rRlc_SLOTCNT, rRlc_TXBUF, rRlc_RXBUF]
/-- Profile 1 of RLC: spec/12_ridgeline.md/R383,R384. -/
def profileRLC_1 : List ProfileSet :=
  [⟨0x20, [], 8, 0, 0x64, false⟩,
   ⟨0x20, [], 15, 9, 0x19, false⟩,
   ⟨0x20, [], 19, 16, 2, false⟩,
   ⟨0x20, [], 23, 20, 4, false⟩,
   ⟨0x20, [], 31, 24, 0x40, false⟩]
/-- Profile 2 of RLC: spec/12_ridgeline.md/R383,R384. -/
def profileRLC_2 : List ProfileSet :=
  [⟨0x20, [], 8, 0, 0x50, false⟩,
   ⟨0x20, [], 15, 9, 0x19, false⟩,
   ⟨0x20, [], 19, 16, 1, false⟩,
   ⟨0x20, [], 23, 20, 3, false⟩,
   ⟨0x20, [], 31, 24, 0x40, false⟩]
/-- Profile 3 of RLC: spec/12_ridgeline.md/R383,R384. -/
def profileRLC_3 : List ProfileSet :=
  [⟨0x20, [], 8, 0, 0xC8, false⟩,
   ⟨0x20, [], 15, 9, 0x28, false⟩,
   ⟨0x20, [], 19, 16, 2, false⟩,
   ⟨0x20, [], 23, 20, 4, false⟩,
   ⟨0x20, [], 31, 24, 0x80, false⟩]
/-- CAN_PROFILE: spec/13_can_fd.md/R405,R406. -/
def rCan_PROFILE : RegDesc := ⟨0, [], 1,
  [⟨7, 0, .rw, false, .within [(0, 4)]⟩]⟩
/-- CAN_CTRL: spec/13_can_fd.md/R405,R406. -/
def rCan_CTRL : RegDesc := ⟨8, [], 0,
  [⟨0, 0, .rw, false, .any⟩,
   ⟨2, 1, .rw, false, .any⟩,
   ⟨3, 3, .wo, false, .any⟩]⟩
/-- CAN_CFG: spec/13_can_fd.md/R405,R406. -/
def rCan_CFG : RegDesc := ⟨0x10, [], 0x38,
  [⟨0, 0, .rw, false, .any⟩,
   ⟨1, 1, .rw, false, .any⟩,
   ⟨2, 2, .rw, false, .any⟩,
   ⟨3, 3, .rw, true, .any⟩,
   ⟨7, 4, .rw, true, .within [(1, 15)]⟩,
   ⟨15, 8, .rw, false, .any⟩,
   ⟨16, 16, .rw, false, .any⟩,
   ⟨24, 17, .rw, false, .any⟩,
   ⟨25, 25, .rw, false, .any⟩,
   ⟨26, 26, .rw, false, .any⟩]⟩
/-- CAN_NBT: spec/13_can_fd.md/R405,R406. -/
def rCan_NBT : RegDesc := ⟨0x18, [], 0x78F3E00,
  [⟨7, 0, .rw, true, .any⟩,
   ⟨15, 8, .rw, true, .any⟩,
   ⟨22, 16, .rw, true, .any⟩,
   ⟨29, 23, .rw, true, .any⟩]⟩
/-- CAN_DBT: spec/13_can_fd.md/R405,R406. -/
def rCan_DBT : RegDesc := ⟨0x20, [], 0x84CDC0,
  [⟨4, 0, .rw, true, .any⟩,
   ⟨9, 5, .rw, true, .any⟩,
   ⟨13, 10, .rw, true, .any⟩,
   ⟨17, 14, .rw, true, .any⟩,
   ⟨18, 18, .rw, true, .any⟩,
   ⟨25, 19, .rw, true, .any⟩]⟩
/-- CAN_STAT: spec/13_can_fd.md/R405,R406. -/
def rCan_STAT : RegDesc := ⟨0x28, [], 0,
  [⟨2, 0, .ro, false, .any⟩,
   ⟨10, 3, .ro, false, .any⟩,
   ⟨18, 11, .ro, false, .any⟩,
   ⟨24, 19, .ro, false, .any⟩,
   ⟨25, 25, .ro, false, .any⟩,
   ⟨29, 26, .ro, false, .any⟩]⟩
/-- CAN_RXSTAT: spec/13_can_fd.md/R405,R406. -/
def rCan_RXSTAT : RegDesc := ⟨0x30, [], 0,
  [⟨6, 0, .ro, false, .any⟩,
   ⟨12, 7, .ro, false, .any⟩]⟩
/-- CAN_ERRINFO: spec/13_can_fd.md/R405,R406. -/
def rCan_ERRINFO : RegDesc := ⟨0x38, [], 0,
  [⟨2, 0, .rc, false, .any⟩,
   ⟨3, 3, .rc, false, .any⟩,
   ⟨13, 4, .ro, false, .any⟩]⟩
/-- CAN_TXCMD: spec/13_can_fd.md/R405,R406. -/
def rCan_TXCMD : RegDesc := ⟨0x40, [], 0,
  [⟨1, 0, .wo, false, .within [(1, 2)]⟩]⟩
/-- CAN_TXCANCEL: spec/13_can_fd.md/R405,R406. -/
def rCan_TXCANCEL : RegDesc := ⟨0x48, [], 0,
  [⟨2, 0, .wo, false, .within [(0, 5)]⟩,
   ⟨18, 3, .wo, false, .any⟩]⟩
/-- CAN_TXHEAD: spec/13_can_fd.md/R405,R406. -/
def rCan_TXHEAD : RegDesc := ⟨0x50, [], 0,
  [⟨5, 0, .ro, false, .any⟩,
   ⟨8, 6, .ro, false, .any⟩,
   ⟨11, 9, .ro, false, .any⟩,
   ⟨27, 12, .ro, false, .any⟩]⟩
/-- CAN_TXPOP: spec/13_can_fd.md/R405,R406. -/
def rCan_TXPOP : RegDesc := ⟨0x58, [], 0,
  [⟨35, 0, .ro, false, .any⟩]⟩
/-- CAN_RXFORCE: spec/13_can_fd.md/R405,R406. -/
def rCan_RXFORCE : RegDesc := ⟨0x60, [], 0,
  [⟨5, 0, .wo, false, .any⟩]⟩
/-- CAN_EVTSTAT: spec/13_can_fd.md/R405,R406. -/
def rCan_EVTSTAT : RegDesc := ⟨0x68, [], 0,
  [⟨6, 0, .w1c, false, .any⟩]⟩
/-- CAN_CNT: spec/13_can_fd.md/R405,R406. -/
def rCan_CNT : RegDesc := ⟨0x80, [(8, 18)], 0,
  [⟨35, 0, .ro, false, .any⟩]⟩
/-- CAN_FLT_ID: spec/13_can_fd.md/R405,R406. -/
def rCan_FLT_ID : RegDesc := ⟨0x200, [(0x10, 32)], 0,
  [⟨28, 0, .rw, false, .any⟩,
   ⟨29, 29, .rw, false, .any⟩,
   ⟨30, 30, .rw, false, .any⟩,
   ⟨31, 31, .rw, false, .any⟩]⟩
/-- CAN_FLT_MASK: spec/13_can_fd.md/R405,R406. -/
def rCan_FLT_MASK : RegDesc := ⟨0x208, [(0x10, 32)], 0,
  [⟨28, 0, .rw, false, .any⟩]⟩
/-- CAN_TXSTAGE: spec/13_can_fd.md/R405,R406. -/
def rCan_TXSTAGE : RegDesc := ⟨0x400, [(8, 18)], 0,
  [⟨35, 0, .rw, false, .any⟩]⟩
/-- CAN_TTB: spec/13_can_fd.md/R405,R406. -/
def rCan_TTB : RegDesc := ⟨0x500, [(0x90, 4), (8, 18)], 0,
  [⟨35, 0, .rw, false, .any⟩]⟩
/-- CAN_RXSEL: spec/13_can_fd.md/R405,R406. -/
def rCan_RXSEL : RegDesc := ⟨0x800, [], 0,
  [⟨5, 0, .rw, false, .any⟩]⟩
/-- CAN_RXWIN: spec/13_can_fd.md/R405,R406. -/
def rCan_RXWIN : RegDesc := ⟨0x808, [(8, 20)], 0,
  [⟨35, 0, .ro, false, .any⟩]⟩
/-- CAN_SUMMARY: spec/13_can_fd.md/R405,R406. -/
def rCan_SUMMARY : RegDesc := ⟨0x1F00, [], 0,
  [⟨7, 0, .ro, false, .any⟩]⟩
/-- The registers of CAN: spec/13_can_fd.md/R405,R406. -/
def regsCAN : List RegDesc :=
  [rCan_PROFILE, rCan_CTRL, rCan_CFG, rCan_NBT, rCan_DBT, rCan_STAT, rCan_RXSTAT, rCan_ERRINFO, rCan_TXCMD, rCan_TXCANCEL, rCan_TXHEAD, rCan_TXPOP] ++
  [rCan_RXFORCE, rCan_EVTSTAT, rCan_CNT, rCan_FLT_ID, rCan_FLT_MASK, rCan_TXSTAGE, rCan_TTB, rCan_RXSEL, rCan_RXWIN, rCan_SUMMARY]
/-- Profile 1 of CAN: spec/13_can_fd.md/R405,R406. -/
def profileCAN_1 : List ProfileSet :=
  [⟨0x18, [], 7, 0, 0, false⟩,
   ⟨0x18, [], 15, 8, 0x3E, false⟩,
   ⟨0x18, [], 22, 16, 0xF, false⟩,
   ⟨0x18, [], 29, 23, 0xF, false⟩,
   ⟨0x20, [], 4, 0, 0, false⟩,
   ⟨0x20, [], 9, 5, 0xE, false⟩,
   ⟨0x20, [], 13, 10, 3, false⟩,
   ⟨0x20, [], 17, 14, 3, false⟩,
   ⟨0x20, [], 18, 18, 1, false⟩,
   ⟨0x20, [], 25, 19, 0x10, false⟩,
   ⟨0x10, [], 3, 3, 1, false⟩,
   ⟨0x10, [], 7, 4, 3, false⟩]
/-- Profile 2 of CAN: spec/13_can_fd.md/R405,R406. -/
def profileCAN_2 : List ProfileSet :=
  [⟨0x18, [], 7, 0, 1, false⟩,
   ⟨0x18, [], 15, 8, 0x3E, false⟩,
   ⟨0x18, [], 22, 16, 0xF, false⟩,
   ⟨0x18, [], 29, 23, 0xF, false⟩,
   ⟨0x20, [], 4, 0, 0, false⟩,
   ⟨0x20, [], 9, 5, 0x1E, false⟩,
   ⟨0x20, [], 13, 10, 7, false⟩,
   ⟨0x20, [], 17, 14, 7, false⟩,
   ⟨0x20, [], 18, 18, 1, false⟩,
   ⟨0x20, [], 25, 19, 0x20, false⟩,
   ⟨0x10, [], 3, 3, 1, false⟩,
   ⟨0x10, [], 7, 4, 3, false⟩]
/-- Profile 3 of CAN: spec/13_can_fd.md/R405,R406. -/
def profileCAN_3 : List ProfileSet :=
  [⟨0x18, [], 7, 0, 0, false⟩,
   ⟨0x18, [], 15, 8, 0x1E, false⟩,
   ⟨0x18, [], 22, 16, 7, false⟩,
   ⟨0x18, [], 29, 23, 7, false⟩,
   ⟨0x20, [], 4, 0, 0, false⟩,
   ⟨0x20, [], 9, 5, 4, false⟩,
   ⟨0x20, [], 13, 10, 1, false⟩,
   ⟨0x20, [], 17, 14, 1, false⟩,
   ⟨0x20, [], 18, 18, 1, false⟩,
   ⟨0x20, [], 25, 19, 6, false⟩,
   ⟨0x10, [], 3, 3, 1, false⟩,
   ⟨0x10, [], 7, 4, 3, false⟩]
/-- Profile 4 of CAN: spec/13_can_fd.md/R405,R406. -/
def profileCAN_4 : List ProfileSet :=
  [⟨0x18, [], 7, 0, 0, false⟩,
   ⟨0x18, [], 15, 8, 0x3E, false⟩,
   ⟨0x18, [], 22, 16, 0xF, false⟩,
   ⟨0x18, [], 29, 23, 0xF, false⟩,
   ⟨0x20, [], 4, 0, 0, false⟩,
   ⟨0x20, [], 9, 5, 2, false⟩,
   ⟨0x20, [], 13, 10, 0, false⟩,
   ⟨0x20, [], 17, 14, 0, false⟩,
   ⟨0x20, [], 18, 18, 1, false⟩,
   ⟨0x20, [], 25, 19, 4, false⟩,
   ⟨0x10, [], 3, 3, 1, false⟩,
   ⟨0x10, [], 7, 4, 3, false⟩]
/-- TOR_PROFILE: spec/14_tor_units.md/R424,R425. -/
def rTor_PROFILE : RegDesc := ⟨0, [], 1,
  [⟨7, 0, .rw, false, .within [(0, 1)]⟩]⟩
/-- TOR_PADDR: spec/14_tor_units.md/R424,R425. -/
def rTor_PADDR : RegDesc := ⟨8, [], 0,
  [⟨9, 0, .rw, false, .any⟩]⟩
/-- TOR_PDATA: spec/14_tor_units.md/R424,R425. -/
def rTor_PDATA : RegDesc := ⟨0x10, [], 0,
  [⟨17, 0, .rw, false, .any⟩]⟩
/-- TOR_EVTSTAT: spec/14_tor_units.md/R424,R425. -/
def rTor_EVTSTAT : RegDesc := ⟨0x18, [], 0,
  [⟨2, 0, .w1c, false, .any⟩,
   ⟨18, 3, .w1c, false, .any⟩]⟩
/-- TOR_CNT: spec/14_tor_units.md/R424,R425. -/
def rTor_CNT : RegDesc := ⟨0x20, [(8, 4)], 0,
  [⟨35, 0, .ro, false, .any⟩]⟩
/-- TOR_CH_CTRL: spec/14_tor_units.md/R424,R425. -/
def rTor_CH_CTRL : RegDesc := ⟨0x800, [(0x80, 16)], 0,
  [⟨0, 0, .wo, false, .any⟩,
   ⟨1, 1, .wo, false, .any⟩,
   ⟨2, 2, .wo, false, .any⟩,
   ⟨3, 3, .wo, false, .any⟩,
   ⟨9, 4, .rw, false, .any⟩]⟩
/-- TOR_CH_CFG: spec/14_tor_units.md/R424,R425. -/
def rTor_CH_CFG : RegDesc := ⟨0x808, [(0x80, 16)], 0,
  [⟨6, 0, .rw, false, .any⟩,
   ⟨12, 7, .rw, false, .any⟩,
   ⟨14, 13, .rw, false, .within [(0, 2)]⟩,
   ⟨22, 15, .rw, false, .any⟩,
   ⟨23, 23, .rw, false, .any⟩,
   ⟨31, 24, .rw, false, .any⟩,
   ⟨32, 32, .rw, false, .any⟩]⟩
/-- TOR_CH_PINS: spec/14_tor_units.md/R424,R425. -/
def rTor_CH_PINS : RegDesc := ⟨0x810, [(0x80, 16)], 0,
  [⟨5, 0, .rw, false, .any⟩,
   ⟨11, 6, .rw, false, .any⟩,
   ⟨17, 12, .rw, false, .within [(0, 32)]⟩]⟩
/-- TOR_CH_SHIFT: spec/14_tor_units.md/R424,R425. -/
def rTor_CH_SHIFT : RegDesc := ⟨0x818, [(0x80, 16)], 0,
  [⟨4, 0, .rw, false, .any⟩,
   ⟨9, 5, .rw, false, .any⟩,
   ⟨10, 10, .rw, false, .any⟩,
   ⟨11, 11, .rw, false, .any⟩]⟩
/-- TOR_CH_SIG: spec/14_tor_units.md/R424,R425. -/
def rTor_CH_SIG : RegDesc := ⟨0x820, [(0x80, 16)], 0,
  [⟨9, 0, .rw, false, .any⟩,
   ⟨10, 10, .rw, false, .any⟩]⟩
/-- TOR_CH_STAT: spec/14_tor_units.md/R424,R425. -/
def rTor_CH_STAT : RegDesc := ⟨0x828, [(0x80, 16)], 0,
  [⟨1, 0, .ro, false, .any⟩,
   ⟨7, 2, .ro, false, .any⟩,
   ⟨13, 8, .ro, false, .any⟩,
   ⟨19, 14, .ro, false, .any⟩,
   ⟨23, 20, .ro, false, .any⟩,
   ⟨27, 24, .ro, false, .any⟩,
   ⟨30, 28, .ro, false, .any⟩,
   ⟨31, 31, .w1c, false, .any⟩,
   ⟨32, 32, .w1c, false, .any⟩,
   ⟨33, 33, .w1c, false, .any⟩]⟩
/-- TOR_CH_TRAP: spec/14_tor_units.md/R424,R425. -/
def rTor_CH_TRAP : RegDesc := ⟨0x830, [(0x80, 16)], 0,
  [⟨5, 0, .ro, false, .any⟩,
   ⟨23, 6, .ro, false, .any⟩]⟩
/-- TOR_CH_X: spec/14_tor_units.md/R424,R425. -/
def rTor_CH_X : RegDesc := ⟨0x838, [(0x80, 16)], 0,
  [⟨31, 0, .rw, false, .any⟩]⟩
/-- TOR_CH_Y: spec/14_tor_units.md/R424,R425. -/
def rTor_CH_Y : RegDesc := ⟨0x840, [(0x80, 16)], 0,
  [⟨31, 0, .rw, false, .any⟩]⟩
/-- TOR_CH_TXQ: spec/14_tor_units.md/R424,R425. -/
def rTor_CH_TXQ : RegDesc := ⟨0x848, [(0x80, 16)], 0,
  [⟨31, 0, .wo, false, .any⟩]⟩
/-- TOR_CH_RXQ: spec/14_tor_units.md/R424,R425. -/
def rTor_CH_RXQ : RegDesc := ⟨0x850, [(0x80, 16)], 0,
  [⟨31, 0, .ro, false, .any⟩,
   ⟨35, 35, .ro, false, .any⟩]⟩
/-- TOR_CH_TM: spec/14_tor_units.md/R424,R425. -/
def rTor_CH_TM : RegDesc := ⟨0x858, [(0x80, 16)], 0,
  [⟨31, 0, .rw, false, .any⟩]⟩
/-- TOR_PIN: spec/14_tor_units.md/R424,R425. -/
def rTor_PIN : RegDesc := ⟨0x1000, [(8, 64)], 0,
  [⟨5, 0, .rw, false, .any⟩,
   ⟨6, 6, .rw, false, .any⟩,
   ⟨8, 7, .rw, false, .within [(0, 2)]⟩,
   ⟨9, 9, .ro, false, .any⟩,
   ⟨10, 10, .ro, false, .any⟩]⟩
/-- The registers of TOR: spec/14_tor_units.md/R424,R425. -/
def regsTOR : List RegDesc :=
  [rTor_PROFILE, rTor_PADDR, rTor_PDATA, rTor_EVTSTAT, rTor_CNT, rTor_CH_CTRL, rTor_CH_CFG, rTor_CH_PINS, rTor_CH_SHIFT, rTor_CH_SIG, rTor_CH_STAT, rTor_CH_TRAP] ++
  [rTor_CH_X, rTor_CH_Y, rTor_CH_TXQ, rTor_CH_RXQ, rTor_CH_TM, rTor_PIN]
/-- HDMA_PROFILE: spec/15_host_interface.md/R447,R448. -/
def rHdma_PROFILE : RegDesc := ⟨0, [], 1,
  [⟨7, 0, .rw, false, .within [(0, 2)]⟩]⟩
/-- HDMA_CTRL: spec/15_host_interface.md/R447,R448. -/
def rHdma_CTRL : RegDesc := ⟨8, [], 0,
  [⟨5, 0, .rw, false, .any⟩,
   ⟨6, 6, .rw, false, .any⟩,
   ⟨14, 7, .rw, false, .any⟩,
   ⟨15, 15, .rw, false, .any⟩,
   ⟨16, 16, .rw, false, .any⟩]⟩
/-- HDMA_LINK: spec/15_host_interface.md/R447,R448. -/
def rHdma_LINK : RegDesc := ⟨0x10, [], 0,
  [⟨2, 0, .ro, false, .any⟩,
   ⟨5, 3, .ro, false, .any⟩,
   ⟨6, 6, .ro, false, .any⟩]⟩
/-- HDMA_ERRLOG: spec/15_host_interface.md/R447,R448. -/
def rHdma_ERRLOG : RegDesc := ⟨0x18, [], 0,
  [⟨5, 0, .rc, false, .any⟩,
   ⟨6, 6, .rc, false, .any⟩,
   ⟨9, 7, .rc, false, .any⟩,
   ⟨35, 35, .rc, false, .any⟩]⟩
/-- HDMA_RXSUM: spec/15_host_interface.md/R447,R448. -/
def rHdma_RXSUM : RegDesc := ⟨0x20, [(8, 2)], 0,
  [⟨31, 0, .w1c, false, .any⟩]⟩
/-- HDMA_TXSUM: spec/15_host_interface.md/R447,R448. -/
def rHdma_TXSUM : RegDesc := ⟨0x30, [(8, 2)], 0,
  [⟨31, 0, .w1c, false, .any⟩]⟩
/-- HDMA_TXFREE: spec/15_host_interface.md/R447,R448. -/
def rHdma_TXFREE : RegDesc := ⟨0x40, [], 0,
  [⟨16, 0, .wo, false, .any⟩]⟩
/-- HDMA_CNT: spec/15_host_interface.md/R447,R448. -/
def rHdma_CNT : RegDesc := ⟨0x80, [(8, 8)], 0,
  [⟨35, 0, .ro, false, .any⟩]⟩
/-- HDMA_RING_BASE_LO: spec/15_host_interface.md/R447,R448. -/
def rHdma_RING_BASE_LO : RegDesc := ⟨0x1000, [(0x1000, 2), (0x40, 64)], 0,
  [⟨31, 0, .rw, false, .multiple 32⟩]⟩
/-- HDMA_RING_BASE_HI: spec/15_host_interface.md/R447,R448. -/
def rHdma_RING_BASE_HI : RegDesc := ⟨0x1008, [(0x1000, 2), (0x40, 64)], 0,
  [⟨31, 0, .rw, false, .any⟩]⟩
/-- HDMA_RING_CFG: spec/15_host_interface.md/R447,R448. -/
def rHdma_RING_CFG : RegDesc := ⟨0x1010, [(0x1000, 2), (0x40, 64)], 0xC800030,
  [⟨0, 0, .rw, false, .any⟩,
   ⟨4, 1, .rw, false, .within [(3, 12)]⟩,
   ⟨12, 5, .rw, true, .within [(1, 255)]⟩,
   ⟨20, 13, .rw, true, .any⟩,
   ⟨30, 21, .rw, true, .any⟩,
   ⟨31, 31, .rw, false, .any⟩]⟩
/-- HDMA_RING_TAIL: spec/15_host_interface.md/R447,R448. -/
def rHdma_RING_TAIL : RegDesc := ⟨0x1018, [(0x1000, 2), (0x40, 64)], 0,
  [⟨15, 0, .rw, false, .any⟩]⟩
/-- HDMA_RING_HEAD: spec/15_host_interface.md/R447,R448. -/
def rHdma_RING_HEAD : RegDesc := ⟨0x1020, [(0x1000, 2), (0x40, 64)], 0x10000,
  [⟨15, 0, .ro, false, .any⟩,
   ⟨16, 16, .ro, false, .any⟩]⟩
/-- The registers of HDMA: spec/15_host_interface.md/R447,R448. -/
def regsHDMA : List RegDesc :=
  [rHdma_PROFILE, rHdma_CTRL, rHdma_LINK, rHdma_ERRLOG, rHdma_RXSUM, rHdma_TXSUM, rHdma_TXFREE, rHdma_CNT, rHdma_RING_BASE_LO, rHdma_RING_BASE_HI, rHdma_RING_CFG, rHdma_RING_TAIL] ++
  [rHdma_RING_HEAD]
/-- Profile 1 of HDMA: spec/15_host_interface.md/R447,R448. -/
def profileHDMA_1 : List ProfileSet :=
  [⟨0x1010, [(0x1000, 2), (0x40, 64)], 12, 5, 1, false⟩,
   ⟨0x1010, [(0x1000, 2), (0x40, 64)], 20, 13, 0, false⟩,
   ⟨0x1010, [(0x1000, 2), (0x40, 64)], 30, 21, 0x64, false⟩]
/-- Profile 2 of HDMA: spec/15_host_interface.md/R447,R448. -/
def profileHDMA_2 : List ProfileSet :=
  [⟨0x1010, [(0x1000, 2), (0x40, 64)], 12, 5, 0x10, false⟩,
   ⟨0x1010, [(0x1000, 2), (0x40, 64)], 20, 13, 0x32, false⟩,
   ⟨0x1010, [(0x1000, 2), (0x40, 64)], 30, 21, 0x64, false⟩]
/-- CE_PROFILE: spec/03_crag_engines.md/R104,R105. -/
def rCe_PROFILE : RegDesc := ⟨0, [], 1,
  [⟨7, 0, .rw, false, .within [(0, 3)]⟩]⟩
/-- CE_CTRL: spec/03_crag_engines.md/R104,R105. -/
def rCe_CTRL : RegDesc := ⟨8, [], 0,
  [⟨0, 0, .rw, false, .any⟩,
   ⟨1, 1, .rw, false, .any⟩,
   ⟨2, 2, .rw, false, .any⟩,
   ⟨3, 3, .rw, false, .any⟩]⟩
/-- CE_STAT: spec/03_crag_engines.md/R104,R105. -/
def rCe_STAT : RegDesc := ⟨0x10, [], 2,
  [⟨2, 0, .ro, false, .any⟩,
   ⟨3, 3, .ro, false, .any⟩,
   ⟨4, 4, .ro, false, .any⟩,
   ⟨5, 5, .ro, false, .any⟩,
   ⟨15, 6, .ro, false, .any⟩,
   ⟨20, 16, .ro, false, .any⟩,
   ⟨27, 21, .ro, false, .any⟩]⟩
/-- CE_TRAPCTL: spec/03_crag_engines.md/R104,R105. -/
def rCe_TRAPCTL : RegDesc := ⟨0x18, [], 0,
  [⟨0, 0, .rw, false, .any⟩,
   ⟨1, 1, .rw, false, .any⟩]⟩
/-- CE_TRAP_CAUSE: spec/03_crag_engines.md/R104,R105. -/
def rCe_TRAP_CAUSE : RegDesc := ⟨0x20, [], 0,
  [⟨4, 0, .ro, false, .any⟩,
   ⟨5, 5, .ro, false, .any⟩]⟩
/-- CE_TRAP_PC: spec/03_crag_engines.md/R104,R105. -/
def rCe_TRAP_PC : RegDesc := ⟨0x28, [], 0,
  [⟨15, 0, .ro, false, .any⟩,
   ⟨16, 16, .ro, false, .any⟩,
   ⟨30, 17, .ro, false, .any⟩,
   ⟨32, 31, .ro, false, .any⟩]⟩
/-- CE_TRAP_ADDR: spec/03_crag_engines.md/R104,R105. -/
def rCe_TRAP_ADDR : RegDesc := ⟨0x30, [], 0,
  [⟨23, 0, .ro, false, .any⟩]⟩
/-- CE_RESUME: spec/03_crag_engines.md/R104,R105. -/
def rCe_RESUME : RegDesc := ⟨0x38, [], 0,
  [⟨1, 0, .wo, false, .within [(1, 3)]⟩]⟩
/-- CE_PLOAD_ADDR: spec/03_crag_engines.md/R104,R105. -/
def rCe_PLOAD_ADDR : RegDesc := ⟨0x40, [], 0,
  [⟨15, 0, .rw, false, .any⟩,
   ⟨16, 16, .rw, false, .any⟩]⟩
/-- CE_PLOAD_DATA: spec/03_crag_engines.md/R104,R105. -/
def rCe_PLOAD_DATA : RegDesc := ⟨0x48, [], 0,
  [⟨13, 0, .rw, false, .any⟩]⟩
/-- CE_SPILL_BASE: spec/03_crag_engines.md/R104,R105. -/
def rCe_SPILL_BASE : RegDesc := ⟨0x50, [], 0,
  [⟨17, 0, .rw, false, .multiple 8⟩]⟩
/-- CE_SPILL_LIMIT: spec/03_crag_engines.md/R104,R105. -/
def rCe_SPILL_LIMIT : RegDesc := ⟨0x58, [], 0,
  [⟨17, 0, .rw, false, .any⟩]⟩
/-- CE_DS_BASE: spec/03_crag_engines.md/R104,R105. -/
def rCe_DS_BASE : RegDesc := ⟨0x60, [], 0,
  [⟨17, 0, .rw, false, .any⟩]⟩
/-- CE_DS_LIMIT: spec/03_crag_engines.md/R104,R105. -/
def rCe_DS_LIMIT : RegDesc := ⟨0x68, [], 0,
  [⟨17, 0, .rw, false, .any⟩]⟩
/-- CE_LIMITS: spec/03_crag_engines.md/R104,R105. -/
def rCe_LIMITS : RegDesc := ⟨0x70, [], 0x20100000,
  [⟨15, 0, .rw, true, .any⟩,
   ⟨25, 16, .rw, true, .any⟩,
   ⟨31, 26, .rw, true, .within [(1, 40)]⟩]⟩
/-- CE_MPU_BASE: spec/03_crag_engines.md/R104,R105. -/
def rCe_MPU_BASE : RegDesc := ⟨0x80, [(0x10, 8)], 0,
  [⟨23, 6, .rw, false, .any⟩]⟩
/-- CE_MPU_LIM: spec/03_crag_engines.md/R104,R105. -/
def rCe_MPU_LIM : RegDesc := ⟨0x88, [(0x10, 8)], 0,
  [⟨23, 6, .rw, false, .any⟩,
   ⟨24, 24, .rw, false, .any⟩,
   ⟨25, 25, .rw, false, .any⟩,
   ⟨26, 26, .rw, false, .any⟩]⟩
/-- CE_SLACK_MIN: spec/03_crag_engines.md/R104,R105. -/
def rCe_SLACK_MIN : RegDesc := ⟨0x100, [], 0xFFFFF,
  [⟨19, 0, .rc, false, .any⟩]⟩
/-- CE_SLACK_HIST: spec/03_crag_engines.md/R104,R105. -/
def rCe_SLACK_HIST : RegDesc := ⟨0x108, [(8, 8)], 0,
  [⟨31, 0, .rc, false, .any⟩]⟩
/-- CE_LATE: spec/03_crag_engines.md/R104,R105. -/
def rCe_LATE : RegDesc := ⟨0x148, [], 0,
  [⟨31, 0, .ro, false, .any⟩]⟩
/-- CE_BUNDLES: spec/03_crag_engines.md/R104,R105. -/
def rCe_BUNDLES : RegDesc := ⟨0x150, [], 0,
  [⟨35, 0, .ro, false, .any⟩]⟩
/-- CE_STALLS: spec/03_crag_engines.md/R104,R105. -/
def rCe_STALLS : RegDesc := ⟨0x158, [], 0,
  [⟨35, 0, .ro, false, .any⟩]⟩
/-- CE_PAIR_STAT: spec/03_crag_engines.md/R104,R105. -/
def rCe_PAIR_STAT : RegDesc := ⟨0x160, [], 0,
  [⟨15, 0, .ro, false, .any⟩,
   ⟨31, 16, .ro, false, .any⟩]⟩
/-- The registers of CE: spec/03_crag_engines.md/R104,R105. -/
def regsCE : List RegDesc :=
  [rCe_PROFILE, rCe_CTRL, rCe_STAT, rCe_TRAPCTL, rCe_TRAP_CAUSE, rCe_TRAP_PC, rCe_TRAP_ADDR, rCe_RESUME, rCe_PLOAD_ADDR, rCe_PLOAD_DATA, rCe_SPILL_BASE, rCe_SPILL_LIMIT] ++
  [rCe_DS_BASE, rCe_DS_LIMIT, rCe_LIMITS, rCe_MPU_BASE, rCe_MPU_LIM, rCe_SLACK_MIN, rCe_SLACK_HIST, rCe_LATE, rCe_BUNDLES, rCe_STALLS, rCe_PAIR_STAT]
/-- Profile 1 of CE: spec/03_crag_engines.md/R104,R105. -/
def profileCE_1 : List ProfileSet :=
  [⟨0x70, [], 15, 0, 0, false⟩,
   ⟨0x70, [], 25, 16, 0x10, false⟩,
   ⟨0x70, [], 31, 26, 8, false⟩]
/-- Profile 2 of CE: spec/03_crag_engines.md/R104,R105. -/
def profileCE_2 : List ProfileSet :=
  [⟨0x70, [], 15, 0, 0x2000, false⟩,
   ⟨0x70, [], 25, 16, 0x40, false⟩,
   ⟨0x70, [], 31, 26, 4, false⟩]
/-- Profile 3 of CE: spec/03_crag_engines.md/R104,R105. -/
def profileCE_3 : List ProfileSet :=
  [⟨0x70, [], 15, 0, 0xFFFF, false⟩,
   ⟨0x70, [], 25, 16, 0x100, false⟩,
   ⟨0x70, [], 31, 26, 0x28, false⟩]

end Sys2Proof.Machine.RegTable
end

