-- ==== Sys2Proof/Machine/Regs.lean ====
section
/-! DEFINITION. Looking a register up by its BAR0 octet offset: blocks, instances, descriptors, reset words, legal
encodings and profile values (spec/15_host_interface.md R431, spec/00_scope.md R9 to R12). -/
namespace Sys2Proof.Machine

/-- First BAR0 offset of a block, the stride and the number of its instances (R431). -/
def Block.place : Block → Nat × Nat × Nat
  | .gctl => (0x000000, 0x10000, 1)
  | .evc => (0x010000, 0x10000, 1)
  | .tbu => (0x020000, 0x10000, 1)
  | .strata => (0x030000, 0x10000, 1)
  | .talus => (0x040000, 0x10000, 1)
  | .col => (0x050000, 0x10000, 1)
  | .memc => (0x060000, 0x10000, 1)
  | .vault => (0x070000, 0x10000, 1)
  | .fwc => (0x080000, 0x10000, 1)
  | .prc => (0x090000, 0x10000, 1)
  | .tmx => (0x0A0000, 0x10000, 1)
  | .mac => (0x100000, 0x4000, 18)
  | .swc => (0x180000, 0x80000, 1)
  | .sts => (0x200000, 0x80000, 1)
  | .tal => (0x280000, 0x80000, 1)
  | .rlc => (0x300000, 0x10000, 1)
  | .can => (0x310000, 0x2000, 8)
  | .tor => (0x320000, 0x4000, 4)
  | .hdma => (0x330000, 0x10000, 1)
  | .ce => (0x400000, 0x10000, 50)

/-- The registers of a block. -/
def Block.regs : Block → List RegDesc
  | .gctl => RegTable.regsGCTL
  | .evc => RegTable.regsEVC
  | .tbu => RegTable.regsTBU
  | .strata => RegTable.regsSTRATA
  | .talus => RegTable.regsTALUS
  | .col => RegTable.regsCOL
  | .memc => RegTable.regsMEMC
  | .vault => RegTable.regsVAULT
  | .fwc => RegTable.regsFWC
  | .prc => RegTable.regsPRC
  | .tmx => RegTable.regsTMX
  | .mac => RegTable.regsMAC
  | .swc => RegTable.regsSWC
  | .sts => RegTable.regsSTS
  | .tal => RegTable.regsTAL
  | .rlc => RegTable.regsRLC
  | .can => RegTable.regsCAN
  | .tor => RegTable.regsTOR
  | .hdma => RegTable.regsHDMA
  | .ce => RegTable.regsCE

/-- The Expert values of a basic profile; an unassigned profile number has none (R11). -/
def Block.profile : Block → Nat → List ProfileSet
  | .gctl, 1 => RegTable.profileGCTL_1
  | .gctl, 2 => RegTable.profileGCTL_2
  | .evc, 1 => RegTable.profileEVC_1
  | .evc, 2 => RegTable.profileEVC_2
  | .tbu, 1 => RegTable.profileTBU_1
  | .tbu, 2 => RegTable.profileTBU_2
  | .tbu, 3 => RegTable.profileTBU_3
  | .strata, 1 => RegTable.profileSTRATA_1
  | .strata, 2 => RegTable.profileSTRATA_2
  | .talus, 1 => RegTable.profileTALUS_1
  | .talus, 2 => RegTable.profileTALUS_2
  | .talus, 3 => RegTable.profileTALUS_3
  | .col, 1 => RegTable.profileCOL_1
  | .col, 2 => RegTable.profileCOL_2
  | .col, 3 => RegTable.profileCOL_3
  | .memc, 1 => RegTable.profileMEMC_1
  | .memc, 2 => RegTable.profileMEMC_2
  | .memc, 3 => RegTable.profileMEMC_3
  | .fwc, 1 => RegTable.profileFWC_1
  | .fwc, 2 => RegTable.profileFWC_2
  | .prc, 1 => RegTable.profilePRC_1
  | .prc, 2 => RegTable.profilePRC_2
  | .mac, 1 => RegTable.profileMAC_1
  | .mac, 2 => RegTable.profileMAC_2
  | .mac, 3 => RegTable.profileMAC_3
  | .swc, 1 => RegTable.profileSWC_1
  | .swc, 2 => RegTable.profileSWC_2
  | .swc, 3 => RegTable.profileSWC_3
  | .sts, 1 => RegTable.profileSTS_1
  | .tal, 1 => RegTable.profileTAL_1
  | .tal, 2 => RegTable.profileTAL_2
  | .tal, 3 => RegTable.profileTAL_3
  | .rlc, 1 => RegTable.profileRLC_1
  | .rlc, 2 => RegTable.profileRLC_2
  | .rlc, 3 => RegTable.profileRLC_3
  | .can, 1 => RegTable.profileCAN_1
  | .can, 2 => RegTable.profileCAN_2
  | .can, 3 => RegTable.profileCAN_3
  | .can, 4 => RegTable.profileCAN_4
  | .hdma, 1 => RegTable.profileHDMA_1
  | .hdma, 2 => RegTable.profileHDMA_2
  | .ce, 1 => RegTable.profileCE_1
  | .ce, 2 => RegTable.profileCE_2
  | .ce, 3 => RegTable.profileCE_3
  | _, _ => []

/-- The block whose registers lie at a BAR0 offset (R431); none outside the register ranges. -/
def blockAt (o : Nat) : Option Block :=
  if o < 0x0B0000 then
    match o / 0x10000 with
    | 0 => some .gctl
    | 1 => some .evc
    | 2 => some .tbu
    | 3 => some .strata
    | 4 => some .talus
    | 5 => some .col
    | 6 => some .memc
    | 7 => some .vault
    | 8 => some .fwc
    | 9 => some .prc
    | _ => some .tmx
  else if o < 0x100000 then none
  else if o < 0x148000 then some .mac
  else if o < 0x180000 then none
  else if o < 0x200000 then some .swc
  else if o < 0x280000 then some .sts
  else if o < 0x300000 then some .tal
  else if o < 0x310000 then some .rlc
  else if o < 0x320000 then some .can
  else if o < 0x330000 then some .tor
  else if o < 0x340000 then some .hdma
  else if o < 0x400000 then none
  else if o < 0x720000 then some .ce
  else none

/-- Instance number and offset within the instance of a BAR0 offset of a block. -/
def Block.within (b : Block) (o : Nat) : Nat × Nat :=
  let (base, stride, _) := b.place
  ((o - base) / stride, (o - base) % stride)

/-- Whether a remainder is reached by the array dimensions of a register. -/
def dimsMatch : List (Nat × Nat) → Nat → Bool
  | [], r => r == 0
  | (stride, count) :: ds, r => r / stride < count && dimsMatch ds (r % stride)

/-- Whether an offset within an instance is one of a register's offsets. -/
def RegDesc.covers (r : RegDesc) (off : Nat) : Bool := r.off ≤ off && dimsMatch r.dims (off - r.off)

/-- The register at an offset within an instance. -/
def findReg (off : Nat) : List RegDesc → Option RegDesc
  | [] => none
  | r :: rs => if r.covers off then some r else findReg off rs

/-- The descriptor of the register at a BAR0 offset; none where the offset is reserved. P18 and P19 have no
per-port Massif registers but SWC_PCFG and the counters (R314), only TOR0 has pin registers (R424), and the
STRATA_LAST words of numbers R501 does not assign are reserved (R524). -/
def regDescAt (o : Nat) : Option RegDesc :=
  match blockAt o with
  | none => none
  | some b =>
    let (inst, off) := b.within o
    if b = .swc ∧ 0x2200 ≤ off ∧ off < 0x2400 ∧ 8 ≤ off % 0x100 ∧ off % 0x100 < 0x80 then none
    else if b = .tor ∧ 0 < inst ∧ 0x1000 ≤ off then none
    else if b = .strata ∧ 0x800 ≤ off ∧ off < 0x1000
        ∧ (let n := (off - 0x800) / 8
           (0x32 ≤ n ∧ n < 0x40) ∨ (0x77 ≤ n ∧ n < 0x80) ∨ (0x92 ≤ n ∧ n < 0xA0)) then none
    else findReg off b.regs

/-- The reset word of the register at a BAR0 offset. Where it depends on the instance or the index: MAC_HDX (R253),
TALUS_QCFG (R149), STRATA_WCFG (R525), and the stack areas and regions of engines and stewards (R81, R104). -/
def resetWord (o : Nat) : Word :=
  match blockAt o with
  | none => 0
  | some b =>
    let (inst, off) := b.within o
    let dflt : Word := match regDescAt o with
      | some r => Word.ofN r.reset
      | none => 0
    match b with
    | .mac => if off = 0x50 then Word.ofN (inst + 1) else dflt
    | .talus =>
      if 0x2000 ≤ off ∧ off < 0x4000 ∧ off % 0x20 = 0 then Word.ofN (0x58000 + 64 * ((off - 0x2000) / 0x20))
      else dflt
    | .strata =>
      if off = 0x80 then 0x14012 else if off = 0x88 then 0x24013 else if off = 0x90 then 0x34012
      else if off = 0x98 then 0x44012 else if 0xA0 ≤ off ∧ off ≤ 0xB0 ∧ off % 8 = 0 then 0x401F else dflt
    | .ce =>
      let stw := 48 ≤ inst
      if off = 0x50 then (if stw then 0x3F000 else 0x7000)
      else if off = 0x58 then (if stw then 0x3F7FF else 0x77FF)
      else if off = 0x60 then (if stw then 0x3F800 else 0x7800)
      else if off = 0x68 then (if stw then 0x3FFFF else 0x7FFF)
      else if off = 0x88 then (if stw then 0x703FFC0 else 0x7007FC0)
      else if off = 0x90 then (if stw then 0x100000 else 0)
      else if off = 0x98 then (if stw then 0x747FFC0 else 0)
      else if off = 0xA0 then (if stw then 0x800000 else 0)
      else if off = 0xA8 then (if stw then 0x7FFFFC0 else 0)
      else dflt
    | _ => dflt

/-- Whether an encoding of a field is assigned (R10); n is the field's width. -/
def Legal.ok : Legal → Nat → Nat → Bool
  | .any, _, _ => true
  | .within rs, _, v => rs.any (fun r => r.1 ≤ v && v ≤ r.2)
  | .signed m, n, v => decide (-(m : Int) ≤ Sys2Proof.signed n v ∧ Sys2Proof.signed n v ≤ m)
  | .multiple m, _, v => v % m == 0

/-- The offsets an array of registers stands at, relative to its first. -/
def dimOffsets : List (Nat × Nat) → List Nat
  | [] => [0]
  | (stride, count) :: ds => (List.range count).flatMap (fun i => (dimOffsets ds).map (fun r => stride * i + r))

end Sys2Proof.Machine
end

