-- ==== Sys2Proof/Parts/Can.lean ====
section
/-! DEFINITION. The state of a CAN channel that no register word holds (spec/13_can_fd.md). -/
namespace Sys2Proof.Machine

/-- A transmit entry: its 18 words (R390), its source (0 FIFO, 1 priority buffer, 2–5 timed buffer), consecutive clashes
(R395), and for a timed frame its due TSW, agent, posting order and the elapsed clock at which its window closes (R393). -/
structure CanEntry where
  words : List Word
  source : Nat
  clashes : Nat := 0
  due : Nat := 0
  agent : Nat := 0
  seq : Nat := 0
  opens : Nat := 0
  closes : Nat := 0
  deriving DecidableEq, Repr

/-- An attempt in progress: the entry, the TSW of its SOF, and whether a cancel came too late to stop it (R396). -/
structure CanAttempt where
  entry : CanEntry
  tsw : Nat
  cancelled : Bool := false
  deriving DecidableEq, Repr

/-- An outcome record (R397). -/
structure CanRecord where
  outcome : Nat
  source : Nat
  tag : Nat
  tsw : Nat
  deriving DecidableEq, Repr

/-- A receive buffer (R399 to R401): FULL with its twenty words, or EMPTY; and the agent that holds its lock. -/
structure CanBuffer where
  full : Bool := false
  words : List Word := []
  lock : Option Nat := none
  deriving DecidableEq, Repr

/-- A CAN channel. (DESIGN CHOICE, log 72) -/
structure CanChannel where
  /-- Entries of the FIFO, oldest first; the priority buffer; timed frames whose window is open. -/
  fifo : List CanEntry := []
  prio : Option CanEntry := none
  timed : List CanEntry := []
  attempt : Option CanAttempt := none
  records : List CanRecord := []
  buffers : Tab CanBuffer := []
  /-- The next buffer to fill; frames stored; frames dropped since the last one was. -/
  next : Nat := 0
  stored : Nat := 0
  dropped : Nat := 0
  /-- Error counters (R402). -/
  tec : Nat := 0
  rec_ : Nat := 0
  /-- A point of the bit grid, in the elapsed clock (R389). -/
  grid : Nat := 0
  /-- No SOF of this channel before this instant (suspend transmission). -/
  suspended : Nat := 0
  /-- EN := 0 waits for the end of the frame on the bus (R387); bus-off recovery runs (R402). -/
  stopping : Bool := false
  recovering : Bool := false
  deriving DecidableEq, Repr

end Sys2Proof.Machine
end

