-- ==== Sys2Proof/Parts/Col.lean ====
section
/-! DEFINITION. The state of Col that no register word holds (spec/06_col_mailboxes.md). -/
namespace Sys2Proof.Machine

/-- A stalled read of COL_MBXm_WAIT (R174, R175). -/
structure ColWait where
  agent : Nat
  mbx : Nat
  /-- The engines that stall with it. -/
  by_ : List Nat := []
  /-- Elapsed clock since which it stalls. -/
  since : Nat
  warned : Bool := false
  deriving DecidableEq, Repr

/-- A mutual wait (R176): agent x waits on mailbox a that y holds, and y waits on b that x holds. -/
structure Cycle where
  a : Nat
  b : Nat
  x : Nat
  y : Nat
  deriving DecidableEq, Repr

/-- Col. -/
structure Col where
  /-- Stalled reads, oldest first. -/
  waits : List ColWait := []
  /-- Cycles the last scan found, and those of them that have been reported. -/
  found : List Cycle := []
  reported : List Cycle := []
  /-- Full time of the last scan. -/
  scanAt : Option Nat := none
  deriving DecidableEq, Repr

end Sys2Proof.Machine
end

