-- ==== Sys2Proof/Parts/Memory.lean ====
section
/-! DEFINITION. Code words, merge buffers, marches, repairs and the vault (spec/07_memory.md). -/
namespace Sys2Proof.Machine

/-- A stored code word (R193, R195): data bits (14 of them in a program array), check bits, and whether it was written
under a flip mask (R204). The default is the unwritten word of R194. -/
structure CodeWord where
  d : Word := 0
  k : BitVec 7 := 0x7F
  flip : Bool := false
  deriving DecidableEq, Repr

/-- A Silt entry (R201): the word's key, the nonets written (mask bit n for nonet n) and their values. -/
structure SiltEntry where
  ctrl : Nat
  addr : Nat
  mask : Nat
  data : Word
  /-- Elapsed clock of the last write. -/
  last : Nat
  agent : Nat
  deriving DecidableEq, Repr

/-- A row of a bank of an array of a controller (R186). -/
structure Row where
  ctrl : Nat
  array : Nat
  bank : Nat
  row : Nat
  deriving DecidableEq, Repr

/-- A word tracked for correctable errors (R213): report instants, newest first. -/
structure Tracked where
  ctrl : Nat
  array : Nat
  addr : Nat
  times : List Nat
  deriving DecidableEq, Repr

/-- A march in progress (R209). -/
structure March where
  ctrl : Nat
  array : Nat
  preserve : Bool
  /-- Requested through MEMC_MARCH_CTRL, not by the start-up (R209, R221). -/
  asked : Bool := false
  deriving DecidableEq, Repr

/-- A write of Shelf RAM, kept while the instant of its arrival lasts (R192): agent, word, nonets written, the word's value, and the
elapsed clock. -/
structure ShelfWrite where
  agent : Nat
  addr : Nat
  mask : Nat
  word : Word
  at_ : Nat
  deriving DecidableEq, Repr

/-- The destructive marches of the start-up: every array but the vault (R208). -/
def bootMarches : List March :=
  ((List.range 55).filter (· != 4)).flatMap (fun c =>
    (if c < 4 then [0] else [0, 1, 2]).map (fun k => { ctrl := c, array := k, preserve := false }))

/-- The memory controllers and the vault. -/
structure Memc where
  silt : List SiltEntry := []
  tracked : List Tracked := []
  /-- The deferred list of R213, oldest first. -/
  deferred : List Row := []
  /-- Rows mapped to spares by soft repair. -/
  soft : List Row := []
  /-- Rows mapped to spares by fuse. -/
  fused : List Row := []
  /-- The spare rows marked unusable (R210): the bank a spare belongs to, and its number, 0–7, as row. -/
  unusable : List Row := []
  /-- Repair copies in progress, oldest first. -/
  repairing : List Row := []
  marches : List March := []
  /-- Controllers whose last checker self-test passed, and those whose last one failed (R205, R206), ascending. -/
  passed : List Nat := []
  failed : List Nat := []
  /-- Controllers whose checker self-test has been started and has not ended (R205), ascending. -/
  testing : List Nat := []
  /-- Scrub positions: next word of each array, by key 4 × controller + array. -/
  scrubAt : Tab Nat := []
  /-- Start of the scrub period of each array in the elapsed clock, by the same key (R200). -/
  scrubFrom : Tab Nat := []
  /-- Sealed vault words, ascending. -/
  sealed : List Nat := []
  /-- Key words loaded into the key slots of the tag units (R217, R324). -/
  keySlots : Tab (List Nat) := []
  /-- Writes of Shelf RAM made at the present instant, oldest first (R192). -/
  shelf : List ShelfWrite := []
  /-- Start of the vault wipe in progress, in the elapsed clock. -/
  wiping : Option Nat := none
  deriving DecidableEq, Repr

end Sys2Proof.Machine
end

