-- ==== Sys2Proof/Parts/Engine.lean ====
section
/-! DEFINITION. A Crag or steward engine and its pair (spec/03_crag_engines.md). -/
namespace Sys2Proof.Machine

/-- An entry of a commit queue (R87), with the ticket that holds it (R154). -/
structure CqEntry where
  target : Nat
  sel : Nat
  due : Nat
  arg : Nat
  /-- Domain and ticket number of the instance that posted it, if it holds one. -/
  ticket : Option (Nat × Nat) := none
  /-- The agent the entry is performed for. -/
  agent : Nat := 0
  deriving DecidableEq, Repr

/-- The task an engine holds. A steward's program started by the loader (R454) is held as one without a Talus task. -/
structure TaskRun where
  task : Nat := 0
  /-- Dispatched by Talus. -/
  talus : Bool := true
  paired : Bool := false
  /-- Domain and ticket number. -/
  ticket : Option (Nat × Nat) := none
  /-- Bundles executed since dispatch or RESUME (R92). -/
  bundles : Nat := 0
  /-- The model's own: bundles executed since dispatch, by which the place of the two engines of a pair in their program is
  compared (log 27). -/
  done : Nat := 0
  deriving DecidableEq, Repr

/-- What part of a word a load delivers (R120). -/
inductive WordPart where
  | whole
  | nonet (k : Nat)
  | half (h : Nat)
  deriving DecidableEq, Repr

/-- Where a load delivers: physical register and part of the word. -/
structure Dest where
  reg : Nat
  part : WordPart
  deriving DecidableEq, Repr

/-- What an engine waits for. -/
inductive Stall where
  /-- A push on a full queue (R151). -/
  | push (queue : Nat)
  /-- A 17th ordered push, of an entry to a queue (R154). -/
  | ordered (queue entry : Nat)
  /-- A post on the full commit queue of an engine (R88). -/
  | post (queue : Nat) (entry : CqEntry)
  /-- The answer of a COL_MBXm_WAIT read (R174). -/
  | answer
  /-- The partner of the pair (R95). -/
  | partner
  deriving DecidableEq, Repr

/-- A checkpoint (R98): w0–w15, flags as GETF lays them out, data stack pointer, PC of the next bundle. -/
structure Checkpoint where
  window : List Word
  flags : Nat
  dsp : Nat
  pc : Nat
  wb : Nat
  /-- Bundles executed up to it (log 27). -/
  done : Nat := 0
  deriving DecidableEq, Repr

/-- An engine. (DESIGN CHOICE, log 72) -/
structure Engine where
  /-- Physical registers 0–255 (R76). -/
  regs : Tab Word := []
  pc : Nat := 0
  /-- The active bank: 0 A, 1 B. -/
  bank : Nat := 0
  /-- Window base. -/
  wb : Nat := 0
  /-- Return addresses, newest first. -/
  rstack : List Nat := []
  /-- Logical groups that stand in the spill area (R77). -/
  spilled : Nat := 0
  /-- Data stack pointer. -/
  dsp : Nat := 0
  z : Bool := false
  n : Bool := false
  c : Bool := false
  v : Bool := false
  /-- The event snapshot of R73. -/
  snap : Nat := 0
  run : Option TaskRun := none
  /-- Elapsed clock since which it holds no task and may run (R464). -/
  idleSince : Nat := 0
  /-- The commit queue, oldest first. -/
  cq : List CqEntry := []
  stall : Option Stall := none
  /-- Where the load that is waiting delivers. -/
  dst : Option Dest := none
  /-- The bundle last begun: address of its first word, instruction word, number of prefixes. -/
  cur : Nat × Nat × Nat := (0, 0, 0)
  trapped : Bool := false
  /-- It is TRAPPED because its partner trapped, and has not met a trap itself (R93). -/
  pulled : Bool := false
  /-- The bundle that a SKIP of the pair lets it pass without effect, by its number in TaskRun.done (R93). -/
  skipAt : Option Nat := none
  retired : Bool := false
  /-- Debug halt (R554, R555): halted, to halt before the next bundle, one bundle allowed. -/
  halted : Bool := false
  haltNext : Bool := false
  stepping : Bool := false
  /-- The engine has been resumed and passes the breakpoint at its next bundle. -/
  passBp : Bool := false
  /-- Breakpoints 0 and 1: program word address + 2^16 × bank. -/
  bps : Tab (Option Nat) := []
  ckpt : Option Checkpoint := none
  /-- Undo log, newest first: local data word and its code word before the first write since the checkpoint. -/
  undo : List (Nat × CodeWord) := []
  /-- The engine has flagged in its paired task and presents no accesses (R96). -/
  flagged : Bool := false
  deriving DecidableEq, Repr

/-- An access at the pair comparator (R95). -/
inductive PairAccess where
  | read (addr : Nat)
  | write (addr : Nat) (data : Word)
  | narrow (addr mask : Nat) (data : Word)
  | post (entry : CqEntry)
  | ckpt
  | done
  deriving DecidableEq, Repr

/-- The comparator of a pair. -/
structure Pair where
  /-- The access one engine has presented: the engine, the access, and the elapsed clock. -/
  presented : Option (Nat × PairAccess × Nat) := none
  /-- Accesses performed since the checkpoint, oldest first, with the data returned. -/
  log : List (PairAccess × Word) := []
  /-- How many logged accesses the present run has matched. -/
  matched : Nat := 0
  /-- Withheld accesses in the present run of R101. -/
  withheld : Nat := 0
  /-- A restart is in progress since this instant of the elapsed clock. -/
  restarting : Option Nat := none
  /-- One engine has flagged and its partner has not yet had an access performed alone (R97). -/
  fresh : Bool := false
  deriving DecidableEq, Repr

end Sys2Proof.Machine
end

