-- ==== Sys2Proof/Parts/Evc.lean ====
section
/-! DEFINITION. The state of the event controller, the endpoint and host DMA that no register word holds
(spec/15_host_interface.md). -/
namespace Sys2Proof.Machine

/-- An MSI-X vector: table entry (address, data, mask), pending bit, hold-off (R441, R442). (DEDUCED, log 65) -/
structure Vector32 where
  addr : Nat := 0
  data : Nat := 0
  masked : Bool := true
  pending : Bool := false
  /-- Elapsed clock of the last message. -/
  last : Option Nat := none
  /-- A message is held back to the end of the hold-off. -/
  held : Bool := false
  deriving DecidableEq, Repr

/-- A ring: descriptors read ahead, and what it has still to report (R436, R446). -/
structure Ring where
  /-- Descriptors fetched and not yet used, oldest first: their eight dwords. -/
  ahead : List (List Nat) := []
  /-- Descriptors written back and not yet reported. -/
  unreported : Nat := 0
  /-- Elapsed clock of the first of them. -/
  firstUnreported : Option Nat := none
  /-- The watchdog has fired and the ring has moved no entry since. -/
  barked : Bool := false
  /-- Elapsed clock since which a handed-over transmit descriptor waits for room. -/
  waitSince : Option Nat := none
  /-- Elapsed clock of the last entry moved, and of the last time the ring came to lack a usable descriptor. -/
  movedAt : Nat := 0
  dryAt : Nat := 0
  deriving DecidableEq, Repr

/-- The event controller, the endpoint and host DMA. -/
structure HostIf where
  vectors : Tab Vector32 := []
  /-- The MSI-X function mask and enable of the endpoint's capability. -/
  functionMask : Bool := false
  msixEnabled : Bool := true
  /-- An EVENT record waits for the next granted RS slot (R443). -/
  remotePending : Bool := false
  /-- Rings: receive r at key r, transmit r at key 64 + r. -/
  rings : Tab Ring := []
  /-- Frame indices of BLOCK areas not yet freed (R438). -/
  blockAreas : List Nat := []
  /-- PERSTn level, and the elapsed clock of its rise (R456). -/
  perst : Bool := false
  perstAt : Nat := 0
  deriving DecidableEq, Repr

end Sys2Proof.Machine
end

