-- ==== Sys2Proof/Parts/Fwc.lean ====
section
/-! DEFINITION. The state of firmware control that no register word holds: the flash, the state records in it, and the
operations in progress (spec/17_firmware_configuration.md). -/
namespace Sys2Proof.Machine

/-- A state record (R475). -/
inductive StateRec where
  /-- SLOT: slot, STATE as FWC_SLOTs has it, TRIAL_FAILED. -/
  | slot (slot state : Nat) (failed : Bool)
  /-- BITMAP: slot, group g of 128 pieces, states of its pieces, piece 128g + i at bits [2i + 1:2i]. -/
  | bitmap (slot group states : Nat)
  /-- ACTIVE_CFG: active bank and its GENERATION. -/
  | activeCfg (bank gen : Nat)
  /-- SLOT_CFG: slot, bank and GENERATION recorded when it became COMMITTED. -/
  | slotCfg (slot bank gen : Nat)
  deriving DecidableEq, Repr

/-- The xSPI flash (R472): contents come from outside the device, and an unlisted part is erased. (DESIGN CHOICE, log 6) -/
structure Flash where
  /-- The two copies of the boot header, as octets (R474). -/
  header : List (List Nat) := []
  /-- Pieces of the image slots by 24,576 × slot + piece, as octets. -/
  pieces : Tab (List Nat) := []
  /-- Configuration blocks by 1,024 × bank + BLOCK_ID, as octets (R489). -/
  cfg : Tab (List Nat) := []
  /-- The sixteen sectors of the state area: sequence number and record, oldest first. -/
  sectors : Tab (List (Nat × StateRec)) := []
  /-- The sector being written and the next sequence number. -/
  sector : Nat := 0
  seq : Nat := 0
  deriving DecidableEq, Repr

/-- A piece being judged (R480): the octets were copied at the write. -/
structure PieceJob where
  slot : Nat
  piece : Nat
  octets : List Nat
  deriving DecidableEq, Repr

/-- A STAGE in progress (R485): the steward that takes the new image, and whether it runs it. -/
structure Staging where
  slot : Nat
  standby : Nat
  started : Bool := false
  deriving DecidableEq, Repr

/-- An activation (R486): slot, tick of ACT_AT, groups whose instant has come, and per engine the elapsed clock of its
group's instant plus 1. -/
structure Activation where
  slot : Nat
  atTick : Nat
  groups : List Nat := []
  starts : Tab Nat := []
  switched : List Nat := []
  deriving DecidableEq, Repr

/-- Firmware control. -/
structure Fwc where
  flash : Flash := {}
  /-- The slot the loader booted, and the slot whose image the Crag engines run. -/
  booted : Option Nat := none
  running : Option Nat := none
  /-- The slots whose image SE0 and SE1 run. -/
  image0 : Option Nat := none
  image1 : Option Nat := none
  /-- The running TRIAL image has completed its migration (R482, R493). -/
  migrated : Bool := false
  /-- The slot being erased (R479). -/
  erasing : Option Nat := none
  job : Option PieceJob := none
  staging : Option Staging := none
  /-- The steward that restarts as standby once it has switched bank after a HANDOVER (R485). -/
  restart : Option Nat := none
  activation : Option Activation := none
  /-- The RESULT of the configuration operation in progress, and the VERSION it has loaded. -/
  cfgDone : Option (Nat × Option Nat) := none
  /-- The record that a SWITCH or REVERT in progress writes at its end (R491). -/
  cfgRecord : Option StateRec := none
  /-- Subsystem IDs passed to the endpoint, and whether the flash runs in 8D-8D-8D mode (R454, R474). -/
  vendor : Nat := 0
  device : Nat := 0
  fast : Bool := false
  /-- Tamper detections not yet reported, made while the core was off (R497). -/
  unreported : List Nat := []
  deriving DecidableEq, Repr

end Sys2Proof.Machine
end

