-- ==== Sys2Proof/Parts/Prc.lean ====
section
/-! DEFINITION. The state of power and reset control that no register word holds (spec/16_startup_power.md). -/
namespace Sys2Proof.Machine

/-- A cluster's passage between its power states (R464 to R466). -/
structure Cluster where
  /-- Elapsed clock of the start of the present stage. -/
  since : Nat := 0
  /-- ENTERING has isolated the cluster. -/
  isolated : Bool := false
  /-- A wake request has come at or after isolation. -/
  wakeAfter : Bool := false
  /-- The sleep state of the entry or wake under way: 3 RETAIN, 4 OFF, 5 DEEP_OFF. -/
  wakeFrom : Nat := 0
  /-- Active banks of the four engines at entry (R467). -/
  banks : List Nat := []
  deriving DecidableEq, Repr

/-- Power and reset control. -/
structure Prc where
  clusters : Tab Cluster := []
  /-- Elapsed clock of the last kick, or of the start, of SE0 and SE1 (R460). -/
  kick0 : Nat := 0
  kick1 : Nat := 0
  /-- The steward has missed its timeout since its last kick. -/
  missed0 : Bool := false
  missed1 : Bool := false
  /-- The last measurement (R459), and which supplies, and Tj (number 4), it found out of range. -/
  measured : Supplies := { core := 0, edge := 0, sram := 0, aon := 0, tj := 0 }
  /-- Elapsed clock of the last measurement and of the last refresh of the telemetry, or of the start of the boot (R459). -/
  measuredAt : Nat := 0
  refreshedAt : Nat := 0
  alarmed : List Nat := []
  /-- The stewards wait for a debugger under BOOT_HALT (R454). -/
  bootHalted : Bool := false
  /-- VDD_AON was lost while power-on reset held the device (R216, R471). -/
  aonLost : Bool := false
  deriving DecidableEq, Repr

end Sys2Proof.Machine
end

