-- ==== Sys2Proof/Parts/Ridgeline.lean ====
section
/-! DEFINITION. The state of the Ridgeline controller that no register word holds (spec/12_ridgeline.md). -/
namespace Sys2Proof.Machine

/-- A record of a dynamic frame (R374). size is SIZE, off the BAR0 octet offset. -/
inductive RlRecord where
  | done
  | read (fixed : Bool) (node size count off tag : Nat)
  | write (fixed : Bool) (node size off tag : Nat) (words : List Word)
  | grant (node : Option Nat)
  | readData (node size count off tag : Nat) (words : List Word)
  | fail (node reason off tag : Nat)
  | event (sender : Nat)
  deriving DecidableEq, Repr

/-- What an accepted static or spare frame left (R360). -/
structure RlFrame where
  sender : Nat
  cycle : Nat
  sync : Bool
  null : Bool
  kind : Nat
  /-- RTSW and TSW of its reference point. -/
  rtsw : Nat
  tsw : Nat
  octets : List Nat
  deriving DecidableEq, Repr

/-- The deviations of one sync node in one cycle (R362). -/
structure RlDeviation where
  node : Nat
  a : Option Int := none
  b : Option Int := none
  deriving DecidableEq, Repr

/-- An access the root carries (R375, R379). -/
structure RlAccess where
  node : Nat
  /-- BAR0 octet offset at the node. -/
  off : Nat
  /-- 0 word, 1 low half, 2 high half. -/
  size : Nat
  /-- The word written; none for a read. -/
  data : Option Word
  /-- Whether RLC_FAR_CMD asked for it. -/
  far : Bool
  /-- Words read, to successive offsets. -/
  count : Nat := 1
  tag : Nat := 0
  deriving DecidableEq, Repr

/-- The Ridgeline controller. -/
structure Ridgeline where
  /-- Start of the current cycle: the count of the PLL in 2^-8 sixteenths (R351, R364). -/
  start : Int := 0
  /-- Start of the listen timer, as a count of the PLL (R367). -/
  listenFrom : Nat := 0
  /-- The rate correction of the current cycle in 2^-8 sixteenths, and sixteenths added to its NIT (R363, R364). -/
  rho : Int := 0
  nit : Int := 0
  /-- Ridgeline time was set in this cycle, which takes part in no correction (R368). -/
  fresh : Bool := false
  /-- Becomes ACTIVE at the next cycle start (R367). -/
  activate : Bool := false
  /-- Deviations of this cycle, and of the cycle before it with its cycle count and its correction. -/
  devs : List RlDeviation := []
  before : Option (Nat × List (Nat × Int) × Int) := none
  /-- Cycles in succession without a value (R365). -/
  nosync : Nat := 0
  /-- Sixteenths by which the controller's schedule has left the guardian's (R372). -/
  skew : Int := 0
  /-- The slot the device sends in, and what it has accepted in the current slot on A and on B. -/
  sending : Option Nat := none
  rxA : Option RlFrame := none
  rxB : Option RlFrame := none
  /-- A frame was accepted on A, on B in this cycle. -/
  okA : Bool := false
  okB : Bool := false
  /-- Sender of the lowest-numbered sync frame accepted in this cycle (R357). -/
  mapFrom : Option Nat := none
  /-- Claims seen in each spare: sender, cycle of the last, number in succession (R370). -/
  claims : Tab (Nat × Nat × Nat) := []
  /-- Octets of the slot map that a sync node changes from the next cycle on: spare, octet. -/
  mapNext : List (Nat × Nat) := []
  /-- Cycles in succession without a frame of the owner, for each spare (R371). -/
  idle : Tab Nat := []
  /-- The register S (R370), the claims accepted so far, cycle starts left to the end of the back-off, and a RELEASE to send. -/
  seed : Nat := 0
  claimed : Nat := 0
  claimCycle : Nat := 0
  backoff : Nat := 0
  release : Bool := false
  /-- The active root as last seen; another node's RQ accepted in this cycle, in the last one; RQ-less cycles (R380). -/
  root : Option Nat := none
  rqOther : Bool := false
  rqOtherLast : Bool := false
  rqSeen : Bool := false
  rqSilence : Nat := 0
  /-- A STANDBY device has taken over. -/
  tookOver : Bool := false
  /-- The device has sent RQ in this cycle; its own RQ was accepted. -/
  rqSent : Bool := false
  rqOwn : Bool := false
  /-- Cycle starts left to the end of the RQ back-off, and whether an RQ was accepted meanwhile. -/
  rqBackoff : Option Nat := none
  rqHeard : Bool := false
  /-- Dynamic slots of this cycle in which a frame has been accepted. -/
  dynSeen : List Nat := []
  /-- The node granted RS in this cycle. -/
  grant : Option Nat := none
  /-- The next node granted in turn (R375). -/
  turn : Nat := 0
  /-- Records of accepted frames not yet acted on. -/
  records : List RlRecord := []
  /-- The target's replies for its next RS. -/
  replies : List RlRecord := []
  /-- Accesses the root has not yet sent, and reads it has sent and not yet seen answered. -/
  queue : List RlAccess := []
  waiting : List RlAccess := []
  /-- The next tag. -/
  nextTag : Nat := 0
  deriving DecidableEq, Repr

end Sys2Proof.Machine
end

