-- ==== Sys2Proof/Parts/Strata.lean ====
section
/-! DEFINITION. The state of the fault log that no register word holds (spec/18_faults_availability.md). -/
namespace Sys2Proof.Machine

/-- A pending intake entry, or the record made of it (R503, R506). -/
structure Report where
  source : Nat
  type : Nat
  detail : Nat
  arg : Nat
  agent : Nat
  agent2 : Nat
  lasting : Bool := false
  tsw : Nat := 0
  count : Nat := 1
  deriving DecidableEq, Repr

/-- The copies of a shadowed unit (R515). -/
structure CopyState where
  /-- The copy the unit runs on: 0 both, 1 or 2 one of them. -/
  onCopy : Nat := 0
  retired : Bool := false
  /-- A pattern test runs since this instant of the elapsed clock. -/
  testing : Option Nat := none
  deriving DecidableEq, Repr

/-- The fault log. -/
structure Strata where
  /-- Pending entries, oldest first; at most 16. -/
  intake : List Report := []
  /-- Elapsed clock of the last record written. -/
  lastWrite : Option Nat := none
  /-- Report ticks of each window counter, newest first; the key is 1024 × kind + instance (R510). -/
  windows : Tab (List Nat) := []
  /-- Shadowed units by SOURCE number. -/
  copies : Tab CopyState := []
  /-- Tag units retired under R511 RETIRE_UNIT. -/
  tagRetired : List Nat := []
  deriving DecidableEq, Repr

end Sys2Proof.Machine
end

