-- ==== Sys2Proof/Parts/Stream.lean ====
section
/-! DEFINITION. The state of stream services and of the Terrace aligner that no register word holds
(spec/11_stream_services.md). -/
namespace Sys2Proof.Machine

/-- A subscription entry (R318, R345): its four words and its counts. -/
structure SubEntry where
  d0 : Word := 0
  d1 : Word := 0
  d2 : Word := 0
  d3 : Word := 0
  matched : Nat := 0
  fails : Nat := 0
  deriving DecidableEq, Repr

/-- A frame taken by stream services and not yet pushed or freed (R316, R318). -/
structure StsWork where
  index : Nat
  /-- Table 0 SV, 1 GOOSE, 2 C37, 3 unmatched; subscription index. -/
  table : Nat
  sub : Nat
  queue : Nat
  /-- The subscription's DATA3 word. -/
  d3 : Word
  /-- Whether the frame came over UDP, and its octets, for the verification (R323). -/
  udp : Bool := false
  octets : List Nat := []
  /-- Verification is still to be made. -/
  verifying : Bool
  /-- The frame is freed instead of pushed; its entry carries AUTH_FAILED. -/
  drop : Bool := false
  failed : Bool := false
  deriving DecidableEq, Repr

/-- A WRITE_AT (R322): key 4096 × table + index, the entry before or after it, and its tick of full time. -/
structure TimedSub where
  key : Nat
  entry : SubEntry
  tick : Int
  deriving DecidableEq, Repr

/-- Stream services. -/
structure Sts where
  /-- Subscription entries by 4096 × table + index. -/
  subs : Tab SubEntry := []
  pending : Option TimedSub := none
  /-- Entries that WRITE_ATs have replaced, newest first, for frames of earlier ingress ticks. -/
  former : List TimedSub := []
  work : List StsWork := []
  /-- The push that waits on a full queue: queue and entry. -/
  blocked : Option (Nat × Nat) := none
  /-- Indices of frames pushed and not yet freed. -/
  held : List Nat := []
  deriving DecidableEq, Repr

/-- A sample held in a stream's history (R331, R332). -/
structure Sample where
  /-- Sample number N; below 0 in the second before full time 0. -/
  n : Int
  /-- Compensated instant, in sixteenths of full time. -/
  u : Int
  /-- Ingress TSW, and its full time in sixteenths. -/
  tsw : Nat
  r : Int
  /-- Completion tick of full time. -/
  ctick : Int
  smpCnt : Nat
  arrival : Bool
  invalid : Bool
  test : Bool
  conflict : Bool := false
  values : List Int
  /-- A row has used it; it has been counted in LATE (R336). -/
  served : Bool := false
  late : Bool := false
  /-- Deadline ticks of the rows whose release instant was past when it reached Terrace: it is missing in them (R28). -/
  shut : List Int := []
  deriving DecidableEq, Repr

/-- A stream: held samples by history slot, rows in a row in which it was missing (R337). -/
structure Stream where
  held : List (Nat × Sample) := []
  misses : Nat := 0
  deriving DecidableEq, Repr

/-- A sample that a released row needed and did not have (R28, R336): stream, sample number, tick of the row's D. -/
structure Missed where
  stream : Nat
  n : Int
  dtick : Int
  /-- The row needed it; it did not where the stream was absent (R337, R563). -/
  needed : Bool := true
  /-- Release instant of the row, in sixteenths of full time (R27, R338). -/
  rel : Int := 0
  deriving DecidableEq, Repr

/-- A group while it is enabled or has rows to release (R328, R329, R338, R339). -/
structure Group where
  active : Bool := false
  /-- Number of its first grid instant, and of the next row to release: seconds × rate + instant in the second. -/
  first : Nat := 0
  next : Nat := 0
  /-- Rows at or after this full time are not produced. -/
  stop : Option Int := none
  /-- Full time of the last release. -/
  lastRelease : Int := 0
  /-- Row buffers not yet freed. -/
  busy : List Nat := []
  missed : List Missed := []
  deriving DecidableEq, Repr

/-- Terrace. -/
structure Tal where
  streams : Tab Stream := []
  groups : Tab Group := []
  /-- Rows delivered and not yet freed: Terrace store offset, group, buffer. -/
  delivered : List (Nat × Nat × Nat) := []
  deriving DecidableEq, Repr

end Sys2Proof.Machine
end

