-- ==== Sys2Proof/Parts/Switch.lean ====
section
/-! DEFINITION. The state of the MACs and of Massif that no register word holds (spec/08_ethernet_mac.md,
spec/09_timestamping_ptp.md, spec/10_massif_switch.md). Line instants are counted in fifths of a sixteenth of a nanosecond of
the elapsed clock, so that an octet time of every rate is a whole number of them. -/
namespace Sys2Proof.Machine

/-- A transmit timestamp entry (R260, R261). -/
structure TxStamp where
  tsw : Nat
  status : Nat
  auto : Bool
  msgType : Nat
  tag : Nat
  deriving DecidableEq, Repr

/-- A control frame that waits for the next frame boundary (R234, R247). -/
inductive Ctrl where
  /-- PAUSE with its quanta. -/
  | pause (quanta : Nat)
  /-- PFC: class-enable vector and quanta. -/
  | pfc (classes quanta : Nat)
  /-- Saddle frame: type and sequence number. -/
  | saddle (type seq : Nat)
  /-- Verify mPacket (R240). -/
  | verify
  deriving DecidableEq, Repr

/-- What a frame in transmission is. -/
inductive TxKind where
  /-- The copy of this number. -/
  | copy (c : Nat)
  /-- A timed frame: octets, one-step request. -/
  | timed (octets : List Nat) (oneStep : Bool)
  | control (k : Ctrl)
  deriving DecidableEq, Repr

/-- A frame, or fragment, in transmission. -/
structure Sending where
  kind : TxKind
  /-- Line instant of the preamble of the present fragment. -/
  start : Nat
  /-- Frame octets, FCS included, sent in earlier fragments. -/
  sent : Nat := 0
  /-- Elapsed clock of the recorded egress instant: the timestamp point of the first fragment plus TXADJ (R254, R257, R268). -/
  clk : Int := 0
  cls : Nat
  preemptable : Bool := false
  /-- Frame octets after which the present fragment ends (R237, R241, R300). -/
  cut : Option Nat := none
  /-- The frame is to be stomped. -/
  bad : Bool := false
  /-- The settings in force as it started (R24). -/
  act : Tab Word := []
  deriving DecidableEq, Repr

/-- The receiver's frame in progress. -/
structure Receiving where
  /-- Octets received, destination first. -/
  octets : List Nat
  /-- Number of the frame in Massif, where its first cell has been formed and it was not dropped. -/
  frame : Option Nat
  /-- The settings in force as its first cell was formed (R24). -/
  act : Tab Word := []
  deriving DecidableEq, Repr

/-- A preemptable frame whose fragments are being put together (R242). -/
structure Assembly where
  /-- Octets received, destination first, without mCRC. -/
  octets : List Nat
  /-- Elapsed clock of the recorded ingress instant of the first fragment (R257). -/
  clkIn : Int
  /-- Frame count of its SMD-S and the fragment count due next, 0–3. -/
  count : Nat
  next : Nat
  /-- A fragment had a code error. -/
  codeErr : Bool
  /-- The settings in force as its first fragment ended (R24). -/
  act : Tab Word := []
  deriving DecidableEq, Repr

/-- A saddle request that waits for its answer (R248): UP_REQ or DOWN_REQ, sequence number, elapsed clock at which it has been
sent. -/
structure StepRequest where
  up : Bool
  seq : Nat
  at_ : Option Nat
  deriving DecidableEq, Repr

/-- A MAC port. (DESIGN CHOICE, log 72) -/
structure MacPort where
  /-- The source of link present other than LINK_SW (R228), and link present itself. -/
  carrier : Bool := false
  present : Bool := false
  /-- Elapsed clock at which the qualification or hold-off timer expires. -/
  timer : Option Nat := none
  /-- Elapsed clock since which the quiet period of R231 runs. -/
  quietFrom : Nat := 0
  /-- Full time of DOWNS and BOUNCES increments, newest first (R231). -/
  downs : List Nat := []
  bounces : List Nat := []
  /-- Speed code of the PHY's control word. -/
  phy : Nat := 0
  /-- Line instant until which the port is paused, and each class. -/
  pauseUntil : Nat := 0
  pfcUntil : Tab Nat := []
  ctrls : List Ctrl := []
  sending : Option Sending := none
  /-- The preempted frame whose remainder waits (R241). -/
  remainder : Option Sending := none
  /-- The frame that a collision ended, to be sent again, and its class (R243). -/
  retry : Option (TxKind × Nat) := none
  /-- Line instant from which the line is free, its inter-frame gap included. -/
  free : Nat := 0
  /-- Line instant at which the timed frame performed last ends, its gap included (R238). -/
  timedEnd : Nat := 0
  receiving : Option Receiving := none
  assembly : Option Assembly := none
  stamps : List TxStamp := []
  /-- Backoff register, attempts of the frame in transmission, line instant at which the backoff ends (R243). -/
  lfsr : Nat := 1
  attempts : Nat := 0
  backoff : Option Nat := none
  /-- The frame at the head has waited for carrier. -/
  deferred : Bool := false
  /-- Frames that may start in the present transmit opportunity, the line instant until which the next of them may, and the line
instant of the last BEACON (R244). -/
  opportunity : Nat := 0
  opportunityEnd : Nat := 0
  beaconAt : Nat := 0
  /-- Verify attempts made, elapsed clock of the last one (R240). -/
  verifies : Nat := 0
  verifyAt : Nat := 0
  /-- Elapsed clock since which the egress has been empty (R245). -/
  emptySince : Nat := 0
  /-- Octets sent in the present millisecond, full time of the last whole one, consecutive windows below LOW (R248). -/
  windowOctets : Nat := 0
  windowAt : Nat := 0
  quietWindows : Nat := 0
  request : Option StepRequest := none
  /-- Next saddle sequence number; unanswered requests in a row. -/
  stepSeq : Nat := 0
  unanswered : Nat := 0
  /-- The switch that an ACK has armed: up or down, and its line instant (R249). -/
  switchAt : Option (Bool × Nat) := none
  /-- The switch made and not yet locked: up or down, and its line instant. -/
  locking : Option (Bool × Nat) := none
  deriving DecidableEq, Repr

/-- A frame in Massif. -/
structure Frame where
  /-- Ingress device port, 0–19. -/
  ingress : Nat
  /-- Octets received so far, destination first, FCS included. -/
  octets : List Nat
  tsw : Nat
  /-- Elapsed clock of the recorded ingress instant: the timestamp point minus RXADJ (R254, R268). -/
  clkIn : Int
  /-- Tick of full time in which the first cell was formed. -/
  formed : Nat
  /-- Completion tick of full time. -/
  complete : Option Nat := none
  bad : Bool := false
  vid : Nat := 0
  pcp : Nat := 0
  /-- The frame arrived with a VLAN tag. -/
  tagged : Bool := false
  /-- Matching 802.1Qci filters, lowest number first. -/
  filters : List Nat := []
  /-- 0 not from a redundancy pair, 1 LAN A, 2 LAN B. -/
  lan : Nat := 0
  /-- Counter of R315 that takes the frame at its good completion, where it is dropped. -/
  drop : Option Nat := none
  /-- Copies that their egress port did not admit (R291), and whether a mirror copy was refused (R310). -/
  refused : Nat := 0
  mirrorRefused : Bool := false
  terminated : Bool := false
  deriving DecidableEq, Repr

/-- The filter that decides a frame (R303). -/
def Frame.filter (f : Frame) : Option Nat := f.filters.head?

/-- Where a copy stands at its egress port. -/
inductive Stage where
  /-- Before its eligibility tick, or bound for P18 or P19. -/
  | waiting
  /-- In its class queue. -/
  | queued
  /-- Started. -/
  | started
  deriving DecidableEq, Repr

/-- What is inserted for redundancy at egress (R308, R309). -/
inductive RedTag where
  | none
  /-- PRP trailer: sequence number, LanId. -/
  | prp (seq lan : Nat)
  /-- HSR tag: sequence number, path. -/
  | hsr (seq path : Nat)
  /-- The HSR tag is kept. -/
  | keep
  deriving DecidableEq, Repr

/-- What a redundancy pair finds of a frame's key (R307): no entry, an entry of the other port, an entry of the same port. -/
inductive KeyVerdict where
  | first
  | duplicate
  | again
  deriving DecidableEq, Repr

/-- Where a copy of a frame goes: its egress port, the port of its pair's other copy, what redundancy inserts (R297, R309). -/
structure FrameDest where
  port : Nat
  twin : Nat
  red : RedTag := .none
  deriving DecidableEq, Repr

/-- A copy of a frame on its way to one egress port (R282). -/
structure Copy where
  frame : Nat
  egress : Nat
  /-- The port of the other copy of a redundancy pair, the egress port itself without one (R309). -/
  twin : Nat
  mirror : Bool := false
  /-- Forwarded store-and-forward. -/
  stored : Bool := true
  cls : Nat
  /-- Cells formed. -/
  cells : Nat := 0
  /-- Numbers of the cells the resequencer has passed on; a cell was declared lost. -/
  got : List Nat := []
  lost : Bool := false
  /-- A cell was not there when the MAC needed its first octet (R288). -/
  missed : Bool := false
  /-- Eligibility tick of full time. -/
  elig : Option Nat := none
  stage : Stage := .waiting
  /-- Cells in the buffer count (R291). -/
  counted : Nat := 0
  /-- P18: the transmit ring its frame came from (R438). -/
  ring : Nat := 0
  /-- Transmit timestamp request of its descriptor: its tag (R260). -/
  stamp : Option Nat := none
  oneStep : Bool := false
  red : RedTag := .none
  deriving DecidableEq, Repr

/-- A cell (R281): its copy, its number within the copy, SEQ. -/
structure Cell where
  copy : Nat
  ingress : Nat
  egress : Nat
  seq : Nat
  idx : Nat
  deriving DecidableEq, Repr

/-- A cell held by a resequencer, and the elapsed clock since which it is held. -/
structure HeldCell where
  cell : Cell
  since : Nat
  deriving DecidableEq, Repr

/-- An entry of the forwarding database (R294). -/
structure FdbEntry where
  valid : Bool := false
  vid : Nat := 0
  addr : Nat := 0
  static : Bool := false
  drop : Bool := false
  /-- Bits 0–19 ports, 20–21 pairs. -/
  dest : Nat := 0
  /-- Elapsed clock at which a dynamic entry was last learned. -/
  learned : Nat := 0
  deriving DecidableEq, Repr

/-- An entry of a duplicate table (R306): source, sequence number, whether made by port B, elapsed clock. -/
structure DupEntry where
  src : Nat
  seq : Nat
  byB : Bool
  at_ : Nat
  deriving DecidableEq, Repr

/-- A gate control list in force or pending (R299, R301): entries, base in ticks of full time. -/
structure GateList where
  len : Nat := 1
  base : Int := 0
  deriving DecidableEq, Repr

/-- A frame delivered to P18 or P19, complete and good (R284). -/
structure Delivered where
  octets : List Nat
  ingress : Nat
  cls : Nat
  vid : Nat
  pcp : Nat
  lan : Nat
  tsw : Nat
  /-- Completion tick of full time. -/
  complete : Nat
  filter : Option Nat
  mirror : Bool
  /-- P19: packet-buffer word of the receive header. -/
  base : Nat := 0
  deriving DecidableEq, Repr

/-- Massif. (DESIGN CHOICE, log 72) -/
structure Massif where
  frames : List (Nat × Frame) := []
  copies : List (Nat × Copy) := []
  nextFrame : Nat := 0
  nextCopy : Nat := 0
  /-- Next SEQ of each pair of ingress and egress port, and next SEQ expected, by 32 × ingress + egress. -/
  seqNext : Tab Nat := []
  seqExpect : Tab Nat := []
  held : List HeldCell := []
  /-- Cells formed and neither passed on nor declared lost, oldest first. -/
  flying : List Cell := []
  /-- Next fabric port, of those a device port owns, that a cell is dealt to. -/
  deal : Tab Nat := []
  /-- Cells waiting at each input of stage 1, in each intermediate (32 × intermediate + output), at each output. -/
  inputs : Tab (List Cell) := []
  mids : Tab (List Cell) := []
  outputs : Tab (List Cell) := []
  /-- Slot numbers of stage 1 and stage 2. -/
  slot1 : Nat := 0
  slot2 : Nat := 0
  /-- Fabric ports whose input link, and whose output link, is faulty (R280). -/
  faulty : List Nat := []
  faultyOut : List Nat := []
  /-- Forwarding database by 4 × bucket + way, as it stands and as it stood before the writes of tick fdbTick (R295). -/
  fdb : Tab FdbEntry := []
  fdbOld : Tab FdbEntry := []
  fdbTick : Nat := 0
  vlan0 : Tab Word := []
  vlan1 : Tab Word := []
  /-- Filter words by 4 × filter + word; meter words by 2 × meter + word. -/
  filters : Tab Word := []
  meters : Tab Word := []
  /-- What each meter's bucket lacks to CBS, in 2^−16 octets, and the tick of that figure, one more. -/
  deficits : Tab (Nat × Nat) := []
  gcl : Tab Word := []
  gateOper : Tab GateList := []
  gatePending : Tab GateList := []
  /-- Duplicate tables of pairs 0 and 1, by 2048 × pair + bucket, oldest first. -/
  dups : Tab (List DupEntry) := []
  /-- Frames forwarded round a ring: 2 × pair + (0: A to B, 1: B to A), source, sequence number, elapsed clock. -/
  ringSeen : List (Nat × DupEntry) := []
  /-- Candidates each mirror source has counted: receive p at p, transmit p at 32 + p, filter f at 64 + f. -/
  mirrorCount : Tab Nat := []
  /-- Flow-control state (R292): 8 × ingress + class, 1 while XOFF stands. -/
  xoff : Tab Nat := []
  /-- Frames delivered to P18 and to P19 and not yet taken from there, oldest first. -/
  toHost : List Delivered := []
  toSts : List Delivered := []
  /-- Packet-buffer areas of frames not yet freed: first word, words. -/
  areas : List (Nat × Nat) := []
  deriving DecidableEq, Repr

end Sys2Proof.Machine
end

