-- ==== Sys2Proof/Parts/Talus.lean ====
section
/-! DEFINITION. The state of the task scheduler, its queues and its ordering domains that no register word holds
(spec/05_talus_scheduler.md). -/
namespace Sys2Proof.Machine

/-- A push waiting on a full queue (R151). -/
structure WaitPush where
  agent : Nat
  entry : Nat
  /-- The engines that stall with it. -/
  by_ : List Nat := []
  /-- The Tor channel whose receive word it is (R417). -/
  chan : Option Nat := none
  /-- The ordering domain whose release makes it (R155). -/
  dom : Option Nat := none
  /-- Elapsed clock since which it waits. -/
  since : Nat
  /-- PUSH_WARN has been reported for it. -/
  warned : Bool := false
  deriving DecidableEq, Repr

/-- A hardware queue (R149 to R151): its entries lie in the queue store from BASE + first. -/
structure HwQueue where
  first : Nat := 0
  /-- Elapsed clock of the push of each entry, oldest first; its length is the number of entries. -/
  stamps : List Nat := []
  waiting : List WaitPush := []
  /-- QUEUE_HIGH has been raised and the count has not fallen below HIGH since. -/
  high : Bool := false
  /-- Waiting-time bins (R159). -/
  bins : Tab Nat := []
  deriving DecidableEq, Repr

/-- A ticket of an ordering domain (R153 to R155). -/
structure Ticket where
  number : Nat
  complete : Bool := false
  /-- Held ordered pushes (queue, entry, agent), oldest first. -/
  held : List (Nat × Nat × Nat) := []
  deriving DecidableEq, Repr

/-- An ordering domain: outstanding tickets, oldest first. -/
structure Domain where
  tickets : List Ticket := []
  /-- Elapsed clock since which the present head waits. -/
  headSince : Nat := 0
  warned : Bool := false
  /-- A released push of the head waits on a full queue, and what comes after it waits with it (R151, R155). -/
  blocked : Bool := false
  deriving DecidableEq, Repr

/-- The scheduler. -/
structure Talus where
  /-- Ready lists: entry ⟨cluster or 12, priority⟩ at key 8 × cluster + priority, task numbers in list order. -/
  ready : Tab (List Nat) := []
  /-- The task and pair reserved in each cluster (R142). -/
  reserved : Tab (Option (Nat × Nat)) := []
  /-- Elapsed clock since which a paired task has been passed over. -/
  passedOver : Tab (Option Nat) := []
  queues : Tab HwQueue := []
  domains : Tab Domain := []
  /-- Time during which each engine held a task in the present 1 ms window, in sixteenths (R160). -/
  busy : Tab Nat := []
  /-- 1 more than the elapsed clock since which the engine's holding has not been added up; 0 while it holds no task. -/
  busyMark : Tab Nat := []
  /-- Full time at which the last busy window closed. -/
  windowAt : Nat := 0
  deriving DecidableEq, Repr

end Sys2Proof.Machine
end

