-- ==== Sys2Proof/Parts/Tbu.lean ====
section
/-! DEFINITION. The state inside the time base unit that no register word holds (spec/02_time_base.md). -/
namespace Sys2Proof.Machine

/-- The judgement on an oscillator input (R37): bad until it becomes qualified again; settling only from reset on, before it
has become either. (DEDUCED, log 48) -/
inductive OscState where
  | bad | settling | qualified
  deriving DecidableEq, Repr

/-- A step or set captured by its GO write (R45): full time in sixteenths, applied at a boundary. -/
inductive TimeChange where
  | step (sixteenths : Int)
  | set (time : Nat)
  deriving DecidableEq, Repr

/-- A capture FIFO (R53, R54): entries (TSW, rising) oldest first, and the instant of the last recorded edge. -/
structure CapFifo where
  fifo : List (Nat × Bool) := []
  last : Option Nat := none
  deriving DecidableEq, Repr

/-- A running trigger train (R56): anchor in sixteenths of full time, period in 2^−32 sixteenths. -/
structure Train where
  anchor : Nat
  period : Nat
  width : Nat
  /-- The agent that started it. -/
  agent : Nat
  /-- Number of the next edge. -/
  nextK : Nat := 0
  /-- Full time at which the train stops, once a stopping write has been made (R58). -/
  stopAt : Option Nat := none
  deriving DecidableEq, Repr

/-- The settings of a TRAIN start, by the number of its posting (R58). -/
structure TrainStart where
  seq : Nat
  period : Nat
  width : Nat
  deriving DecidableEq, Repr

/-- A trigger pin: its running train, the settings of starts not yet made, whether the ball is away from its idle level,
and the instant of the elapsed clock at which the pulse in progress ends, so that a step of time keeps its width
(DEDUCED, log 48). -/
structure TrgPin where
  train : Option Train := none
  starts : List TrainStart := []
  level : Bool := false
  pulseEnd : Option Nat := none
  /-- Due instants of edges whose internal targets have been signalled before the edge is driven (R60, DLY below 0). -/
  early : List Int := []
  deriving DecidableEq, Repr

/-- An internal target of a trigger edge (R60): the tick boundary, in sixteenths of full time, at which it acts. -/
structure Internal where
  pin : Nat
  boundary : Nat
  agent : Nat
  /-- Its flag has been set in the step of its tick (R139). -/
  flagDone : Bool := false
  deriving DecidableEq, Repr

/-- The time base unit. -/
structure Tbu where
  /-- Full time runs (R42: from the first lock). -/
  running : Bool := false
  /-- Full time in sixteenths. -/
  time : Nat := 0
  /-- The rate in force, as the 36-bit pattern of TBU_RATE (R44). -/
  rate : Nat := 0
  change : Option TimeChange := none
  /-- The agent whose GO write made the change. -/
  changeBy : Nat := 0
  /-- Full time of the boundary at which the pending change is applied. -/
  changeAt : Nat := 0
  /-- Steps applied (R45): elapsed clock and signed size in sixteenths, newest first (R268). -/
  steps : List (Nat × Int) := []
  /-- Changes of TIME_SET and HOLDOVER, newest first: full time, and whether TIME_SET was 0 or HOLDOVER 1 before (R340). -/
  unsure : List (Nat × Bool) := []
  /-- Elapsed time as the PLL counts it, in sixteenths, and the fraction of one that it lacks, in parts of 2^32 + rate (R44,
  R351). -/
  pll : Nat := 0
  pllFrac : Nat := 0
  /-- Judgements on OSCA_IN and OSCB_IN. -/
  oscA : OscState := .settling
  oscB : OscState := .settling
  /-- Elapsed clock since which each input has stayed within tolerance; none while it does not (R37). -/
  goodSinceA : Option Nat := some 0
  goodSinceB : Option Nat := some 0
  /-- The input the PLL is switching to (R38, R40). -/
  switching : Option Nat := none
  /-- Elapsed clock at the last PLL unlock (R41). -/
  unlockAt : Nat := 0
  /-- The PLL has failed beyond relock (R41). -/
  pllFailed : Bool := false
  caps : Tab CapFifo := []
  trgs : Tab TrgPin := []
  internals : List Internal := []
  /-- Elapsed clock of the last pulse on PPS_IN0 and PPS_IN1. -/
  ppsLast : Tab (Option Nat) := []
  /-- The last second for which PPS_OUT0 and PPS_OUT1 produced their pulse. -/
  ppsOutLast : Tab (Option Nat) := []
  /-- Start of the calibration run in progress, and of the last one, in the elapsed clock (R63). -/
  calStart : Option Nat := none
  calLast : Option Nat := none
  /-- Junction temperature, in 0.25 °C as a 12-bit pattern, at the last calibration run. -/
  calTemp : Nat := 0
  deriving DecidableEq, Repr

end Sys2Proof.Machine
end

