-- ==== Sys2Proof/Parts/Tmx.lean ====
section
/-! DEFINITION. The state of test and debug that no register word holds (spec/20_test_debug.md). -/
namespace Sys2Proof.Machine

/-- Test multiplexer and debug. -/
structure Tmx where
  /-- The TAP's instruction register: IDCODE after Test-Logic-Reset (R549). -/
  ir : Nat := 1
  /-- The boundary register's update stage, 812 cells (R549). -/
  boundary : Nat := 0
  /-- What the next Capture-DR of TMX_ACCESS returns (R553). -/
  capture : Nat := 0
  /-- Elapsed clock at which balls taken by the boundary register return to their functions (R552). -/
  ballsFrom : Nat := 0
  /-- The cluster of a LOGIC test in progress, its start in the elapsed clock, and whether a wake request waits for its
  end (R557). -/
  testing : Option (Nat × Nat) := none
  heldWake : Bool := false
  /-- The lane of a PRBS test in progress, and whether its counter has left 0. -/
  prbs : Option (Nat × Bool) := none
  deriving DecidableEq, Repr

/-- Whether an instruction code gives the balls to the boundary register (R552). -/
def Tmx.ext (t : Tmx) : Bool := [0x00, 0x03, 0x04, 0x05, 0x06].contains t.ir

end Sys2Proof.Machine
end

