-- ==== Sys2Proof/Parts/Tor.lean ====
section
/-! DEFINITION. The Tor instructions as data, and the state of a Tor channel and of the pins that no register word holds
(spec/14_tor_units.md). -/
namespace Sys2Proof.Machine

/-- A Tor instruction (R412, R413); operand fields as numbers. -/
inductive TorOp where
  | halt
  | br (cond : Fin 13) (pin : Fin 16) (target : Fin 64)
  | beat (n : Fin 16384)
  | await_ (level edge : Bool) (pin : Fin 16)
  | take (src : Fin 6) (n : Fin 32)
  | emit (dst : Fin 6) (n : Fin 32)
  | send (ifFull noWait : Bool)
  | fetch (ifEmpty noWait : Bool)
  | load (dst : Fin 5) (imm : Fin 2048)
  | copy (dst : Fin 6) (src : Fin 8) (op : Fin 4)
  | add (y : Bool) (imm : Fin 8192)
  | stamp (noWait : Bool)
  | raise (flag : Fin 32)
  | nop
  deriving DecidableEq, Repr

/-- Run states of a channel: STAT.STATE 0, 1, 2 (R408). -/
inductive TorRun where
  | stopped | running | stalled
  deriving DecidableEq, Repr

/-- A Tor channel. (DESIGN CHOICE, log 72) -/
structure TorChannel where
  run : TorRun := .stopped
  pc : Nat := 0
  x : Nat := 0
  y : Nat := 0
  is_ : Nat := 0
  os : Nat := 0
  icnt : Nat := 0
  ocnt : Nat := 0
  /-- TM before the step that begins at the instant tmAt of the elapsed clock, while not STOPPED; its value while STOPPED. -/
  tm : Nat := 0
  tmAt : Nat := 0
  /-- Elapsed clock of the last step executed. -/
  lastStep : Option Nat := none
  /-- The TSW of a stalled STAMP's first attempt. -/
  stampAt : Option Nat := none
  /-- The queues, oldest word first (R416). -/
  txq : List Nat := []
  rxq : List Nat := []
  /-- The oldest receive word waits as a push to a full Talus queue (R417). -/
  pushing : Bool := false
  cause : Nat := 0
  deriving DecidableEq, Repr

/-- The Tor units: channels by number, program words by 1024 × unit + address, output levels and output enables of the pins. -/
structure Tor where
  chans : Tab TorChannel := []
  prog : Tab Nat := []
  out : Nat := 0
  oe : Nat := 0
  deriving DecidableEq, Repr

end Sys2Proof.Machine
end

