-- ==== Sys2Proof/Machine/State.lean ====
section
/-! DEFINITION. The state of the device: the queue of waiting commands, the register words, the memories and the parts of
each block that no register word holds; the reasons a step can stop; the state after reset. -/
namespace Sys2Proof.Machine

/-- Reasons a step stops with a fault. The spec leaves no behaviour of the device undefined (spec/00_scope.md, after R10),
so no command raises one. -/
inductive Fault where
  /-- Raised by no command; safe. -/
  | undefinedBehaviour
  deriving DecidableEq, Repr

/-- Reasons a command is refused. -/
inductive Refusal where
  /-- Raised by the arm of a command that has no meaning yet; safe. -/
  | notModelled (mnemonic : String)
  deriving DecidableEq, Repr

/-- The state of the device. -/
structure State where
  /-- Commands waiting, first in, first out. -/
  pending : List Instr := []
  /-- Elapsed time since reset, in sixteenths of a nanosecond of TBU time without the jumps of R45 (log 3). -/
  clk : Nat := 0
  /-- The model's own: number of free values taken so far (log 7). -/
  freeCtr : Nat := 0
  /-- The model's own: what left the device or was handed to a requester, newest first. -/
  outs : List Out := []
  /-- Register words by BAR0 octet offset; an unlisted one holds its reset word. -/
  regs : Tab Word := []
  /-- The settings a data-plane block works under (R24, R25): register words in force. -/
  act : Tab Word := []
  /-- Register words kept once per agent, by 2^26 × agent + BAR0 offset. -/
  agentRegs : Tab Word := []
  /-- Power-on reset holds the device (R450). -/
  held : Bool := false
  fuses : Fuses := {}
  straps : Straps := {}
  /-- Latch and staging register of the local host (51) and of the remote host (52) (R7). -/
  localHost : HostPort := {}
  remoteHost : HostPort := {}
  /-- Actions posted by register writes and on their way to their commit unit, oldest first (R561). -/
  flight : List Posted := []
  /-- Actions taken in and not yet performed, in order of taking in (R17). -/
  posted : List Posted := []
  /-- Number of the next posting. -/
  postSeq : Nat := 0
  /-- Stored words: key (4 × controller + array) × 2^21 + address; an unlisted one is unwritten (R198). -/
  mem : Tab CodeWord := []
  memc : Memc := {}
  tbu : Tbu := {}
  talus : Talus := {}
  col : Col := {}
  strata : Strata := {}
  /-- MAC ports P0–P17. -/
  macs : Tab MacPort := []
  massif : Massif := {}
  sts : Sts := {}
  tal : Tal := {}
  rl : Ridgeline := {}
  /-- CAN channels CAN0–CAN7. -/
  cans : Tab CanChannel := []
  tor : Tor := {}
  hostIf : HostIf := {}
  prc : Prc := {}
  fwc : Fwc := {}
  tmx : Tmx := {}
  /-- The model's own: the engines whose access is in hand; none between commands (log 19). -/
  acting : List Nat := []
  /-- Engines CE0–CE47 and stewards 48, 49. -/
  engines : Tab Engine := []
  /-- Pairs 0–23: engines 2p and 2p + 1. -/
  pairs : Tab Pair := []
  deriving DecidableEq, Repr

/-- The machine right after a power-on reset with every strap at 0: every register at its reset word, nothing waiting, no
time elapsed, and the checker self-tests and marches of the start-up under way (spec/16_startup_power.md R454). (DEDUCED, log 5; DESIGN CHOICE, log 6) -/
def State.reset : State := { memc := { marches := bootMarches, testing := List.range 55 } }

end Sys2Proof.Machine
end

