-- ==== Sys2Proof/Machine/Ops.lean ====
section
/-! DEFINITION. The named operations every command is written in: registers and their fields, the clock, events and their
messages, task flags and ready lists, refusals, reports to the fault log, late actions, and the generic register access. -/
namespace Sys2Proof.Machine

/-- What a meaning answers: while power-on reset holds the device (R450) a command finds nothing that could act on it;
otherwise the command has its effect. (DEDUCED, log 34) -/
def live (s : State) (f : State → State) : Host.Outcome State Fault Refusal :=
  .next (if s.held then s else f s)

/-- The largest value of a field. -/
def Fld.top (f : Fld) : Nat := 2 ^ (f.hi + 1 - f.lo) - 1

namespace State

/-! ### Registers -/

/-- The word of the register at a BAR0 offset. -/
def reg (s : State) (o : Nat) : Word := Tab.get (resetWord o) o s.regs

/-- s with the register at a BAR0 offset holding w. -/
def setReg (s : State) (o : Nat) (w : Word) : State := { s with regs := Tab.put (resetWord o) o w s.regs }

/-- The value of a field. -/
def fld (s : State) (f : Fld) : Nat := (s.reg f.off).field f.hi f.lo

/-- s with a field holding v, reduced to the field's width. -/
def setFld (s : State) (f : Fld) (v : Nat) : State := s.setReg f.off ((s.reg f.off).setField f.hi f.lo v)

/-- Whether a field is 1. -/
def isSet (s : State) (f : Fld) : Bool := s.fld f == 1

/-- A counter field counted up by k, modulo its width. -/
def bump (s : State) (f : Fld) (k : Nat) : State := s.setFld f (s.fld f + k)

/-- A counter field counted up by k, held at its largest value. -/
def bumpSat (s : State) (f : Fld) (k : Nat) : State := s.setFld f (satAdd f.top (s.fld f) k)

/-- The word in force of a data-plane register (R24, R25). -/
def actReg (s : State) (o : Nat) : Word := Tab.get (resetWord o) o s.act

/-- The value in force of a field of a data-plane register. (DESIGN CHOICE, log 21) -/
def inForce (s : State) (f : Fld) : Nat := (s.actReg f.off).field f.hi f.lo

/-- Key of a register kept once per agent. -/
def agentKey (a o : Nat) : Nat := 2 ^ 26 * a + o

/-- An agent's copy of a register kept once per agent. -/
def agentReg (s : State) (a o : Nat) : Word := Tab.get 0 (agentKey a o) s.agentRegs

/-- s with an agent's copy of a register holding w. -/
def setAgentReg (s : State) (a o : Nat) (w : Word) : State :=
  { s with agentRegs := Tab.put 0 (agentKey a o) w s.agentRegs }

/-! ### Parts -/

/-- Engine e: CE0–CE47, 48 SE0, 49 SE1. -/
def engine (s : State) (e : Nat) : Engine := Tab.get {} e s.engines

/-- s with engine e replaced. -/
def setEngine (s : State) (e : Nat) (g : Engine) : State := { s with engines := Tab.put {} e g s.engines }

/-- Pair p: engines 2p and 2p + 1. -/
def pair (s : State) (p : Nat) : Pair := Tab.get {} p s.pairs

/-- s with pair p replaced. -/
def setPair (s : State) (p : Nat) (q : Pair) : State := { s with pairs := Tab.put {} p q s.pairs }

/-- Hardware queue q. -/
def queue (s : State) (q : Nat) : HwQueue := Tab.get {} q s.talus.queues

/-- s with hardware queue q replaced. -/
def setQueue (s : State) (q : Nat) (x : HwQueue) : State :=
  { s with talus := { s.talus with queues := Tab.put {} q x s.talus.queues } }

/-- Ordering domain d. -/
def domain (s : State) (d : Nat) : Domain := Tab.get {} d s.talus.domains

/-- s with ordering domain d replaced. -/
def setDomain (s : State) (d : Nat) (x : Domain) : State :=
  { s with talus := { s.talus with domains := Tab.put {} d x s.talus.domains } }

/-- Whether something that leaves the device does so at balls with boundary cells (spec/20_test_debug.md R552). -/
def atBalls : Out → Bool
  | .pin _ _ _ _ | .frame _ _ _ _ | .macCtrl _ _ _ | .rl _ _ _ _ | .can _ _ _ _ | .hostWrite _ _ | .msix _ => true
  | _ => false

/-- s with one thing more that left the device; while the boundary register holds the balls nothing reaches them (R552).
(DESIGN CHOICE, log 1) -/
def emit (s : State) (o : Out) : State :=
  if atBalls o ∧ (s.tmx.ext ∨ s.clk < s.tmx.ballsFrom) then s else { s with outs := o :: s.outs }

/-! ### The test multiplexer (spec/20_test_debug.md R547, R548) -/

/-- The outputs that show a selection with an argument take a level 6 ns after a source instant, rounded up to the next whole
nanosecond; POL inverts (R548). (DEDUCED, log 60) -/
def tmuxEdge (s : State) (sel arg : Nat) (v : Bool) (tsw : Nat) : State :=
  (List.range 4).foldl (fun s n =>
    if s.fld (Reg.TMX_MUX_SEL n) = sel ∧ s.fld (Reg.TMX_MUX_ARG n) = arg then
      s.emit (.pin 3 n (v != s.isSet (Reg.TMX_MUX_POL n)) (((tsw + 15) / 16 * 16 + 96) % 2 ^ 36))
    else s) s

/-- A pulse of a width in ns on the outputs that show a selection (R547). -/
def tmuxPulse (s : State) (sel arg tsw width : Nat) : State :=
  (s.tmuxEdge sel arg true tsw).tmuxEdge sel arg false (tsw + 16 * width)

/-! ### Time -/

/-- The present TSW (R14, R42). (DESIGN CHOICE, log 3) -/
def tsw (s : State) : Nat := s.tbu.time % 2 ^ 36

/-- The present tick of full time (R43). -/
def tick (s : State) : Nat := s.tbu.time / 128

/-- Trigger pin n. -/
def trg (s : State) (n : Nat) : TrgPin := Tab.get {} n s.tbu.trgs

/-- s with trigger pin n replaced. -/
def setTrg (s : State) (n : Nat) (x : TrgPin) : State :=
  { s with tbu := { s.tbu with trgs := Tab.put {} n x s.tbu.trgs } }

/-- The ball of trigger pin n takes its pulse level (up) or its idle level at full time t. -/
def ball (s : State) (n : Nat) (up : Bool) (t : Nat) : State :=
  let v := up != s.isSet (Reg.TBU_TRG_CTRL_POL n)
  (s.emit (.pin 0 n v (t % 2 ^ 36))).tmuxEdge 0x0E n v (t % 2 ^ 36)

/-- A pulse of pin n that ends by instant c of the elapsed clock returns the ball to idle at its trailing edge, as computed
(R56, R58). -/
def settlePin (c : Nat) (s : State) (n : Nat) : State :=
  let x := s.trg n
  match x.pulseEnd with
  | some e => if e ≤ c then (s.ball n false (s.tbu.time + e - s.clk)).setTrg n { x with pulseEnd := none, level := false } else s
  | none => s

/-- Every pulse of a trigger pin that ends by instant c of the elapsed clock does so (R56). -/
def settlePins (s : State) (c : Nat) : State := (s.tbu.trgs.map (·.1)).foldl (settlePin c) s

/-- 2^−32 sixteenths of TBU time that pass while the PLL counts one sixteenth (R44). -/
def pace (s : State) : Nat := (2 ^ 32 + signed 36 s.tbu.rate).toNat

/-- d sixteenths of TBU time pass: full time passes with them once it runs (R42), the PLL counts them at the rate in force
(R44), and pulses on the trigger pins end on the way (R56). (DESIGN CHOICE, log 3) -/
def advance (s : State) (d : Nat) : State :=
  let s1 := s.settlePins (s.clk + d)
  let n := s.tbu.pllFrac + d * 2 ^ 32
  { s1 with
    clk := s.clk + d
    tbu := { s1.tbu with
      time := if s.tbu.running then s.tbu.time + d else s.tbu.time
      pll := s.tbu.pll + n / s.pace
      pllFrac := n % s.pace } }

/-- Sixteenths of TBU time until the PLL has counted d sixteenths more (R44). -/
def untilPll (s : State) (d : Nat) : Nat := (d * s.pace - s.tbu.pllFrac + (2 ^ 32 - 1)) / 2 ^ 32

/-- The instant of the elapsed clock at which the PLL counts p, before or after the present (R44). -/
def clockAt (s : State) (p : Int) : Int :=
  if (s.tbu.pll : Int) ≤ p then (s.clk : Int) + s.untilPll (p - s.tbu.pll).toNat
  else (s.clk : Int) - ((s.tbu.pll : Int) - p) * s.pace / 2 ^ 32

/-- d sixteenths pass as the PLL counts them (R44). (DESIGN CHOICE, log 3) -/
def elapse (s : State) (d : Nat) : State := s.advance (s.untilPll d)

/-- Time passes up to an instant of the elapsed clock; nothing passes where it lies in the past.
(DESIGN CHOICE, log 3 and 4) -/
def advanceTo (s : State) (c : Nat) : State := s.advance (c - s.clk)

/-- Time passes up to an instant of full time; nothing passes where it lies in the past. -/
def advanceToTime (s : State) (t : Nat) : State := if s.tbu.running then s.advance (t - s.tbu.time) else s

/-- The tick that contains instant c of the elapsed clock, by the present TBU time (R43). -/
def tickAt (s : State) (c : Nat) : Int := ((s.tbu.time : Int) + c - s.clk) / 128

/-- A timeout whose expiry instant is instant c of the elapsed clock fires: time passes up to the end of the tick that
contains it, since a thing awaited that arrives in that tick counts as arrived (R51). (DEDUCED, log 73) -/
def expire (s : State) (c : Nat) : State :=
  if s.tbu.running then
    s.advance ((s.tickAt c + 1) * 128 - s.tbu.time).toNat
  else s.advanceTo c

/-- The present tick boundary or the next one, in full time (R43). (DEDUCED, log 16) -/
def boundaryAt (s : State) : Nat := (s.tbu.time + 127) / 128 * 128

/-- The tick boundary that follows the present tick. -/
def nextBoundary (s : State) : Nat := (s.tbu.time / 128 + 1) * 128

/-- Sixteenths from the present TSW to TSW x, from −2^35 up to but not including 2^35 (R49). -/
def distance (s : State) (x : Nat) : Int :=
  let d : Int := ((x : Int) - s.tsw) % 2 ^ 36
  if 2 ^ 35 ≤ d then d - 2 ^ 36 else d

/-- Time passes up to the instant of TSW x; nothing passes where it lies in the past. (DESIGN CHOICE, log 4) -/
def advanceToTsw (s : State) (x : Nat) : State := s.advance (s.distance x).toNat

/-- The number of the next free value, and s with one more taken (log 7). (DESIGN CHOICE, log 7) -/
def free (s : State) : Nat × State := (s.freeCtr, { s with freeCtr := s.freeCtr + 1 })

/-! ### Waking a cluster (spec/16_startup_power.md R465) -/

/-- Cluster m. -/
def cluster (s : State) (m : Nat) : Cluster := Tab.get {} m s.prc.clusters

/-- s with cluster m replaced. -/
def setCluster (s : State) (m : Nat) (x : Cluster) : State :=
  { s with prc := { s.prc with clusters := Tab.put {} m x s.prc.clusters } }

/-- Whether a cluster is ACTIVE. -/
def clusterActive (s : State) (m : Nat) : Bool := s.fld (Reg.PRC_CLS_STAT_STATE m) == 0

/-- A wake request reaches PRC: it cancels an entry that has not reached isolation, is kept from the tick of isolation on, starts
the wake from a sleep state, and changes nothing otherwise (R465). During a LOGIC test it waits (R557). -/
def wake (s : State) (m : Nat) : State :=
  if (s.tmx.testing.map (·.1)) = some m then { s with tmx := { s.tmx with heldWake := true } } else
  match s.fld (Reg.PRC_CLS_STAT_STATE m) with
  | 1 => (s.setFld (Reg.PRC_CLS_STAT_STATE m) 0).bump (Reg.PRC_CLS_STAT_ABORTS m) 1
  | 2 =>
    if (s.cluster m).isolated ∨ s.tickAt ((s.cluster m).since + 200 * Config.ns) ≤ s.tickAt s.clk then s.setCluster m { s.cluster m with wakeAfter := true }
    else (s.setFld (Reg.PRC_CLS_STAT_STATE m) 0).bump (Reg.PRC_CLS_STAT_ABORTS m) 1
  | 3 => (s.setFld (Reg.PRC_CLS_STAT_STATE m) 6).setCluster m { s.cluster m with since := s.clk, wakeFrom := 3 }
  | 4 => (s.setFld (Reg.PRC_CLS_STAT_STATE m) 6).setCluster m { s.cluster m with since := s.clk, wakeFrom := 4 }
  | 5 => (s.setFld (Reg.PRC_CLS_STAT_STATE m) 6).setCluster m { s.cluster m with since := s.clk, wakeFrom := 5 }
  | _ => s

/-! ### Task flags and ready lists (spec/05_talus_scheduler.md) -/

/-- Entries held by a queue. -/
def queueCount (s : State) (q : Nat) : Nat := (s.queue q).stamps.length

/-- A task's event flags, its queue flag standing at whether the feeding queue holds entries (R146). -/
def taskEvents (s : State) (t : Nat) : Nat :=
  let w := s.reg (Reg.TALUS_TEVT t)
  if s.isSet (Reg.TALUS_TLINK_QFED t) then
    let f := s.fld (Reg.TALUS_TLINK_QFLAG t)
    (w.setField f f (bit01 (s.queueCount (s.fld (Reg.TALUS_TLINK_QUEUE t)) != 0))).toNat
  else w.toNat

/-- The flags that make a task ready: its mask, and the queue flag of a queue-fed task (R146). -/
def taskMask (s : State) (t : Nat) : Nat :=
  let w := s.reg (Reg.TALUS_TMASK t)
  if s.isSet (Reg.TALUS_TLINK_QFED t) then
    let f := s.fld (Reg.TALUS_TLINK_QFLAG t)
    (w.setField f f 1).toNat
  else w.toNat

/-- The instance limit (R134, R146). -/
def taskLimit (s : State) (t : Nat) : Nat :=
  if s.isSet (Reg.TALUS_TLINK_QFED t) then s.fld (Reg.TALUS_TCFG_INST t) + 1 else 1

/-- Whether a task is ready (R134). -/
def taskReady (s : State) (t : Nat) : Bool :=
  let m := s.taskMask t
  let x := s.taskEvents t &&& m
  s.isSet (Reg.TALUS_TCFG_EN t) && decide (s.fld (Reg.TALUS_TSTAT_RUNNING t) < s.taskLimit t)
    && (if s.isSet (Reg.TALUS_TCFG_ALL t) then x == m && m != 0 else x != 0)

/-- The ready list of a task: 8 × cluster + priority (R140). -/
def taskList (s : State) (t : Nat) : Nat :=
  8 * s.fld (Reg.TALUS_TCFG_CLUSTER t) + s.fld (Reg.TALUS_TCFG_PRIO t)

/-- A ready list, in list order. -/
def readyList (s : State) (l : Nat) : List Nat := Tab.get [] l s.talus.ready

/-- s with a ready list replaced. -/
def setReadyList (s : State) (l : Nat) (ts : List Nat) : State :=
  { s with talus := { s.talus with ready := Tab.put [] l ts s.talus.ready } }

/-- Every task on a ready list. -/
def readyTasks (s : State) : List Nat := s.talus.ready.flatMap (·.2)

/-- A task leaves the ready lists, and no longer counts as passed over (R142). -/
def unlist (s : State) (t : Nat) : State :=
  { s with talus := { s.talus with
      ready := (s.talus.ready.map (fun e => (e.1, e.2.filter (· != t)))).filter (fun e => !e.2.isEmpty)
      passedOver := Tab.put none t none s.talus.passedOver } }

/-- Readiness of a task is judged: one that has become ready joins the tail of its list and makes its cluster wake
(R140, R144), one that no longer is ready leaves it. -/
def judgeTask (s : State) (t : Nat) : State :=
  if s.taskReady t then
    if s.readyTasks.contains t then s
    else
      let s1 := s.setReadyList (s.taskList t) (s.readyList (s.taskList t) ++ [t])
      let m := s.fld (Reg.TALUS_TCFG_CLUSTER t)
      if m < 12 then s1.wake m else s1
  else s.unlist t

/-- The tasks whose feeding queue is q, in ascending number (R146). -/
def fedTasks (s : State) (q : Nat) : List Nat :=
  s.regs.filterMap (fun e =>
    let r := e.1 - Reg.TALUS_TLINK 0
    if Reg.TALUS_TLINK 0 ≤ e.1 ∧ r % 0x30 = 0 ∧ r / 0x30 < 1024 ∧ e.2.bit 8 ∧ e.2.field 7 0 = q
    then some (r / 0x30) else none)

/-- Readiness after the entries of a queue have changed. -/
def judgeQueue (s : State) (q : Nat) : State := (s.fedTasks q).foldl judgeTask s

/-- An event flag of a task is set or cleared without judging readiness. A queue flag is the queue's own (R146). -/
def putFlag (s : State) (t f : Nat) (v : Bool) : State :=
  if s.isSet (Reg.TALUS_TLINK_QFED t) ∧ s.fld (Reg.TALUS_TLINK_QFLAG t) = f then s
  else s.setReg (Reg.TALUS_TEVT t) ((s.reg (Reg.TALUS_TEVT t)).setField f f (bit01 v))

/-- An event flag of a task is set or cleared, and readiness is judged (R133, R134). -/
def taskFlag (s : State) (t f : Nat) (v : Bool) : State := (s.putFlag t f v).judgeTask t

/-! ### Events and messages (spec/15_host_interface.md R440 to R443) -/

/-- Vector v. -/
def vector (s : State) (v : Nat) : Vector32 := Tab.get {} v s.hostIf.vectors

/-- s with vector v replaced. -/
def setVector (s : State) (v : Nat) (x : Vector32) : State :=
  { s with hostIf := { s.hostIf with vectors := Tab.put {} v x s.hostIf.vectors } }

/-- Whether event e has both status and enable at 1. -/
def eventActive (s : State) (e : Nat) : Bool :=
  (s.reg (Reg.EVC_STAT (e / 32))).bit (e % 32) && (s.reg (Reg.EVC_EN (e / 32))).bit (e % 32)

/-- The summary of vector v (R441). -/
def summary (s : State) (v : Nat) : Bool :=
  (List.range 256).any (fun e => s.eventActive e && s.fld (Reg.EVC_MAP_VEC e) == v)

/-- The message of vector v leaves, or is noted as pending where a mask suppresses it (R441). (DEDUCED, log 65) -/
def message (s : State) (v : Nat) : State :=
  let x := s.vector v
  if x.masked ∨ s.hostIf.functionMask ∨ ¬ s.hostIf.msixEnabled then
    s.setVector v { x with pending := true, held := false }
  else (s.setVector v { x with last := some s.clk, held := false, pending := false }).emit (.msix v)

/-- Vector v has a message to send: it leaves, or is held back to the end of the hold-off (R441). -/
def sendVector (s : State) (v : Nat) : State :=
  let x := s.vector v
  match x.last with
  | some t => if s.clk < t + s.fld (Reg.EVC_VHOLD_HOLD v) * Config.us then s.setVector v { x with held := true }
              else s.message v
  | none => s.message v

/-- Status bit of event e. -/
def eventStat (s : State) (e : Nat) : Bool := (s.reg (Reg.EVC_STAT (e / 32))).bit (e % 32)

/-- An event mapped to the remote host sets its remote status, and the first one asks for an EVENT record (R443). -/
def noteRemote (s : State) (e : Nat) : State :=
  if s.isSet (Reg.EVC_MAP_REMOTE e) then
    let r := s.reg (Reg.EVC_RSTAT (e / 32))
    let s1 := s.setReg (Reg.EVC_RSTAT (e / 32)) (r.setField (e % 32) (e % 32) 1)
    if r.bit (e % 32) then s1 else { s1 with hostIf := { s1.hostIf with remotePending := true } }
  else s

/-- An event mapped to the steward sets the stewards' task flag (R440). -/
def flagSteward (s : State) (e : Nat) : State :=
  if s.isSet (Reg.EVC_MAP_STW e) ∧ s.isSet Reg.EVC_CTRL_STW_EN then
    s.taskFlag (s.fld Reg.EVC_CTRL_STW_TASK) (s.fld Reg.EVC_CTRL_STW_FLAG) true
  else s

/-- Event e sets its status bit and serves the remote host and the stewards (R440, R443). -/
def markEvent (s : State) (e : Nat) : State :=
  ((s.setReg (Reg.EVC_STAT (e / 32)) ((s.reg (Reg.EVC_STAT (e / 32))).setField (e % 32) (e % 32) 1)).noteRemote e).flagSteward e

/-- A block raises event e: a status bit that goes from 0 to 1 with its enable at 1 has its vector's message sent
(R440, R441, R443). -/
def raise (s : State) (e : Nat) : State :=
  let s1 := s.markEvent e
  if ¬ s.eventStat e ∧ (s1.reg (Reg.EVC_EN (e / 32))).bit (e % 32) then s1.sendVector (s1.fld (Reg.EVC_MAP_VEC e)) else s1

/-- A write is refused, or a reserved encoding rejected, at the register at BAR0 offset o (R10, R34). -/
def reject (s : State) (a o : Nat) : State :=
  (s.setReg Reg.GCTL_REJECT (Word.ofN (2 ^ 35 + 2 ^ 23 * (a % 64) + o / 8 % 2 ^ 23))).raise 0

/-! ### The PCIe link (spec/15_host_interface.md, spec/16_startup_power.md) -/

/-- The link trains where PERSTn is high: at one of the speeds and widths of R426, which the host's port has a say in (R456).
(DESIGN CHOICE, log 66) -/
def trainLink (s : State) : State :=
  if s.hostIf.perst then
    let (k, s1) := s.free
    let v := Config.observed k
    s1.setReg Reg.HDMA_LINK (Word.ofN (2 ^ 6 + 2 ^ 3 * 2 ^ (v / 4 % 3) + (1 + v % 4)))
  else s

/-! ### Reports to the fault log (spec/18_faults_availability.md) -/

/-- The class of a record type (R505). -/
def classOf (type : Nat) : Nat :=
  if [28, 48, 53, 56, 57, 90, 113, 131, 258].contains type then 0
  else if (72 ≤ type ∧ type ≤ 83) ∨ type = 257 then 1
  else if (49 ≤ type ∧ type ≤ 52) ∨ (64 ≤ type ∧ type ≤ 69) ∨ (152 ≤ type ∧ type ≤ 154)
      ∨ (259 ≤ type ∧ type ≤ 261) then 2
  else 3

/-- Whether a report merges into a pending entry (R503). -/
def mergesInto (r p : Report) : Bool :=
  r.source == p.source && r.type == p.type && (r.type != 186 || r.detail == p.detail)

/-- The first matching pending entry counts one report more (R503 step 1). -/
def mergeReport (r : Report) : List Report → List Report
  | [] => []
  | p :: ps => if mergesInto r p then { p with count := satAdd (2 ^ 20 - 1) p.count 1 } :: ps else p :: mergeReport r ps

/-- A report reaches the intake and its source's last-error word (R503, R508). -/
def intake (s : State) (r : Report) : State :=
  let n := s.fld (Reg.STRATA_LAST_REPORTS r.source)
  let s1 := s.setReg (Reg.STRATA_LAST r.source)
    (Word.ofN (2 ^ 27 * r.type + 2 ^ 11 * (r.detail % 2 ^ 16) + satAdd 2047 n 1))
  if s1.strata.intake.any (mergesInto r) then
    { s1 with strata := { s1.strata with intake := mergeReport r s1.strata.intake } }
  else if s1.strata.intake.length < 16 then
    { s1 with strata := { s1.strata with intake := s1.strata.intake ++ [{ r with count := 1 }] } }
  else
    let f := Reg.STRATA_LOST_LOST (classOf r.type)
    let s2 := s1.bumpSat f 1
    if s1.fld f = 0 then s2.raise 185 else s2

/-- W of a window counter in ticks (R510, R525). -/
def windowTicks (s : State) (k : Nat) : Nat :=
  s.fld (Reg.STRATA_WCFG_W k) *
    (match s.fld (Reg.STRATA_WCFG_UNIT k) with
     | 0 => 125000
     | 1 => 125000000
     | _ => 450000000000)

/-- The action of a kind whose instance has been classed LASTING (R511). -/
def lastingAction (s : State) (k inst : Nat) : State :=
  match s.fld (Reg.STRATA_WCFG_ACTION k) with
  | 1 => s.setFld (Reg.CE_CTRL_RETIRE inst) 1
  | 2 => (s.setFld (Reg.CE_CTRL_PAIR_EN (2 * inst)) 0).setFld (Reg.CE_CTRL_PAIR_EN (2 * inst + 1)) 0
  | 3 => { s with strata := { s.strata with tagRetired := inst :: s.strata.tagRetired.filter (· != inst) } }
  | 4 => { s with strata := { s.strata with
            copies := Tab.put {} inst { Tab.get {} inst s.strata.copies with retired := true } s.strata.copies } }
  | _ => s

/-- Instance inst of kind k is classed LASTING: event, record, STRATA_WSTAT and the action of its kind (R510, R511). -/
def classLasting (s : State) (k inst src : Nat) : State :=
  ((((s.raise 186).intake { source := src, type := 186, detail := inst, arg := k, agent := 0, agent2 := 0,
                            lasting := true, tsw := s.tsw }).setReg Reg.STRATA_WSTAT
    (Word.ofN (2 ^ 35 + 2 ^ 11 * (inst % 256) + 2 ^ 8 * k + src % 256))).lastingAction k inst)

/-- The ticks at which the reports of a window came, newest first. -/
def setWindow (s : State) (key : Nat) (ts : List Nat) : State :=
  { s with strata := { s.strata with windows := Tab.put [] key ts s.strata.windows } }

/-- One report counts in the window of instance inst of kind k, seen at source src (R510). -/
def countWindow (s : State) (k inst src : Nat) : State :=
  let key := 1024 * k + inst
  let ts := (s.tick :: Tab.get [] key s.strata.windows).take 15
  let n := s.fld (Reg.STRATA_WCFG_N k)
  if n ≤ ts.length ∧ s.tick - ts.getD (n - 1) 0 ≤ s.windowTicks k then (s.classLasting k inst src).setWindow key []
  else s.setWindow key ts

/-- The window counter a report counts in: kind and instance (R510). -/
def windowOf (src type detail : Nat) : Option (Nat × Nat) :=
  if type = 50 ∨ type = 261 then (if src < 48 then some (0, src) else none)
  else if type = 51 then some (1, src / 2)
  else if type = 260 then some (2, src - 0xA5)
  else if type = 259 then some (3, src)
  else if type = 48 then some (6, detail % 256)
  else none

/-- A report to the fault log (R501, R510). (DEDUCED, log 23 and 24) -/
def report (s : State) (src type detail arg a1 a2 : Nat) : State :=
  let s1 := s.intake { source := src, type := type, detail := detail, arg := arg, agent := a1, agent2 := a2,
                       tsw := s.tsw }
  match windowOf src type detail with
  | some (k, i) => s1.countWindow k i src
  | none => s1

/-! ### Timed actions (spec/01_architecture.md R16 to R18, R33) -/

/-- The source number of the unit that owns a commit unit (R501, R510). (DEDUCED, log 24) -/
def unitSource (k : Nat) : Nat :=
  if k ≤ 17 then 0x80 + k else if k ≤ 25 then 0xA0 else if k = 26 then 0xA3
  else if k ≤ 90 then 0xB4 + (k - 27) / 4 % 4 else if k = 91 then 0xAB
  else if k ≤ 99 then 0xAC + (k - 92) else 0xAA

/-- One late action of unit k and agent a is counted (R33, R90). (DEDUCED, log 18) -/
def countLate (s : State) (k a : Nat) : State :=
  let s1 := (s.bump (Reg.GCTL_LATE_UNIT_COUNT k) 1).tmuxPulse 9 0 s.tsw 8
  if 1 ≤ a ∧ a ≤ 50 then s1.bump (Reg.CE_LATE_LATE (a - 1)) 1
  else if 51 ≤ a ∧ a ≤ 60 then s1.bump (Reg.GCTL_LATE_AGENT_COUNT (a - 51)) 1
  else s1

/-- An action of agent a is dropped as late at unit k, for a cause: 0, or 21 TIME_STEP (R18, R45). (DEDUCED, log 17) -/
def lateFrom (s : State) (cause k a due : Nat) : State :=
  ((s.countLate k a).raise 48).report (unitSource k) 48 (k + 2 ^ 8 * cause) due a 0

/-- An action of agent a reaches unit k late (R18). (DEDUCED, log 17) -/
def late (s : State) (k a due : Nat) : State := s.lateFrom 0 k a due

/-- A register write posts an action to commit unit k (R561). -/
def post (s : State) (k sel arg due a : Nat) : State :=
  { s with
    flight := s.flight ++ [{ unit := k, sel := sel, arg := arg, due := due, agent := a, seq := s.postSeq }]
    postSeq := s.postSeq + 1 }

/-! ### Generic register access (spec/00_scope.md R9 to R12) -/

/-- BAR0 offset of the PROFILE register of the block instance an offset lies in. -/
def profileOff (o : Nat) : Nat :=
  match blockAt o with
  | some .gctl => Reg.GCTL_PROFILE
  | some b => let (base, stride, _) := b.place; base + stride * (b.within o).1
  | none => 0

/-- Whether the profile of the block an offset lies in is EXPERT (R11). -/
def expert (s : State) (o : Nat) : Bool := (s.reg (profileOff o)).field 7 0 == 0

/-- The field of old after a write of w, and whether a reserved encoding was rejected (R9, R10, R12). -/
def writeField (ex : Bool) (w : Word) (acc : Word × Bool) (f : FieldDesc) : Word × Bool :=
  let v := w.field f.hi f.lo
  match f.acc with
  | .rw =>
    if f.expert && !ex then acc
    else if f.legal.ok (f.hi + 1 - f.lo) v then (acc.1.setField f.hi f.lo v, acc.2)
    else (acc.1, true)
  | .w1c =>
    let n := acc.1.field f.hi f.lo
    (acc.1.setField f.hi f.lo (n - (n &&& v)), acc.2)
  | .wo => (acc.1, acc.2 || !f.legal.ok (f.hi + 1 - f.lo) v)
  | _ => acc

/-- A register's word after a write of w, and whether a reserved encoding was rejected. -/
def written (s : State) (o : Nat) (w : Word) : Word × Bool :=
  match regDescAt o with
  | some d => d.fields.foldl (writeField (s.expert o) w) (s.reg o, false)
  | none => (s.reg o, false)

/-- A write by agent a under R9 to R12: reserved bits are discarded, a reserved encoding leaves its field and raises
CFG_REJECT, an unlisted offset takes nothing. -/
def writeGeneric (s : State) (a o : Nat) (w : Word) : State :=
  match regDescAt o with
  | none => s
  | some _ =>
    let (nw, rej) := s.written o w
    let s1 := s.setReg o nw
    if rej then s1.reject a o else s1

/-- A write by agent a in which the values given to some fields are reserved for a reason that no field table holds: those fields keep
their values, the rest of the write is carried out, and CFG_REJECT is raised where there is one (R10). -/
def writeBut (s : State) (a o : Nat) (bad : List Fld) (w : Word) : State :=
  let s1 := s.writeGeneric a o (bad.foldl (fun x f => x.setField f.hi f.lo (s.fld f)) w)
  if bad.isEmpty then s1 else s1.reject a o

/-- What a read of a register's fields returns: a write-only field reads 0, and so does every reserved bit. -/
def visible (d : RegDesc) (w : Word) : Word :=
  d.fields.foldl (fun x f => if f.acc = .wo then x else x.setField f.hi f.lo (w.field f.hi f.lo)) 0

/-- A register's word after a read cleared its RC fields (R9). -/
def afterRead (d : RegDesc) (w : Word) : Word :=
  d.fields.foldl (fun x f => if f.acc = .rc then x.setField f.hi f.lo 0 else x) w

/-- A read under R9: the word and the state with the RC fields cleared; an unlisted offset reads 0. -/
def readGeneric (s : State) (o : Nat) : Word × State :=
  match regDescAt o with
  | none => (0, s)
  | some d => (visible d (s.reg o), s.setReg o (afterRead d (s.reg o)))

/-- Every Expert field of a block instance takes its value in profile p (R11). -/
def loadProfile (s : State) (b : Block) (u p : Nat) : State :=
  let (base, stride, _) := b.place
  (b.profile p).foldl (fun s x =>
    (dimOffsets x.dims).foldl (fun s r =>
      s.setFld ⟨base + stride * u + x.off + r, x.hi, x.lo⟩ (x.val + (if x.addInst then u else 0))) s) s

/-- A write of a PROFILE register (R11): an unassigned value is rejected under R10. -/
def writeProfile (s : State) (a : Nat) (b : Block) (u : Nat) (w : Word) : State :=
  let (base, stride, _) := b.place
  let o := profileOff (base + stride * u)
  let s1 := s.writeGeneric a o w
  if (s.written o w).2 then s1 else s1.loadProfile b u (w.field 7 0)

/-- f is done under the settings kept in a for the register words from lo up to hi: those that a frame began under (R24).
(DESIGN CHOICE, log 21) -/
def under (s : State) (lo hi : Nat) (a : Tab Word) (f : State → State) : State :=
  let s1 := f { s with act := Tab.replaceRange lo hi a s.act }
  { s1 with act := Tab.replaceRange lo hi s.act s1.act }

/-- The register words of a block come into force (R24, R25). (DESIGN CHOICE, log 21) -/
def applyBlock (s : State) (b : Block) : State :=
  let (base, stride, n) := b.place
  { s with act := Tab.replaceRange base (base + stride * n) s.regs s.act }

end State
end Sys2Proof.Machine
end

