-- ==== Sys2Proof/Machine/Mem.lean ====
section
/-! DEFINITION. The memories behind their controllers: code words, decoding, error reports, spare rows, merge buffers, and the
one read, whole-word write and narrow write that every agent's access goes through (spec/07_memory.md). -/
namespace Sys2Proof.Machine

/-- What a read found (R194). -/
inductive Syndrome where
  | clean | corrected | uncorrectable | unwritten
  deriving DecidableEq, Repr

/-- Whether a controller serves an engine or steward. -/
def isEngineCtrl (c : Nat) : Bool := 5 ≤ c && c ≤ 54

/-- The controller of engine e (48 SE0, 49 SE1) (R185). -/
def engineCtrl (e : Nat) : Nat := 5 + e

/-- Words of an array of a controller; 0 where the controller lacks the array (R185). -/
def arraySize (c k : Nat) : Nat :=
  match c, k with
  | 0, 0 => 2097152
  | 1, 0 => 524288
  | 2, 0 => 65536
  | 3, 0 => 16384
  | 4, 0 => 8192
  | c, 0 => if 5 ≤ c ∧ c ≤ 52 then 32768 else if c = 53 ∨ c = 54 then 262144 else 0
  | c, k => if k ≤ 2 then (if 5 ≤ c ∧ c ≤ 52 then 16384 else if c = 53 ∨ c = 54 then 65536 else 0) else 0

/-- Banks of an array (R185). -/
def arrayBanks (c k : Nat) : Nat :=
  match c, k with
  | 0, 0 => 16
  | 1, 0 => 8
  | 2, 0 => 4
  | c, 0 => if c = 53 ∨ c = 54 then 4 else 1
  | _, _ => 1

/-- Banks of every array of a controller together. -/
def ctrlBanks (c : Nat) : Nat :=
  ((List.range 3).filter (fun k => arraySize c k != 0)).foldl (fun n k => n + arrayBanks c k) 0

/-- Data bits of a word of array k: 14 in a program array (R195). -/
def arrayWidth (k : Nat) : Nat := if k = 0 then 36 else 14

/-- Key of a stored word. -/
def memKey (c k a : Nat) : Nat := (4 * c + k) * 2 ^ 21 + a

/-- The bank and row of a word (R186). -/
def rowOf (c k a : Nat) : Row :=
  { ctrl := c, array := k, bank := a % arrayBanks c k, row := a / arrayBanks c k / 64 }

/-- The columns h(i) of R193. -/
def columns : List Nat :=
  [0x07, 0x0B, 0x0D, 0x0E, 0x13, 0x15, 0x16, 0x19, 0x1A, 0x1C, 0x23, 0x25, 0x26, 0x29,
   0x2A, 0x2C, 0x31, 0x32, 0x34, 0x38, 0x43, 0x45, 0x46, 0x49, 0x4A, 0x4C, 0x51, 0x52,
   0x54, 0x58, 0x61, 0x62, 0x64, 0x68, 0x70, 0x1F]

/-- The check bits of the lowest n data bits (R193, R195). -/
def checkBits (n : Nat) (d : Word) : BitVec 7 :=
  (List.range n).foldl (fun k i => if d.bit i then k ^^^ BitVec.ofNat 7 (columns.getD i 0) else k) 0

/-- The syndrome of a code word of n data bits (R193). -/
def syndromeOf (n : Nat) (x : CodeWord) : BitVec 7 := checkBits n x.d ^^^ x.k

/-- The decoding of a code word of n data bits (R194): the data returned and what was found. -/
def decodeWord (n : Nat) (x : CodeWord) : Word × Syndrome :=
  let y := (syndromeOf n x).toNat
  if y = 0 then (x.d, .clean)
  else if [1, 2, 4, 8, 16, 32, 64].contains y then (x.d, .corrected)
  else if y = 0x7F then (0, .unwritten)
  else match (columns.take n).findIdx? (· == y) with
    | some i => (x.d ^^^ Word.ofN (2 ^ i), .corrected)
    | none => (x.d, .uncorrectable)

/-- The code word of n data bits. -/
def encodeWord (n : Nat) (d : Word) : CodeWord := { d := d, k := checkBits n d }

/-- One nonet mask applied: nonets of new where mask bit n is 1, of old elsewhere. -/
def mergeNonets (mask : Nat) (new old : Word) : Word :=
  (List.range 4).foldl (fun w n => if mask.testBit n then w.setNonet n (new.nonet n) else w) old

namespace State

/-- A stored code word. -/
def codeAt (s : State) (c k a : Nat) : CodeWord := Tab.get {} (memKey c k a) s.mem

/-- s with a stored code word replaced. -/
def setCode (s : State) (c k a : Nat) (x : CodeWord) : State := { s with mem := Tab.put {} (memKey c k a) x s.mem }

/-- Whether a row's bank has a free spare row (R186, R211). -/
def freeSpares (s : State) (r : Row) : Nat :=
  let same (x : Row) : Bool := x.ctrl == r.ctrl && x.array == r.array && x.bank == r.bank
  8 - (s.memc.fused.countP same + s.memc.soft.countP same + s.memc.unusable.countP same
    + s.memc.repairing.countP same)

/-- The repair of a row starts, or finds no free spare (R212); a row being repaired is not repaired again. (DEDUCED, log 37) -/
def startRepair (s : State) (r : Row) : State :=
  if s.memc.repairing.contains r then s
  else if s.freeSpares r = 0 then (s.setFld (Reg.MEMC_SPARE_EXHAUSTED r.ctrl) 1).raise 78
  else { s with memc := { s.memc with repairing := s.memc.repairing ++ [r] } }

/-- A word has been classed LASTING: its row is repaired at once or noted for later (R213). The deferred list holds 32 rows; a row
that finds it full is not noted. (DESIGN CHOICE, log 37) -/
def repairLasting (s : State) (r : Row) : State :=
  if s.fld Reg.MEMC_LIMITS_REPAIR_MODE = 0 then s.startRepair r
  else if s.memc.deferred.contains r ∨ 32 ≤ s.memc.deferred.length then s
  else { s with memc := { s.memc with deferred := s.memc.deferred ++ [r] } }

/-- The last-error word of a controller (R221). (DEDUCED, log 61) -/
def noteLast (s : State) (c k a kind agent : Nat) (flip : Bool) : State :=
  s.setReg (Reg.MEMC_LAST c)
    (Word.ofN (2 ^ 35 + 2 ^ 31 * bit01 flip + 2 ^ 25 * (agent % 64) + 2 ^ 23 * kind + 2 ^ 21 * k + a))

/-- A correctable error of a word counts towards its repair (R213). -/
def trackCorrectable (s : State) (c k a agent : Nat) : State :=
  let w := s.fld Reg.MEMC_LIMITS_CE_WINDOW * 3600 * Config.sec
  let mine (x : Tracked) : Bool := x.ctrl == c && x.array == k && x.addr == a
  let set (s : State) (l : List Tracked) : State := { s with memc := { s.memc with tracked := l } }
  match s.memc.tracked.find? mine with
  | some x =>
    let times := s.clk :: x.times.filter (fun t => s.clk ≤ t + w)
    let others := s.memc.tracked.filter (fun y => !mine y)
    if s.fld Reg.MEMC_LIMITS_CE_N ≤ times.length then
      (((set s others).raise 76).report (0x40 + c) 76 k a agent 0).repairLasting (rowOf c k a)
    else set s (others ++ [{ x with times := times }])
  | none =>
    let new : Tracked := { ctrl := c, array := k, addr := a, times := [s.clk] }
    let table := s.memc.tracked.filter (fun x => x.ctrl == c)
    let start (x : Tracked) : Nat := x.times.getLastD 0
    if table.length < 32 then set s (s.memc.tracked ++ [new])
    else match (table.filter (fun x => start x + w < s.clk)).foldl
          (fun b x => match b with
            | some y => if start x < start y then some x else some y
            | none => some x) none with
      | some old => set s (s.memc.tracked.filter (· != old) ++ [new])
      | none => s.bumpSat Reg.MEMC_CE_UNTRACKED_COUNT 1

/-- A correctable error is reported (R194, R196, R204). (DEDUCED, log 24 and 61) -/
def reportCorrected (s : State) (c k a agent : Nat) (flip : Bool) : State :=
  let s1 := if flip then s else s.bumpSat (Reg.MEMC_SEC_COUNT c) 1
  let s2 := ((s1.noteLast c k a 1 agent flip).raise 72).report (0x40 + c) 72 k a agent 0
  if flip then s2 else s2.trackCorrectable c k a agent

/-- An uncorrectable error is reported (R197, R204). -/
def reportUncorrectable (s : State) (c k a agent : Nat) (flip : Bool) : State :=
  let s1 := if flip then s else s.bumpSat (Reg.MEMC_DED_COUNT c) 1
  ((s1.noteLast c k a 2 agent flip).raise 73).report (0x40 + c) 73 k a agent 0

/-- A read of a stored word by an agent, past the merge buffer: the data, what was found, and the effects of R196 to R198.
quiet reads report no unwritten word (scrubber, march, repair, and the device's own reads of R189). An unwritten word makes no
Strata record. (DEDUCED, log 61) -/
def readStored (s : State) (agent c k a : Nat) (quiet : Bool) : Word × Syndrome × State :=
  let x := s.codeAt c k a
  match decodeWord (arrayWidth k) x with
  | (d, .clean) => (d, .clean, s)
  | (d, .corrected) =>
    (d, .corrected, (s.setCode c k a (encodeWord (arrayWidth k) d)).reportCorrected c k a agent x.flip)
  | (d, .uncorrectable) => (d, .uncorrectable, s.reportUncorrectable c k a agent x.flip)
  | (d, .unwritten) =>
    (d, .unwritten, if quiet then s else (s.noteLast c k a 3 agent x.flip).raise 74)

/-- An agent's write, or a flush, stores a code word: an armed flip mask on the word is used (R204). -/
def storeCode (s : State) (c k a : Nat) (x : CodeWord) : State :=
  if s.isSet Reg.MEMC_FLIP_CTRL_ARM ∧ s.fld Reg.MEMC_FLIP_CTRL_CTRL = c ∧ s.fld Reg.MEMC_FLIP_CTRL_ARRAY = k
      ∧ s.fld Reg.MEMC_FLIP_ADDR_ADDR = a then
    let m := (s.reg Reg.MEMC_FLIP_DATA).field (arrayWidth k - 1) 0
    ((s.setCode c k a { d := x.d ^^^ Word.ofN m,
                        k := x.k ^^^ BitVec.ofNat 7 (s.fld Reg.MEMC_FLIP_CTRL_CHK), flip := true }).setFld
      Reg.MEMC_FLIP_CTRL_ARM 0).setFld Reg.MEMC_FLIP_CTRL_DONE 1
  else s.setCode c k a { x with flip := false }

/-- The merge-buffer entry of a word is dropped. -/
def dropSilt (s : State) (c a : Nat) : State :=
  let rest := s.memc.silt.filter (fun y => !(y.ctrl == c && y.addr == a))
  { s with memc := { s.memc with silt := rest } }

/-- A merge-buffer entry is flushed (R202, R203). -/
def flushEntry (s : State) (x : SiltEntry) : State :=
  let s0 := s.dropSilt x.ctrl x.addr
  if x.mask = 15 then s0.storeCode x.ctrl 0 x.addr (encodeWord 36 x.data)
  else
    let old := s0.codeAt x.ctrl 0 x.addr
    match decodeWord 36 old with
    | (_, .unwritten) => s0.storeCode x.ctrl 0 x.addr (encodeWord 36 (mergeNonets x.mask x.data 0))
    | (d, .uncorrectable) =>
      let m := encodeWord 36 (mergeNonets x.mask x.data d)
      (s0.reportUncorrectable x.ctrl 0 x.addr 0 old.flip).storeCode x.ctrl 0 x.addr { m with k := m.k ^^^ 3 }
    | (d, .corrected) =>
      (s0.reportCorrected x.ctrl 0 x.addr 0 old.flip).storeCode x.ctrl 0 x.addr
        (encodeWord 36 (mergeNonets x.mask x.data d))
    | (d, .clean) => s0.storeCode x.ctrl 0 x.addr (encodeWord 36 (mergeNonets x.mask x.data d))

/-- The merge-buffer entry of a word. -/
def siltAt (s : State) (c a : Nat) : Option SiltEntry := s.memc.silt.find? (fun x => x.ctrl == c && x.addr == a)

/-- Every merge-buffer entry of the controllers that satisfy p is flushed, oldest first. -/
def flushWhere (s : State) (p : Nat → Bool) : State :=
  (s.memc.silt.filter (fun x => p x.ctrl)).foldl flushEntry s

/-- A read of a word through its controller (R194 to R198, R201). -/
def memRead (s : State) (agent c k a : Nat) (quiet : Bool) : Word × Syndrome × State :=
  let s1 := match s.siltAt c a with
    | some x => if k = 0 then s.flushEntry x else s
    | none => s
  s1.readStored agent c k a quiet

/-- A write of a whole word through its controller: a merge-buffer entry of the word is discarded (R202). -/
def memWrite (s : State) (c k a : Nat) (w : Word) : State :=
  let s1 := if k = 0 then s.dropSilt c a else s
  s1.storeCode c k a (encodeWord (arrayWidth k) (Word.ofN (w.field (arrayWidth k - 1) 0)))

/-- A narrow write: the nonets of w that mask names go into the merge buffer (R201, R202). -/
def memNarrow (s : State) (agent c a mask : Nat) (w : Word) : State :=
  let merged : SiltEntry := match s.siltAt c a with
    | some x => { x with mask := x.mask ||| mask, data := mergeNonets mask w x.data, last := s.clk, agent := agent }
    | none => { ctrl := c, addr := a, mask := mask, data := mergeNonets mask w 0, last := s.clk, agent := agent }
  let here := s.memc.silt.filter (fun x => x.ctrl == c)
  let s1 := match s.siltAt c a, here with
    | none, oldest :: _ => if 8 ≤ here.length then s.flushEntry oldest else s
    | _, _ => s
  if merged.mask = 15 then s1.flushEntry merged
  else
    let known := s1.memc.silt.any (fun x => x.ctrl == c && x.addr == a)
    { s1 with memc := { s1.memc with
        silt := if known then s1.memc.silt.map (fun x => if x.ctrl == c && x.addr == a then merged else x)
                else s1.memc.silt ++ [merged] } }

/-- A whole array becomes unwritten (destructive march, clear on wake, wipe): R207, R214, R218. -/
def clearArray (s : State) (c k : Nat) : State :=
  { s with mem := Tab.drop (fun key => memKey c k 0 ≤ key && key < memKey c k 0 + arraySize c k) s.mem }

/-- An access is refused: recorded in MEMC_REFUSE, and MEM_REFUSED raised (R188, R221). -/
def memRefuse (s : State) (c agent reason : Nat) : State :=
  (s.setReg Reg.MEMC_REFUSE (Word.ofN (2 ^ 35 + 2 ^ 12 * reason + 2 ^ 6 * (agent % 64) + c % 64))).raise 82

/-- A write at BAR0 offset o is refused by a memory's rules, which CFG_REJECT and GCTL_REJECT report as well (R10, R188). -/
def memReject (s : State) (c agent reason o : Nat) : State := (s.memRefuse c agent reason).reject agent o

/-! ### The two ports of Shelf RAM (R192) -/

/-- Whether an agent reaches Shelf RAM through port B: the hosts and host DMA. -/
def onPortB (agent : Nat) : Bool := agent == 51 || agent == 52 || agent == 60

/-- The write of a word, or of the nonets of a mask, as its controller takes it. -/
def putMasked (s : State) (agent c a mask : Nat) (w : Word) : State :=
  if mask = 15 then s.memWrite c 0 a w else s.memNarrow agent c a mask w

/-- A write of Shelf RAM has been made: where the other port has written the same word in the same arbitration round, the collision
arbiter orders the two, DP_WW is raised and recorded (R192). Writes that arrive at one instant meet in one round, or not, as the
arbiters fall. (DESIGN CHOICE, log 8; DEDUCED, log 69) -/
def shelfMeet (s : State) (x : ShelfWrite) : State :=
  let now := s.memc.shelf.filter (fun y => y.at_ == s.clk)
  let s1 := { s with memc := { s.memc with shelf := now ++ [x] } }
  match now.find? (fun y => y.addr == x.addr && onPortB y.agent != onPortB x.agent) with
  | none => s1
  | some y =>
    let (n, s2) := s1.free
    if ¬ Config.sameRound n then s2
    else
      let (m, s3) := s2.free
      let s4 := if Config.arbSecondFirst m then s3.putMasked y.agent 2 y.addr y.mask y.word else s3
      let (a, b) := if onPortB x.agent then (y.agent, x.agent) else (x.agent, y.agent)
      (s4.raise 75).report 0x42 75 0 x.addr a b

/-- A write by an agent of a word of a memory, or of the nonets of a mask. -/
def agentWrite (s : State) (agent c a mask : Nat) (w : Word) : State :=
  let s1 := s.putMasked agent c a mask w
  if c = 2 then s1.shelfMeet { agent := agent, addr := a, mask := mask, word := w, at_ := s.clk } else s1

end State

/-- Whether an agent may read, and write, a memory by a direct access (R188): local data of engine e is that of agent
e + 1; stewards are agents 49 and 50. -/
def memRights (agent c k : Nat) : Bool × Bool :=
  let crag := 1 ≤ agent && agent ≤ 48
  let stew := agent == 49 || agent == 50
  if k ≠ 0 then (false, false)
  else match c with
  | 0 => (crag || stew || agent == 51 || agent == 58 || agent == 59 || agent == 60,
          crag || stew || agent == 51 || agent == 58 || agent == 60)
  | 1 => (crag || stew || agent == 51 || agent == 59 || agent == 60, stew || agent == 51 || agent == 59)
  | 2 => let b := crag || stew || (51 ≤ agent && agent ≤ 56 && agent != 52) || agent == 60; (b, b)
  | 3 => (agent == 57, agent == 57)
  | 4 => (false, false)
  | _ =>
    if c ≤ 52 then let b := agent + 4 == c || stew || agent == 51; (b, b)
    else let b := agent + 4 == c; (b, b)

/-- Whether a host may read, and write, a memory by indirect access (R188, R191). -/
def indirectRights (agent c k : Nat) : Bool × Bool :=
  if c = 4 then (false, false)
  else if k ≠ 0 then (true, false)
  else match c with
    | 0 => (true, true)
    | 1 => (true, agent == 51)
    | 2 => (true, true)
    | 3 => (true, false)
    | _ => if c ≤ 52 then (true, true) else (true, false)

end Sys2Proof.Machine
end

