-- ==== Sys2Proof/Machine/Engine.lean ====
section
/-! DEFINITION. The engine as its instructions see it: registers through the window, the state code of CE_STAT, memory
protection, the word address space, local data, traps, and the end of a wait (spec/03_crag_engines.md). -/
namespace Sys2Proof.Machine

/-- Words of a program bank (R68). -/
def bankSize (e : Nat) : Nat := if e < 48 then 16384 else 65536

/-- Words of local data (R68). -/
def localSize (e : Nat) : Nat := if e < 48 then 32768 else 262144

/-- The partner of a Crag engine in its pair (R67). -/
def partnerOf (e : Nat) : Nat := if e % 2 = 0 then e + 1 else e - 1

/-- Where a word address leads (R72). -/
inductive Place where
  | localData (a : Nat)
  | memory (c a : Nat)
  | register (o : Nat)
  | unmapped
  deriving DecidableEq, Repr

/-- The decoding of an engine's word address (R72). -/
def placeOf (e a : Nat) : Place :=
  if a < localSize e then .localData a
  else if 0x100000 ≤ a ∧ a ≤ 0x10FFFF then .memory 2 (a - 0x100000)
  else if 0x200000 ≤ a ∧ a ≤ 0x3FFFFF then .memory 0 (a - 0x200000)
  else if 0x400000 ≤ a ∧ a ≤ 0x47FFFF then .memory 1 (a - 0x400000)
  else if 0x800000 ≤ a ∧ a ≤ 0xFFFFFF then .register (8 * (a - 0x800000))
  else .unmapped

/-- The part of a word a load delivers, zero-extended (R120). -/
def WordPart.of (p : WordPart) (w : Word) : Word :=
  match p with
  | .whole => w
  | .nonet k => Word.ofN (w.nonet k)
  | .half 0 => Word.ofN (w.field 35 18)
  | .half _ => Word.ofN (w.field 17 0)

/-- Window register wi (R76). -/
def Engine.w (g : Engine) (i : Nat) : Word := Tab.get 0 ((g.wb + i % 16) % 256) g.regs

/-- The engine with window register wi holding x. -/
def Engine.setW (g : Engine) (i : Nat) (x : Word) : Engine :=
  { g with regs := Tab.put 0 ((g.wb + i % 16) % 256) x g.regs }

/-- The flags as GETF lays them out (R126). -/
def Engine.flags (g : Engine) : Nat := 8 * bit01 g.z + 4 * bit01 g.n + 2 * bit01 g.c + bit01 g.v

/-- The engine with its flags set as SETF sets them (R126). -/
def Engine.setFlags (g : Engine) (f : Nat) : Engine :=
  { g with z := f.testBit 3, n := f.testBit 2, c := f.testBit 1, v := f.testBit 0 }

namespace State

/-- The engine changed by f. -/
def modEngine (s : State) (e : Nat) (f : Engine → Engine) : State := s.setEngine e (f (s.engine e))

/-- Whether the engine holds a paired task. -/
def paired (s : State) (e : Nat) : Bool := ((s.engine e).run.map (·.paired)).getD false

/-- Whether the engine's partner takes part in the paired task: it holds it and has not flagged (R96, R513). -/
def partnerIn (s : State) (e : Nat) : Bool := s.paired (partnerOf e) && !(s.engine (partnerOf e)).flagged

/-- Whether the engine runs a paired task alone (R96, R102, R513). -/
def solo (s : State) (e : Nat) : Bool := s.paired e && !s.partnerIn e

/-- The agent an engine's outward accesses are made for: engine + 1, in a paired task the primary + 1 (R13, R95).
(DEDUCED, log 19) -/
def agentOf (s : State) (e : Nat) : Nat := if s.paired e then e / 2 * 2 + 1 else e + 1

/-- The engines of pair p that hold its paired task and have not flagged (R95, R96). -/
def pairCrew (s : State) (p : Nat) : List Nat :=
  [2 * p, 2 * p + 1].filter (fun x => s.paired x && !(s.engine x).flagged)

/-- The engines that run the task of engine e: itself, or those of its pair that take part. -/
def crew (s : State) (e : Nat) : List Nat := if s.paired e then s.pairCrew (e / 2) else [e]

/-- The engines that act as agent a: those whose access is in hand, else engine a − 1, or its pair where only the partner runs
a task (R95). (DEDUCED, log 19) -/
def actors (s : State) (a : Nat) : List Nat :=
  let e := a - 1
  if a = 0 ∨ 50 < a then []
  else if (s.acting.head?.map s.agentOf) = some a then s.acting
  else if e < 48 ∧ e % 2 = 0 ∧ (s.engine e).run.isNone ∧ s.paired (e + 1) then s.crew (e + 1)
  else s.crew e

/-- Whether the power domain of an engine is ACTIVE (R68). -/
def engineOn (s : State) (e : Nat) : Bool := 48 ≤ e || s.clusterActive (e / 4)

/-- Whether an engine can execute: its cluster is ACTIVE, or DRAINING while its tasks end (R74, R464). -/
def enginePowered (s : State) (e : Nat) : Bool := s.engineOn e || s.fld (Reg.PRC_CLS_STAT_STATE (e / 4)) == 1

/-- The instruction times that an engine spends stalled are an observation value (R20, R83, R105). -/
def noteStall (s : State) (e : Nat) : State :=
  let (n, s1) := s.free
  s1.bump (Reg.CE_STALLS_STALLS e) (Config.observed n)

/-- Engines start to wait, which counts in their CE_STALLS (R83). -/
def stallAll (s : State) (es : List Nat) (x : Stall) : State :=
  es.foldl (fun s e => (s.noteStall e).modEngine e (fun g => { g with stall := some x })) s

/-- An access of an engine to a bank whose row is being repaired is a stall (R83, R212). -/
def noteRepair (s : State) (es : List Nat) (c k a : Nat) : State :=
  if s.memc.repairing.any (fun r => r.ctrl == c && r.array == k && r.bank == (rowOf c k a).bank) then es.foldl noteStall s
  else s

/-- CE_STAT.STATE (R105): 0 IDLE, 1 RUN, 2 HALTED, 3 TRAPPED, 4 RETIRED, 5 OFF. (DEDUCED, log 49) -/
def engineState (s : State) (e : Nat) : Nat :=
  let g := s.engine e
  if ¬ s.engineOn e then 5
  else if g.retired then 4
  else if g.trapped then 3
  else if g.run.isSome then 1
  else if s.isSet (Reg.CE_CTRL_RUN e) then 0 else 2

/-- The word CE_STAT shows (R105). -/
def ceStat (s : State) (e : Nat) : Word :=
  let g := s.engine e
  let task := (g.run.map (·.task)).getD 0
  Word.ofN (s.engineState e + 2 ^ 3 * g.bank + 2 ^ 4 * bit01 (s.paired e) + 2 ^ 5 * bit01 (s.solo e)
    + 2 ^ 6 * task + 2 ^ 16 * g.cq.length + 2 ^ 21 * g.rstack.length)

/-! ### Memory protection and local data -/

/-- Whether region k of the memory protection unit contains an address (R80, R105). -/
def inRegion (s : State) (e k a : Nat) : Bool :=
  s.isSet (Reg.CE_MPU_LIM_EN e k) && s.fld (Reg.CE_MPU_BASE_BLOCK e k) ≤ a / 64
    && a / 64 ≤ s.fld (Reg.CE_MPU_LIM_BLOCK e k)

/-- Whether the memory protection unit permits an access (R80): the lowest-numbered region that contains it decides. -/
def mpuPermits (s : State) (e a : Nat) (write : Bool) : Bool :=
  match (List.range 8).find? (fun k => s.inRegion e k a) with
  | some k => if write then s.isSet (Reg.CE_MPU_LIM_W e k) else s.isSet (Reg.CE_MPU_LIM_R e k)
  | none => false

/-- Local data word a has no entry in the undo log of a paired task that needs one (R98). -/
def needsUndo (s : State) (e a : Nat) : Bool :=
  let g := s.engine e
  s.paired e && g.ckpt.isSome && !g.undo.any (fun x => x.1 == a)

/-- Whether writing local words as makes the undo log exceed 128 entries (R98). -/
def undoFull (s : State) (e : Nat) (as : List Nat) : Bool :=
  128 < (s.engine e).undo.length + (as.filter (s.needsUndo e)).length

/-- The undo log takes the word's value before its first write since the checkpoint (R98). -/
def noteUndo (s : State) (e a : Nat) : State :=
  if s.needsUndo e a then
    let s1 := match s.siltAt (engineCtrl e) a with
      | some x => s.flushEntry x
      | none => s
    s1.modEngine e (fun g => { g with undo := (a, s1.codeAt (engineCtrl e) 0 a) :: g.undo })
  else s

/-- A whole-word write of local data. -/
def localWrite (s : State) (e a : Nat) (w : Word) : State :=
  ((s.noteRepair [e] (engineCtrl e) 0 a).noteUndo e a).memWrite (engineCtrl e) 0 a w

/-- A narrow write of local data. -/
def localNarrow (s : State) (e a mask : Nat) (w : Word) : State :=
  ((s.noteRepair [e] (engineCtrl e) 0 a).noteUndo e a).memNarrow (e + 1) (engineCtrl e) a mask w

/-- A read of local data. -/
def localRead (s : State) (e a : Nat) : Word × Syndrome × State :=
  (s.noteRepair [e] (engineCtrl e) 0 a).memRead (e + 1) (engineCtrl e) 0 a false

/-! ### Traps and the end of a wait -/

/-- The trap registers of an engine take a record and the engine becomes TRAPPED (R91). -/
def putTrap (s : State) (e code pc bank insn lits addr : Nat) (paired : Bool) : State :=
  (((s.setReg (Reg.CE_TRAP_CAUSE e) (Word.ofN (code + 2 ^ 5 * bit01 paired))).setReg (Reg.CE_TRAP_PC e)
      (Word.ofN (pc + 2 ^ 16 * bank + 2 ^ 17 * insn + 2 ^ 31 * lits))).setReg (Reg.CE_TRAP_ADDR e)
      (Word.ofN addr)).modEngine e
    (fun g => { g with trapped := true, haltNext := g.haltNext || g.halted, halted := false, stall := none, dst := none, stepping := false })

/-- A push that engine e waits with leaves the queue's waiting list, unless another engine waits with it. -/
def withdrawPush (s : State) (e q : Nat) : State :=
  let x := s.queue q
  let rest := x.waiting.filterMap (fun p =>
    if p.by_ = [e] then none else some { p with by_ := p.by_.filter (· != e) })
  let s1 := s.setQueue q { x with waiting := rest }
  if rest.any (·.warned) then s1 else s1.setFld (Reg.TALUS_QSTAT_STALLED q) 0

/-- A stalled read of COL_MBXm_WAIT that engine e waits with ends unanswered, unless another engine waits with it. -/
def withdrawRead (s : State) (e : Nat) : State :=
  let rest := s.col.waits.filterMap (fun x =>
    if x.by_ = [e] then none else some { x with by_ := x.by_.filter (· != e) })
  { s with col := { s.col with waits := rest } }

/-- The engine takes back the bundle that it waits in: what it has presented and has not been performed is withdrawn, and it
stands before the bundle again (R91, R95, R96). (DEDUCED, log 27) -/
def takeBack (s : State) (e : Nat) : State :=
  match (s.engine e).stall with
  | none => s
  | some x =>
    let s1 := match x with
      | .push q => s.withdrawPush e q
      | .answer => s.withdrawRead e
      | _ => s
    (s1.setFld (Reg.CE_BUNDLES_BUNDLES e) (s1.fld (Reg.CE_BUNDLES_BUNDLES e) + 2 ^ 36 - 1)).modEngine e (fun g => { g with
      pc := g.cur.1, stall := none, dst := none
      run := g.run.map (fun r => { r with bundles := r.bundles - 1, done := r.done - 1 }) })

/-- The trap record of engine e goes to its partner, which becomes TRAPPED with it (R93). -/
def pullPartner (s : State) (e code pc bank insn lits addr : Nat) : State :=
  let x := partnerOf e
  ((s.takeBack x).putTrap x code pc bank insn lits addr true).modEngine x (fun g => { g with pulled := true })

/-- Engine e traps at the bundle it has begun (R91); in a paired task both engines become TRAPPED with the same
record (R93). (DEDUCED, log 27) -/
def trap (s : State) (e code addr : Nat) : State :=
  let g := s.engine e
  let (pc, insn, lits) := g.cur
  let p := s.paired e
  let s1 := (s.putTrap e code pc g.bank insn lits addr p).modEngine e (fun g => { g with pc := pc, pulled := false })
  let s2 := if p ∧ s.paired (partnerOf e) then s1.pullPartner e code pc g.bank insn lits addr else s1
  let s3 := if p then s2.setPair (e / 2) { s2.pair (e / 2) with presented := none } else s2
  (s3.raise 49).report e 49 code addr (e + 1) 0

/-- Engine e, stopped by its partner's trap, meets a trap of its own at the same bundle: the record of the lower code stands
in both (R92, R93). (DEDUCED, log 27) -/
def trapToo (s : State) (e code addr : Nat) : State :=
  let g := s.engine e
  let x := partnerOf e
  let (pc, insn, lits) := g.cur
  let s1 := s.modEngine e (fun g => { g with pulled := false })
  if code < s.fld (Reg.CE_TRAP_CAUSE_CAUSE e) then
    (s1.putTrap e code pc g.bank insn lits addr true).putTrap x code pc g.bank insn lits addr true
  else s1

/-- An access of the pair is noted in the replay log (R98). -/
def logAccess (s : State) (p : Nat) (acc : PairAccess) (w : Word) : State :=
  let q := s.pair p
  s.setPair p { q with log := q.log ++ [(acc, w)], matched := q.log.length + 1 }

/-- A load that waited receives its word, and the engine goes on (R95, R174). -/
def complete (s : State) (e : Nat) (w : Word) : State :=
  s.modEngine e (fun g =>
    let g1 := match g.dst with
      | some d => { g with regs := Tab.put 0 d.reg (d.part.of w) g.regs }
      | none => g
    { g1 with stall := none, dst := none })

/-- The answer of a stalled COL_MBXm_WAIT read reaches its reader: the engines that wait with it, or another agent. A read
that was a command of its own delivers to no register of an engine, and its word leaves as read. -/
def answer (s : State) (x : ColWait) (w : Word) : State :=
  match x.by_.filter (fun e => (s.engine e).stall == some .answer) with
  | [] => s.emit (.read x.agent w false)
  | e :: es =>
    let s0 := if (s.engine e).dst.isNone then s.emit (.read x.agent w false) else s
    let s1 := (e :: es).foldl (fun s e => s.complete e w) s0
    if s1.paired e then
      let q := s1.pair (e / 2)
      s1.setPair (e / 2) { q with log := q.log.dropLast ++ (q.log.getLast?.map (fun x => (x.1, w))).toList }
    else s1

end State
end Sys2Proof.Machine
end

