-- ==== Sys2Proof/Machine/Queues.lean ====
section
/-! DEFINITION. Hardware queues, ordering domains, and the end of a task (spec/05_talus_scheduler.md R148 to R159). -/
namespace Sys2Proof.Machine

/-- The waiting-time bin of R159; w in nanoseconds. -/
def waitBin (w : Nat) : Nat :=
  if w < 128 then 0 else if w < 256 then 1 else if w < 512 then 2 else if w < 1024 then 3
  else if w < 2048 then 4 else if w < 4096 then 5 else if w < 16384 then 6 else 7

namespace State

/-- Entries a queue has room for (R149). -/
def queueSize (s : State) (q : Nat) : Nat := 2 ^ s.fld (Reg.TALUS_QCFG_SIZE q)

/-- Word of the queue store that holds the entry i places behind the oldest (R149). -/
def queueSlot (s : State) (q i : Nat) : Nat :=
  (s.fld (Reg.TALUS_QCFG_BASE q) + ((s.queue q).first + i) % s.queueSize q) % 16384

/-- Whether a queue can take an entry. -/
def queueRoom (s : State) (q : Nat) : Bool := decide (s.queueCount q < s.queueSize q)

/-- An entry enters a queue that has room (R150, R158, R159): it is stamped as it enters, also where its push has waited on the
full queue. (DEDUCED, log 49) -/
def enqueue (s : State) (q entry : Nat) : State :=
  let x := s.queue q
  let n := x.stamps.length
  let s1 := s.memWrite 3 0 (s.queueSlot q n) (Word.ofN (entry % 2 ^ 32))
  let high := s.fld (Reg.TALUS_QCFG_HIGH q)
  let reached := high ≠ 0 ∧ high ≤ n + 1 ∧ ¬ x.high
  let s2 := s1.setQueue q { x with stamps := x.stamps ++ [s.clk / 128], high := x.high || decide reached }
  let s3 := s2.setFld (Reg.TALUS_QSTAT_MAX q) (max (s2.fld (Reg.TALUS_QSTAT_MAX q)) (n + 1))
  let s4 := if reached then s3.raise 59 else s3
  s4.judgeQueue q

/-- A push that finds its queue full waits there, and the engines es with it (R151). -/
def waitPush (s : State) (p : WaitPush) (q : Nat) : State :=
  (s.setQueue q { s.queue q with waiting := (s.queue q).waiting ++ [p] }).stallAll p.by_ (.push q)

/-- A push by an agent (R150, R151): discarded with CFG_REJECT at o by a disabled queue, waiting at a full one. -/
def push (s : State) (a q entry o : Nat) : State :=
  if ¬ s.isSet (Reg.TALUS_QCFG_EN q) then s.reject a o
  else if s.queueRoom q ∧ (s.queue q).waiting.isEmpty then s.enqueue q entry
  else s.waitPush { agent := a, entry := entry, by_ := s.actors a, since := s.clk } q

/-- The push that engines waited with on a queue is done, and they go on. -/
def pushDone (s : State) (es : List Nat) (q : Nat) : State :=
  es.foldl (fun s e =>
    if (s.engine e).stall = some (.push q) then s.modEngine e (fun g => { g with stall := none }) else s) s

/-- A pop: the entry, whether it was uncorrectable, and the state (R150, R159, R562); none from an empty or disabled
queue. -/
def popQueue (s : State) (q : Nat) : Option (Nat × Bool × State) :=
  let x := s.queue q
  match x.stamps with
  | [] => none
  | t :: rest =>
    if ¬ s.isSet (Reg.TALUS_QCFG_EN q) then none
    else
      let (w, syn, s1) := s.memRead 57 3 0 (s.queueSlot q 0) false
      let b := waitBin ((s.clk / 128 - t) * 8)
      let high := s.fld (Reg.TALUS_QCFG_HIGH q)
      let x1 : HwQueue := { x with
        first := (x.first + 1) % s.queueSize q, stamps := rest
        high := x.high && decide (high ≤ rest.length)
        bins := Tab.put 0 b (satAdd (2 ^ 32 - 1) (Tab.get 0 b x.bins) 1) x.bins }
      some (w.field 31 0, syn == .uncorrectable, (s1.setQueue q x1).judgeQueue q)

/-- What a read of TALUS_QDATAq returns (R150, R163). -/
def popWord (s : State) (q : Nat) : Word × State :=
  match s.popQueue q with
  | some (entry, bad, s1) => (Word.ofN (entry + 2 ^ 34 * bit01 bad + 2 ^ 35), s1)
  | none => (0, s)

/-! ### Ordering domains -/

/-- Whether a ticket still has to reach the head of its domain (R154). -/
def ticketWaits (s : State) (d t : Nat) : Bool :=
  match (s.domain d).tickets with
  | [] => false
  | h :: _ => h.number != t && (s.domain d).tickets.any (fun x => x.number == t)

/-- The engines whose instance holds a ticket. -/
def holdersOf (s : State) (d t : Nat) : List Nat :=
  s.engines.filterMap (fun x => if (x.2.run.bind (·.ticket)) = some (d, t) then some x.1 else none)

/-- The held ordered pushes of the head ticket of domain d take effect in the order they were made; one that meets a full queue
waits there, and those after it stay held until it has entered (R151, R154, R155). -/
def releasePushes (s : State) (d : Nat) : List (Nat × Nat × Nat) → State × List (Nat × Nat × Nat)
  | [] => (s, [])
  | (q, entry, a) :: rest =>
    if s.isSet (Reg.TALUS_QCFG_EN q) ∧ ¬ (s.queueRoom q ∧ (s.queue q).waiting.isEmpty) then
      let s1 := s.waitPush { agent := a, entry := entry, dom := some d, since := s.clk } q
      (s1.setDomain d { s1.domain d with blocked := true }, rest)
    else (s.push a q entry (Reg.TALUS_QORD q)).releasePushes d rest

/-- The 17th ordered push of a ticket, which stalls the engines of its instance: the engines, the queue and the entry. -/
def stalledOrder (s : State) (d t : Nat) : Option (List Nat × Nat × Nat) :=
  let es := (s.holdersOf d t).filter (fun e => match (s.engine e).stall with | some (.ordered _ _) => true | _ => false)
  match es.head?.bind (fun e => (s.engine e).stall) with
  | some (.ordered q entry) => some (es, q, entry)
  | _ => none

/-- A push that waited as the 17th of its ticket is made: at once, or, where an earlier one of the ticket waits on a full queue,
as the next of the held ones (R154). -/
def releaseStalled (s : State) (d t : Nat) : State :=
  match s.stalledOrder d t with
  | none => s
  | some (es, q, entry) =>
    let s1 := es.foldl (fun s e => s.modEngine e (fun g => { g with stall := none })) s
    let a := s.agentOf (es.headD 0)
    if (s1.domain d).blocked then
      s1.setDomain d { s1.domain d with tickets := (s1.domain d).tickets.map (fun k =>
        if k.number = t then { k with held := k.held ++ [(q, entry, a)] } else k) }
    else if s1.queueRoom q ∧ (s1.queue q).waiting.isEmpty ∨ ¬ s1.isSet (Reg.TALUS_QCFG_EN q) then
      s1.push a q entry (Reg.TALUS_QORD q)
    else s1.waitPush { agent := a, entry := entry, by_ := es, since := s1.clk } q

/-- Complete head tickets are released in one sweep, and the ticket that comes to the head lets go of what it held
(R154, R155); while a released push waits on a full queue the head stays (R151). -/
def sweep (s : State) (d : Nat) : Nat → State
  | 0 => s
  | n + 1 =>
    match (s.domain d).tickets with
    | [] => s
    | h :: rest =>
      if (s.domain d).blocked then s
      else
        let (s1, left) := s.releasePushes d h.held
        let s2 := (s1.setDomain d { s1.domain d with tickets := { h with held := left } :: rest }).releaseStalled d h.number
        if h.complete ∧ ¬ (s2.domain d).blocked then
          let s3 := s2.setDomain d { s2.domain d with tickets := rest, headSince := s2.clk, warned := false }
          (s3.setFld (Reg.TALUS_DOM_HEAD d) (h.number + 1)).sweep d n
        else s2

/-- The sweep of a domain goes as far as it can. -/
def sweepAll (s : State) (d : Nat) : State := s.sweep d ((s.domain d).tickets.length + 1)

/-- A released push of the head of domain d has entered its queue: the release goes on (R155). -/
def resumeSweep (s : State) (d : Nat) : State :=
  (s.setDomain d { s.domain d with blocked := false }).sweepAll d

/-- A ticket becomes complete (R155). -/
def completeTicket (s : State) (d t : Nat) : State :=
  let x := s.domain d
  (s.setDomain d { x with tickets := x.tickets.map (fun k => if k.number = t then { k with complete := true } else k) }).sweepAll d

/-- The ticket the instance on an engine holds. -/
def ticketOf (s : State) (a : Nat) : Option (Nat × Nat) :=
  (s.actors a).head?.bind (fun e => (s.engine e).run.bind (·.ticket))

/-- Whether an ordered push under a ticket is held: the ticket is not at the head, or an earlier push of it still waits on a
full queue (R154, R155). -/
def ordersHeld (s : State) (d t : Nat) : Bool :=
  s.ticketWaits d t || (s.domain d).blocked && (s.domain d).tickets.any (fun x => x.number == t)

/-- A write of TALUS_QORDq by an agent (R154, R155). -/
def orderedPush (s : State) (a q entry : Nat) : State :=
  match s.ticketOf a with
  | none => s.push a q entry (Reg.TALUS_QORD q)
  | some (d, t) =>
    if ¬ s.ordersHeld d t then s.push a q entry (Reg.TALUS_QORD q)
    else
      let x := s.domain d
      let n : Nat := ((x.tickets.find? (fun k => k.number == t)).map (fun k => k.held.length)).getD 0
      if n < 16 then
        s.setDomain d { x with tickets := x.tickets.map (fun k =>
          if k.number = t then { k with held := k.held ++ [(q, entry, a)] } else k) }
      else s.stallAll (s.actors a) (.ordered q entry)

/-! ### Holding a task -/

/-- The engine starts to hold a task (R160). -/
def holdStart (s : State) (e : Nat) : State :=
  { s with talus := { s.talus with busyMark := Tab.put 0 e (s.clk + 1) s.talus.busyMark } }

/-- The engine ceases to hold a task: its share of the present window is added up (R160). -/
def holdEnd (s : State) (e : Nat) : State :=
  let m := Tab.get 0 e s.talus.busyMark
  if m = 0 then s
  else { s with talus := { s.talus with
          busy := Tab.put 0 e (Tab.get 0 e s.talus.busy + (s.clk + 1 - m)) s.talus.busy
          busyMark := Tab.put 0 e 0 s.talus.busyMark } }

/-- An engine lets go of its task. -/
def letGo (s : State) (e : Nat) : State :=
  (s.modEngine e (fun g => { g with
    run := none, idleSince := s.clk, stall := none, dst := none, trapped := false, pulled := false, skipAt := none, flagged := false
    ckpt := none, undo := [], rstack := [], spilled := 0, wb := 0, stepping := false, passBp := false
    haltNext := g.haltNext || g.halted, halted := false })).holdEnd e

/-- The task an engine holds ends, by TDONE or ABORT (R93, R128, R134, R155): on both engines of a pair. -/
def endTask (s : State) (e : Nat) : State :=
  match (s.engine e).run with
  | none => s
  | some r =>
    let s1 := s.letGo e
    let s2 := if r.paired then
        (if s1.paired (partnerOf e) then s1.letGo (partnerOf e) else s1).setPair (e / 2) {}
      else s1
    let s3 := if r.talus then
        s2.setFld (Reg.TALUS_TSTAT_RUNNING r.task) (s2.fld (Reg.TALUS_TSTAT_RUNNING r.task) - 1)
      else s2
    let s4 := match r.ticket with
      | some (d, t) => s3.completeTicket d t
      | none => s3
    if r.talus then s4.judgeTask r.task else s4

end State
end Sys2Proof.Machine
end

