-- ==== Sys2Proof/Machine/Talus.lean ====
section
/-! DEFINITION. Task descriptors, signals, timed task events, dispatch, and the observation registers of Talus
(spec/05_talus_scheduler.md). -/
namespace Sys2Proof.Machine
namespace State

/-! ### Stranded tasks (R143) -/

/-- Whether a bound task can no longer be placed. -/
def isStranded (s : State) (t : Nat) : Bool :=
  let b := s.fld (Reg.TALUS_TCFG_BIND t)
  let e := 4 * s.fld (Reg.TALUS_TCFG_CLUSTER t) + b - 1
  let gone (e : Nat) : Bool := (s.engine e).retired
  s.isSet (Reg.TALUS_TCFG_EN t) && b != 0 &&
    (if s.isSet (Reg.TALUS_TCFG_PAIRED t) then
       gone e && gone (partnerOf e) || (gone e || gone (partnerOf e)) && !s.isSet Reg.STRATA_CTRL_SOLO_PAIRED
     else gone e)

/-- A task's STRANDED mark follows: set with TASK_STRANDED when it becomes stranded, cleared when it is disabled. -/
def judgeStranded (s : State) (t : Nat) : State :=
  if s.isStranded t then
    if s.isSet (Reg.TALUS_TSTAT_STRANDED t) then s else (s.setFld (Reg.TALUS_TSTAT_STRANDED t) 1).raise 58
  else if s.isSet (Reg.TALUS_TCFG_EN t) then s else s.setFld (Reg.TALUS_TSTAT_STRANDED t) 0

/-- The tasks whose TCFG holds anything, in ascending number. -/
def describedTasks (s : State) : List Nat :=
  s.regs.filterMap (fun x =>
    let r := x.1 - Reg.TALUS_TCFG 0
    if Reg.TALUS_TCFG 0 ≤ x.1 ∧ r % 0x30 = 0 ∧ r / 0x30 < 1024 then some (r / 0x30) else none)

/-- Every task's STRANDED mark is judged again. -/
def judgeAllStranded (s : State) : State := s.describedTasks.foldl judgeStranded s

/-! ### Descriptor and queue writes -/

/-- Whether a task is enabled or has instances running (R132). -/
def taskBusy (s : State) (t : Nat) : Bool :=
  s.isSet (Reg.TALUS_TCFG_EN t) || s.fld (Reg.TALUS_TSTAT_RUNNING t) != 0

/-- Whether another enabled task feeds from the feeding queue of task t (R146). -/
def secondFeeder (s : State) (t : Nat) : Bool :=
  s.isSet (Reg.TALUS_TLINK_QFED t) &&
    (s.fedTasks (s.fld (Reg.TALUS_TLINK_QUEUE t))).any (fun u => u != t && s.isSet (Reg.TALUS_TCFG_EN u))

/-- A write of TALUS_TCFGt (R131, R132, R146). (DEDUCED, log 49) -/
def writeTcfg (s : State) (a t : Nat) (w : Word) : State :=
  let o := Reg.TALUS_TCFG t
  let old := s.reg o
  let en := w.bit 28
  let feeder := en && !old.bit 28 && s.secondFeeder t
  let putEn (s : State) : State := if feeder then s else s.setFld (Reg.TALUS_TCFG_EN t) (bit01 en)
  let (s1, rej) :=
    if s.taskBusy t then
      (putEn s, old.field 27 0 != w.field 27 0 || old.field 30 29 != w.field 30 29)
    else
      let (nw, bad) := s.written o w
      let steward := nw.field 19 16 == 12
      let combo := steward && (nw.field 23 23 != 0 || nw.field 26 24 != 0) || !steward && 16383 < nw.field 15 0
      let keep : Word := if combo then nw.setField 26 23 (old.field 26 23) |>.setField 19 0 (old.field 19 0) else nw
      (putEn (s.setReg o (keep.setField 28 28 (old.field 28 28))), bad || combo)
  let s2 := if rej ∨ feeder then s1.reject a o else s1
  (s2.judgeTask t).judgeStranded t

/-- A write of TALUS_TLINKt or TALUS_TMASKt at offset o: refused while the task is enabled or running (R132). -/
def writeTaskLink (s : State) (a t o : Nat) (w : Word) : State :=
  if s.taskBusy t then s.reject a o else (s.writeGeneric a o w).judgeTask t

/-- Whether two areas of the queue store overlap. -/
def areasOverlap (b1 n1 b2 n2 : Nat) : Bool := decide (b1 < b2 + n2 ∧ b2 < b1 + n1)

/-- Whether BASE and SIZE give a queue a legal area of the store (R149). -/
def legalArea (base size : Nat) : Bool :=
  decide (2 ≤ size ∧ size ≤ 12 ∧ base % 2 ^ size = 0 ∧ base + 2 ^ size ≤ 16384)

/-- BASE and SIZE after a write of QCFG, and whether a reserved encoding was rejected (R10, R149): each field takes its value where
that makes a legal area with the other's; where a legal SIZE leaves no legal BASE, old or new, both stay. (DEDUCED, log 49) -/
def newArea (base size oldBase oldSize : Nat) : (Nat × Nat) × Bool :=
  let sz := if 2 ≤ size ∧ size ≤ 12 then size else oldSize
  if legalArea base sz then ((base, sz), sz != size)
  else if legalArea oldBase sz then ((oldBase, sz), true)
  else ((oldBase, oldSize), true)

/-- A write of TALUS_QCFGq (R149); QUEUE_HIGH may be raised again where COUNT lies below the new HIGH (R158). -/
def writeQcfg (s : State) (a q : Nat) (w : Word) : State :=
  let o := Reg.TALUS_QCFG q
  let old := s.reg o
  let (new, reserved) := newArea (w.field 13 0) (w.field 17 14) (old.field 13 0) (old.field 17 14)
  let barred := new ≠ (old.field 13 0, old.field 17 14) ∧ (old.bit 18 ∨ s.queueCount q ≠ 0)
  let nbase := if barred then old.field 13 0 else new.1
  let nsize := if barred then old.field 17 14 else new.2
  let highBad := 2 ^ nsize < w.field 31 19
  let enBad := w.bit 18 ∧ ¬ old.bit 18 ∧ (List.range 256).any (fun p =>
    p != q && s.isSet (Reg.TALUS_QCFG_EN p) &&
      areasOverlap nbase (2 ^ nsize) (s.fld (Reg.TALUS_QCFG_BASE p)) (s.queueSize p))
  let en := if enBad then 0 else w.field 18 18
  let high := if highBad then old.field 31 19 else w.field 31 19
  let moved := nbase ≠ old.field 13 0 ∨ nsize ≠ old.field 17 14
  let s1 := s.setReg o (Word.ofN (nbase + 2 ^ 14 * nsize + 2 ^ 18 * en + 2 ^ 19 * high))
  let x := s.queue q
  let s2 := s1.setQueue q { x with
    first := if moved then 0 else x.first
    high := x.high && decide (high ≠ 0 ∧ high ≤ s.queueCount q) }
  if reserved ∨ barred ∨ highBad ∨ enBad then s2.reject a o else s2

/-- A write of TALUS_SIGNAL (R137). -/
def writeSignal (s : State) (w : Word) : State := s.taskFlag (w.field 9 0) (w.field 14 10) (w.bit 15)

/-- A write of TALUS_DREL by an agent (R155). -/
def writeDrel (s : State) (a : Nat) : State :=
  match s.ticketOf a with
  | some (d, t) => s.completeTicket d t
  | none => s.reject a Reg.TALUS_DREL

/-! ### Dispatch (R141 to R147) -/

/-- Whether an engine is free (R141). -/
def engineFree (s : State) (e : Nat) : Bool :=
  s.engineState e == 0 && s.fld (Reg.CE_CTRL_BANK e) == (s.engine e).bank && !s.isSet (Reg.CE_CTRL_RETIRE e)
    && (48 ≤ e || !s.isSet Reg.TALUS_CTRL_HOLD)

/-- The reservation of a cluster that still stands: task and pair (R142). (DEDUCED, log 49) -/
def reservation (s : State) (c : Nat) : Option (Nat × Nat) :=
  match Tab.get none c s.talus.reserved with
  | some (t, p) => if s.readyTasks.contains t then some (t, p) else none
  | none => none

/-- Whether task t may be placed on engine e: the engine is free and not kept for another task. -/
def usable (s : State) (t e : Nat) : Bool :=
  s.engineFree e &&
    (match s.reservation (e / 4) with
     | some (u, p) => e < 48 && (u == t || p != e / 2) || 48 ≤ e
     | none => true)

/-- Whether pair p can take paired task t on both engines (R94, R102, R141). -/
def pairTakes (s : State) (t p : Nat) : Bool :=
  s.usable t (2 * p) && s.usable t (2 * p + 1)
    && s.isSet (Reg.CE_CTRL_PAIR_EN (2 * p)) && s.isSet (Reg.CE_CTRL_PAIR_EN (2 * p + 1))
    && (s.engine (2 * p)).bank == (s.engine (2 * p + 1)).bank

/-- The engine of pair p that can take paired task t alone: the survivor of a degraded pair (R513), or an engine whose
partner runs another bank or is about to switch (R102) and holds no paired task of its own. (DEDUCED, log 49) -/
def soloTakes (s : State) (t p : Nat) : Option Nat :=
  let one (e : Nat) : Bool :=
    let x := partnerOf e
    s.usable t e && s.isSet (Reg.CE_CTRL_PAIR_EN e) && !s.paired x &&
      (((s.engine x).retired && s.isSet Reg.STRATA_CTRL_SOLO_PAIRED) ||
       (!(s.engine x).retired && s.isSet (Reg.CE_CTRL_PAIR_EN x) &&
         (s.fld (Reg.CE_CTRL_BANK x) != (s.engine x).bank || (s.engine x).bank != (s.engine e).bank)))
  [2 * p, 2 * p + 1].find? one

/-- Where a ready task of cluster c (12: the steward ready list) can be placed (R141, R142, R157, R513). -/
def placement (s : State) (c t : Nat) : Option (List Nat) :=
  let b := s.fld (Reg.TALUS_TCFG_BIND t)
  let d := s.fld (Reg.TALUS_TLINK_DOMAIN t)
  let full := s.isSet (Reg.TALUS_TLINK_DOM_EN t) &&
    32 ≤ (s.fld (Reg.TALUS_DOM_NEXT d) + 2 ^ 16 - s.fld (Reg.TALUS_DOM_HEAD d)) % 2 ^ 16
  if full then none
  else if c = 12 then
    let e := 48 + s.fld Reg.TALUS_CTRL_ACTIVE_SE
    if s.usable t e then some [e] else none
  else if s.isSet (Reg.TALUS_TCFG_PAIRED t) then
    let ps := if b = 0 then [2 * c, 2 * c + 1] else [(4 * c + b - 1) / 2]
    match ps.find? (s.pairTakes t) with
    | some p => some [2 * p, 2 * p + 1]
    | none => (ps.findSome? (s.soloTakes t)).map (fun e => [e])
  else
    let es := if b = 0 then (List.range 4).map (fun i => 4 * c + i) else [4 * c + b - 1]
    (es.find? (s.usable t)).map (fun e => [e])

/-- The ready tasks of a cluster in the order of the scan: priority, then list order. -/
def scanOrder (s : State) (c : Nat) : List Nat := (List.range 8).flatMap (fun p => s.readyList (8 * c + p))

/-- An engine takes a task: R73, R147. -/
def loadTask (s : State) (e : Nat) (r : TaskRun) (entry snap : Nat) (w0 w1 w2 w3 : Word) : State :=
  let dsp := s.fld (Reg.CE_DS_BASE_ADDR e)
  let pc := entry % bankSize e
  let halt := (s.engine e).haltNext
  let regs : Tab Word := Tab.put 0 3 w3 (Tab.put 0 2 w2 (Tab.put 0 1 w1 (Tab.put 0 0 w0 [])))
  let s1 := s.modEngine e (fun g => { g with
    regs := regs
    pc := pc, wb := 0, rstack := [], spilled := 0, dsp := dsp, z := false, n := false, c := false, v := false
    snap := if 48 ≤ e then 0 else snap
    run := some r, stall := none, dst := none, pulled := false, skipAt := none, flagged := false, undo := []
    halted := halt, haltNext := false
    ckpt := if r.paired then
        some { window := [w0, w1, w2, w3] ++ List.replicate 12 0, flags := 0, dsp := dsp, pc := pc, wb := 0 }
      else none })
  let s2 := if halt then s1.raise 210 else s1
  s2.holdStart e

/-- Task t is dispatched to the engines es (R73, R135, R146, R147, R153). A queue-fed task whose feeding queue is disabled but holds
entries is dispatched without a pop, its w1 0, since a pop of that queue returns 0. (DEDUCED, log 49) -/
def dispatchTo (s : State) (t : Nat) (es : List Nat) : State :=
  let paired := s.isSet (Reg.TALUS_TCFG_PAIRED t)
  let snap := s.taskEvents t
  let s1 := s.setReg (Reg.TALUS_TEVT t) (Word.ofN (snap - (snap &&& s.taskMask t)))
  let qfed := s.isSet (Reg.TALUS_TLINK_QFED t)
  let (w1, s2) := if qfed then s1.popWord (s.fld (Reg.TALUS_TLINK_QUEUE t)) else (0, s1)
  let d := s.fld (Reg.TALUS_TLINK_DOMAIN t)
  let domEn := s.isSet (Reg.TALUS_TLINK_DOM_EN t)
  let k := s.fld (Reg.TALUS_DOM_NEXT d)
  let s3 := if domEn then
      let x := s2.domain d
      (s2.bump (Reg.TALUS_DOM_NEXT d) 1).setDomain d { x with
        tickets := x.tickets ++ [{ number := k }]
        headSince := if x.tickets.isEmpty then s2.clk else x.headSince }
    else s2
  let r : TaskRun := { task := t, paired := paired, ticket := if domEn then some (d, k) else none }
  let w3 : Word := if domEn then Word.ofN (d + 2 ^ 9 + 2 ^ 20 * k) else 0
  let s4 := es.foldl (fun s e =>
    s.loadTask e r (s.fld (Reg.TALUS_TCFG_ENTRY t)) snap (Word.ofN (t + 2 ^ 10 * bit01 paired)) w1
      (s.reg (Reg.TALUS_TARG t)) w3) s3
  let s5 := if paired then s4.setPair (es.headD 0 / 2) {} else s4
  let s6 := (s5.bump (Reg.TALUS_TSTAT_RUNNING t) 1).bump (Reg.TALUS_TSTAT_DISPATCHES t) 1
  let c := s.fld (Reg.TALUS_TCFG_CLUSTER t)
  let s7 := match s6.reservation c with
    | some (u, _) => if u = t then { s6 with talus := { s6.talus with
                       reserved := Tab.put none c none s6.talus.reserved } } else s6
    | none => s6
  (s7.unlist t).judgeTask t

/-- Paired tasks a scan passes over note since when (R142). -/
def notePassedOver (s : State) (ts : List Nat) : State :=
  (ts.filter (fun t => s.isSet (Reg.TALUS_TCFG_PAIRED t))).foldl (fun s t =>
    match Tab.get none t s.talus.passedOver with
    | some _ => s
    | none => { s with talus := { s.talus with passedOver := Tab.put none t (some s.clk) s.talus.passedOver } }) s

/-- One dispatch of cluster c: the first task that can be placed (R141). (DEDUCED, log 5) -/
def dispatch (s : State) (c : Nat) : State :=
  let ts := s.scanOrder c
  match ts.find? (fun t => (s.placement c t).isSome) with
  | some t => (s.notePassedOver (ts.takeWhile (· != t))).dispatchTo t ((s.placement c t).getD [])
  | none => s.notePassedOver ts

/-- The paired tasks of cluster c that are passed over, in list order, with the instant since when (R142). -/
def overdue (s : State) (c : Nat) : List (Nat × Nat) :=
  (s.scanOrder c).filterMap (fun t =>
    if s.isSet (Reg.TALUS_TCFG_PAIRED t) ∧ (s.placement c t).isNone then
      (Tab.get none t s.talus.passedOver).map (fun since => (t, since))
    else none)

/-- The passed-over task of cluster c that a pair is reserved for next, with since when it has been passed over: the first in list
order for which PAIR_HOLD has run out, else the one for which it runs out first (R142). -/
def nextHeld (s : State) (c : Nat) : Option (Nat × Nat) :=
  let hold := s.fld Reg.TALUS_LIMITS_PAIR_HOLD * 250 * Config.ns
  match (s.overdue c).find? (fun x => x.2 + hold ≤ s.clk) with
  | some x => some x
  | none => (s.overdue c).foldl (fun b x => match b with
      | some y => if x.2 < y.2 then some x else some y
      | none => some x) none

/-- The pair that is reserved for a paired task of cluster c (R142). -/
def reservedPair (s : State) (c t : Nat) : Option Nat :=
  let b := s.fld (Reg.TALUS_TCFG_BIND t)
  if b = 0 then
    [2 * c, 2 * c + 1].find? (fun p =>
      s.isSet (Reg.CE_CTRL_PAIR_EN (2 * p)) && s.isSet (Reg.CE_CTRL_PAIR_EN (2 * p + 1)))
  else some ((4 * c + b - 1) / 2)

/-- A paired task passed over for PAIR_HOLD gets a pair reserved (R142). -/
def reservePair (s : State) (c : Nat) : State :=
  if (s.reservation c).isSome then s
  else match s.nextHeld c with
    | none => s
    | some (t, since) =>
      let s1 := s.advanceTo (since + s.fld Reg.TALUS_LIMITS_PAIR_HOLD * 250 * Config.ns)
      match s.reservedPair c t with
      | some p => { s1 with talus := { s1.talus with reserved := Tab.put none c (some (t, p)) s1.talus.reserved } }
      | none => s1

/-! ### Timed task events (R138, R139) -/

/-- The order of the pending actions of a commit unit: due instant, posting agent, order of posting (R139). -/
def before (s : State) (x y : Posted) : Bool :=
  let dx := s.distance x.due / 128
  let dy := s.distance y.due / 128
  dx < dy || dx == dy && (x.agent < y.agent || x.agent == y.agent && x.seq < y.seq)

/-- The earliest pending action of a commit unit. -/
def earliest (s : State) (k : Nat) : Option Posted :=
  (s.posted.filter (fun p => p.unit == k)).foldl (fun b p => match b with
    | some q => if s.before p q then some p else some q
    | none => some p) none

/-- The actions of a list in the order their unit performs them. -/
def inOrder (s : State) : List Posted → List Posted
  | [] => []
  | p :: ps =>
    let r := s.inOrder ps
    r.takeWhile (fun q => s.before q p) ++ [p] ++ r.dropWhile (fun q => s.before q p)

/-- The target of R87 that names a commit unit. -/
def targetOf (k : Nat) : Nat :=
  if k ≤ 17 then k else if k ≤ 25 then 0x20 + (k - 18) else if k = 26 then 0x30
  else if k ≤ 90 then 0x40 + (k - 27) else if k = 91 then 0x80 else if k ≤ 99 then 0x90 + (k - 92) else 0xFF

/-- An action is performed: COMMIT on the test multiplexer (R547), and its slack for the engine that posted it (R90). -/
def noteSlack (s : State) (p : Posted) : State :=
  let s := s.tmuxPulse 8 (targetOf p.unit) s.tsw 8
  if 1 ≤ p.agent ∧ p.agent ≤ 50 then
    let e := p.agent - 1
    let x := p.slack
    let b := if x < 1 then 0 else if x < 2 then 1 else if x < 4 then 2 else if x < 16 then 3
      else if x < 64 then 4 else if x < 256 then 5 else if x < 1024 then 6 else 7
    let s1 := s.setFld (Reg.CE_SLACK_MIN_MIN e) (min (s.fld (Reg.CE_SLACK_MIN_MIN e)) (min x 0xFFFFF))
    let s2 := s1.bumpSat (Reg.CE_SLACK_HIST_COUNT e b) 1
    if x < s2.fld (Reg.CE_LIMITS_SLACK_WARN e) then s2.raise 53 else s2
  else s

/-- The task and flag that a trigger pin's internal target names (R60). -/
def trgTask (s : State) (n : Nat) : Nat := s.fld (Reg.TBU_TRG_CTRL_TALUS_TASK n)

/-- Talus performs, as one step, everything due at the tick boundary b of full time: the flag sets of trigger pins, then
posted actions by posting agent and in posting order; readiness is judged after the whole step (R139). -/
def talusStep (s : State) (b : Nat) : State :=
  let s1 := s.advanceToTime b
  let pins := (s1.tbu.internals.filter (fun x => x.boundary == b && !x.flagDone)).map (·.pin)
  let pins := (List.range 8).filter (fun n => pins.contains n && s1.isSet (Reg.TBU_TRG_CTRL_TALUS_EN n))
  let here (q : Posted) : Bool := q.unit == 26 && q.due / 128 == b / 128 % 2 ^ 29
  let due := s1.inOrder (s1.posted.filter here)
  let marked := s1.tbu.internals.map (fun x => if x.boundary = b then { x with flagDone := true } else x)
  let s2 := { s1 with posted := s1.posted.filter (fun q => !here q), tbu := { s1.tbu with internals := marked } }
  let s3 := pins.foldl (fun s n => s.putFlag (s.trgTask n) (s.fld (Reg.TBU_TRG_CTRL_TALUS_FLAG n)) true) s2
  let s4 := due.foldl (fun s q =>
    (s.putFlag (q.arg % 2 ^ 10) (q.arg / 2 ^ 10 % 2 ^ 5) (q.sel == 1)).noteSlack q) s3
  (List.range 1024).foldl (fun s t =>
    if due.any (fun q => q.arg % 2 ^ 10 == t) || pins.any (fun n => s.trgTask n == t) then s.judgeTask t else s) s4

/-- The step of the tick of the earliest posted timed event, if that event is a set (v) or a clear (¬ v).
(DESIGN CHOICE, log 20) -/
def talusTick (s : State) (v : Bool) : State :=
  match s.earliest 26 with
  | none => s
  | some p =>
    if (p.sel == 1) ≠ v then s
    else s.talusStep (((s.tbu.time : Int) + s.distance p.due).toNat / 128 * 128)

/-! ### Register reads with an effect or a view of their own -/

/-- TALUS_STAT (R163). -/
def talusStat (s : State) : Word :=
  Word.ofN (s.readyTasks.length
    + 2 ^ 11 * bit01 (s.talus.domains.any (fun d => d.2.warned))
    + 2 ^ 12 * bit01 ((List.range 256).any (fun q => s.isSet (Reg.TALUS_QSTAT_STALLED q))))

/-- A read of TALUS_HISTb: a bin of the selected queue, then cleared (R159). -/
def readHist (s : State) (b : Nat) : Word × State :=
  let q := s.fld Reg.TALUS_HIST_SEL_QUEUE
  let x := s.queue q
  (Word.ofN (Tab.get 0 b x.bins), s.setQueue q { x with bins := Tab.put 0 b 0 x.bins })

/-- A read of TALUS_QSTATq: COUNT, MAX, STALLED; MAX is cleared and starts again from the entries held (R158, R163).
(DEDUCED, log 49) -/
def readQstat (s : State) (q : Nat) : Word × State :=
  let (w, s1) := s.readGeneric (Reg.TALUS_QSTAT q)
  (w.setField 12 0 (s.queueCount q), s1.setFld (Reg.TALUS_QSTAT_MAX q) (s.queueCount q % 2 ^ 13))

/-- A read in the TALUS block at BAR0 offset o. -/
def talusRead (s : State) (o : Nat) : Word × State :=
  let r := o - 0x40000
  if r = 0x10 then (s.talusStat, s)
  else if 0x38 ≤ r ∧ r < 0x78 then s.readHist ((r - 0x38) / 8)
  else if 0x2000 ≤ r ∧ r < 0x4000 then
    let q := (r - 0x2000) / 0x20
    if r % 0x20 = 8 then s.popWord q
    else if r % 0x20 = 0x18 then s.readQstat q
    else s.readGeneric o
  else if 0x4000 ≤ r ∧ r < 0x10000 then
    let t := (r - 0x4000) / 0x30
    if (r - 0x4000) % 0x30 = 0x18 then (Word.ofN (s.taskEvents t), s)
    else if (r - 0x4000) % 0x30 = 0x28 then
      let (w, s1) := s.readGeneric o
      (w.setField 3 3 (bit01 (s.taskReady t)), s1)
    else s.readGeneric o
  else s.readGeneric o

/-- A write in the TALUS block at BAR0 offset o. -/
def talusWrite (s : State) (a o : Nat) (w : Word) : State :=
  let r := o - 0x40000
  if r = 0x20 then s.writeSignal w
  else if r = 0x28 then s.writeDrel a
  else if 0x2000 ≤ r ∧ r < 0x4000 then
    let q := (r - 0x2000) / 0x20
    if r % 0x20 = 0 then s.writeQcfg a q w
    else if r % 0x20 = 8 then s.push a q (w.field 31 0) o
    else if r % 0x20 = 0x10 then s.orderedPush a q (w.field 31 0)
    else s.writeGeneric a o w
  else if 0x4000 ≤ r ∧ r < 0x10000 then
    let t := (r - 0x4000) / 0x30
    let x := (r - 0x4000) % 0x30
    if x = 0 then s.writeTcfg a t w
    else if x = 8 ∨ x = 0x10 then s.writeTaskLink a t o w
    else s.writeGeneric a o w
  else s.writeGeneric a o w

end State

/-! ### The commands of Talus -/

/-- TCFG_WRITE (R131, R132). -/
def execTcfgWrite (a : Nat) (t : Fin 1024) (w : Word) (s : State) : Host.Outcome State Fault Refusal :=
  live s (fun s => s.writeTcfg a t w)

/-- QCFG_WRITE (R149). -/
def execQcfgWrite (a : Nat) (q : Fin 256) (w : Word) (s : State) : Host.Outcome State Fault Refusal :=
  live s (fun s => s.writeQcfg a q w)

/-- SIGNAL (R137). -/
def execSignal (_a : Nat) (w : Word) (s : State) : Host.Outcome State Fault Refusal :=
  live s (fun s => s.writeSignal w)

/-- SET_FLAG (R138, R139). (DESIGN CHOICE, log 20) -/
def execSetFlag (s : State) : Host.Outcome State Fault Refusal := live s (fun s => s.talusTick true)

/-- CLEAR_FLAG (R138, R139). -/
def execClearFlag (s : State) : Host.Outcome State Fault Refusal := live s (fun s => s.talusTick false)

/-- DISPATCH (R141). (DESIGN CHOICE, log 25) -/
def execDispatch (c : Fin 13) (s : State) : Host.Outcome State Fault Refusal := live s (fun s => s.dispatch c)

/-- PAIR_HOLD (R142). -/
def execPairHold (c : Fin 12) (s : State) : Host.Outcome State Fault Refusal := live s (fun s => s.reservePair c)

/-- QUEUE_PUSH (R150, R151). -/
def execQueuePush (a : Nat) (q : Fin 256) (w : Word) (s : State) : Host.Outcome State Fault Refusal :=
  live s (fun s => s.push a q (w.field 31 0) (Reg.TALUS_QDATA q))

/-- QUEUE_PUSH_COMPLETE (R151): the push that has waited longest enters once the queue has room, and the release it belongs to
goes on (R155). -/
def execQueuePushComplete (q : Fin 256) (s : State) : Host.Outcome State Fault Refusal :=
  live s (fun s =>
    match (s.queue q).waiting with
    | [] => s
    | p :: rest =>
      if s.queueRoom q then
        let s1 := s.setQueue q { s.queue q with waiting := rest }
        let s2 := if rest.any (·.warned) then s1 else s1.setFld (Reg.TALUS_QSTAT_STALLED q) 0
        let s3 := (s2.enqueue q p.entry).pushDone p.by_ q
        match p.dom with
        | some d => s3.resumeSweep d
        | none => s3
      else s)

/-- QUEUE_STALL (R151): the longest-waiting push not yet reported has waited PUSH_WARN. -/
def execQueueStall (q : Fin 256) (s : State) : Host.Outcome State Fault Refusal :=
  live s (fun s =>
    match (s.queue q).waiting.find? (fun p => !p.warned) with
    | none => s
    | some p =>
      let s1 := s.advanceTo (p.since + s.fld Reg.TALUS_LIMITS_PUSH_WARN * Config.us)
      let s2 := s1.setQueue q { s1.queue q with
        waiting := (s1.queue q).waiting.map (fun x => if x = p then { x with warned := true } else x) }
      ((s2.setFld (Reg.TALUS_QSTAT_STALLED q) 1).raise 56).report 0xA3 56 q 0 p.agent 0)

/-- QUEUE_POP (R150): the word returned goes to the reader. -/
def execQueuePop (a : Nat) (q : Fin 256) (s : State) : Host.Outcome State Fault Refusal :=
  live s (fun s => let (w, s1) := s.popWord q; s1.emit (.read a w false))

/-- ORDERED_PUSH (R154). -/
def execOrderedPush (a : Nat) (q : Fin 256) (w : Word) (s : State) : Host.Outcome State Fault Refusal :=
  live s (fun s => s.orderedPush a q (w.field 31 0))

/-- DREL (R155). -/
def execDrel (a : Nat) (s : State) : Host.Outcome State Fault Refusal := live s (fun s => s.writeDrel a)

/-- DOMAIN_STALL (R157): the head of a domain has waited DOM_WARN. -/
def execDomainStall (d : Fin 512) (s : State) : Host.Outcome State Fault Refusal :=
  live s (fun s =>
    let x := s.domain d
    match x.tickets with
    | [] => s
    | h :: _ =>
      if x.warned then s
      else
        let s1 := s.advanceTo (x.headSince + s.fld Reg.TALUS_LIMITS_DOM_WARN * Config.us)
        ((s1.setDomain d { x with warned := true }).raise 57).report 0xA3 57 d h.number 0 0)

/-- HIST_READ (R159). -/
def execHistRead (a : Nat) (b : Fin 8) (s : State) : Host.Outcome State Fault Refusal :=
  live s (fun s => let (w, s1) := s.readHist b; s1.emit (.read a w false))

/-- QSTAT_READ (R163). -/
def execQstatRead (a : Nat) (q : Fin 256) (s : State) : Host.Outcome State Fault Refusal :=
  live s (fun s => let (w, s1) := s.readQstat q; s1.emit (.read a w false))

/-- BUSY_WINDOW (R160): at the next whole millisecond of TBU time, once it runs, every engine's window closes. -/
def execBusyWindow (s : State) : Host.Outcome State Fault Refusal :=
  live s (fun s =>
    if ¬ s.tbu.running then s else
    let due := (s.talus.windowAt / Config.ms + 1) * Config.ms
    let s1 := s.advanceToTime due
    let s2 := (List.range 50).foldl (fun s e =>
      let s' := if (s.engine e).run.isSome then (s.holdEnd e).holdStart e else s.holdEnd e
      let b := min 1024 (Tab.get 0 e s'.talus.busy * 1024 / Config.ms)
      let s'' := { s' with talus := { s'.talus with busy := Tab.put 0 e 0 s'.talus.busy } }
      (s''.setFld (Reg.TALUS_BUSY_LAST e) b).setFld (Reg.TALUS_BUSY_PEAK e)
        (max b (s''.fld (Reg.TALUS_BUSY_PEAK e)))) s1
    { s2 with talus := { s2.talus with windowAt := max due (s2.tbu.time / Config.ms * Config.ms) } })

/-- BUSY_READ (R163). -/
def execBusyRead (a : Nat) (e : Fin 50) (s : State) : Host.Outcome State Fault Refusal :=
  live s (fun s => let (w, s1) := s.readGeneric (Reg.TALUS_BUSY e); s1.emit (.read a w false))

end Sys2Proof.Machine
end

