-- ==== Sys2Proof/Machine/Can.lean ====
section
/-! DEFINITION. The CAN FD controllers: modes, bit grid, transmit entries and their outcomes, timed frames, cancellation,
reception, error states and registers (spec/13_can_fd.md R385 to R406). -/
namespace Sys2Proof.Machine

/-- Fields of a transmit entry (R390). -/
def CanEntry.w0 (x : CanEntry) : Word := x.words.getD 0 0
def CanEntry.ext (x : CanEntry) : Bool := x.w0.bit 33
def CanEntry.fdf (x : CanEntry) : Bool := x.w0.bit 32
def CanEntry.brs (x : CanEntry) : Bool := x.w0.bit 31
def CanEntry.rtr (x : CanEntry) : Bool := x.w0.bit 29
def CanEntry.ident (x : CanEntry) : Nat := x.w0.field 28 0
def CanEntry.len (x : CanEntry) : Nat := (x.words.getD 1 0).field 6 0
def CanEntry.tag (x : CanEntry) : Nat := (x.words.getD 1 0).field 22 7

/-- The data octets of an entry. -/
def CanEntry.data (x : CanEntry) : List Nat :=
  ((x.words.drop 2).flatMap (fun w => [w.octet 0, w.octet 1, w.octet 2, w.octet 3])).take x.len

/-- The data length code of a length (R390). -/
def dlcOf (n : Nat) : Nat :=
  if n ≤ 8 then n else if n = 12 then 9 else if n = 16 then 10 else if n = 20 then 11 else if n = 24 then 12
  else if n = 32 then 13 else if n = 48 then 14 else 15

/-- The bits of a frame's arbitration field as a number: the smaller one wins (R391, ISO 11898-1). (PRESUMED, log 31) -/
def CanEntry.rank (x : CanEntry) : Nat :=
  let base := x.ident / 2 ^ 18 * 2 ^ 21
  if x.ext then base + 2 ^ 20 + 2 ^ 19 + x.ident % 2 ^ 18 * 2 + bit01 x.rtr else base + 2 ^ 20 * bit01 x.rtr

/-- Whether the device takes an entry while FD_EN is fd (R390). -/
def CanEntry.ok (x : CanEntry) (fd : Bool) : Bool :=
  (!x.fdf || fd) && !(x.brs && !x.fdf) && !(x.rtr && x.fdf)
    && (if x.fdf then decide (x.len ≤ 8) || [12, 16, 20, 24, 32, 48, 64].contains x.len else decide (x.len ≤ 8))

/-- The frame of an entry as the loop-back mode receives it (R387). -/
def CanEntry.frame (x : CanEntry) : CanFrame :=
  { ext := x.ext, fdf := x.fdf, brs := x.brs, esi := false, rtr := x.rtr, ident := x.ident, dlc := dlcOf x.len
    data := if x.rtr then [] else x.data, dt := 0, sof := 0, sync := 0 }

namespace State

/-- Channel c. -/
def can (s : State) (c : Nat) : CanChannel := Tab.get {} c s.cans

/-- s with channel c changed. -/
def modCan (s : State) (c : Nat) (f : CanChannel → CanChannel) : State :=
  { s with cans := Tab.put {} c (f (s.can c)) s.cans }

/-- A counter of channel c counts one (R406). -/
def canCount (s : State) (c k : Nat) : State := s.bump (Reg.CAN_CNT_COUNT c k) 1

/-- Channel c raises event 144 + i (R404). -/
def canEvent (s : State) (c i : Nat) : State :=
  let o := Reg.CAN_EVTSTAT c
  (s.setReg o ((s.reg o).setField i i 1)).raise (144 + i)

/-- CAN_STAT.STATE: 0 OFF, 1 INTEGRATING, 2 ERROR_ACTIVE, 3 ERROR_PASSIVE, 4 BUS_OFF. -/
def canState (s : State) (c : Nat) : Nat := s.fld (Reg.CAN_STAT_STATE c)

/-- The state of channel c changes (R402). -/
def setCanState (s : State) (c st : Nat) : State :=
  if s.canState c = st then s else (s.setFld (Reg.CAN_STAT_STATE c) st).canEvent c 0

/-- Nominal bit time in sixteenths (R386). -/
def canBit (s : State) (c : Nat) : Nat :=
  (s.fld (Reg.CAN_NBT_NBRP c) + 1) * (3 + s.fld (Reg.CAN_NBT_NTSEG1 c) + s.fld (Reg.CAN_NBT_NTSEG2 c)) * 400

/-- The first bit boundary at or after an instant of the elapsed clock (R389). -/
def canBoundary (s : State) (c t : Nat) : Nat :=
  let g := (s.can c).grid
  let b := s.canBit c
  if t ≤ g then g - (g - t) / b * b else g + (t - g + (b - 1)) / b * b

/-! ### Outcomes (R397) -/

/-- The outcome of an entry is recorded. (DEDUCED, log 32) -/
def canRecord (s : State) (c outcome tsw : Nat) (x : CanEntry) : State :=
  if 32 ≤ (s.can c).records.length then (s.canCount c 17).canEvent c 6
  else
    let r : CanRecord := { outcome := outcome, source := x.source, tag := x.tag, tsw := tsw }
    let s1 := (s.modCan c (fun y => { y with records := y.records ++ [r] })).canEvent c 2
    if s1.isSet (Reg.CAN_CFG_DONE_EN c) then
      let q := s1.fld (Reg.CAN_CFG_DONE_Q c)
      s1.push 0 q (x.tag + 2 ^ 16 * outcome + 2 ^ 19 * x.source + 2 ^ 22 * c) (Reg.TALUS_QDATA q)
    else s1

/-- An entry leaves where it stands: the FIFO, the priority buffer or the open timed frames. -/
def canRemove (s : State) (c : Nat) (x : CanEntry) : State :=
  s.modCan c (fun y =>
    if x.source = 0 then { y with fifo := y.fifo.erase x }
    else if x.source = 1 then { y with prio := none }
    else { y with timed := y.timed.erase x })

/-- An entry ends with an outcome (R397). -/
def canFinish (s : State) (c outcome tsw : Nat) (x : CanEntry) : State :=
  let s1 := s.canRemove c x
  let s2 := match outcome with
    | 1 => s1
    | 2 => (s1.canCount c 11).canEvent c 4
    | 3 => s1.canCount c 10
    | 4 => (s1.canCount c 9).canEvent c 3
    | 5 => (s1.canCount c 13).canEvent c 5
    | _ => s1
  s2.canRecord c outcome tsw x

/-- An entry that stays takes a new count of consecutive clashes (R395). -/
def setClashes (s : State) (c : Nat) (x : CanEntry) (n : Nat) : State :=
  let put (y : CanEntry) : CanEntry := if y = x then { y with clashes := n } else y
  s.modCan c (fun y =>
    if x.source = 0 then { y with fifo := y.fifo.map put }
    else if x.source = 1 then { y with prio := y.prio.map put }
    else { y with timed := y.timed.map put })

/-! ### Error states (R402) -/

/-- TEC and REC are shown, and the error state follows them. (PRESUMED, log 31) -/
def canCounters (s : State) (c : Nat) : State :=
  let x := s.can c
  let s1 := (s.setFld (Reg.CAN_STAT_TEC c) (min 255 x.tec)).setFld (Reg.CAN_STAT_REC c) (min 255 x.rec_)
  if s1.canState c ≠ 2 ∧ s1.canState c ≠ 3 then s1
  else if 255 < x.tec then
    (s1.modCan c (fun y => { y with recovering := s.isSet (Reg.CAN_CFG_BO_AUTO c) })).setCanState c 4
  else if 127 < x.tec ∨ 127 < x.rec_ then s1.setCanState c 3
  else s1.setCanState c 2

/-- The channel stops once the frame on the bus has ended (R387). -/
def canStop (s : State) (c : Nat) : State :=
  if (s.can c).stopping then (s.modCan c (fun x => { x with stopping := false, recovering := false })).setCanState c 0
  else s

/-- The code of an error is kept (R402). (PRESUMED, log 31) -/
def canError (s : State) (c : Nat) (e : CanError) : State :=
  (s.setFld (Reg.CAN_ERRINFO_LEC c) e.lec).setFld (Reg.CAN_ERRINFO_DATA_PHASE c) (bit01 e.dataPhase)

/-- Whether the channel signals errors: not in LISTEN or RESTRICTED (R387). -/
def canSignals (s : State) (c : Nat) : Bool :=
  s.fld (Reg.CAN_CTRL_MODE c) == 0 || s.fld (Reg.CAN_CTRL_MODE c) == 3

/-- The receive error counter after an error found while receiving (R402); restricted operation changes no counter. -/
def canReceiveError (s : State) (c : Nat) (e : CanError) : State :=
  let s1 := s.canError c e
  let s2 := if s1.canSignals c then s1.canCount c 14 else s1
  if s2.fld (Reg.CAN_CTRL_MODE c) = 2 then s2
  else (s2.modCan c (fun x => { x with rec_ := min 255 (x.rec_ + 1 + 8 * e.eights) })).canCounters c

/-! ### Reception (R398, R399) -/

/-- Whether filter f matches an identifier (R398). -/
def canMatches (s : State) (c : Nat) (ext : Bool) (ident f : Nat) : Bool :=
  s.isSet (Reg.CAN_FLT_ID_EN c f) && s.fld (Reg.CAN_FLT_ID_EXT c f) == bit01 ext
    && ((ident ^^^ s.fld (Reg.CAN_FLT_ID_ID c f)) &&& s.fld (Reg.CAN_FLT_MASK_MASK c f)) == 0

/-- The words of data octets, control bits 0 (R390, R400). -/
def canDataWords (octets : List Nat) : List Word :=
  (List.range 16).map (fun k =>
    Word.ofOctets (octets.getD (4 * k) 0) (octets.getD (4 * k + 1) 0) (octets.getD (4 * k + 2) 0) (octets.getD (4 * k + 3) 0))

/-- Word 0 of a frame as the aperture shows it, without GRANTED and BUSY (R400). -/
def canHead (f : CanFrame) : Word :=
  Word.ofN (2 ^ 33 * bit01 f.ext + 2 ^ 32 * bit01 f.fdf + 2 ^ 31 * bit01 f.brs + 2 ^ 30 * bit01 f.esi
    + 2 ^ 29 * bit01 f.rtr + f.ident % 2 ^ 29)

/-- An accepted frame is stored in the next buffer, or dropped (R399). -/
def canStore (s : State) (c : Nat) (f : CanFrame) (filter tsw : Nat) : State :=
  let x := s.can c
  if (Tab.get {} x.next x.buffers).full then
    ((s.modCan c (fun y => { y with dropped := satAdd 65535 y.dropped 1 })).canCount c 3).canEvent c 1
  else
    let seq := (Config.canFirstSeq c + x.stored) % 2 ^ 16
    let len := if f.rtr then min 8 f.dlc else f.data.length
    let head : List Word :=
      [canHead f, Word.ofN (len % 128 + 2 ^ 7 * (f.dlc % 16) + 2 ^ 11 * (filter % 32) + 2 ^ 16 * seq), Word.ofN tsw]
    let b : CanBuffer := { full := true, words := head ++ canDataWords f.data ++ [Word.ofN x.dropped] }
    let s1 := s.modCan c (fun y => { y with
      buffers := Tab.put {} x.next b y.buffers, next := (x.next + 1) % 64, stored := x.stored + 1, dropped := 0 })
    if s1.isSet (Reg.CAN_CFG_RX_EN c) then
      let q := s1.fld (Reg.CAN_CFG_RX_Q c)
      s1.push 0 q (x.next + 2 ^ 6 * seq + 2 ^ 22 * (filter % 32)) (Reg.TALUS_QDATA q)
    else s1

/-- An error-free frame is counted and filtered (R398). (DEDUCED, log 32) -/
def canReceive (s : State) (c : Nat) (f : CanFrame) (tsw : Nat) : State :=
  let s1 := s.canCount c 0
  let s2 := if f.fdf then s1.canCount c 1 else s1
  match (List.range 32).find? (s2.canMatches c f.ext f.ident) with
  | some i => if s2.isSet (Reg.CAN_FLT_ID_TYPE c i) then s2.canCount c 2 else s2.canStore c f i tsw
  | none =>
    if s2.isSet (Reg.CAN_CFG_ACCEPT_ALL c) then s2.canStore c f (Config.canNoFilter c) tsw else s2.canCount c 2

/-! ### Transmission (R390 to R396) -/

/-- Whether the channel may start an SOF: on the bus, in a mode that sends, nothing of its own on the bus, not suspended
(R387, R402). -/
def canMaySend (s : State) (c : Nat) : Bool :=
  (s.canState c == 2 || s.canState c == 3) && s.canSignals c && (s.can c).attempt.isNone
    && decide ((s.can c).suspended ≤ s.clk) && !(s.can c).stopping

/-- Whether timed frame x goes before y (R393): due tick, agent, posting order. -/
def timedBefore (s : State) (x y : CanEntry) : Bool :=
  let dx := s.distance (x.due / 128 * 128)
  let dy := s.distance (y.due / 128 * 128)
  decide (dx < dy) || dx == dy && (x.agent < y.agent || x.agent == y.agent && x.seq < y.seq)

/-- The candidate at an SOF opportunity (R391, R393). -/
def canCandidate (s : State) (c : Nat) : Option CanEntry :=
  let x := s.can c
  let opened := x.timed.filter (fun e => decide (e.opens ≤ s.clk ∧ s.tickAt s.clk ≤ s.tickAt e.closes))
  match opened.foldl (fun (b : Option CanEntry) e => match b with
      | none => some e
      | some y => if s.timedBefore e y then some e else some y) none with
  | some e => some e
  | none => match x.prio, x.fifo with
    | some p, f :: _ => if f.rank < p.rank then some f else some p
    | some p, [] => some p
    | none, f :: _ => some f
    | none, [] => none

/-- An SOF opportunity: the next bit boundary (R391). -/
def canOpportunity (s : State) (c : Nat) : State :=
  let s1 := s.advanceTo (s.canBoundary c s.clk)
  if ¬ s1.canMaySend c then s1
  else match s1.canCandidate c with
    | none => s1
    | some e => s1.modCan c (fun x => { x with attempt := some { entry := e, tsw := s1.tsw } })

/-- An attempt has failed without an end of its entry so far: what R393, R394 and R396 make of it. -/
def canRetry (s : State) (c : Nat) (t : CanAttempt) (n : Nat) : State :=
  let x := t.entry
  if t.cancelled then s.canFinish c 3 0 x
  else if 2 ≤ x.source then
    (if s.tickAt x.closes < s.tickAt s.clk then s.canFinish c 5 0 x else s.setClashes c x n)
  else if s.isSet (Reg.CAN_CFG_DAR c) then s.canFinish c 6 0 x
  else s.setClashes c x n

/-- A transmit attempt ends (R394 to R397, R402). (PRESUMED, log 31) -/
def canTxEnd (s : State) (c : Nat) (r : CanEnd) : State :=
  match (s.can c).attempt with
  | none => s
  | some t =>
    let s0 := s.modCan c (fun x => { x with attempt := none })
    let x := t.entry
    let wait (s : State) : State :=
      if s.canState c = 3 then s.modCan c (fun y => { y with suspended := s.clk + 11 * s.canBit c }) else s
    let done := match r with
      | .sent delay =>
        let s1 := (s0.canCount c 5).modCan c (fun y => { y with tec := y.tec - 1 })
        let s2 := if x.fdf then s1.canCount c 6 else s1
        let s3 := if 2 ≤ x.source then s2.canCount c 12 else s2
        let s4 := if x.fdf ∧ s3.isSet (Reg.CAN_DBT_TDC_EN c) then s3.setFld (Reg.CAN_ERRINFO_TDCV c) delay else s3
        let s5 := s4.canFinish c (if t.cancelled then 2 else 1) t.tsw x
        let s6 := if s5.fld (Reg.CAN_CTRL_MODE c) = 3 then s5.canReceive c x.frame t.tsw
                  else s5.emit (.can c x.ident x.data t.tsw)
        wait (s6.canCounters c)
      | .lost => (s0.canCount c 7).canRetry c t 0
      | .error e clash =>
        let s1 := (s0.canError c e).canCount c 14
        let s2 := if clash then s1.canCount c 8 else s1
        let s3 := if e.exempt then s2
                  else s2.modCan c (fun y => { y with tec := min 256 (y.tec + 8 * (1 + e.eights)) })
        let n := if clash then x.clashes + 1 else 0
        let s4 := if ¬ t.cancelled ∧ clash ∧ s3.fld (Reg.CAN_CFG_CLASH_LIMIT c) ≤ n then s3.canFinish c 4 0 x
                  else s3.canRetry c t n
        wait (s4.canCounters c)
    done.canStop c

/-- CAN_TXCMD by agent a (R390): OP 1 PUSH, 2 PRIO. (DEDUCED, log 32) -/
def canCommand (s : State) (a c op : Nat) : State :=
  let base := Reg.CAN_TXSTAGE c 0
  let ws := (List.range 18).map (fun w => s.agentReg a (base + 8 * w))
  let x : CanEntry := { words := ws, source := op - 1 }
  let y := s.can c
  let full := if op = 1 then decide (32 ≤ y.fifo.length) else y.prio.isSome
  if full ∨ ¬ x.ok (s.isSet (Reg.CAN_CFG_FD_EN c)) then (s.canCount c 16).reject a (Reg.CAN_TXCMD c)
  else
    let s1 := s.modCan c (fun y => if op = 1 then { y with fifo := y.fifo ++ [x] } else { y with prio := some x })
    (List.range 18).foldl (fun s w => s.setAgentReg a (base + 8 * w) 0) s1

/-- A timed action of channel c: the earliest pending one with a selector. -/
def canNext (s : State) (c sel : Nat) : Option Posted :=
  (s.posted.filter (fun q => q.unit == 92 + c && q.sel == sel)).foldl (fun (b : Option Posted) q => match b with
    | none => some q
    | some r =>
      let dq := s.distance (q.due / 128 * 128)
      let dr := s.distance (r.due / 128 * 128)
      if dq < dr ∨ dq = dr ∧ (q.agent < r.agent ∨ q.agent = r.agent ∧ q.seq < r.seq) then some q else some r) none

/-- The words of a timed buffer. -/
def timedWords (s : State) (c k : Nat) : List Word := (List.range 18).map (fun w => s.reg (Reg.CAN_TTB c k w))

/-- SEND_AT at its due tick: its window opens (R392, R393). (DEDUCED, log 32) -/
def openWindow (s : State) (c : Nat) : State :=
  match s.canNext c 1 with
  | none => s
  | some q =>
    let s1 := s.advanceToTsw (q.due / 128 * 128)
    let s2 := ({ s1 with posted := s1.posted.filter (· != q) }).noteSlack q
    let t := s2.canBoundary c s2.clk
    let x : CanEntry := { words := s2.timedWords c (q.arg % 4), source := 2 + q.arg % 4, due := q.due, agent := q.agent
                          seq := q.seq, opens := t, closes := t + q.arg / 4 % 256 * s2.canBit c }
    if x.ok (s2.isSet (Reg.CAN_CFG_FD_EN c)) then s2.modCan c (fun y => { y with timed := y.timed ++ [x] })
    else s2.canRecord c 0 0 x

/-- The open window that closes first closes (R393). -/
def closeWindow (s : State) (c : Nat) : State :=
  match (s.can c).timed.foldl (fun (b : Option CanEntry) e => match b with
      | none => some e
      | some y => if e.closes < y.closes then some e else some y) none with
  | none => s
  | some x =>
    let s1 := s.expire x.closes
    if ((s1.can c).attempt.map (·.entry)) = some x then s1 else s1.canFinish c 5 0 x

/-- One entry is cancelled (R396). (DEDUCED, log 32) -/
def canCancel (s : State) (c source tag : Nat) : State :=
  let y := s.can c
  let found : Option CanEntry :=
    if source = 0 then y.fifo.find? (fun x => x.tag == tag)
    else if source = 1 then y.prio
    else y.timed.find? (fun x => x.source == source)
  match found with
  | some x =>
    match y.attempt with
    | some t => if t.entry = x then s.modCan c (fun z => { z with attempt := some { t with cancelled := true } })
                else s.canFinish c 3 0 x
    | none => s.canFinish c 3 0 x
  | none =>
    if source < 2 ∨ 5 < source then s
    else match s.posted.find? (fun q => q.unit == 92 + c && q.sel == 1 && q.arg % 4 == source - 2) with
      | some q =>
        ({ s with posted := s.posted.filter (· != q) }).canFinish c 3 0 { words := s.timedWords c (source - 2), source := source }
      | none => s

/-- A late SEND_AT: its outcome is LATE (R393). -/
def canLate (s : State) (c arg : Nat) : State :=
  s.canRecord c 7 0 { words := s.timedWords c (arg % 4), source := 2 + arg % 4 }

/-- CANCEL_AT at its due tick (R392, R396): an attempt whose SOF begins in that tick has begun. (DEDUCED, log 32) -/
def cancelTimed (s : State) (c : Nat) : State :=
  match s.canNext c 2 with
  | none => s
  | some q =>
    let s1 := s.advanceToTsw ((q.due / 128 * 128 + 128) % 2 ^ 36)
    (({ s1 with posted := s1.posted.filter (· != q) }).noteSlack q).canCancel c (q.arg % 8) (q.arg / 8 % 2 ^ 16)

/-! ### The aperture (R400, R401) -/

/-- A read of a word of the aperture by agent a. -/
def canWindow (s : State) (a c w : Nat) : Word × State :=
  let n := (s.agentReg a (Reg.CAN_RXSEL c)).field 5 0
  let b : CanBuffer := Tab.get {} n (s.can c).buffers
  let put (b : CanBuffer) : State := s.modCan c (fun y => { y with buffers := Tab.put {} n b y.buffers })
  let word : Word := b.words.getD w 0
  if w = 0 then
    if ¬ b.full then (0, s)
    else match b.lock with
      | none => (word.setField 35 35 1, put { b with lock := some a })
      | some h => if h = a then (word.setField 35 35 1, s) else (Word.ofN (2 ^ 34), s)
  else if b.lock ≠ some a then (0, s)
  else if w = 19 then (word, put {})
  else (word, s)

/-- A write of CAN_RXFORCE by agent a (R401). -/
def canForce (s : State) (a c n : Nat) : State :=
  if a ≠ 49 ∧ a ≠ 50 ∧ a ≠ 51 then s.reject a (Reg.CAN_RXFORCE c)
  else if (Tab.get {} n (s.can c).buffers : CanBuffer).full then
    (s.modCan c (fun y => { y with buffers := Tab.put {} n {} y.buffers })).canCount c 4
  else s

/-! ### Register access (R387, R406) -/

/-- EN := 1 (R387). -/
def canEnable (s : State) (c : Nat) : State :=
  if s.canState c = 0 then s.setCanState c 1 else s.modCan c (fun x => { x with stopping := false })

/-- EN := 0 (R387): at once, or after the frame that is on the bus. -/
def canDisable (s : State) (c : Nat) (busy : Bool) : State :=
  let s1 := s.modCan c (fun x => { x with stopping := true })
  if busy ∨ (s.can c).attempt.isSome then s1 else s1.canStop c

/-- Bus-off recovery is started (R402). -/
def canRecover (s : State) (c : Nat) : State :=
  if s.canState c = 4 then s.modCan c (fun x => { x with recovering := true }) else s

/-- The fields of a CAN_NBT write whose values are reserved (R386): the bit time's three where it is too short, and NSJW where it
is above the NTSEG2 that then holds. (DEDUCED, log 32) -/
def badNbt (s : State) (c : Nat) (w : Word) : List Fld :=
  let short := decide ((w.field 7 0 + 1) * (3 + w.field 15 8 + w.field 22 16) * 25 < 1000)
  let seg2 := if short then s.fld (Reg.CAN_NBT_NTSEG2 c) else w.field 22 16
  (if short then [Reg.CAN_NBT_NBRP c, Reg.CAN_NBT_NTSEG1 c, Reg.CAN_NBT_NTSEG2 c] else [])
    ++ (if seg2 < w.field 29 23 then [Reg.CAN_NBT_NSJW c] else [])

/-- The fields of a CAN_DBT write whose values are reserved (R386), likewise. (DEDUCED, log 32) -/
def badDbt (s : State) (c : Nat) (w : Word) : List Fld :=
  let short := decide ((w.field 4 0 + 1) * (3 + w.field 9 5 + w.field 13 10) * 25 < 125)
  let seg2 := if short then s.fld (Reg.CAN_DBT_DTSEG2 c) else w.field 13 10
  (if short then [Reg.CAN_DBT_DBRP c, Reg.CAN_DBT_DTSEG1 c, Reg.CAN_DBT_DTSEG2 c] else [])
    ++ (if seg2 < w.field 17 14 then [Reg.CAN_DBT_DSJW c] else [])

/-- A write of CAN_CTRL (R387); busy tells whether a frame is on the bus. (DEDUCED, log 32) -/
def writeCanCtrl (s : State) (a c : Nat) (w : Word) (busy : Bool) : State :=
  let o := Reg.CAN_CTRL c
  let on := s.isSet (Reg.CAN_CTRL_EN c)
  let mode := s.fld (Reg.CAN_CTRL_MODE c)
  let barred := on && w.field 2 1 != mode
  let s1 := s.writeGeneric a o (if barred then w.setField 2 1 mode else w)
  let s2 := if barred then s1.reject a o else s1
  let s3 := if w.bit 3 then s2.canRecover c else s2
  if w.bit 0 then (if on then s3 else s3.canEnable c) else if on then s3.canDisable c busy else s3

/-- A write by agent a in a CAN channel at BAR0 offset o. -/
def canWrite (s : State) (a o : Nat) (w : Word) : State :=
  let c := (o - 0x310000) / 0x2000
  let r := (o - 0x310000) % 0x2000
  if r = 0x008 then s.writeCanCtrl a c w false
  else if r = 0x018 ∨ r = 0x020 then
    if s.isSet (Reg.CAN_CTRL_EN c) then s.reject a o
    else s.writeBut a o (if ¬ s.expert o then [] else if r = 0x018 then s.badNbt c w else s.badDbt c w) w
  else if r = 0x040 then
    if w.field 1 0 = 1 ∨ w.field 1 0 = 2 then s.canCommand a c (w.field 1 0) else s.reject a o
  else if r = 0x048 then
    if w.field 2 0 ≤ 5 then s.canCancel c (w.field 2 0) (w.field 18 3) else s.reject a o
  else if r = 0x060 then s.canForce a c (w.field 5 0)
  else if 0x400 ≤ r ∧ r < 0x490 then if r % 8 = 0 then s.setAgentReg a o w else s
  else if r = 0x800 then s.setAgentReg a o (Word.ofN (w.field 5 0))
  else s.writeGeneric a o w

/-- CAN_STAT (R406). -/
def canStat (s : State) (c : Nat) : Word :=
  let x := s.can c
  let pend (k : Nat) : Bool := x.timed.any (fun e => e.source == 2 + k)
    || s.posted.any (fun q => q.unit == 92 + c && q.sel == 1 && q.arg % 4 == k)
  let bits := (List.range 4).foldl (fun n k => n + 2 ^ k * bit01 (pend k)) 0
  (((s.reg (Reg.CAN_STAT c)).setField 24 19 x.fifo.length).setField 25 25 (bit01 x.prio.isSome)).setField 29 26 bits

/-- CAN_SUMMARY (R406). -/
def canSummary (s : State) : Nat :=
  (List.range 8).foldl (fun n c =>
    n + 2 ^ c * bit01 (s.reg (Reg.CAN_EVTSTAT c) != 0 || !(s.can c).records.isEmpty)) 0

/-- A read by agent a in a CAN channel at BAR0 offset o. -/
def canRead (s : State) (a o : Nat) : Word × State :=
  let c := (o - 0x310000) / 0x2000
  let r := (o - 0x310000) % 0x2000
  let x := s.can c
  if r = 0x028 then (s.canStat c, s)
  else if r = 0x030 then (Word.ofN (x.buffers.countP (fun b => b.2.full) + 2 ^ 7 * x.next), s)
  else if r = 0x050 then
    match x.records with
    | [] => (0, s)
    | y :: _ => (Word.ofN (x.records.length + 2 ^ 6 * y.outcome + 2 ^ 9 * y.source + 2 ^ 12 * y.tag), s)
  else if r = 0x058 then
    match x.records with
    | [] => (0, s)
    | y :: rest => (Word.ofN y.tsw, s.modCan c (fun z => { z with records := rest }))
  else if 0x400 ≤ r ∧ r < 0x490 then if r % 8 = 0 then (s.agentReg a o, s) else (0, s)
  else if r = 0x800 then (s.agentReg a o, s)
  else if 0x808 ≤ r ∧ r < 0x8A8 then if r % 8 = 0 then s.canWindow a c ((r - 0x808) / 8) else (0, s)
  else if r = 0x1F00 then (Word.ofN s.canSummary, s)
  else s.readGeneric o

end State

/-! ### The commands of the CAN channels -/

/-- CAN_ENABLE (R387): agent a writes CAN_CTRL.EN := 1. -/
def execCanEnable (a : Nat) (c : Fin 8) (s : State) : Host.Outcome State Fault Refusal :=
  live s (fun s => s.writeCanCtrl a c ((s.reg (Reg.CAN_CTRL c)).setField 0 0 1) false)

/-- CAN_DISABLE (R387): agent a writes CAN_CTRL.EN := 0; busy tells whether a frame is on the bus. -/
def execCanDisable (a : Nat) (c : Fin 8) (busy : Bool) (s : State) : Host.Outcome State Fault Refusal :=
  live s (fun s => s.writeCanCtrl a c ((s.reg (Reg.CAN_CTRL c)).setField 0 0 0) busy)

/-- INTEGRATION_DONE (R387, R389): eleven recessive bits have passed dt sixteenths from now. -/
def execIntegrationDone (c : Fin 8) (dt : Nat) (s : State) : Host.Outcome State Fault Refusal :=
  live s (fun s =>
    if s.canState c ≠ 1 then s
    else
      let s1 := s.elapse dt
      ((s1.modCan c (fun x => { x with grid := s1.clk - s1.tbu.time % 128 })).setCanState c 2).canCounters c)

/-- TX_PUSH (R390). -/
def execTxPush (a : Nat) (c : Fin 8) (s : State) : Host.Outcome State Fault Refusal :=
  live s (fun s => s.canCommand a c 1)

/-- TX_PRIO (R390). -/
def execTxPrio (a : Nat) (c : Fin 8) (s : State) : Host.Outcome State Fault Refusal :=
  live s (fun s => s.canCommand a c 2)

/-- SEND_AT (R393). -/
def execSendAt (c : Fin 8) (s : State) : Host.Outcome State Fault Refusal := live s (fun s => s.openWindow c)

/-- CANCEL_AT (R396). -/
def execCancelAt (c : Fin 8) (s : State) : Host.Outcome State Fault Refusal := live s (fun s => s.cancelTimed c)

/-- WINDOW_CLOSE (R393). -/
def execWindowClose (c : Fin 8) (s : State) : Host.Outcome State Fault Refusal := live s (fun s => s.closeWindow c)

/-- SOF_OPPORTUNITY (R391). -/
def execSofOpportunity (c : Fin 8) (s : State) : Host.Outcome State Fault Refusal := live s (fun s => s.canOpportunity c)

/-- CAN_TX_END (R397): dt sixteenths from now. -/
def execCanTxEnd (c : Fin 8) (r : CanEnd) (dt : Nat) (s : State) : Host.Outcome State Fault Refusal :=
  live s (fun s => (s.elapse dt).canTxEnd c r)

/-- TX_CANCEL (R396): a write of CAN_TXCANCEL by agent a. -/
def execTxCancel (a : Nat) (c : Fin 8) (source : Fin 8) (tag : Nat) (s : State) : Host.Outcome State Fault Refusal :=
  live s (fun s => s.canWrite a (Reg.CAN_TXCANCEL c) (Word.ofN (source + 8 * (tag % 2 ^ 16))))

/-- TXREC_POP (R397): a read of CAN_TXPOP by agent a. -/
def execTxrecPop (a : Nat) (c : Fin 8) (s : State) : Host.Outcome State Fault Refusal :=
  live s (fun s => let (w, s1) := s.canRead a (Reg.CAN_TXPOP c); s1.emit (.read a w false))

/-- CAN_RX_FRAME (R398, R399): an error-free frame ends on the bus of channel c. -/
def execCanRxFrame (c : Fin 8) (f : CanFrame) (s : State) : Host.Outcome State Fault Refusal :=
  live s (fun s =>
    if (s.canState c ≠ 2 ∧ s.canState c ≠ 3) ∨ s.fld (Reg.CAN_CTRL_MODE c) = 3 then s
    else
      let s1 := s.elapse f.dt
      let ts := ((s1.tsw : Int) - f.sof) % 2 ^ 36 / 16 * 16
      let free := Config.canPassiveRec s1.freeCtr
      let s2 := ({ s1 with freeCtr := s1.freeCtr + 1 }).modCan c (fun x => { x with
        grid := s1.clk - f.sync
        rec_ := if s1.fld (Reg.CAN_CTRL_MODE c) = 2 then x.rec_
                else if 127 < x.rec_ then 119 + free % 9 else x.rec_ - 1 })
      ((s2.canCounters c).canReceive c f ts.toNat).canStop c)

/-- RECEIVE_ERROR (R388, R402): an error found while receiving, dt sixteenths from now; fdf tells that it is a recessive FDF
bit, which FD_EN and PXHD judge. -/
def execReceiveError (c : Fin 8) (e : CanError) (fdf : Bool) (dt : Nat) (s : State) : Host.Outcome State Fault Refusal :=
  live s (fun s =>
    if (s.canState c ≠ 2 ∧ s.canState c ≠ 3) ∨ s.fld (Reg.CAN_CTRL_MODE c) = 3 then s
    else
      let s1 := s.elapse dt
      if ¬ fdf then (s1.canReceiveError c e).canStop c
      else if s1.isSet (Reg.CAN_CFG_FD_EN c) then s1
      else if s1.isSet (Reg.CAN_CFG_PXHD c) then (s1.canReceiveError c { e with lec := 2, dataPhase := false }).canStop c
      else ((s1.canCount c 15).setCanState c 1).canStop c)

/-- RX_WORD0_READ (R400). -/
def execRxWord0Read (a : Nat) (c : Fin 8) (s : State) : Host.Outcome State Fault Refusal :=
  live s (fun s => let (w, s1) := s.canRead a (Reg.CAN_RXWIN c 0); s1.emit (.read a w false))

/-- RX_WORD19_READ (R400). -/
def execRxWord19Read (a : Nat) (c : Fin 8) (s : State) : Host.Outcome State Fault Refusal :=
  live s (fun s => let (w, s1) := s.canRead a (Reg.CAN_RXWIN c 19); s1.emit (.read a w false))

/-- RX_FORCE (R401). -/
def execRxForce (a : Nat) (c : Fin 8) (n : Fin 64) (s : State) : Host.Outcome State Fault Refusal :=
  live s (fun s => s.canForce a c n)

/-- BO_RECOVER (R402): agent a writes CAN_CTRL.BO_RECOVER. -/
def execBoRecover (a : Nat) (c : Fin 8) (s : State) : Host.Outcome State Fault Refusal :=
  live s (fun s => s.writeCanCtrl a c ((s.reg (Reg.CAN_CTRL c)).setField 3 3 1) false)

/-- BUS_OFF_RECOVERED (R402): 128 occurrences of eleven recessive bits have passed dt sixteenths from now. -/
def execBusOffRecovered (c : Fin 8) (dt : Nat) (s : State) : Host.Outcome State Fault Refusal :=
  live s (fun s =>
    if s.canState c ≠ 4 ∨ ¬ (s.can c).recovering then s
    else
      let s1 := s.elapse dt
      ((s1.modCan c (fun x => { x with tec := 0, rec_ := 0, recovering := false, grid := s1.clk - s1.tbu.time % 128 })).setCanState
        c 2).canCounters c)

/-- ERRINFO_READ (R406). -/
def execErrinfoRead (a : Nat) (c : Fin 8) (s : State) : Host.Outcome State Fault Refusal :=
  live s (fun s => let (w, s1) := s.canRead a (Reg.CAN_ERRINFO c); s1.emit (.read a w false))

end Sys2Proof.Machine
end

