-- ==== Sys2Proof/Machine/Col.lean ====
section
/-! DEFINITION. Col: mailboxes, doorbells, waits, the mutual-wait detector and locks (spec/06_col_mailboxes.md). -/
namespace Sys2Proof.Machine
namespace State

/-- Whether mailbox m is FULL (R165). -/
def mbxFull (s : State) (m : Nat) : Bool := s.isSet (Reg.COL_MBX_STAT_STATE m)

/-- The mailbox a Shelf RAM word offset belongs to (R164). -/
def mailboxOf (a : Nat) : Option Nat := if 0xF800 ≤ a ∧ a < 0x10000 then some ((a - 0xF800) / 16) else none

/-- Whether a Shelf RAM word belongs to a FULL mailbox (R169). -/
def mailGuard (s : State) (a : Nat) : Bool := match mailboxOf a with
  | some m => s.mbxFull m
  | none => false

/-- A ring, take, flush or mailbox write is refused (R167, R169, R170, R173). -/
def mbxRefuse (s : State) (m a reason : Nat) : State :=
  (s.setReg Reg.COL_REFUSE (Word.ofN (2 ^ 35 + 2 ^ 26 * reason + 2 ^ 14 * (a % 64) + m))).raise 67

/-- A write at BAR0 offset o is refused for a mailbox, which CFG_REJECT and GCTL_REJECT report as well (R10, R167). -/
def mbxReject (s : State) (m a reason o : Nat) : State := (s.mbxRefuse m a reason).reject a o

/-- The bitmap bit of mailbox m in the array of registers reg. -/
def setMbxBit (s : State) (reg : Nat → Nat) (m : Nat) (v : Bool) : State :=
  s.setReg (reg (m / 32)) ((s.reg (reg (m / 32))).setField (m % 32) (m % 32) (bit01 v))

/-- The ring of mailbox m signals its receiver (R168). -/
def signalReceiver (s : State) (m : Nat) : State :=
  match s.fld (Reg.COL_MBX_CFG_RX_KIND m) with
  | 0 =>
    let t := s.fld (Reg.COL_MBX_CFG_RX_TASK m)
    let s1 := s.taskFlag t (s.fld (Reg.COL_MBX_CFG_RX_FLAG m)) true
    let c := s1.fld (Reg.TALUS_TCFG_CLUSTER t)
    if c < 12 then s1.wake c else s1
  | 1 => (s.setMbxBit Reg.COL_PEND_LH m true).raise 64
  | 2 => (s.setMbxBit Reg.COL_PEND_RH m true).raise 64
  | _ => s

/-- A write of COL_RING (R167). (DEDUCED, log 22) -/
def writeRing (s : State) (a m : Nat) : State :=
  let sender := s.fld (Reg.COL_MBX_SEND_SENDER m)
  if ¬ s.isSet (Reg.COL_MBX_CFG_EN m) then s.mbxReject m a 1 Reg.COL_RING
  else if s.mbxFull m then s.mbxReject m a 2 Reg.COL_RING
  else if sender ≠ 0 ∧ sender ≠ a then s.mbxReject m a 3 Reg.COL_RING
  else
    let s1 := (((s.setFld (Reg.COL_MBX_STAT_STATE m) 1).setFld (Reg.COL_MBX_STAT_SENDER m) a).bump
      (Reg.COL_MBX_STAT_SEQ m) 1).setFld (Reg.COL_MBX_STAT_FLUSHED m) 0
    s1.signalReceiver m

/-- Whether agent a runs task t (R170). -/
def runsTask (s : State) (a t : Nat) : Bool :=
  (s.actors a).any (fun e => match (s.engine e).run with
    | some r => r.talus && r.task == t && s.agentOf e == a
    | none => false)

/-- Whether agent a is the receiver of mailbox m (R168, R170). -/
def isReceiver (s : State) (a m : Nat) : Bool :=
  match s.fld (Reg.COL_MBX_CFG_RX_KIND m) with
  | 0 => s.runsTask a (s.fld (Reg.COL_MBX_CFG_RX_TASK m))
  | 1 => a == 51
  | 2 => a == 52
  | _ => a == s.fld (Reg.COL_MBX_CFG_RX_TASK m) % 64

/-- The waits that p names end, and with them the cycles that they are part of: the scans forget these (R176).
(DEDUCED, log 38) -/
def endWaits (s : State) (p : ColWait → Bool) : State :=
  let ended (a m : Nat) : Bool := s.col.waits.any (fun x => p x && x.agent == a && x.mbx == m)
  let stands (c : Cycle) : Bool := !ended c.x c.a && !ended c.y c.b
  { s with col := { s.col with
    waits := s.col.waits.filter (fun x => !p x)
    found := s.col.found.filter stands
    reported := s.col.reported.filter stands } }

/-- Every stalled read of mailbox m returns 1 in bit 35 (R174). (DEDUCED, log 38) -/
def answerWaits (s : State) (m : Nat) : State :=
  let mine := s.col.waits.filter (fun x => x.mbx == m)
  let s1 := s.endWaits (fun x => x.mbx == m)
  mine.foldl (fun s x => s.answer x (Word.ofN (2 ^ 35))) s1

/-- Mailbox m becomes EMPTY and the EMPTY signal is given (R170, R173). -/
def emptyMailbox (s : State) (m : Nat) : State :=
  let s1 := ((s.setFld (Reg.COL_MBX_STAT_STATE m) 0).setMbxBit Reg.COL_PEND_LH m false).setMbxBit Reg.COL_PEND_RH m false
  let s2 := match s1.fld (Reg.COL_MBX_CFG_TX_KIND m) with
    | 0 => s1.taskFlag (s1.fld (Reg.COL_MBX_CFG_TX_TASK m)) (s1.fld (Reg.COL_MBX_CFG_TX_FLAG m)) true
    | 1 => (s1.setMbxBit Reg.COL_EMPTIED_LH m true).raise 65
    | 2 => (s1.setMbxBit Reg.COL_EMPTIED_RH m true).raise 65
    | _ => s1
  s2.answerWaits m

/-- A write of COL_TAKE (R170). -/
def writeTake (s : State) (a m : Nat) : State :=
  if ¬ s.mbxFull m then s.mbxReject m a 4 Reg.COL_TAKE
  else if ¬ s.isReceiver a m then s.mbxReject m a 5 Reg.COL_TAKE
  else s.emptyMailbox m

/-- A write of COL_FLUSH (R173); the flush of an EMPTY mailbox changes nothing (R181). -/
def writeFlush (s : State) (a m : Nat) : State :=
  if a ≠ 49 ∧ a ≠ 50 ∧ a ≠ 51 then s.mbxReject m a 7 Reg.COL_FLUSH
  else if s.mbxFull m then (s.setFld (Reg.COL_MBX_STAT_FLUSHED m) 1).emptyMailbox m
  else s

/-- A read of COL_MBXm_WAIT by an agent: the word, or none where the read stalls (R174). (DEDUCED, log 38) -/
def waitRead (s : State) (a m : Nat) : Option Word × State :=
  let stalls := (1 ≤ a ∧ a ≤ 50) ∨ (53 ≤ a ∧ a ≤ 56)
  if ¬ s.mbxFull m then (some (Word.ofN (2 ^ 35)), s)
  else if ¬ stalls then (some 0, s)
  else
    let x : ColWait := { agent := a, mbx := m, by_ := s.actors a, since := s.clk }
    (none, { s with col := { s.col with waits := s.col.waits ++ [x] } }.stallAll x.by_ .answer)

/-- A write of COL_WAIT_CANCEL (R175). (DEDUCED, log 38) -/
def writeWaitCancel (s : State) (a x : Nat) : State :=
  match s.col.waits.filter (fun w => w.agent == x) with
  | [] => s
  | ws => if a = 49 ∨ a = 50 ∨ a = 51 then ws.foldl (fun s w => s.answer w 0) (s.endWaits (fun w => w.agent == x)) else s

/-- The agents that hold mailbox b. -/
def mbxHolders (s : State) (b : Nat) : List Nat :=
  if ¬ s.mbxFull b then []
  else match s.fld (Reg.COL_MBX_CFG_RX_KIND b) with
    | 0 => (List.range 51).filter (fun a => s.runsTask a (s.fld (Reg.COL_MBX_CFG_RX_TASK b)))
    | 3 => [s.fld (Reg.COL_MBX_CFG_RX_TASK b) % 64]
    | _ => []

/-- The cycles that stand now (R176). -/
def mbxCycles (s : State) : List Cycle :=
  s.col.waits.flatMap (fun w =>
    let x := w.agent
    let a := w.mbx
    (s.mbxHolders a).flatMap (fun y =>
      if y = x then [{ a := a, b := a, x := x, y := x }]
      else if x < y then
        (s.col.waits.filter (fun v => v.agent == y && (s.mbxHolders v.mbx).contains x)).map
          (fun v => { a := a, b := v.mbx, x := x, y := y })
      else []))

/-- A cycle is reported (R176). -/
def reportCycle (s : State) (c : Cycle) : State :=
  let s1 := (s.setReg Reg.COL_CYCLE
    (Word.ofN (2 ^ 35 + 2 ^ 20 * (c.y % 64) + 2 ^ 14 * (c.x % 64) + 2 ^ 7 * c.b + c.a))).raise 66
  s1.report 0xA4 66 0 (2 ^ 7 * c.b + c.a) c.x c.y

/-- A read of lock m by an agent (R178). -/
def lockRead (s : State) (a m : Nat) : Word × State :=
  let o := s.fld (Reg.COL_MBX_LOCK_OWNER m)
  if o = 0 then (0, s.setFld (Reg.COL_MBX_LOCK_OWNER m) a) else (Word.ofN o, s)

/-- A write of lock m by an agent (R178). -/
def lockWrite (s : State) (a m : Nat) (w : Word) : State :=
  let o := s.fld (Reg.COL_MBX_LOCK_OWNER m)
  if w.field 5 0 ≠ 0 then s.reject a (Reg.COL_MBX_LOCK m)
  else if o = 0 then s.raise 69
  else if o = a then s.setFld (Reg.COL_MBX_LOCK_OWNER m) 0
  else if a = 49 ∨ a = 50 then
    ((s.setFld (Reg.COL_MBX_LOCK_OWNER m) 0).raise 69).report 0xA4 69 0 m a o
  else s.raise 69

/-- A write of COL_MBXm_CFG by an agent (R166). -/
def writeMbxCfg (s : State) (a m : Nat) (w : Word) : State :=
  let o := Reg.COL_MBX_CFG m
  let old := s.reg o
  if old.field 34 1 = w.field 34 1 then s.setFld (Reg.COL_MBX_CFG_EN m) (w.field 0 0)
  else if old.bit 0 ∨ s.mbxFull m then s.reject a o
  else
    let badAgent := w.field 2 1 = 3 ∧ (w.field 12 9 ≠ 0 ∨ w.field 8 3 = 0 ∨ 60 < w.field 8 3)
    let nw := (Word.ofN (w.field 34 0)).setField 12 3 (if badAgent then old.field 12 3 else w.field 12 3)
    let s1 := s.setReg o nw
    if badAgent then s1.reject a o else s1

/-- A write of COL_MBXm_SEND by an agent (R166). -/
def writeMbxSend (s : State) (a m : Nat) (w : Word) : State :=
  let o := Reg.COL_MBX_SEND m
  if s.isSet (Reg.COL_MBX_CFG_EN m) ∨ s.mbxFull m then s.reject a o else s.writeGeneric a o w

/-- A read by an agent in the Col block at BAR0 offset o; none where it stalls. -/
def colRead (s : State) (a o : Nat) : Option Word × State :=
  let r := o - 0x50000
  if 0x1000 ≤ r ∧ r < 0x2000 ∧ r % 0x20 = 0x18 then s.waitRead a ((r - 0x1000) / 0x20)
  else if 0x2000 ≤ r ∧ r < 0x2400 ∧ r % 8 = 0 then
    let (w, s1) := s.lockRead a ((r - 0x2000) / 8)
    (some w, s1)
  else
    let (w, s1) := s.readGeneric o
    (some w, s1)

/-- A write by an agent in the Col block at BAR0 offset o. -/
def colWrite (s : State) (a o : Nat) (w : Word) : State :=
  let r := o - 0x50000
  if r = 0x10 then s.writeRing a (w.field 6 0)
  else if r = 0x18 then s.writeTake a (w.field 6 0)
  else if r = 0x20 then s.writeFlush a (w.field 6 0)
  else if r = 0x28 then s.writeWaitCancel a (w.field 5 0)
  else if 0x1000 ≤ r ∧ r < 0x2000 then
    let m := (r - 0x1000) / 0x20
    if r % 0x20 = 0 then s.writeMbxCfg a m w
    else if r % 0x20 = 8 then s.writeMbxSend a m w
    else s
  else if 0x2000 ≤ r ∧ r < 0x2400 ∧ r % 8 = 0 then s.lockWrite a ((r - 0x2000) / 8) w
  else s.writeGeneric a o w

end State

/-! ### The commands of Col -/

/-- MBX_CFG_WRITE (R166): a write of COL_MBXm_SEND (send) or COL_MBXm_CFG. -/
def execMbxCfgWrite (a : Nat) (m : Fin 128) (send : Bool) (w : Word) (s : State) : Host.Outcome State Fault Refusal :=
  live s (fun s => if send then s.writeMbxSend a m w else s.writeMbxCfg a m w)

/-- RING (R167, R168). -/
def execRing (a : Nat) (w : Word) (s : State) : Host.Outcome State Fault Refusal :=
  live s (fun s => s.writeRing a (w.field 6 0))

/-- TAKE (R170). -/
def execTake (a : Nat) (w : Word) (s : State) : Host.Outcome State Fault Refusal :=
  live s (fun s => s.writeTake a (w.field 6 0))

/-- FLUSH (R173). -/
def execFlush (a : Nat) (w : Word) (s : State) : Host.Outcome State Fault Refusal :=
  live s (fun s => s.writeFlush a (w.field 6 0))

/-- MBX_WAIT_READ (R174); the comparator of a pair logs the read of its task (R95, R98). (DEDUCED, log 38) -/
def execMbxWaitRead (a : Nat) (m : Fin 128) (s : State) : Host.Outcome State Fault Refusal :=
  live s (fun s =>
    let access : PairAccess := .read (0x800000 + (Reg.COL_MBX_WAIT m) / 8)
    let logged (s : State) (w : Word) : State := match (s.actors a).filter s.paired with
      | [] => s
      | e :: _ => s.logAccess (e / 2) access w
    match s.waitRead a m with
    | (some w, s1) => (logged s1 w).emit (.read a w false)
    | (none, s1) => logged s1 0)

/-- WAIT_CANCEL (R175). -/
def execWaitCancel (a : Nat) (w : Word) (s : State) : Host.Outcome State Fault Refusal :=
  live s (fun s => s.writeWaitCancel a (w.field 5 0))

/-- MBX_WAIT_LONG (R175): the stalled read of agent a has lasted WAIT_WARN. -/
def execMbxWaitLong (a : Nat) (s : State) : Host.Outcome State Fault Refusal :=
  live s (fun s =>
    match s.col.waits.find? (fun x => x.agent == a && !x.warned) with
    | none => s
    | some x =>
      let s1 := s.advanceTo (x.since + s.fld Reg.COL_LIMITS_WAIT_WARN * Config.us)
      let marked := s1.col.waits.map (fun y => if y = x then { y with warned := true } else y)
      let s2 := { s1 with col := { s1.col with waits := marked } }
      (s2.setReg Reg.COL_WAITINFO (Word.ofN (2 ^ 35 + 2 ^ 14 * (a % 64) + x.mbx))).raise 68)

/-- CYCLE_SCAN (R176): the scan at the next whole multiple of 32 µs of TBU time, once that time runs. It finds what stands at the
end of the tick of that instant, since a message taken in that tick counts as taken (R51). (DEDUCED, log 38) -/
def execCycleScan (s : State) : Host.Outcome State Fault Refusal :=
  live s (fun s =>
    if ¬ s.tbu.running then s else
    let p := 32 * Config.us
    let b := s.tbu.time / Config.tick * Config.tick
    let c := if b % p = 0 ∧ s.col.scanAt ≠ some b then b else (b / p + 1) * p
    let s1 := s.advanceToTime (c + Config.tick)
    let now := s1.mbxCycles
    let twice := now.filter (fun x => s1.col.found.contains x && !s1.col.reported.contains x)
    let s2 := { s1 with col := { s1.col with
      found := now, reported := now.filter (fun x => s1.col.reported.contains x || twice.contains x)
      scanAt := some c } }
    twice.foldl State.reportCycle s2)

/-- LOCK_READ (R178, R179). -/
def execLockRead (a : Nat) (m : Fin 128) (s : State) : Host.Outcome State Fault Refusal :=
  live s (fun s => let (w, s1) := s.lockRead a m; s1.emit (.read a w false))

/-- LOCK_RELEASE (R178). -/
def execLockRelease (a : Nat) (m : Fin 128) (w : Word) (s : State) : Host.Outcome State Fault Refusal :=
  live s (fun s => s.lockWrite a m w)

/-- COL_RECORD_READ (R184): a read of COL_CYCLE, COL_REFUSE or COL_WAITINFO. -/
def execColRecordRead (a : Nat) (i : Fin 3) (s : State) : Host.Outcome State Fault Refusal :=
  live s (fun s => let (w, s1) := s.readGeneric (Reg.COL_CYCLE + 8 * i); s1.emit (.read a w false))

end Sys2Proof.Machine
end

