-- ==== Sys2Proof/Machine/Memc.lean ====
section
/-! DEFINITION. The registers of the memory controllers and of the vault: indirect access, flip masks, scrubbing, marches,
repairs, key loading and wipes (spec/07_memory.md). -/
namespace Sys2Proof.Machine

/-- A number inserted into an ascending list without repeats. -/
def insertAsc (x : Nat) : List Nat → List Nat
  | [] => [x]
  | y :: ys => if x < y then x :: y :: ys else if x = y then y :: ys else y :: insertAsc x ys

/-- Whether an agent is a steward. -/
def isSteward (a : Nat) : Bool := a == 49 || a == 50

/-- Whether an agent is a Crag engine. -/
def isCrag (a : Nat) : Bool := 1 ≤ a && a ≤ 48

/-! ### The checker self-test (R205) -/

/-- A 43-bit code word with one bit inverted: data bits 0–35, then check bits. -/
def CodeWord.invert (x : CodeWord) (i : Nat) : CodeWord :=
  if i < 36 then { x with d := x.d ^^^ Word.ofN (2 ^ i) } else { x with k := x.k ^^^ BitVec.ofNat 7 (2 ^ (i - 36)) }

/-- The code words that the self-test writes to the test row: all-zero and all-one data, every single-bit error of both, 64
double-bit errors, and the unwritten marker (R205). (DESIGN CHOICE, log 37) -/
def testWords : List CodeWord :=
  let zero := encodeWord 36 0
  let one := encodeWord 36 (Word.ofN (2 ^ 36 - 1))
  let double (i : Nat) : CodeWord := (zero.invert (Config.doubleError i).1).invert (Config.doubleError i).2
  [zero, one] ++ (List.range 43).map zero.invert ++ (List.range 43).map one.invert ++ (List.range 64).map double
    ++ [({ d := 0, k := 0x7F } : CodeWord)]

/-- What a sound checker reads back of the test words: the syndrome and the decoded data. -/
def testExpected : List CheckerReading :=
  testWords.map (fun x => { syndrome := (syndromeOf 36 x).toNat, data := (decodeWord 36 x).1 })

namespace State

/-! ### Views -/

/-- MEMC_STAT (R221). -/
def memcStat (s : State) : Word :=
  let ok := s.memc.failed.isEmpty && (List.range 55).all s.memc.passed.contains
  Word.ofN (s.fld Reg.MEMC_STAT_MARCHED + 2 * bit01 (!s.memc.marches.isEmpty) + 4 * bit01 ok
    + 8 * bit01 (!s.memc.deferred.isEmpty))

/-- The row layout of MEMC_REPAIR_CTRL bits [23:1]. -/
def rowBits (r : Row) : Nat := r.ctrl + 2 ^ 6 * r.array + 2 ^ 8 * r.bank + 2 ^ 12 * r.row

/-- MEMC_REPAIR_STAT (R221). -/
def repairStat (s : State) : Word :=
  let next := (s.memc.deferred.head?.map rowBits).getD 0
  Word.ofN (s.memc.deferred.length + 2 ^ 6 * bit01 (!s.memc.repairing.isEmpty) + 2 ^ 8 * next)

/-- MEMC_SPAREc (R221). -/
def spareView (s : State) (c : Nat) : Word :=
  let mine (r : Row) : Bool := r.ctrl == c
  let fused := s.memc.fused.countP mine
  let soft := s.memc.soft.countP mine
  let free := 8 * ctrlBanks c - (fused + soft + s.memc.unusable.countP mine)
  Word.ofN (fused + 2 ^ 8 * soft + 2 ^ 16 * free + 2 ^ 24 * s.fld (Reg.MEMC_SPARE_EXHAUSTED c))

/-! ### Indirect access (R191) -/

/-- Whether a controller's memories lie in a cluster that is not ACTIVE (R190). -/
def poweredDown (s : State) (c : Nat) : Bool := 5 ≤ c && c ≤ 52 && !s.clusterActive ((c - 5) / 4)

/-- The fields of MEMC_IND_ADDR of a host: controller, array, word. -/
def indTarget (s : State) (a : Nat) : Nat × Nat × Nat :=
  let w := s.agentReg a Reg.MEMC_IND_ADDR
  (w.field 28 23, w.field 22 21, w.field 20 0)

/-- Why an indirect access is refused; 0 where it is not. (DEDUCED, log 22) -/
def indReason (s : State) (a : Nat) (write : Bool) : Nat :=
  let (c, k, x) := s.indTarget a
  let (r, w) := indirectRights a c k
  if s.isSet Reg.MEMC_HOST_CTRL_CLOSE_IND then 2
  else if 3 ≤ k ∨ arraySize c k ≤ x then 5
  else if ¬ (if write then w else r) then 1
  else if s.poweredDown c then 3
  else 0

/-- MEMC_IND_ADDR.ADDR of a host advances by 1. -/
def indAdvance (s : State) (a : Nat) : State :=
  let w := s.agentReg a Reg.MEMC_IND_ADDR
  s.setAgentReg a Reg.MEMC_IND_ADDR (w.setField 20 0 (w.field 20 0 + 1))

/-- A read of MEMC_IND_DATA by an agent: the word and what was found. -/
def indRead (s : State) (a : Nat) : Word × Syndrome × State :=
  if a ≠ 51 ∧ a ≠ 52 then (0, .clean, s)
  else
    let (c, k, x) := s.indTarget a
    let reason := s.indReason a false
    if reason ≠ 0 then (0, .clean, s.memRefuse c a reason)
    else
      let s1 := match s.siltAt c x with
        | some y => if k = 0 then s.flushEntry y else s
        | none => s
      let code := s1.codeAt c k x
      let (w, syn, s2) := s1.readStored a c k x false
      let chk := Word.ofN (code.k.toNat + 2 ^ 7 * (syndromeOf (arrayWidth k) code).toNat)
      (w, syn, (s2.setAgentReg a Reg.MEMC_IND_CHK chk).indAdvance a)

/-! ### Registers -/

/-- A write by a host of its MEMC_IND_ADDR. -/
def writeIndAddr (s : State) (a : Nat) (w : Word) : State :=
  let o := Reg.MEMC_IND_ADDR
  match regDescAt o with
  | none => s
  | some d =>
    let (nw, rej) := d.fields.foldl (writeField (s.expert o) w) (s.agentReg a o, false)
    let s1 := s.setAgentReg a o nw
    if rej then s1.reject a o else s1

/-- A write of MEMC_FLIP_CTRL, _DATA or _ADDR (R204). -/
def writeFlip (s : State) (a o : Nat) (w : Word) : State :=
  if s.isSet Reg.MEMC_FLIP_CTRL_ARM then s.reject a o
  else if o ≠ Reg.MEMC_FLIP_CTRL then s.writeGeneric a o w
  else
    let (nw, rej) := s.written o w
    let c := nw.field 5 0
    let lacks := arraySize c (nw.field 7 6) = 0
    let nw := if lacks then nw.setField 7 6 ((s.reg o).field 7 6) else nw
    if nw.bit 15 ∧ c = 4 ∧ ¬ isSteward a then s.memReject 4 a 1 Reg.MEMC_FLIP_CTRL
    else
      let s1 := s.setReg o nw
      if rej ∨ lacks then s1.reject a o else s1

/-- A write of MEMC_MARCH_CTRL (R209); CHECK has the controller's checker self-test run before the march (R205, R221). -/
def writeMarch (s : State) (a : Nat) (w : Word) : State :=
  let preserve := w.bit 1
  let c := w.field 8 3
  let k := w.field 10 9
  if ¬ w.bit 0 then s
  else if 55 ≤ c ∨ 3 ≤ k ∨ arraySize c k = 0
      ∨ (¬ preserve ∧ (c = 4 ∨ (k = 0 ∧ c = 53 + s.fld Reg.TALUS_CTRL_ACTIVE_SE)
          ∨ (c = 3 ∧ (List.range 256).any (fun q => s.isSet (Reg.TALUS_QCFG_EN q)))))
      ∨ s.memc.marches.any (fun m => m.ctrl == c && m.array == k) then s.reject a Reg.MEMC_MARCH_CTRL
  else
    let m : March := { ctrl := c, array := k, preserve := preserve, asked := true }
    let s1 := { s with memc := { s.memc with
      marches := s.memc.marches ++ [m]
      testing := if w.bit 2 then insertAsc c s.memc.testing else s.memc.testing } }
    ((s1.setFld Reg.MEMC_MARCH_STAT_BUSY 1).setFld Reg.MEMC_MARCH_STAT_CTRL c).setFld Reg.MEMC_MARCH_STAT_REPAIRED 0

/-- A write of MEMC_REPAIR_CTRL (R213). -/
def writeRepair (s : State) (a : Nat) (w : Word) : State :=
  let r : Row := { ctrl := w.field 6 1, array := w.field 8 7, bank := w.field 12 9, row := w.field 23 13 }
  let size := arraySize r.ctrl r.array
  let banks := arrayBanks r.ctrl r.array
  if ¬ w.bit 0 then s
  else if 55 ≤ r.ctrl ∨ 3 ≤ r.array ∨ banks ≤ r.bank ∨ size / banks / 64 ≤ r.row then s.reject a Reg.MEMC_REPAIR_CTRL
  else
    let s1 := { s with memc := { s.memc with deferred := s.memc.deferred.filter (· != r) } }
    s1.startRepair r

/-- A read by an agent in the MEMC block at BAR0 offset o: the word and what was found. -/
def memcRead (s : State) (a o : Nat) : Word × Syndrome × State :=
  let r := o - 0x60000
  let host := a = 51 ∨ a = 52
  if r = 0x10 then (s.memcStat, .clean, s)
  else if r = 0x50 then (s.repairStat, .clean, s)
  else if r = 0x60 ∨ r = 0x70 then (if host then s.agentReg a o else 0, .clean, s)
  else if r = 0x68 then s.indRead a
  else if 0x700 ≤ r ∧ r < 0x700 + 8 * 55 ∧ r % 8 = 0 then (s.spareView ((r - 0x700) / 8), .clean, s)
  else
    let (w, s1) := s.readGeneric o
    (w, .clean, s1)

/-- A write of MEMC_IND_DATA by an agent (R191); the words of a FULL mailbox are guarded (R169). -/
def indWrite (s : State) (a : Nat) (w : Word) : State :=
  if a ≠ 51 ∧ a ≠ 52 then s.reject a Reg.MEMC_IND_DATA
  else
    let (c, _, x) := s.indTarget a
    let reason := s.indReason a true
    if reason ≠ 0 then s.memReject c a reason Reg.MEMC_IND_DATA
    else if c = 2 ∧ s.mailGuard x then s.mbxReject ((mailboxOf x).getD 0) a 6 Reg.MEMC_IND_DATA
    else (s.agentWrite a c x 15 w).indAdvance a

/-- A write of MEMC_HOST_CTRL (R190): once LOCK is set its bits hold. -/
def writeHostCtrl (s : State) (a : Nat) (w : Word) : State :=
  if s.isSet Reg.MEMC_HOST_CTRL_LOCK then s else s.writeGeneric a Reg.MEMC_HOST_CTRL w

/-- A write by an agent in the MEMC block at BAR0 offset o; Crag engines are refused (R220). -/
def memcWrite (s : State) (a o : Nat) (w : Word) : State :=
  let r := o - 0x60000
  let host := a = 51 ∨ a = 52
  if isCrag a then s.reject a o
  else if r = 0x08 then (if w.bit 0 then s.flushWhere (fun _ => true) else s)
  else if r = 0x20 ∨ r = 0x28 ∨ r = 0x30 then s.writeFlip a o w
  else if r = 0x38 then s.writeMarch a w
  else if r = 0x48 then s.writeRepair a w
  else if r = 0x58 then s.writeHostCtrl a w
  else if r = 0x60 then (if host then s.writeIndAddr a w else s.reject a o)
  else if r = 0x68 then s.indWrite a w
  else if r = 0x70 then (if host then s else s.reject a o)
  else s.writeGeneric a o w

/-! ### Vault (R216 to R218) -/

/-- The wipe in progress ends (R218). -/
def finishWipe (s : State) : State :=
  let slots := s.memc.keySlots.map (·.1)
  let s1 := { s.clearArray 4 0 with
    memc := { s.memc with
      sealed := [], keySlots := [], wiping := none, silt := s.memc.silt.filter (fun x => x.ctrl != 4) } }
  let s2 := slots.foldl (fun s k => s.setFld (Reg.STS_KSLOT_LOADED k) 0) s1
  ((s2.setFld Reg.VAULT_STAT_WIPING 0).bump Reg.VAULT_STAT_WIPES 1).raise 83

/-- A wipe of the vault starts (R218). (DEDUCED, log 37) -/
def startWipe (s : State) : State :=
  if s.memc.wiping.isSome then s
  else
    let s1 := { s with memc := { s.memc with wiping := some s.clk } }
    s1.setFld Reg.VAULT_STAT_WIPING 1

/-- An access that arrives during a wipe is served once the wipe has ended (R218). -/
def afterWipe (s : State) : State := if s.memc.wiping.isSome then s.finishWipe else s

/-- Why a vault access by an agent is refused; 0 where it is not (R188, R206, R494). (DEDUCED, log 22) -/
def vaultReason (s : State) (a : Nat) : Nat :=
  if ¬ isSteward a ∨ s.memc.failed.contains 4 then 1
  else if s.fuses.lifecycle = 3 then 4
  else if s.fuses.lifecycle = 4 then 1
  else 0

/-- VAULT_ADDR.ADDR advances by 1. -/
def vaultAdvance (s : State) : State := s.bump Reg.VAULT_ADDR_ADDR 1

/-- A read of VAULT_DATA (R217): the word and what was found. -/
def vaultDataRead (s : State) (a : Nat) : Word × Syndrome × State :=
  let reason := s.vaultReason a
  if reason ≠ 0 then (0, .clean, s.memRefuse 4 a reason)
  else
    let s0 := s.afterWipe
    let x := s0.fld Reg.VAULT_ADDR_ADDR
    if s0.memc.sealed.contains x then (0, .clean, s0.memRefuse 4 a 4)
    else
      let (w, syn, s1) := s0.memRead a 4 0 x false
      (w, syn, s1.vaultAdvance)

/-- A write of VAULT_DATA (R217). -/
def vaultDataWrite (s : State) (a : Nat) (w : Word) : State :=
  let reason := s.vaultReason a
  if reason ≠ 0 then s.memReject 4 a reason Reg.VAULT_DATA
  else
    let s0 := s.afterWipe
    let x := s0.fld Reg.VAULT_ADDR_ADDR
    if s0.memc.sealed.contains x then s0.memReject 4 a 4 Reg.VAULT_DATA
    else
      let s1 := s0.memWrite 4 0 x w
      let s2 := if s1.isSet Reg.VAULT_ADDR_SEAL then
          { s1 with memc := { s1.memc with sealed := insertAsc x s1.memc.sealed } } else s1
      s2.vaultAdvance

/-- The words of a key are read from the vault: n words from word x on, each giving bits [31:0]. -/
def keyWords (s : State) (a x : Nat) : Nat → List Nat × State
  | 0 => ([], s)
  | n + 1 =>
    let (w, _, s1) := s.memRead a 4 0 x false
    let (ws, s2) := s1.keyWords a (x + 1) n
    (w.field 31 0 :: ws, s2)

/-- A write of VAULT_KEYLOAD (R217, R324). -/
def writeKeyload (s : State) (a : Nat) (w : Word) : State :=
  let reason := s.vaultReason a
  let src := w.field 12 0
  let n := w.field 16 13 + 1
  if reason ≠ 0 then s.memReject 4 a reason Reg.VAULT_KEYLOAD
  else if 8192 < src + n then s.reject a Reg.VAULT_KEYLOAD
  else
    let (ks, s1) := s.afterWipe.keyWords a src n
    let slot := w.field 24 17
    let s2 := { s1 with memc := { s1.memc with keySlots := Tab.put [] slot ks s1.memc.keySlots } }
    s2.setFld (Reg.STS_KSLOT_LOADED slot) 1

/-- A write of VAULT_CTRL (R218). -/
def writeVaultCtrl (s : State) (a : Nat) (w : Word) : State :=
  let reason := s.vaultReason a
  if reason ≠ 0 then s.memReject 4 a reason Reg.VAULT_CTRL else if w.bit 0 then s.startWipe else s

/-- VAULT_STAT (R223). -/
def vaultStat (s : State) : Word := (s.reg Reg.VAULT_STAT).setField 15 2 s.memc.sealed.length

/-- A read by an agent in the vault block at BAR0 offset o (R222). -/
def vaultRead (s : State) (a o : Nat) : Word × Syndrome × State :=
  let r := o - 0x70000
  if r = 0x10 then (s.vaultStat, .clean, s)
  else if r = 0x20 then s.vaultDataRead a
  else if isSteward a then
    let (w, s1) := s.readGeneric o
    (w, .clean, s1)
  else (0, .clean, s.memRefuse 4 a 1)

/-- A write by an agent in the vault block at BAR0 offset o (R222). -/
def vaultWrite (s : State) (a o : Nat) (w : Word) : State :=
  let r := o - 0x70000
  if r = 0x08 then s.writeVaultCtrl a w
  else if r = 0x20 then s.vaultDataWrite a w
  else if r = 0x28 then s.writeKeyload a w
  else if isSteward a then s.writeGeneric a o w
  else s.memReject 4 a 1 o

/-! ### Marches and repairs -/

/-- The row copy of a repair (R212): each word is read for the device itself, so that a correctable one is reported, stored
corrected and copied so, an uncorrectable one reported and copied as it is, and an unwritten one passed over (R196 to R198). -/
def copyRow (s : State) (r : Row) : State :=
  (List.range 64).foldl (fun s i =>
    (s.memRead 0 r.ctrl r.array (arrayBanks r.ctrl r.array * (64 * r.row + i) + r.bank) true).2.2) s

/-- The rows a march found failing are repaired, by a preserving march with a copy of their words, or found beyond repair; the
number of rows repaired and of those that could not be (R209, R210, R212). -/
def marchRepairs (s : State) (m : March) (repaired lost : Nat) : List (Nat × Nat) → Nat × Nat × State
  | [] => (repaired, lost, s)
  | (bank, row) :: rest =>
    let r : Row := { ctrl := m.ctrl, array := m.array, bank := bank, row := row }
    if s.freeSpares r = 0 then
      ((s.setFld (Reg.MEMC_SPARE_EXHAUSTED m.ctrl) 1).raise 78).marchRepairs m repaired (lost + 1) rest
    else
      let s1 := if m.preserve then s.copyRow r else s
      let s2 := { s1 with memc := { s1.memc with soft := s1.memc.soft ++ [r] } }
      (s2.raise 77).marchRepairs m (repaired + 1) lost rest

/-- Spare rows of an array are marked unusable, each once (R210). -/
def markUnusable (s : State) (c k : Nat) (spares : List (Nat × Nat)) : State :=
  spares.foldl (fun s x =>
    let r : Row := { ctrl := c, array := k, bank := x.1, row := x.2 }
    if s.memc.unusable.contains r then s
    else { s with memc := { s.memc with unusable := s.memc.unusable ++ [r] } }) s

/-- The checker self-test of controller c passes or fails (R206). (DEDUCED, log 37) -/
def checkerResult (s : State) (c : Nat) (ok : Bool) : State :=
  let t := s.memc.testing.filter (· != c)
  if ok then
    { s with memc := { s.memc with
      passed := insertAsc c s.memc.passed, failed := s.memc.failed.filter (· != c), testing := t } }
  else
    let s1 := { s with memc := { s.memc with
      passed := s.memc.passed.filter (· != c), failed := insertAsc c s.memc.failed, testing := t } }
    let s2 := (s1.raise 81).report (0x40 + c) 81 0 0 0 0
    if isEngineCtrl c then s2.setFld (Reg.CE_CTRL_RETIRE (c - 5)) 1 else s2

end State

/-! ### The commands of the memory controllers and the vault -/

/-- SCRUB (R200): the scrubber reads its next word of array k of controller c at its instant, the n words of the array being spread
evenly over the SCRUB_H hours of a period. (DEDUCED, log 37) -/
def execScrub (c : Fin 55) (k : Fin 3) (s : State) : Host.Outcome State Fault Refusal :=
  live s (fun s =>
    let n := arraySize c k
    let period := s.fld Reg.MEMC_LIMITS_SCRUB_H * 3600 * Config.sec
    if n = 0 ∨ period = 0 then s
    else
      let key := 4 * c.val + k.val
      let x := Tab.get 0 key s.memc.scrubAt
      let due := Tab.get 0 key s.memc.scrubFrom + x * period / n
      let from_ := if due + period < s.clk then s.clk - x * period / n else Tab.get 0 key s.memc.scrubFrom
      let (_, _, s1) := (s.advanceTo (from_ + x * period / n)).memRead 0 c k x true
      { s1 with memc := { s1.memc with
        scrubAt := Tab.put 0 key ((x + 1) % n) s1.memc.scrubAt
        scrubFrom := Tab.put 0 key (if x + 1 = n then from_ + period else from_) s1.memc.scrubFrom } })

/-- SILT_TIMEOUT (R202): the entry of controller c whose last write lies furthest back is flushed 64 ns after it. -/
def execSiltTimeout (c : Fin 55) (s : State) : Host.Outcome State Fault Refusal :=
  live s (fun s =>
    match (s.memc.silt.filter (fun x => x.ctrl == c.val)).foldl (fun b x => match b with
        | some y => if x.last < y.last then some x else some y
        | none => some x) none with
    | none => s
    | some x => (s.advanceTo (x.last + 64 * Config.ns)).flushEntry x)

/-- MEMC_FLUSH (R202): a write of MEMC_CTRL.FLUSH, refused to Crag engines (R220). -/
def execMemcFlush (a : Nat) (s : State) : Host.Outcome State Fault Refusal :=
  live s (fun s => if isCrag a then s.reject a Reg.MEMC_CTRL else s.flushWhere (fun _ => true))

/-- CHECKER_SELF_TEST (R205, R206): the self-test under way on controller c ends; it passes where what it read back of every test
word is what it should be. -/
def execCheckerSelfTest (c : Fin 55) (found : List CheckerReading) (s : State) : Host.Outcome State Fault Refusal :=
  live s (fun s => if s.memc.testing.contains c.val then s.checkerResult c (found == testExpected) else s)

/-- MARCH_GO (R209), refused to Crag engines (R220). -/
def execMarchGo (a : Nat) (w : Word) (s : State) : Host.Outcome State Fault Refusal :=
  live s (fun s => if isCrag a then s.reject a Reg.MEMC_MARCH_CTRL else s.writeMarch a w)

/-- MARCH_DONE (R207, R209, R210): the march of array k of controller c ends, with the failing rows and spares it found, once the
self-test that comes before it has ended (R205). -/
def execMarchDone (c : Fin 55) (k : Fin 3) (r : MarchResult) (s : State) : Host.Outcome State Fault Refusal :=
  live s (fun s =>
    match s.memc.marches.find? (fun m => m.ctrl == c.val && m.array == k.val) with
    | none => s
    | some m =>
      if s.memc.testing.contains c.val then s
      else
        let s1 := { s with memc := { s.memc with marches := s.memc.marches.filter (· != m) } }
        let s2 := s1.markUnusable c k r.spares
        let s3 := if m.preserve then s2 else s2.clearArray c k
        let (n, lost, s4) := s3.marchRepairs m 0 0 r.rows
        let s5 := ((s4.setFld Reg.MEMC_MARCH_STAT_REPAIRED n).setFld Reg.MEMC_MARCH_STAT_CTRL c).setFld
          Reg.MEMC_MARCH_STAT_BUSY (bit01 (s4.memc.marches.any (·.asked)))
        if lost = 0 then s5.raise 79 else (s5.setFld Reg.MEMC_MARCH_STAT_FAILED 1).raise 80)

/-- REPAIR_GO (R213), refused to Crag engines (R220). -/
def execRepairGo (a : Nat) (w : Word) (s : State) : Host.Outcome State Fault Refusal :=
  live s (fun s => if isCrag a then s.reject a Reg.MEMC_REPAIR_CTRL else s.writeRepair a w)

/-- REPAIR_DONE (R212): the oldest repair in progress ends. -/
def execRepairDone (s : State) : Host.Outcome State Fault Refusal :=
  live s (fun s =>
    match s.memc.repairing with
    | [] => s
    | r :: rest =>
      let s1 := s.copyRow r
      let s2 := { s1 with memc := { s1.memc with repairing := rest, soft := s1.memc.soft ++ [r] } }
      s2.raise 77)

/-- MEMC_LAST_READ (R221). -/
def execMemcLastRead (a : Nat) (c : Fin 55) (s : State) : Host.Outcome State Fault Refusal :=
  live s (fun s => let (w, s1) := s.readGeneric (Reg.MEMC_LAST c); s1.emit (.read a w false))

/-- MEMC_REFUSE_READ (R221). -/
def execMemcRefuseRead (a : Nat) (s : State) : Host.Outcome State Fault Refusal :=
  live s (fun s => let (w, s1) := s.readGeneric Reg.MEMC_REFUSE; s1.emit (.read a w false))

/-- IND_READ (R191). -/
def execIndRead (a : Nat) (s : State) : Host.Outcome State Fault Refusal :=
  live s (fun s => let (w, syn, s1) := s.indRead a; s1.emit (.read a w (syn == .uncorrectable)))

/-- IND_WRITE (R191). -/
def execIndWrite (a : Nat) (w : Word) (s : State) : Host.Outcome State Fault Refusal :=
  live s (fun s => s.indWrite a w)

/-- VAULT_READ (R217). -/
def execVaultRead (a : Nat) (s : State) : Host.Outcome State Fault Refusal :=
  live s (fun s => let (w, syn, s1) := s.vaultDataRead a; s1.emit (.read a w (syn == .uncorrectable)))

/-- VAULT_WRITE (R217). -/
def execVaultWrite (a : Nat) (w : Word) (s : State) : Host.Outcome State Fault Refusal :=
  live s (fun s => s.vaultDataWrite a w)

/-- KEYLOAD (R217). -/
def execKeyload (a : Nat) (w : Word) (s : State) : Host.Outcome State Fault Refusal :=
  live s (fun s => s.writeKeyload a w)

/-- VAULT_WIPE (R218). -/
def execVaultWipe (a : Nat) (w : Word) (s : State) : Host.Outcome State Fault Refusal :=
  live s (fun s => s.writeVaultCtrl a w)

/-- VAULT_WIPED (R218): the wipe in progress ends. -/
def execVaultWiped (s : State) : Host.Outcome State Fault Refusal := live s State.afterWipe

end Sys2Proof.Machine
end

