-- ==== Sys2Proof/Machine/CeRegs.lean ====
section
/-! DEFINITION. The control windows of the engines: program loading, settling a trap, retirement, and the registers with an
effect or a view of their own (spec/03_crag_engines.md R70, R90, R93, R104, R105; spec/18_faults_availability.md R512). -/
namespace Sys2Proof.Machine
namespace State

/-- Whether an agent may reach program arrays through CE_PLOAD (R188). -/
def ploadAgent (a : Nat) : Bool := isSteward a || a == 51

/-- Bank, as an array of the engine's controller, and word that CE_PLOAD_ADDR names. -/
def ploadTarget (s : State) (e : Nat) : Nat × Nat :=
  (s.fld (Reg.CE_PLOAD_ADDR_BANK e), s.fld (Reg.CE_PLOAD_ADDR_ADDR e) % bankSize e)

/-- CE_PLOAD_ADDR.ADDR advances by 1, modulo the bank size (R105). -/
def ploadAdvance (s : State) (e : Nat) : State :=
  s.setFld (Reg.CE_PLOAD_ADDR_ADDR e) (((s.ploadTarget e).2 + 1) % bankSize e)

/-- Whether the program arrays of an engine are being cleared, on a wake of its cluster from DEEP_OFF (R214, R215). -/
def ploadOff (s : State) (e : Nat) : Bool :=
  e < 48 && s.fld (Reg.PRC_CLS_STAT_STATE (e / 4)) == 6 && (s.cluster (e / 4)).wakeFrom == 5

/-- A write of CE_PLOAD_DATA (R70, R105, R188, R215). (DEDUCED, log 29 and 70) -/
def ploadWrite (s : State) (a e : Nat) (w : Word) : State :=
  let (bank, x) := s.ploadTarget e
  if ¬ ploadAgent a then s.memReject (engineCtrl e) a 1 (Reg.CE_PLOAD_DATA e)
  else if s.ploadOff e then s.memReject (engineCtrl e) a 3 (Reg.CE_PLOAD_DATA e)
  else if bank = (s.engine e).bank ∧ ¬ [2, 4, 5].contains (s.engineState e) then s.reject a (Reg.CE_PLOAD_DATA e)
  else (s.memWrite (engineCtrl e) (bank + 1) x (Word.ofN (w.field 13 0))).ploadAdvance e

/-- A read of CE_PLOAD_DATA: the word and what was found (R105, R188, R215). -/
def ploadRead (s : State) (a e : Nat) : Word × Syndrome × State :=
  let (bank, x) := s.ploadTarget e
  if ¬ ploadAgent a then (0, .clean, s.memRefuse (engineCtrl e) a 1)
  else if s.ploadOff e then (0, .clean, s.memRefuse (engineCtrl e) a 3)
  else
    let (w, syn, s1) := s.memRead a (engineCtrl e) (bank + 1) x false
    (Word.ofN (w.field 13 0), syn, s1.ploadAdvance e)

/-- A read of CE_SLACK_MIN: the least slack, then reset to 0xF_FFFF (R105). -/
def readSlackMin (s : State) (e : Nat) : Word × State :=
  (s.reg (Reg.CE_SLACK_MIN e), s.setReg (Reg.CE_SLACK_MIN e) 0xFFFFF)

/-! ### Settling a trap (R93) -/

/-- The engines that one write of CE_RESUME settles: both of a pair that trapped together. -/
def settled (s : State) (e : Nat) : List Nat :=
  if s.paired e ∧ s.paired (partnerOf e) ∧ (s.engine (partnerOf e)).trapped then [e, partnerOf e] else [e]

/-- CAUSE is cleared (R105). -/
def clearCause (s : State) (e : Nat) : State := s.setFld (Reg.CE_TRAP_CAUSE_CAUSE e) 0

/-- Whether CE_RESUME of an engine is ignored: the engine is not TRAPPED, or PAIR_FAIL accepts ABORT alone (R93, R101). -/
def resumeBarred (s : State) (e : Nat) (abort : Bool) : Bool :=
  !(s.engine e).trapped || (!abort && s.fld (Reg.CE_TRAP_CAUSE_CAUSE e) == 0x12)

/-- An engine goes on at a program word; a halt ordered meanwhile takes effect before its next bundle (R556). -/
def goOn (s : State) (e pc : Nat) (restart : Bool) : State :=
  let halt := (s.engine e).haltNext
  let s1 := s.modEngine e (fun g => { g with
    trapped := false, pulled := false, pc := pc, stall := none, dst := none, halted := halt, haltNext := false
    run := g.run.map (fun r => if restart then { r with bundles := 0 } else r) })
  if halt then s1.raise 210 else s1

/-- RESUME: the trapped bundle is executed again, and the bundle count restarts (R93). -/
def trapResume (s : State) (a e : Nat) : State :=
  if s.resumeBarred e false then s.reject a (Reg.CE_RESUME e)
  else (s.settled e).foldl (fun s x => (s.goOn x (s.engine x).pc true).clearCause x) s

/-- SKIP of one of the engines that trapped: it goes on at the bundle after the trapped one, number k of the task. An engine of a
pair that has not come to that bundle passes it when it does, and one that is beyond it goes on where it stands (R93).
(DEDUCED, log 27) -/
def skipOne (s : State) (k x : Nat) : State :=
  let g := s.engine x
  let done := (g.run.map (·.done)).getD 0
  let n := if done = k then s.fld (Reg.CE_TRAP_PC_LITS x) + 1 else 0
  ((s.goOn x ((g.pc + n) % bankSize x) false).modEngine x (fun g => { g with
    skipAt := if done < k then some k else g.skipAt })).clearCause x

/-- SKIP: the trapped bundle has no effect, and the engine, or both engines of a pair, go on after it (R93). -/
def trapSkip (s : State) (a e : Nat) : State :=
  if s.resumeBarred e false then s.reject a (Reg.CE_RESUME e)
  else
    let es := s.settled e
    let k := (es.find? (fun x => !(s.engine x).pulled)).map (fun x => ((s.engine x).run.map (·.done)).getD 0)
    es.foldl (fun s x => s.skipOne (k.getD 0) x) s

/-- ABORT: the task ends (R93, R155). -/
def trapAbort (s : State) (a e : Nat) : State :=
  if s.resumeBarred e true then s.reject a (Reg.CE_RESUME e)
  else
    let es := s.settled e
    es.foldl clearCause (s.endTask e)

/-- A write of CE_RESUME (R93, R105). (DEDUCED, log 70) -/
def writeResume (s : State) (a e : Nat) (w : Word) : State :=
  match w.field 1 0 with
  | 1 => s.trapResume a e
  | 2 => s.trapAbort a e
  | 3 => s.trapSkip a e
  | _ => s.reject a (Reg.CE_RESUME e)

/-! ### Retirement (R512) -/

/-- The retirement of an engine takes effect once it holds no task. -/
def retireNow (s : State) (e : Nat) : State :=
  let g := s.engine e
  if s.isSet (Reg.CE_CTRL_RETIRE e) ∧ g.run.isNone ∧ ¬ g.retired then
    ((s.modEngine e (fun g => { g with retired := true })).raise 52).judgeAllStranded
  else s

/-! ### Registers -/

/-- A word written to an engine's window without the bits that only stewards have (R104). -/
def cragMask (e hi : Nat) (w : Word) : Word := if e < 48 then w.setField 17 hi 0 else w

/-- A write of CE_CTRL: RETIRE once 1 stays until reset (R105); an engine that held no task and may run again is IDLE from now on
(R464). -/
def writeCeCtrl (s : State) (a e : Nat) (w : Word) : State :=
  let o := Reg.CE_CTRL e
  let s1 := s.writeGeneric a o (if s.isSet (Reg.CE_CTRL_RETIRE e) then w.setField 3 3 1 else w)
  if s1.isSet (Reg.CE_CTRL_RUN e) ∧ ¬ s.isSet (Reg.CE_CTRL_RUN e) then s1.modEngine e (fun g => { g with idleSince := s.clk })
  else s1

/-- A write of CE_SPILL_BASE or CE_SPILL_LIMIT: an area must be a multiple of 8 words (R105). -/
def writeSpill (s : State) (a e o : Nat) (w : Word) : State :=
  let x := cragMask e 15 w
  let good := if o = Reg.CE_SPILL_BASE e then x.field 2 0 = 0 else x.field 2 0 = 7
  if good then s.writeGeneric a o x else s.reject a o

/-- A read by an agent in an engine window at BAR0 offset o: the word and what was found. -/
def ceRead (s : State) (a o : Nat) : Word × Syndrome × State :=
  let e := (o - 0x400000) / 0x10000
  let r := (o - 0x400000) % 0x10000
  if r = 0x10 then (s.ceStat e, .clean, s)
  else if r = 0x48 then s.ploadRead a e
  else if r = 0x100 then let (w, s1) := s.readSlackMin e; (w, .clean, s1)
  else let (w, s1) := s.readGeneric o; (w, .clean, s1)

/-- A write by an agent in an engine window at BAR0 offset o. -/
def ceWrite (s : State) (a o : Nat) (w : Word) : State :=
  let e := (o - 0x400000) / 0x10000
  let r := (o - 0x400000) % 0x10000
  if r = 0x08 then s.writeCeCtrl a e w
  else if r = 0x38 then s.writeResume a e w
  else if r = 0x40 then s.writeGeneric a o (if e < 48 then w.setField 15 14 0 else w)
  else if r = 0x48 then s.ploadWrite a e w
  else if r = 0x50 ∨ r = 0x58 then s.writeSpill a e o w
  else if r = 0x60 ∨ r = 0x68 then s.writeGeneric a o (cragMask e 15 w)
  else s.writeGeneric a o w

end State

/-! ### The commands of the engine windows -/

/-- PLOAD_WRITE (R70). -/
def execPloadWrite (a : Nat) (e : Fin 50) (w : Word) (s : State) : Host.Outcome State Fault Refusal :=
  live s (fun s => s.ploadWrite a e w)

/-- PLOAD_READ (R105). -/
def execPloadRead (a : Nat) (e : Fin 50) (s : State) : Host.Outcome State Fault Refusal :=
  live s (fun s => let (w, syn, s1) := s.ploadRead a e; s1.emit (.read a w (syn == .uncorrectable)))

/-- TRAP_RESUME (R93). -/
def execTrapResume (a : Nat) (e : Fin 50) (s : State) : Host.Outcome State Fault Refusal :=
  live s (fun s => s.trapResume a e)

/-- TRAP_SKIP (R93). -/
def execTrapSkip (a : Nat) (e : Fin 50) (s : State) : Host.Outcome State Fault Refusal :=
  live s (fun s => s.trapSkip a e)

/-- TRAP_ABORT (R93, R155). -/
def execTrapAbort (a : Nat) (e : Fin 50) (s : State) : Host.Outcome State Fault Refusal :=
  live s (fun s => s.trapAbort a e)

/-- ENGINE_RETIRED (R512). -/
def execEngineRetired (e : Fin 48) (s : State) : Host.Outcome State Fault Refusal := live s (fun s => s.retireNow e)

/-- SLACK_MIN_READ (R105). -/
def execSlackMinRead (a : Nat) (e : Fin 50) (s : State) : Host.Outcome State Fault Refusal :=
  live s (fun s => let (w, s1) := s.readSlackMin e; s1.emit (.read a w false))

/-- SLACK_HIST_READ (R105). -/
def execSlackHistRead (a : Nat) (e : Fin 50) (b : Fin 8) (s : State) : Host.Outcome State Fault Refusal :=
  live s (fun s => let (w, s1) := s.readGeneric (Reg.CE_SLACK_HIST e b); s1.emit (.read a w false))

end Sys2Proof.Machine
end

