-- ==== Sys2Proof/Machine/Frame.lean ====
section
/-! DEFINITION. Ethernet frames as lists of octets from the destination address on, without the FCS: tags, PTP messages,
redundancy trailers, checksums and the hash of the forwarding database (spec/08 to spec/11). -/
namespace Sys2Proof.Machine

/-- Octet i of a frame; 0 past its end. -/
def octAt (f : List Nat) (i : Nat) : Nat := f.getD i 0

/-- The number in n octets from octet i, most significant first. -/
def beAt (f : List Nat) (i : Nat) : Nat → Nat
  | 0 => 0
  | n + 1 => octAt f i * 256 ^ n + beAt f (i + 1) n

/-- n octets of a number, most significant first. -/
def beOctets : Nat → Nat → List Nat
  | 0, _ => []
  | n + 1, v => v / 256 ^ n % 256 :: beOctets n v

/-- A frame with n octets from octet i replaced by those of a number. -/
def putBe (f : List Nat) (i n v : Nat) : List Nat := f.take i ++ beOctets n v ++ f.drop (i + n)

/-- What follows the source address (R259, R293): where the EtherType stands, where the first VLAN tag and the HSR tag
stand, and the number of VLAN tags. -/
structure Tags where
  etOff : Nat
  vlanOff : Option Nat := none
  hsrOff : Option Nat := none
  vlans : Nat := 0
  deriving DecidableEq, Repr

/-- Tags are skipped: at most two VLAN tags and at most one HSR tag, in any order. (PRESUMED, log 40) -/
def skipTags (f : List Nat) : Nat → Tags → Tags
  | 0, t => t
  | n + 1, t =>
    let et := beAt f t.etOff 2
    if (et = 0x8100 ∨ et = 0x88A8) ∧ t.vlans < 2 then
      skipTags f n { t with
        etOff := t.etOff + 4, vlans := t.vlans + 1
        vlanOff := if t.vlanOff.isSome then t.vlanOff else some t.etOff }
    else if et = 0x892F ∧ t.hsrOff = none then
      skipTags f n { t with etOff := t.etOff + 6, hsrOff := some t.etOff }
    else t

/-- The tags of a frame. -/
def tagsOf (f : List Nat) : Tags := skipTags f 3 { etOff := 12 }

/-- The EtherType after the tags. -/
def etherType (f : List Nat) : Nat := beAt f (tagsOf f).etOff 2

/-- Destination and source address. -/
def dstAddr (f : List Nat) : Nat := beAt f 0 6
def srcAddr (f : List Nat) : Nat := beAt f 6 6

/-! ### PTP event messages (R259) -/

/-- How a PTP message is carried. -/
inductive PtpVia where
  | ethernet
  /-- UDP/IPv4, the IP header at octet ip. -/
  | udp4 (ip : Nat)
  /-- UDP/IPv6, the IP header at octet ip. -/
  | udp6 (ip : Nat)
  deriving DecidableEq, Repr

/-- A PTP event message: where it starts, how it is carried, its messageType. -/
structure Ptp where
  off : Nat
  via : PtpVia
  type : Nat
  deriving DecidableEq, Repr

/-- Octets of a message that R263 to R269 read or write. -/
def ptpSpan (type : Nat) : Nat := match type with
  | 0 => 44
  | 3 => 20
  | _ => 16

/-- Where the part of a frame ends that the steps for its message of a type read or write: the message's fields, and over
UDP/IPv6 the end of the UDP payload, whose last two octets R265 rewrites (R259); none where the UDP length leaves no room for
them. (DEDUCED, log 40) -/
def ptpEnd (f : List Nat) (m type : Nat) : PtpVia → Option Nat
  | .udp6 ip => if 10 ≤ beAt f (ip + 44) 2 then some (max (m + ptpSpan type) (ip + 40 + beAt f (ip + 44) 2)) else none
  | _ => some (m + ptpSpan type)

/-- The PTP event message of a frame (R259), of which whole says that f holds every octet: where the frame is still coming in, its
length is taken as enough. (PRESUMED, log 40) -/
def ptpIn (f : List Nat) (whole : Bool) : Option Ptp :=
  let o := (tagsOf f).etOff
  let et := beAt f o 2
  let ip := o + 2
  let found : Option (Nat × PtpVia) :=
    if et = 0x88F7 then some (ip, .ethernet)
    else if et = 0x0800 ∧ octAt f ip = 0x45 ∧ beAt f (ip + 6) 2 % 2 ^ 14 = 0 ∧ octAt f (ip + 9) = 17
        ∧ beAt f (ip + 22) 2 = 319 then some (ip + 28, .udp4 ip)
    else if et = 0x86DD ∧ octAt f (ip + 6) = 17 ∧ beAt f (ip + 42) 2 = 319 then some (ip + 48, .udp6 ip)
    else none
  found.bind (fun (m, via) =>
    let type := octAt f m % 16
    let long : Bool := match ptpEnd f m type via with
      | some n => !whole || decide (n ≤ f.length)
      | none => false
    if octAt f (m + 1) % 16 = 2 ∧ type ≤ 3 ∧ long then some { off := m, via := via, type := type } else none)

/-- The PTP event message of a whole frame (R259). -/
def ptpOf (f : List Nat) : Option Ptp := ptpIn f true

/-- The end-around-carry sum of 16-bit words, the last octet padded with 0. -/
def onesSum : List Nat → Nat → Nat
  | [], acc => acc
  | [x], acc => let s := acc + x * 256; s % 65536 + s / 65536
  | x :: y :: r, acc => let s := acc + x * 256 + y; onesSum r (s % 65536 + s / 65536)

/-- The checksum of a changed UDP datagram is kept valid (R265). (PRESUMED, log 40) -/
def fixUdp (f : List Nat) (via : PtpVia) : List Nat :=
  match via with
  | .ethernet => f
  | .udp4 ip => putBe f (ip + 26) 2 0
  | .udp6 ip =>
    let n := beAt f (ip + 44) 2
    let tail := ip + 40 + n - 2
    let g := putBe f tail 2 0
    let sum := onesSum ((g.drop (ip + 8)).take 32 ++ [0, 0] ++ beOctets 2 n ++ [0, 17] ++ (g.drop (ip + 40)).take n) 0
    let x := 65535 - sum
    if n % 2 = 0 then putBe g tail 2 x else putBe g tail 2 (x % 256 * 256 + x / 256)

/-- d is added to correctionField, modulo 2^64 (R263, R264, R269). -/
def addCorrection (f : List Nat) (m : Nat) (d : Int) : List Nat :=
  putBe f (m + 8) 8 (((beAt f (m + 8) 8 : Int) + d) % 2 ^ 64).toNat

/-! ### Redundancy (R306 to R309) -/

/-- The size of the link service data unit a redundancy trailer counts: the octets after the EtherType.
(PRESUMED, log 43) -/
def lsduSize (f : List Nat) : Nat := f.length - ((tagsOf f).etOff + 2)

/-- The redundancy control trailer of a frame: sequence number and LanId (R307). (PRESUMED, log 43) -/
def rctOf (f : List Nat) : Option (Nat × Nat) :=
  let n := f.length
  if 20 ≤ n ∧ beAt f (n - 2) 2 = 0x88FB ∧ beAt f (n - 4) 2 % 2 ^ 12 = lsduSize f then
    some (beAt f (n - 6) 2, beAt f (n - 4) 2 / 2 ^ 12)
  else none

/-- The sequence number of a frame's HSR tag (R308). (PRESUMED, log 43) -/
def hsrSeq (f : List Nat) : Option Nat := (tagsOf f).hsrOff.map (fun o => beAt f (o + 4) 2)

/-- A frame with a redundancy control trailer appended (R309). (PRESUMED, log 43) -/
def addRct (f : List Nat) (seq lan : Nat) : List Nat :=
  f ++ beOctets 2 seq ++ beOctets 2 (lan * 2 ^ 12 + (lsduSize f + 6) % 2 ^ 12) ++ beOctets 2 0x88FB

/-- A frame with an HSR tag inserted after the source address (R309). (PRESUMED, log 43) -/
def addHsr (f : List Nat) (seq path : Nat) : List Nat :=
  f.take 12 ++ beOctets 2 0x892F ++ beOctets 2 (path * 2 ^ 12 + (lsduSize f + 6) % 2 ^ 12) ++ beOctets 2 seq ++ f.drop 12

/-- A frame without n octets from octet i on. -/
def cutAt (f : List Nat) (i n : Nat) : List Nat := f.take i ++ f.drop (i + n)

/-- A frame without its HSR tag. -/
def dropHsr (f : List Nat) : List Nat := match (tagsOf f).hsrOff with
  | some o => cutAt f o 6
  | none => f

/-- A frame without its redundancy control trailer. -/
def dropRct (f : List Nat) : List Nat := if (rctOf f).isSome then f.take (f.length - 6) else f

/-- A frame sent untagged, or with a tag of priority and VID where it had none (R297). -/
def setTag (f : List Nat) (untag : Bool) (pcp vid : Nat) : List Nat :=
  match (tagsOf f).vlanOff, untag with
  | some o, true => cutAt f o 4
  | some o, false => if beAt f (o + 2) 2 % 2 ^ 12 = 0 then putBe f (o + 2) 2 (pcp * 2 ^ 13 + vid) else f
  | none, true => f
  | none, false => f.take 12 ++ beOctets 2 0x8100 ++ beOctets 2 (pcp * 2 ^ 13 + vid) ++ f.drop 12

/-! ### CRC-16 of the forwarding database and the duplicate tables (R294, R306) -/

/-- n steps of CRC-16 with polynomial 0x1021. -/
def crc16Bits : Nat → Nat → Nat
  | 0, c => c
  | n + 1, c => crc16Bits n (if 2 ^ 15 ≤ c then (c * 2 % 2 ^ 16) ^^^ 0x1021 else c * 2)

/-- CRC-16 over octets, most significant bit first. -/
def crc16 : List Nat → Nat → Nat
  | [], c => c
  | x :: r, c => crc16 r (crc16Bits 8 (c ^^^ (x * 256)))

/-! ### The frame check sequence -/

/-- n steps of CRC-32 in reflected form. -/
def crc32Bits : Nat → Nat → Nat
  | 0, c => c
  | n + 1, c => crc32Bits n (if c % 2 = 1 then (c / 2) ^^^ 0xEDB88320 else c / 2)

/-- CRC-32 over octets, reflected, from a starting value. -/
def crc32From : List Nat → Nat → Nat
  | [], c => c
  | x :: r, c => crc32From r (crc32Bits 8 (c ^^^ x % 256))

/-- The frame check sequence of a frame, first octet sent first (IEEE 802.3). (PRESUMED, log 40) -/
def fcsOf (f : List Nat) : List Nat :=
  let c := crc32From f 0xFFFFFFFF ^^^ 0xFFFFFFFF
  [c % 256, c / 2 ^ 8 % 256, c / 2 ^ 16 % 256, c / 2 ^ 24]

/-- The check sequence of a fragment that more of its frame follows: the frame's so far, its last two octets inverted (IEEE
802.3br, R242). (PRESUMED, log 40) -/
def mcrcOf (f : List Nat) : List Nat := match fcsOf f with
  | [a, b, c, d] => [a, b, 255 - c, 255 - d]
  | l => l

/-- Whether a frame ends in its check sequence. -/
def fcsGood (f : List Nat) : Bool := 4 ≤ f.length && f.drop (f.length - 4) == fcsOf (f.take (f.length - 4))

/-- Octets packed four to a word with the control bits 0, the last octet's control bit 1 where mark is set (R4, R187). -/
def packWords (mark : Bool) : List Nat → List Word
  | [] => []
  | [a] => [(Word.ofOctets a 0 0 0).setNonet 0 (a % 256 + 256 * bit01 mark)]
  | [a, b] => [(Word.ofOctets a b 0 0).setNonet 1 (b % 256 + 256 * bit01 mark)]
  | [a, b, c] => [(Word.ofOctets a b c 0).setNonet 2 (c % 256 + 256 * bit01 mark)]
  | [a, b, c, d] => [(Word.ofOctets a b c d).setNonet 3 (d % 256 + 256 * bit01 mark)]
  | a :: b :: c :: d :: r => Word.ofOctets a b c d :: packWords mark r

/-- The octets of words. -/
def unpackWords (ws : List Word) : List Nat := ws.flatMap (fun w => [w.octet 0, w.octet 1, w.octet 2, w.octet 3])

/-- The n octets of a number, little-endian. -/
def leOctets : Nat → Nat → List Nat
  | 0, _ => []
  | n + 1, v => v % 256 :: leOctets n (v / 256)

end Sys2Proof.Machine
end

