-- ==== Sys2Proof/Machine/Reset.lean ====
section
/-! DEFINITION. Power-on and warm reset: what each keeps, and the start of the boot flow (spec/16_startup_power.md R450 to
R454), and the start of a steward's program. -/
namespace Sys2Proof.Machine

/-- The registers of the VDD_AON domain beside the fuses: the tamper registers and the vault's status (R452, R496). -/
def aonRegs : List Nat := [Reg.FWC_TAMPER_CTRL, Reg.FWC_TAMPER_STAT, Reg.VAULT_STAT]

/-- Whether a stored word lies in the vault. -/
def inVault (key : Nat) : Bool := memKey 4 0 0 ≤ key && key < memKey 4 0 0 + arraySize 4 0

/-- The marches a boot starts with: none under fast boot (R208, R454). (DESIGN CHOICE, log 36) -/
def Straps.marches (x : Straps) : List March := if x.bootFast then [] else bootMarches

/-- Whether bank k is set as a 3.3 V bank: its voltage at the release of PORn is not that of a 1.8 V bank (R527, R531). -/
def Straps.bank33 (x : Straps) (k : Nat) : Bool := let v := x.vddio.getD k 0; !(decide (1710 ≤ v) && decide (v ≤ 1890))

/-- Whether bank k is out of both ranges (R527, R531). -/
def Straps.bankOut (x : Straps) (k : Nat) : Bool :=
  let v := x.vddio.getD k 0
  x.bank33 k && !(decide (3135 ≤ v) && decide (v ≤ 3465))

/-- Firmware control after a reset: the flash and the detections still to report stay (R452, R473). -/
def Fwc.afterReset (f : Fwc) : Fwc := { flash := f.flash, unreported := f.unreported }

namespace State

/-- The machine at the start of a boot (R452, R454): the queue of commands, the model's own counters, the fuses, the flash, the
level of PERSTn and the VDD_AON domain stay; warm keeps the soft repair maps and the words that no march has cleared.
(DEDUCED, log 34; DESIGN CHOICE, log 36) -/
def boot (s : State) (warm : Bool) (straps : Straps) : State :=
  let mem := if warm then s.mem else s.mem.filter (fun e => inVault e.1)
  let s1 : State := { State.reset with
    pending := s.pending, clk := s.clk, freeCtr := s.freeCtr, outs := s.outs
    fuses := s.fuses, straps := straps, mem := mem, fwc := s.fwc.afterReset
    hostIf := { perst := s.hostIf.perst, perstAt := s.hostIf.perstAt }
    prc := { measuredAt := s.clk, refreshedAt := s.clk }
    memc := { marches := straps.marches, testing := List.range 55, fused := s.memc.fused, sealed := s.memc.sealed, wiping := s.memc.wiping
              soft := if warm then s.memc.soft else [], unusable := if warm then s.memc.unusable else [] } }
  let s2 := aonRegs.foldl (fun x o => x.setReg o (s.reg o)) s1
  ((s2.setFld Reg.TBU_OSC_CTRL_FREQ_A (bit01 straps.refFreqA)).setFld Reg.TBU_OSC_CTRL_FREQ_B (bit01 straps.refFreqB)).trainLink

/-- A warm reset with the causes of a mask of PRC_RSTCAUSE bits (R452). (DEDUCED, log 34) -/
def warmReset (s : State) (cause : Nat) : State :=
  let old := (s.reg Reg.PRC_RSTCAUSE).toNat
  (s.boot true s.straps).setReg Reg.PRC_RSTCAUSE (Word.ofN (old ||| cause))

/-- Power-on reset takes hold of the device; aonLost says that VDD_AON was lost as well (R450). -/
def powerOff (s : State) (aonLost : Bool) : State :=
  { s with held := true, prc := { s.prc with aonLost := s.prc.aonLost || aonLost } }

/-- What the loss of VDD_AON leaves: an empty vault, VAULT_STAT.LOST, and the tamper registers at reset (R216, R496).
(DEDUCED, log 34) -/
def afterAonLoss (s : State) : State :=
  let s1 := { s.clearArray 4 0 with memc := { s.memc with sealed := [], wiping := none } }
  let s2 := (s1.setReg Reg.FWC_TAMPER_CTRL 0).setReg Reg.FWC_TAMPER_STAT 0
  { (s2.setReg Reg.VAULT_STAT 0).setFld Reg.VAULT_STAT_LOST 1 with fwc := { s2.fwc with unreported := [] } }

/-- The reports of tamper detections made while the core was off (R497). (DEDUCED, log 57) -/
def reportTampers (s : State) : State :=
  let s1 := s.fwc.unreported.foldl (fun s k => (s.raise 196).report 0xBB 196 k 0 0 0) s
  { s1 with fwc := { s1.fwc with unreported := [] } }

/-- The I/O banks are sensed at the release of PORn: one out of both ranges raises VMON_ALARM (R531). (DESIGN CHOICE, log 68) -/
def senseBanks (s : State) : State := if (List.range 8).any s.straps.bankOut then s.raise 1 else s

/-- The release of PORn: the straps are latched, the banks sensed, and the boot starts (R451, R454, R497, R531).
(DEDUCED, log 34) -/
def powerOn (s : State) (straps : Straps) : State :=
  let lost := s.prc.aonLost
  let s1 := s.boot false straps
  let s2 := if lost then s1.afterAonLoss else s1
  (s2.setReg Reg.PRC_RSTCAUSE (Word.ofN (1 + 16 * bit01 lost))).senseBanks.reportTampers

/-- The CPU state of a steward that starts its program at word 0 of the active bank (R73, R454). (DEDUCED, log 70) -/
def startSteward (s : State) (i : Nat) : State :=
  let e := 48 + i
  let dsp := s.fld (Reg.CE_DS_BASE_ADDR e)
  let halt := (s.engine e).haltNext
  let s1 := s.modEngine e (fun g => { g with
    regs := [], pc := 0, wb := 0, rstack := [], spilled := 0, dsp := dsp, z := false, n := false, c := false, v := false
    snap := 0, run := some { talus := false }, stall := none, dst := none, trapped := false
    flagged := false, undo := [], ckpt := none, halted := halt, haltNext := false })
  let s2 := s1.setFld (Reg.CE_CTRL_RUN e) 1
  (if halt then s2.raise 210 else s2).holdStart e

/-- Both stewards start: SE0 active, SE1 standby (R454 step 3). (DEDUCED, log 5) -/
def startStewards (s : State) : State :=
  let s1 := s.setFld Reg.TALUS_CTRL_ACTIVE_SE 0
  let s2 := (s1.startSteward 0).startSteward 1
  let s3 := s2.setFld Reg.PRC_STAT_STANDBY_OK 1
  { s3 with prc := { s3.prc with
      kick0 := s3.clk, kick1 := s3.clk, missed0 := false, missed1 := false, bootHalted := false } }

end State
end Sys2Proof.Machine
end

