-- ==== Sys2Proof/Machine/Flash.lean ====
section
/-! DEFINITION. The flash as firmware control reads and writes it: check words, state records, images and their proof, and
configuration blocks (spec/17_firmware_configuration.md R472 to R478, R489). -/
namespace Sys2Proof.Machine

/-- n bits of a CRC-32C, reflected. -/
def crc32cBits : Nat → Nat → Nat
  | 0, c => c
  | n + 1, c => crc32cBits n (if c % 2 = 1 then (c / 2) ^^^ 0x82F63B78 else c / 2)

/-- The CRC-32C register after octets. -/
def crc32cFrom : List Nat → Nat → Nat
  | [], c => c
  | x :: r, c => crc32cFrom r (crc32cBits 8 (c ^^^ x % 256))

/-- CRC-32C with initial value 0xFFFF_FFFF and a final inversion (R489). -/
def crc32c (l : List Nat) : Nat := crc32cFrom l 0xFFFFFFFF ^^^ 0xFFFFFFFF

/-- Octets i to i + n − 1 as a little-endian number. -/
def leAt (l : List Nat) (i n : Nat) : Nat := ((l.drop i).take n).foldr (fun x v => x % 256 + 256 * v) 0

/-- Whether octets i to j − 1 are all 0. -/
def zeroAt (l : List Nat) (i j : Nat) : Bool := ((l.drop i).take (j - i)).all (· == 0)

/-! ### The boot header (R474) -/

/-- Whether a copy of the boot header holds. -/
def headerHolds (h : List Nat) : Bool :=
  h.length == 32768 && beAt h 0 4 == 0x4B564248 && beAt h 4 2 == 1 && zeroAt h 28 32764
    && decide (25 ≤ beAt h 10 1 ∧ beAt h 10 1 ≤ 200) && decide (4 ≤ beAt h 11 1 ∧ beAt h 11 1 ≤ 31)
    && decide (beAt h 22 1 ≤ 7) && beAt h 32764 4 == crc32c (h.take 32764)

/-! ### State records (R475) -/

/-- Whether two records have one key. -/
def StateRec.sameKey : StateRec → StateRec → Bool
  | .slot a _ _, .slot b _ _ => a == b
  | .bitmap a g _, .bitmap b h _ => a == b && g == h
  | .activeCfg _ _, .activeCfg _ _ => true
  | .slotCfg a _ _, .slotCfg b _ _ => a == b
  | _, _ => false

/-- Records of a sector of the state area. (DESIGN CHOICE, log 62) -/
def recsPerSector : Nat := 1024

/-- Keys a state area can hold: two slots, 192 groups of each, the active bank, two slot configurations. -/
def recKeys : Nat := 389

/-- The standing records of the flash, sector by sector. -/
def Flash.records (f : Flash) : List (Nat × StateRec) := f.sectors.flatMap (·.2)

/-- The record in force for the key of r: the one with the highest sequence number. -/
def Flash.inForce (f : Flash) (r : StateRec) : Option (Nat × StateRec) :=
  (f.records.filter (fun x => x.2.sameKey r)).foldl (fun b x => match b with
    | some y => if y.1 < x.1 then some x else some y
    | none => some x) none

/-- A record is appended to the sector being written. -/
def Flash.append (f : Flash) (r : StateRec) : Flash :=
  { f with
    sectors := Tab.put [] f.sector (Tab.get [] f.sector f.sectors ++ [(f.seq, r)]) f.sectors
    seq := f.seq + 1 }

/-- Records the sector being written still has room for. (DESIGN CHOICE, log 62) -/
def Flash.room (f : Flash) : Nat := recsPerSector - (Tab.get [] f.sector f.sectors).length

/-- The oldest sector: the one that follows the sector being written in the rotation. (DESIGN CHOICE, log 62) -/
def Flash.oldest (f : Flash) : Nat := (f.sector + 1) % 16

/-- The records in force of the oldest sector are copied into the current one, and the oldest sector is erased.
(DESIGN CHOICE, log 62) -/
def Flash.rotate (f : Flash) : Flash :=
  let live := (Tab.get [] f.oldest f.sectors).filter (fun x => f.inForce x.2 == some x)
  let g := live.foldl (fun g x => g.append x.2) f
  { g with sectors := Tab.put [] f.oldest [] g.sectors }

/-- An update writes one new record; the oldest sector is given up before the current one fills. -/
def Flash.write (f : Flash) (r : StateRec) : Flash :=
  let g := if f.room ≤ recKeys + 1 ∧ Tab.get [] f.oldest f.sectors ≠ [] then f.rotate else f
  (if g.room = 0 then { g with sector := g.oldest } else g).append r

/-- STATE and TRIAL_FAILED of a slot; EMPTY where no record stands. -/
def Flash.slotState (f : Flash) (k : Nat) : Nat × Bool :=
  match f.inForce (.slot k 0 false) with
  | some (_, .slot _ st failed) => (st, failed)
  | _ => (0, false)

/-- The states of the pieces of group g of a slot. -/
def Flash.groupStates (f : Flash) (k g : Nat) : Nat :=
  match f.inForce (.bitmap k g 0) with
  | some (_, .bitmap _ _ x) => x
  | _ => 0

/-- The state of a piece: 0 NONE, 1 PENDING, 2 OK (R500). -/
def Flash.pieceState (f : Flash) (k p : Nat) : Nat := f.groupStates k (p / 128) / 4 ^ (p % 128) % 4

/-- The flash with the state of a piece recorded. -/
def Flash.putPieceState (f : Flash) (k p v : Nat) : Flash :=
  let x := f.groupStates k (p / 128)
  let i := p % 128
  f.write (.bitmap k (p / 128) (x / 4 ^ (i + 1) * 4 ^ (i + 1) + v % 4 * 4 ^ i + x % 4 ^ i))

/-- Pieces of a slot that are OK. -/
def Flash.okCount (f : Flash) (k : Nat) : Nat :=
  (List.range 192).foldl (fun n g =>
    let x := f.groupStates k g
    n + (List.range 128).countP (fun i => x / 4 ^ i % 4 == 2)) 0

/-- The active configuration bank and its GENERATION. -/
def Flash.activeCfg (f : Flash) : Nat × Nat :=
  match f.inForce (.activeCfg 0 0) with
  | some (_, .activeCfg b g) => (b, g)
  | _ => (0, 0)

/-- The bank and GENERATION recorded with a COMMITTED slot. -/
def Flash.slotCfg (f : Flash) (k : Nat) : Option (Nat × Nat) :=
  match f.inForce (.slotCfg k 0 0) with
  | some (_, .slotCfg _ b g) => some (b, g)
  | _ => none

/-- The flash with STATE and TRIAL_FAILED of a slot recorded. -/
def Flash.putSlot (f : Flash) (k st : Nat) : Flash := f.write (.slot k st (f.slotState k).2)

/-! ### Images (R476, R477) -/

/-- The octets of a piece. -/
def Flash.piece (f : Flash) (k p : Nat) : List Nat := Tab.get [] (24576 * k + p) f.pieces

/-- The flash with a piece stored. -/
def Flash.putPiece (f : Flash) (k p : Nat) (l : List Nat) : Flash :=
  { f with pieces := Tab.put [] (24576 * k + p) l f.pieces }

/-- The flash with the pieces and the bitmap of a slot erased. -/
def Flash.eraseSlot (f : Flash) (k : Nat) : Flash :=
  let g := { f with pieces := Tab.drop (fun x => x / 24576 == k) f.pieces }
  (List.range 192).foldl (fun g i => if g.groupStates k i = 0 then g else g.write (.bitmap k i 0)) g

/-- T, the pieces of the digest table of the image in a slot. -/
def Flash.tablePieces (f : Flash) (k : Nat) : Nat := beAt (f.piece k 0) 16 4

/-- B, the pieces of its body. -/
def Flash.bodyPieces (f : Flash) (k : Nat) : Nat := beAt (f.piece k 0) 20 4

/-- Its security version. -/
def Flash.svn (f : Flash) (k : Nat) : Nat := beAt (f.piece k 0) 8 4

/-- The configuration version its firmware uses. -/
def Flash.cfgVersion (f : Flash) (k : Nat) : Nat := beAt (f.piece k 0) 24 2

/-- Octets off to off + n − 1 of the body. -/
def Flash.body (f : Flash) (k off n : Nat) : List Nat :=
  let t := f.tablePieces k
  let first := off / 1024
  let count := (off + n + 1023) / 1024 - first
  (((List.range count).flatMap (fun i => f.piece k (1 + t + first + i))).drop (off % 1024)).take n

/-- The digest that the table gives for body piece j, counted from 0. -/
def Flash.bodyDigest (f : Flash) (k j : Nat) : Nat := beAt (f.piece k (1 + j / 21)) (48 * (j % 21)) 48

/-- The digest of the table pieces in order. -/
def Flash.tableDigest (f : Flash) (k : Nat) : Nat :=
  Config.sha384 ((List.range (f.tablePieces k)).flatMap (fun i => f.piece k (1 + i)))

/-- The entries of a section directory up to its end. -/
def sectionsFrom (dir : List Nat) : Nat → List (Nat × Nat × Nat × Nat)
  | 0 => []
  | n + 1 =>
    if beAt dir 0 2 = 0 then []
    else (beAt dir 0 2, beAt dir 2 2, beAt dir 4 4, beAt dir 8 4) :: sectionsFrom (dir.drop 16) n

/-- The sections of the image in a slot: type, argument, offset, length (R477). -/
def Flash.sections (f : Flash) (k : Nat) : List (Nat × Nat × Nat × Nat) := sectionsFrom (f.body k 0 1024) 64

/-- The octets of the first section of a type with an argument that satisfies p. -/
def Flash.part (f : Flash) (k ty : Nat) (p : Nat → Bool) : Option (List Nat) :=
  ((f.sections k).find? (fun x => x.1 == ty && p x.2.1)).map (fun x => f.body k x.2.2.1 x.2.2.2)

/-- The program section of a Crag engine (R477). -/
def Flash.engineProgram (f : Flash) (k e : Nat) : Option (List Nat) :=
  match f.part k 2 (· == e) with
  | some l => some l
  | none => f.part k 2 (· == 0xFFFF)

/-- Entries of an entry table: task number and entry point. -/
def entriesFrom (l : List Nat) : Nat → List (Nat × Nat)
  | 0 => []
  | n + 1 => (beAt l 0 2, beAt l 2 2) :: entriesFrom (l.drop 4) n

/-- The entry table of the image in a slot (R477). -/
def Flash.entryTable (f : Flash) (k : Nat) : List (Nat × Nat) :=
  match f.part k 3 (fun _ => true) with
  | some l => entriesFrom l (l.length / 4)
  | none => []

/-- The factory default of a configuration block in the image of a slot: the defaults section holds blocks laid out as R489
one after another (R477, R490). DEDUCED (log 50). -/
def findDefault (b : Nat) : Nat → List Nat → Option (List Nat)
  | 0, _ => none
  | n + 1, l =>
    if l.length < 20 then none
    else
      let size := 20 + leAt l 4 4
      if leAt l 0 2 = b then some (l.take size) else findDefault b n (l.drop size)

/-! ### Configuration blocks (R489) -/

/-- A block laid out with its check word. (DEDUCED, log 50) -/
def blockOctets (ident version gen : Nat) (payload : List Nat) : List Nat :=
  let l := leOctets 2 ident ++ leOctets 2 version ++ leOctets 4 payload.length ++ leOctets 4 gen ++ [0, 0, 0, 0] ++ payload
  l ++ leOctets 4 (crc32c l)

/-- Whether the octets are one block whose length field and check word hold. -/
def blockHolds (l : List Nat) : Bool :=
  decide (20 ≤ l.length ∧ l.length = 20 + leAt l 4 4 ∧ leAt l 4 4 ≤ 16368 ∧ leAt l 0 2 < 1024) && zeroAt l 12 16
    && leAt l (16 + leAt l 4 4) 4 == crc32c (l.take (16 + leAt l 4 4))

/-- A block of a configuration bank. -/
def Flash.cfgBlock (f : Flash) (bank b : Nat) : List Nat := Tab.get [] (1024 * bank + b) f.cfg

/-- The blocks of a bank. -/
def Flash.cfgBank (f : Flash) (bank : Nat) : List (List Nat) :=
  (f.cfg.filter (fun e => e.1 / 1024 == bank)).map (·.2)

/-- The GENERATION all blocks of a bank agree on. -/
def Flash.bankGen (f : Flash) (bank : Nat) : Option Nat :=
  match (f.cfgBank bank).map (fun l => leAt l 8 4) with
  | [] => none
  | g :: gs => if gs.all (· == g) then some g else none

namespace State

/-- s with the flash replaced. -/
def setFlash (s : State) (f : Flash) : State := { s with fwc := { s.fwc with flash := f } }

/-- Words of Shelf RAM as octets, four a word, read by the device itself (R4, R480). -/
def shelfOctets (s : State) (a : Nat) : Nat → List Nat × State
  | 0 => ([], s)
  | n + 1 =>
    let (w, _, s1) := s.memRead 0 2 0 (a % 65536) true
    let (l, s2) := s1.shelfOctets (a + 1) n
    (w.octet 0 :: w.octet 1 :: w.octet 2 :: w.octet 3 :: l, s2)

/-- One word of Shelf RAM, or the nonets of a mask, is written by the device itself through port A; the words of a FULL mailbox
are guarded (R169, R189). -/
def shelfPut (s : State) (a mask : Nat) (w : Word) : State :=
  if s.mailGuard (a % 65536) then s.mbxRefuse ((mailboxOf (a % 65536)).getD 0) 0 6
  else s.agentWrite 0 2 (a % 65536) mask w

/-- Octets are copied to Shelf RAM, four a word; a last word that is not full leaves its other octets (R4, R490). -/
def toShelf (s : State) (a : Nat) : List Nat → State
  | x :: y :: z :: u :: l => (s.shelfPut a 15 (Word.ofOctets x y z u)).toShelf (a + 1) l
  | [x, y, z] => s.shelfPut a 7 (Word.ofOctets x y z 0)
  | [x, y] => s.shelfPut a 3 (Word.ofOctets x y 0 0)
  | [x] => s.shelfPut a 1 (Word.ofOctets x 0 0 0)
  | [] => s

/-- Why a header is not accepted: 0 where it is, else the REASON of R500 (R476, R478). (DEDUCED, log 53) -/
def headerReason (s : State) (h : List Nat) : Nat :=
  let t := beAt h 16 4
  let b := beAt h 20 4
  let k := beAt h 6 2
  let key := (h.drop 80).take 97
  if h.length ≠ 1024 ∨ beAt h 0 4 ≠ 0x4B56494D ∨ beAt h 4 2 ≠ 1 ∨ 4 ≤ k ∨ 64 ≤ beAt h 8 4 ∨ b = 0 ∨ 23457 < b
      ∨ t ≠ (b + 20) / 21 ∨ beAt h 80 1 ≠ 4
      ∨ ¬ (zeroAt h 28 32 && zeroAt h 177 180 && zeroAt h 276 1024) then 1
  else if s.fuses.lifecycle ≠ 0 ∧ (Tab.get 0 k s.fuses.keys ≠ Config.sha384 key ∨ ¬ s.fuses.keyValid.testBit k) then 2
  else if s.fuses.lifecycle ≠ 0 ∧ s.fuses.keyRevoked.testBit k then 3
  else if beAt h 8 4 < s.fuses.minSvn then 4
  else if ¬ Config.ecdsaP384 key (Config.sha384 (h.take 180)) ((h.drop 180).take 96) then 5
  else 0

/-- Whether the header of the image in a slot has been accepted. -/
def headerOk (s : State) (k : Nat) : Bool := s.fwc.flash.pieceState k 0 == 2

/-- Whether a slot holds a steward image that passes the loader's verification: the header, and the digest of every piece of the
steward section (R483); nothing is booted in SCRAPPED (R494). -/
def bootable (s : State) (k : Nat) : Bool :=
  let f := s.fwc.flash
  s.fuses.lifecycle != 4 && s.headerReason (f.piece k 0) == 0 &&
    (match (f.sections k).find? (fun x => x.1 == 1) with
     | none => false
     | some (_, _, off, n) =>
       (List.range ((off + n + 1023) / 1024 - off / 1024)).all (fun i =>
         Config.sha384 (f.piece k (1 + f.tablePieces k + (off / 1024 + i))) == f.bodyDigest k (off / 1024 + i)))

/-- A program, 14-bit words in two octets each, is written into a bank of an engine from word 0 on (R70, R477). -/
def loadProgram (s : State) (e bank a : Nat) : List Nat → State
  | x :: y :: l =>
    if bankSize e ≤ a then s
    else (s.memWrite (engineCtrl e) (bank + 1) a (Word.ofN ((256 * x + y) % 2 ^ 14))).loadProgram e bank (a + 1) l
  | _ => s

/-- GCTL_ID with the grade of the part (R2, R34). -/
def gctlId (s : State) : Word := (s.reg Reg.GCTL_ID).setField 3 0 s.fuses.grade

/-- The Device Serial Number, most significant octet first (R426). -/
def serialOctets (s : State) : List Nat :=
  (leOctets 8 (s.gctlId.toNat * 2 ^ 28 + s.fuses.serial % 2 ^ 28)).reverse

end State
end Sys2Proof.Machine
end

