-- ==== Sys2Proof/Machine/Gctl.lean ====
section
/-! DEFINITION. Global control: identity, telemetry and its alarms (spec/01_architecture.md R23, R33 to R35;
spec/16_startup_power.md R459). -/
namespace Sys2Proof.Machine

/-- Recommended range of a supply in mV: 0 VDD_CORE, 1 VDD_EDGE, 2 VDD_SRAM, 3 VDD_AON (R527). -/
def supplyRange (k : Nat) : Nat × Nat := if k = 0 then (675, 850) else (776, 824)

/-- The reading of a supply in mV. -/
def Supplies.reading (m : Supplies) (k : Nat) : Nat :=
  match k with
  | 0 => m.core
  | 1 => m.edge
  | 2 => m.sram
  | _ => m.aon

/-- Whether a supply is outside its recommended range. -/
def Supplies.breach (m : Supplies) (k : Nat) : Bool :=
  decide (m.reading k < (supplyRange k).1 ∨ (supplyRange k).2 < m.reading k)

/-- The upper limit of Tj for a grade, in 0.25 °C: 110 °C for grade I, 125 °C for grade E (R527). -/
def tjLimit (grade : Nat) : Int := if grade = 2 then 500 else 440

namespace State

/-- A supply is judged: an alarm and a record when it leaves its range (R23, R459). (DEDUCED, log 68) -/
def judgeSupply (m : Supplies) (s : State) (k : Nat) : State :=
  let known := s.prc.alarmed.contains k
  if m.breach k then
    if known then s
    else
      let s1 := { s with prc := { s.prc with alarmed := k :: s.prc.alarmed } }
      let s2 := (s1.setFld Reg.GCTL_STATUS_VMON 1).setFld Reg.GCTL_STATUS_SUPPLY k
      (s2.raise 1).report 0xBA 1 k (m.reading k) 0 0
  else { s with prc := { s.prc with alarmed := s.prc.alarmed.filter (· != k) } }

/-- The junction temperature is judged against the grade's limit (R23, R459). (DEDUCED, log 68) -/
def judgeTj (s : State) (tj : Nat) : State :=
  let known := s.prc.alarmed.contains 4
  if tjLimit s.fuses.grade < signed 12 (tj % 2 ^ 12) then
    if known then s
    else
      let s1 := { s with prc := { s.prc with alarmed := 4 :: s.prc.alarmed } }
      ((s1.setFld Reg.GCTL_STATUS_TEMP 1).raise 2).report 0xBA 2 0 (tj % 2 ^ 12) 0 0
  else { s with prc := { s.prc with alarmed := s.prc.alarmed.filter (· != 4) } }

/-- The supplies and Tj are measured, 1 ms after the last time (R459). -/
def measure (s0 : State) (m : Supplies) : State :=
  let s := s0.advanceTo (s0.prc.measuredAt + Config.ms)
  let s1 := { s with prc := { s.prc with measured := m, measuredAt := s.clk } }
  ([0, 1, 2, 3].foldl (judgeSupply m) s1).judgeTj m.tj

/-- The telemetry is refreshed, TELEM_MS after the last time (R459). (DEDUCED, log 68) -/
def refresh (s0 : State) (fab core : Nat) : State :=
  let sa := s0.advanceTo (s0.prc.refreshedAt + s0.fld Reg.GCTL_CTRL_TELEM_MS * Config.ms)
  let s := { sa with prc := { sa.prc with refreshedAt := sa.clk } }
  let m := s.prc.measured
  let w0 := m.core % 2 ^ 12 + 2 ^ 12 * (m.edge % 2 ^ 12) + 2 ^ 24 * (m.sram % 2 ^ 12)
  let w1 := m.aon % 2 ^ 12 + 2 ^ 12 * (m.tj % 2 ^ 12)
  let s1 := (s.setReg Reg.PRC_TELEM0 (Word.ofN w0)).setReg Reg.PRC_TELEM1 (Word.ofN w1)
  (s1.setReg Reg.GCTL_TELEM (Word.ofN (fab % 2 ^ 12 + 2 ^ 12 * (core % 2 ^ 12)))).raise 3

/-- A read in the GCTL block at BAR0 offset o. -/
def gctlRead (s : State) (o : Nat) : Word × State :=
  if o = Reg.GCTL_ID then (s.gctlId, s)
  else if o = Reg.GCTL_SERIAL then (Word.ofN (s.fuses.serial % 2 ^ 28), s)
  else s.readGeneric o

end State

/-- SUPPLY_MEASURE (R459). -/
def execSupplyMeasure (m : Supplies) (s : State) : Host.Outcome State Fault Refusal := live s (fun s => s.measure m)

/-- TELEMETRY_REFRESH (R459), with the rates of GCTL_TELEM as measured (R34). -/
def execTelemetryRefresh (fab core : Nat) (s : State) : Host.Outcome State Fault Refusal :=
  live s (fun s => s.refresh fab core)

/-- GCTL_REJECT_READ (R34). -/
def execGctlRejectRead (a : Nat) (s : State) : Host.Outcome State Fault Refusal :=
  live s (fun s => let (w, s1) := s.readGeneric Reg.GCTL_REJECT; s1.emit (.read a w false))

end Sys2Proof.Machine
end

