-- ==== Sys2Proof/Machine/Evc.lean ====
section
/-! DEFINITION. The event controller: status, enables, vectors, hold-off, the MSI-X table (spec/15_host_interface.md R440 to
R443). -/
namespace Sys2Proof.Machine
namespace State

/-- Every vector that a status or enable word change concerns is sent once (R441); es are the events of the change. -/
def sendVectors (s : State) (es : List Nat) : State :=
  let vs := (es.map (fun e => s.fld (Reg.EVC_MAP_VEC e))).eraseDups
  vs.foldl (fun s v => if s.summary v then s.sendVector v else s) s

/-- The events of word k that a mask names. -/
def eventsOf (k : Nat) (w : Word) : List Nat := ((List.range 32).filter (fun j => w.bit j)).map (fun j => 32 * k + j)

/-- Whether what raises event e lasts: an event that is raised while a FIFO is not empty (R55, R64, R261, R274,
R404). -/
def levelHolds (s : State) (e : Nat) : Bool :=
  if 32 ≤ e ∧ e ≤ 39 then !(Tab.get {} (e - 32) s.tbu.caps).fifo.isEmpty
  else e == 96 && s.macs.any (fun m => !m.2.stamps.isEmpty) || e == 146 && s.cans.any (fun c => !c.2.records.isEmpty)

/-- A write of EVC_STATk (R441): status bits are cleared, those whose cause lasts are raised again at once (R440), and vectors
still summarised are sent again. -/
def writeEvcStat (s : State) (a k : Nat) (w : Word) : State :=
  let es := eventsOf k w
  let s1 := s.writeGeneric a (Reg.EVC_STAT k) w
  ((es.filter s1.levelHolds).foldl markEvent s1).sendVectors es

/-- The event numbers that R444 names, as closed ranges. -/
def namedEvents : List (Nat × Nat) :=
  [(0, 4), (16, 28), (32, 53), (56, 59), (64, 69), (72, 83), (88, 93), (96, 99), (104, 110), (112, 118), (128, 136), (144, 150),
   (152, 154), (160, 181), (184, 186), (188, 196), (200, 203), (208, 210), (224, 255)]

/-- Whether event e is one that R444 names; the bits of the others are reserved (R445, R448). -/
def eventNamed (e : Nat) : Bool := namedEvents.any (fun r => decide (r.1 ≤ e ∧ e ≤ r.2))

/-- A word without the bits of word k that belong to reserved events (R448). -/
def namedBits (k : Nat) (w : Word) : Word :=
  (List.range 32).foldl (fun w j => if eventNamed (32 * k + j) then w else w.setField j j 0) w

/-- A write of EVC_ENk (R441). -/
def writeEvcEn (s : State) (a k : Nat) (w : Word) : State :=
  let old := s.reg (Reg.EVC_EN k)
  let s1 := s.writeGeneric a (Reg.EVC_EN k) (namedBits k w)
  s1.sendVectors ((eventsOf k (namedBits k w)).filter (fun e => !old.bit (e % 32) && s1.eventActive e))

/-- A write by an agent in the EVC block at BAR0 offset o, outside the MSI-X table. -/
def evcWrite (s : State) (a o : Nat) (w : Word) : State :=
  let r := o - 0x010000
  if r = 0x010 then s.raise (224 + w.field 4 0)
  else if 0x100 ≤ r ∧ r < 0x140 then s.writeEvcStat a ((r - 0x100) / 8) w
  else if 0x140 ≤ r ∧ r < 0x180 then s.writeEvcEn a ((r - 0x140) / 8) w
  else s.writeGeneric a o w

/-- A read in the EVC block at BAR0 offset o, outside the MSI-X table. -/
def evcRead (s : State) (o : Nat) : Word × State :=
  if o = Reg.EVC_VSUM then
    (Word.ofN ((List.range 32).foldl (fun n v => n + 2 ^ v * bit01 (s.summary v)) 0), s)
  else s.readGeneric o

/-- Dword d of the MSI-X table and the PBA, from BAR0 0x018000 on (R442). -/
def msixRead (s : State) (d : Nat) : Nat :=
  if d < 128 then
    let x := s.vector (d / 4)
    match d % 4 with
    | 0 => x.addr % 2 ^ 32
    | 1 => x.addr / 2 ^ 32
    | 2 => x.data
    | _ => bit01 x.masked
  else if d = 1024 then (List.range 32).foldl (fun n v => n + 2 ^ v * bit01 (s.vector v).pending) 0
  else 0

/-- A write of dword d of the MSI-X table (R441, R442): a message that a mask has held back leaves when the mask clears. -/
def msixWrite (s : State) (d v : Nat) : State :=
  if 128 ≤ d then s
  else
    let n := d / 4
    let x := s.vector n
    match d % 4 with
    | 0 => s.setVector n { x with addr := x.addr / 2 ^ 32 * 2 ^ 32 + v / 4 * 4 % 2 ^ 32 }
    | 1 => s.setVector n { x with addr := x.addr % 2 ^ 32 + v % 2 ^ 32 * 2 ^ 32 }
    | 2 => s.setVector n { x with data := v % 2 ^ 32 }
    | _ =>
      let s1 := s.setVector n { x with masked := v % 2 == 1 }
      if x.pending ∧ v % 2 = 0 then s1.message n else s1

end State

/-- SWSET (R440): a write of i to EVC_SWSET by agent a. -/
def execSwset (a : Nat) (i : Fin 32) (s : State) : Host.Outcome State Fault Refusal :=
  live s (fun s => s.evcWrite a Reg.EVC_SWSET (Word.ofN i))

/-- EVC_STAT_CLEAR (R441): a W1C write of EVC_STATk by agent a. -/
def execEvcStatClear (a : Nat) (k : Fin 8) (w : Word) (s : State) : Host.Outcome State Fault Refusal :=
  live s (fun s => s.writeEvcStat a k w)

/-- VHOLD_EXPIRY (R441): the hold-off of vector v ends. -/
def execVholdExpiry (v : Fin 32) (s : State) : Host.Outcome State Fault Refusal :=
  live s (fun s =>
    let x := s.vector v
    match x.held, x.last with
    | true, some t =>
      let s1 := s.advanceTo (t + s.fld (Reg.EVC_VHOLD_HOLD v) * Config.us)
      if s1.summary v then s1.message v else s1.setVector v { s1.vector v with held := false }
    | _, _ => s)

end Sys2Proof.Machine
end

