-- ==== Sys2Proof/Machine/MacPort.lean ====
section
/-! DEFINITION. What every function of a MAC port rests on: line instants, rates, counters, events, the declared link state
and its timers, and the control frames a port is asked to send (spec/08_ethernet_mac.md R224 to R234). -/
namespace Sys2Proof.Machine

/-- An octet time at a rate code of MAC_STAT.RATE, in fifths of a sixteenth of a nanosecond. -/
def octetTime (rate : Nat) : Nat := match rate with
  | 0 => 64000
  | 1 => 6400
  | 2 => 640
  | 3 => 256
  | _ => 64

/-- The start interval of a mode and rate (R236). -/
def startInterval (mode rate : Nat) : Nat :=
  if mode = 5 then (if rate = 1 then 3200 else 32000)
  else match rate with
    | 0 => 64000
    | 1 => 6400
    | 2 => 640
    | _ => 256

/-- The timestamp corrections RX and TX of a mode and rate, in sixteenths (R255). -/
def tsConst (mode rate : Nat) : Nat × Nat :=
  match mode, rate with
  | 0, _ => (0, 0)
  | 5, 1 => (320, 192)
  | 5, _ => (3200, 1920)
  | _, 0 => (128128, 96256)
  | _, 1 => (12928, 9856)
  | _, 2 => (1408, 896)
  | _, 3 => (717, 486)
  | _, _ => (563, 358)

/-- Whether port p accepts a mode (R224). -/
def modeAccepted (p mode : Nat) : Bool :=
  if mode = 0 then true
  else if p < 12 then 1 ≤ mode && mode ≤ 3
  else if p < 16 then mode == 2 || mode == 4
  else mode == 5

/-- Whether a SPEED, a DUPLEX or an AN goes with a mode (R225, R253). -/
def speedAllowed (mode speed : Nat) : Bool := if mode = 1 then true else if mode = 5 then speed ≤ 1 else speed == 0
def duplexAllowed (mode duplex : Nat) : Bool := duplex == 0 || mode == 5
def anAllowed (mode an : Nat) : Bool := an == 0 || mode == 2

namespace State

/-- MAC port p. -/
def mac (s : State) (p : Nat) : MacPort := Tab.get {} p s.macs

/-- s with MAC port p replaced. -/
def setMac (s : State) (p : Nat) (m : MacPort) : State := { s with macs := Tab.put {} p m s.macs }

/-- MAC port p changed by f. -/
def modMac (s : State) (p : Nat) (f : MacPort → MacPort) : State := s.setMac p (f (s.mac p))

/-! ### Line instants -/

/-- The present line instant. -/
def lineNow (s : State) : Nat := 5 * s.clk

/-- The line instant of an instant of full time. -/
def lineOf (s : State) (t : Int) : Nat := (5 * ((s.clk : Int) + t - s.tbu.time)).toNat

/-- Full time at an instant of the elapsed clock, the steps made since then taken off (R45, R254). -/
def timeAt (s : State) (c : Int) : Int :=
  let later := s.tbu.steps.filter (fun x => decide (c < (x.1 : Int)))
  (s.tbu.time : Int) + c - s.clk - later.foldl (fun n x => n + x.2) 0

/-- The TSW of an instant of the elapsed clock (R42, R254). -/
def tswAt (s : State) (c : Int) : Nat := (s.timeAt c % 2 ^ 36).toNat

/-- The settings in force of the MACs and Massif, BAR0 0x10_0000 to 0x1F_FFFF (R24, R431). -/
def frameSettings (s : State) : Tab Word := Tab.within 0x100000 0x200000 s.act

/-- f is done under the settings of the MACs and Massif that a frame began under (R24). (DESIGN CHOICE, log 21) -/
def underFrame (s : State) (a : Tab Word) (f : State → State) : State := s.under 0x100000 0x200000 a f

/-- The sixteenth of full time in which a line instant lies. -/
def fullOf (s : State) (x : Nat) : Int := (x / 5 : Nat) - (s.clk : Int) + s.tbu.time

/-- Time passes up to a line instant. -/
def advanceToLine (s : State) (x : Nat) : State := s.advanceTo ((x + 4) / 5)

/-- The rate code of port p. -/
def rateOf (s : State) (p : Nat) : Nat := s.fld (Reg.MAC_STAT_RATE p)

/-- An octet time of port p. -/
def octetOf (s : State) (p : Nat) : Nat := octetTime (s.rateOf p)

/-- The first start position of port p's lane at or after a line instant (R236). (DESIGN CHOICE, log 10) -/
def startAt (s : State) (p x : Nat) : Nat :=
  let iv := startInterval (s.inForce (Reg.MAC_MODE_MODE p)) (s.rateOf p)
  x + (Config.lanePhase p + (iv - x % iv)) % iv

/-! ### Counters and events -/

/-- Counter k of port p counts n (R250). -/
def macCount (s : State) (p k n : Nat) : State := s.bump (Reg.MAC_CNT_COUNT p k) n

/-- Timestamp counter k of port p counts one (R276). -/
def tsCount (s : State) (p k : Nat) : State := s.bump (Reg.MAC_TS_CNT_COUNT p k) 1

/-- MAC event 88 + k of port p, and its bit in MAC_EVTSTAT (R251). -/
def macEvent (s : State) (p k : Nat) : State :=
  (s.setFld (Reg.MAC_EVTSTAT_EVT p) (s.fld (Reg.MAC_EVTSTAT_EVT p) ||| 2 ^ k)).raise (88 + k)

/-- An entry goes into port p's transmit timestamp FIFO, or is lost (R261). -/
def stamp (s : State) (p : Nat) (x : TxStamp) : State :=
  let m := s.mac p
  if 32 ≤ m.stamps.length then
    ((s.bumpSat (Reg.MAC_TS_TXLOST_LOST p) 1).setFld (Reg.MAC_TS_STAT_TXTS_OVF p) 1).raise 97
  else (s.setMac p { m with stamps := m.stamps ++ [x] }).raise 96

/-! ### The declared link state (R228 to R231) -/

/-- MAC_STAT.LINK: 0 DOWN, 1 QUALIFYING, 2 UP, 3 HOLDING, 4 SUPPRESSED. -/
def link (s : State) (p : Nat) : Nat := s.fld (Reg.MAC_STAT_LINK p)

/-- Whether the port transmits and receives (R230). -/
def linkOpen (s : State) (p : Nat) : Bool := s.link p == 2 || s.link p == 3

/-- s with the declared link state changed. -/
def setLink (s : State) (p v : Nat) : State := s.setFld (Reg.MAC_STAT_LINK p) v

/-- One DOWNS increment. -/
def countDown (s : State) (p : Nat) : State :=
  (s.bumpSat (Reg.MAC_PLUG_DOWNS p) 1).modMac p (fun m => { m with downs := s.tbu.time :: m.downs })

/-- One BOUNCES increment. -/
def countBounce (s : State) (p : Nat) : State :=
  (s.bumpSat (Reg.MAC_PLUG_BOUNCES p) 1).modMac p (fun m => { m with bounces := s.tbu.time :: m.bounces })

/-- The port is declared DOWN from UP or HOLDING. -/
def declareDown (s : State) (p : Nat) : State :=
  (((s.setLink p 0).modMac p (fun m => { m with timer := none })).countDown p).macEvent p 0

/-- The qualification timer starts. -/
def startQual (s : State) (p : Nat) : State :=
  (s.setLink p 1).modMac p (fun m =>
    { m with timer := some (s.clk + s.inForce (Reg.MAC_LINK_QUAL_UP p) * Config.ms) })

/-- The rate that MAC_MODE and the PHY's control word give. An SGMII speed that stands beside mode MII, left there by a reserved
encoding, counts by its low bit. (DESIGN CHOICE, log 39) -/
def modeRate (s : State) (p : Nat) : Nat :=
  match s.inForce (Reg.MAC_MODE_MODE p) with
  | 1 => if s.inForce (Reg.MAC_MODE_SPEED p) = 3 then (s.mac p).phy else s.inForce (Reg.MAC_MODE_SPEED p)
  | 2 => 2
  | 3 => 3
  | 4 => 4
  | 5 => s.inForce (Reg.MAC_MODE_SPEED p) % 2
  | _ => 0

/-- MAC_STAT.RATE, HALF and STEPPED after a restart or at a return. -/
def takeMode (s : State) (p : Nat) : State :=
  ((s.setFld (Reg.MAC_STAT_RATE p) (s.modeRate p)).setFld (Reg.MAC_STAT_HALF p)
    (s.inForce (Reg.MAC_MODE_DUPLEX p))).setFld (Reg.MAC_STAT_STEPPED p) 0

/-- A loss: link present goes to 0 (R229). -/
def linkLoss (s : State) (p : Nat) : State :=
  if ¬ (s.mac p).present then s
  else
    let s1 := s.modMac p (fun m => { m with present := false })
    match s1.link p with
    | 1 => ((s1.setLink p 0).modMac p (fun m => { m with timer := none })).countBounce p
    | 2 =>
      let h := s1.inForce (Reg.MAC_LINK_HOLD_DOWN p)
      if h = 0 then s1.declareDown p
      else (s1.setLink p 3).modMac p (fun m => { m with timer := some (s1.clk + h * 100 * Config.us) })
    | 4 => s1.modMac p (fun m => { m with quietFrom := s1.clk })
    | _ => s1

/-- A return: link present goes to 1 (R229). The backoff register is seeded as the port leaves DOWN (R243). -/
def linkReturn (s : State) (p : Nat) : State :=
  if (s.mac p).present then s
  else
    let s1 := s.modMac p (fun m => { m with present := true })
    match s1.link p with
    | 0 =>
      if s1.inForce (Reg.MAC_MODE_MODE p) = 0 then s1
      else ((s1.takeMode p).modMac p (fun m => { m with lfsr := s1.inForce (Reg.MAC_HDX_SEED p) })).startQual p
    | 3 => ((s1.setLink p 2).modMac p (fun m => { m with timer := none })).countBounce p
    | 4 => s1.modMac p (fun m => { m with quietFrom := s1.clk })
    | _ => s1

/-- Whether software supplies port p's link state (R228). -/
def softLink (s : State) (p : Nat) : Bool := 16 ≤ p && s.isSet (Reg.MAC_CTRL_LINK_SRC p)

/-- Link present follows its source (R228). -/
def followLink (s : State) (p : Nat) : State :=
  if (if s.softLink p then s.isSet (Reg.MAC_CTRL_LINK_SW p) else (s.mac p).carrier) then s.linkReturn p else s.linkLoss p

/-- The port restarts (R225, R229). A SerDes lane loses synchronisation; the source of an MII port stands.
(DEDUCED, log 39) -/
def restartPort (s : State) (p : Nat) : State :=
  let s0 := { s with act := Tab.put (resetWord (Reg.MAC_MODE p)) (Reg.MAC_MODE p) (s.reg (Reg.MAC_MODE p)) s.act }
  let was := s0.link p
  let s1 := s0.modMac p (fun m =>
    { m with present := false, carrier := m.carrier && decide (16 ≤ p), receiving := none })
  let s2 := if was = 4 then s1.modMac p (fun m => { m with quietFrom := s1.clk })
    else if was = 0 then s1
    else if was = 1 then ((s1.setLink p 0).modMac p (fun m => { m with timer := none })).macEvent p 0
    else s1.declareDown p
  ((s2.takeMode p).setFld (Reg.MAC_STAT_PLCA_OK p) 0).followLink p

/-- The port leaves SUPPRESSED (R231): its class is STABLE and its window counts start from zero. -/
def leaveSuppressed (s : State) (p : Nat) : State :=
  let s1 := (s.setFld (Reg.MAC_STAT_CLASS p) 0).modMac p (fun m => { m with downs := [], bounces := [] })
  if (s1.mac p).present then (s1.takeMode p).startQual p else s1.setLink p 0

/-- UNSUPPRESS is written (R229, R231). -/
def unsuppress (s : State) (p : Nat) : State := if s.link p = 4 then s.leaveSuppressed p else s

/-- The window of a class: increments of the last FLAP_WIN seconds. -/
def inWindow (s : State) (p : Nat) (l : List Nat) : List Nat :=
  l.filter (fun t => s.tbu.time < t + s.inForce (Reg.MAC_FLAP_FLAP_WIN p) * Config.sec)

/-- The port is classed (R231); it enters SUPPRESSED only as its class reaches FLAPPING. -/
def classify (s : State) (p : Nat) : State :=
  if s.link p = 4 then s
  else
    let s1 := s.modMac p (fun m => { m with downs := s.inWindow p m.downs, bounces := s.inWindow p m.bounces })
    let m := s1.mac p
    let was := s1.fld (Reg.MAC_STAT_CLASS p)
    if s1.inForce (Reg.MAC_FLAP_FLAP_N p) ≤ m.downs.length then
      let s2 := s1.setFld (Reg.MAC_STAT_CLASS p) 2
      let s3 := if was = 2 then s2 else s2.macEvent p 1
      if was ≠ 2 ∧ s3.inForce (Reg.MAC_FLAP_SUPPRESS p) = 1 then
        let s4 := if s3.linkOpen p then s3.declareDown p else s3
        ((s4.setLink p 4).setFld (Reg.MAC_STAT_CLASS p) 3).modMac p (fun m =>
          { m with timer := none, quietFrom := s4.clk })
      else s3
    else if s1.inForce (Reg.MAC_FLAP_BOUNCE_N p) ≤ m.bounces.length then s1.setFld (Reg.MAC_STAT_CLASS p) 1
    else s1.setFld (Reg.MAC_STAT_CLASS p) 0

/-! ### Control frames (R232 to R234, R247) -/

/-- The port is asked to send a control frame at its next frame boundary. -/
def askCtrl (s : State) (p : Nat) (k : Ctrl) : State := s.modMac p (fun m => { m with ctrls := m.ctrls ++ [k] })

/-- The port is asked for PAUSE, or for PFC with these classes, as PFC_EN stands (R234, R292). -/
def askPause (s : State) (p classes quanta : Nat) : State :=
  if s.inForce (Reg.MAC_CFG_PFC_EN p) = 1 then s.askCtrl p (.pfc classes quanta) else s.askCtrl p (.pause quanta)

/-- The line instant of the boundary of the present tick plus a number of pause quanta (R232). -/
def pauseEnd (s : State) (p quanta : Nat) : Nat :=
  s.lineOf (s.tbu.time / 128 * 128 : Nat) + quanta * 64 * s.octetOf p

/-- A good PAUSE frame is received (R232, R233); an says whether the resolved abilities permit receive pause. -/
def pauseRx (s : State) (p quanta : Nat) (an : Bool) : State :=
  if s.inForce (Reg.MAC_CFG_RX_PAUSE p) = 1 ∧ s.inForce (Reg.MAC_CFG_PFC_EN p) = 0
      ∧ (s.inForce (Reg.MAC_MODE_AN p) = 0 ∨ an) then
    ((s.modMac p (fun m => { m with pauseUntil := s.pauseEnd p quanta })).setFld (Reg.MAC_STAT_PAUSED p)
      (bit01 (quanta != 0))).macCount p 6 1
  else s.macCount p 7 1

/-- A good PFC frame is received: class-enable vector and the quanta of classes 0 to 7 (R233). -/
def pfcRx (s : State) (p enable : Nat) (quanta : List Nat) : State :=
  if s.inForce (Reg.MAC_CFG_PFC_EN p) = 1 then
    let one (s : State) (c : Nat) : State :=
      if enable.testBit c then
        let q := quanta.getD c 0
        let w := s.reg (Reg.MAC_STAT p)
        (s.modMac p (fun m => { m with pfcUntil := Tab.put 0 c (s.pauseEnd p q) m.pfcUntil })).setReg
          (Reg.MAC_STAT p) (w.setField (10 + c) (10 + c) (bit01 (q != 0)))
      else s
    ((List.range 8).foldl one s).macCount p 6 1
  else s.macCount p 7 1

/-- Whether a frame of a class may not start at a line instant because its port or its class is paused. (DEDUCED, log 39) -/
def pausedAt (s : State) (p cls x : Nat) : Bool :=
  decide (x < (s.mac p).pauseUntil) || decide (x < Tab.get 0 cls (s.mac p).pfcUntil)

end State
end Sys2Proof.Machine
end

