-- ==== Sys2Proof/Machine/Massif.lean ====
section
/-! DEFINITION. Massif: the forwarding database and VLANs, gates, stream filters and meters, redundancy pairs, buffer
accounting and flow control, cells and the fabric, the resequencers, and delivery to P18 and P19
(spec/10_massif_switch.md). -/
namespace Sys2Proof.Machine

/-- The fabric ports that a device port owns (R277). -/
def fabricPorts (d : Nat) : List Nat :=
  if d < 12 then [d]
  else if d < 16 then [12 + 2 * (d - 12), 13 + 2 * (d - 12)]
  else if d < 18 then [20]
  else if d = 18 then [21, 22, 23, 24]
  else [25, 26, 27, 28, 29, 30]

/-- What an unlisted VLAN table word holds: VID 1 is valid, with every port a member and untagged (R315). -/
def vlanReset (k v : Nat) : Word := if v = 1 then (if k = 0 then 0x7FFFFF else 0x3FFFF) else 0

/-- The bucket of a forwarding database key (R294). -/
def fdbBucket (vid addr : Nat) : Nat := crc16 ([vid / 2 ^ 8 % 2 ^ 4, vid % 2 ^ 8] ++ beOctets 6 addr) 0xFFFF % 2 ^ 12

/-- The bucket of a duplicate table key (R306). -/
def dupBucket (src seq : Nat) : Nat := crc16 (beOctets 6 src ++ beOctets 2 seq) 0xFFFF % 2 ^ 11

/-- Whether an address is one of 01-80-C2-00-00-00 to 01-80-C2-00-00-0F (R296). -/
def reservedAddr (dst : Nat) : Bool := dst / 16 == 0x0180C200000

/-- The bits of a mask that are set, of the lowest n. -/
def maskBits (n m : Nat) : List Nat := (List.range n).filter (fun i => m.testBit i)

namespace State

/-- Massif changed by f. -/
def modMassif (s : State) (f : Massif → Massif) : State := { s with massif := f s.massif }

/-- Frame k. -/
def frameAt (s : State) (k : Nat) : Option Frame := (s.massif.frames.find? (·.1 == k)).map (·.2)

/-- Frame k changed by f. -/
def modFrame (s : State) (k : Nat) (f : Frame → Frame) : State :=
  s.modMassif (fun x => { x with frames := x.frames.map (fun e => if e.1 = k then (e.1, f e.2) else e) })

/-- Copy c. -/
def copyAt (s : State) (c : Nat) : Option Copy := (s.massif.copies.find? (·.1 == c)).map (·.2)

/-- Copy c changed by f. -/
def modCopy (s : State) (c : Nat) (f : Copy → Copy) : State :=
  s.modMassif (fun x => { x with copies := x.copies.map (fun e => if e.1 = c then (e.1, f e.2) else e) })

/-- Counter k of device port p counts one (R315). -/
def swCount (s : State) (p k : Nat) : State := s.bump (Reg.SWC_PCNT_COUNT p k) 1

/-- Counter k of redundancy pair r counts one. -/
def redCount (s : State) (r k : Nat) : State := s.bump (Reg.SWC_RPCNT_COUNT r k) 1

/-! ### Buffer use and flow control (R291, R292) -/

/-- The buffer count of egress port p. -/
def bufCount (s : State) (p : Nat) : Nat :=
  s.massif.copies.foldl (fun n e => if e.2.egress = p then n + e.2.counted else n) 0

/-- Cells held from ingress port i; of one class where cls is given. -/
def heldFrom (s : State) (i : Nat) (cls : Option Nat) : Nat :=
  s.massif.copies.foldl (fun n e =>
    let mine := ((s.frameAt e.2.frame).map (·.ingress)) == some i
    let ofClass := match cls with
      | some c => e.2.cls == c
      | none => true
    if mine && ofClass then n + e.2.counted else n) 0

/-- Flow control of ingress port i: one class or the whole port (R292). -/
def flowOne (s : State) (i : Nat) (cls : Option Nat) : State :=
  let key := 8 * i + cls.getD 0
  let n := s.heldFrom i cls
  let on := Tab.get 0 key s.massif.xoff == 1
  let vec := match cls with
    | some c => 2 ^ c
    | none => 0
  if ¬ on ∧ s.inForce (Reg.SWC_PFLOW_XOFF i) ≤ n then
    (s.modMassif (fun x => { x with xoff := Tab.put 0 key 1 x.xoff })).askPause i vec 0xFFFF
  else if on ∧ n ≤ s.inForce (Reg.SWC_PFLOW_XON i) then
    (s.modMassif (fun x => { x with xoff := Tab.put 0 key 0 x.xoff })).askPause i vec 0
  else s

/-- Flow control of ingress port i after the cells held from it have changed. -/
def flow (s : State) (i : Nat) : State :=
  if 17 < i ∨ s.inForce (Reg.SWC_PFLOW_FC_EN i) = 0 then s
  else if s.inForce (Reg.MAC_CFG_PFC_EN i) = 1 then (List.range 8).foldl (fun s c => s.flowOne i (some c)) s
  else s.flowOne i none

/-- Whether egress port p admits a frame of a class (R291). -/
def admits (s : State) (p cls : Nat) : Bool :=
  let lim := s.inForce (Reg.SWC_PBUF_LIMIT p)
  let n := s.bufCount p
  if s.inForce (Reg.SWC_PBUF_HIGH_CLASS p) ≤ cls then n < lim else n < lim - s.inForce (Reg.SWC_PBUF_RESERVE p)

/-- A copy leaves Massif; its frame follows once it is complete and its last copy has gone. The egress has been empty since, where
it is (R245). -/
def freeCopy (s : State) (c : Nat) : State :=
  match s.copyAt c with
  | none => s
  | some x =>
    let s1 := s.modMassif (fun m => { m with copies := m.copies.filter (fun e => e.1 != c) })
    let used := s1.massif.copies.any (fun e => e.2.frame == x.frame)
    match s1.frameAt x.frame with
    | none => s1
    | some f =>
      let s2 := if used ∨ f.complete = none then s1
        else s1.modMassif (fun m => { m with frames := m.frames.filter (fun e => e.1 != x.frame) })
      let s3 := if x.egress ≤ 17 then s2.modMac x.egress (fun m => { m with emptySince := s.clk }) else s2
      if f.ingress ≤ 17 then s3.flow f.ingress else s3

/-! ### The forwarding database (R294, R295) -/

/-- A write of the database in the present tick: lookups of this tick see it as it stood (R295). -/
def fdbPut (s : State) (k : Nat) (e : FdbEntry) : State :=
  s.modMassif (fun x =>
    let y := if x.fdbTick = s.tick + 1 then x else { x with fdbOld := x.fdb, fdbTick := s.tick + 1 }
    { y with fdb := Tab.put {} k e y.fdb })

/-- The index of a key's entry in a database. -/
def fdbFind (t : Tab FdbEntry) (vid addr : Nat) : Option Nat :=
  let b := fdbBucket vid addr
  ((List.range 4).map (4 * b + ·)).find? (fun k =>
    let e := Tab.get {} k t
    e.valid && e.vid == vid && e.addr == addr)

/-- A frame's lookup: the entry of a key, as the database stood before this tick's writes. -/
def fdbLookup (s : State) (vid addr : Nat) : Option FdbEntry :=
  let t := if s.massif.fdbTick = s.tick + 1 then s.massif.fdbOld else s.massif.fdb
  (fdbFind t vid addr).map (fun k => Tab.get {} k t)

/-- A free entry of a key's bucket. -/
def fdbRoom (s : State) (vid addr : Nat) : Option Nat :=
  let b := fdbBucket vid addr
  ((List.range 4).map (4 * b + ·)).find? (fun k => !(Tab.get {} k s.massif.fdb).valid)

/-- A frame's source is learned (R295). -/
def learn (s : State) (p vid addr : Nat) : State :=
  let e : FdbEntry := { valid := true, vid := vid, addr := addr, dest := 2 ^ p, learned := s.clk }
  match fdbFind s.massif.fdb vid addr with
  | some k =>
    let old := Tab.get {} k s.massif.fdb
    if old.static then s
    else (s.fdbPut k e).bump (Reg.SWC_PCNT_COUNT p 9) (if old.dest = 2 ^ p then 0 else 1)
  | none =>
    match s.fdbRoom vid addr with
    | some k => s.fdbPut k e
    | none => s.raise 106

/-- VLAN table word k of a VID. (DEDUCED, log 41) -/
def vlan (s : State) (k v : Nat) : Word :=
  Tab.get (vlanReset k v) v (if k = 0 then s.massif.vlan0 else s.massif.vlan1)

/-! ### Gates (R299 to R301) -/

/-- The gate list in force of a port. -/
def gateList (s : State) (p : Nat) : GateList := Tab.get {} p s.massif.gateOper

/-- The entries of a bank: gate states and interval. (DEDUCED, log 41) -/
def gateEntries (s : State) (p bank len : Nat) : List (Nat × Nat) :=
  (List.range len).map (fun i =>
    let w : Word := Tab.get 0 ((2 * p + bank) * 256 + i) s.massif.gcl
    (w.field 7 0, w.field 35 8))

/-- The cycle time of a list. -/
def cycleTime (es : List (Nat × Nat)) : Nat := es.foldl (fun n e => n + e.2) 0

/-- The states of the entry that contains an offset in the cycle. -/
def entryAt : List (Nat × Nat) → Nat → Nat
  | [], _ => 0
  | [e], _ => e.1
  | e :: r, x => if x < e.2 then e.1 else entryAt r (x - e.2)

/-- The offset of the end of the entry that contains an offset. -/
def entryEnd : List (Nat × Nat) → Nat → Nat → Nat
  | [], _, at_ => at_
  | e :: r, x, at_ => if x < at_ + e.2 then at_ + e.2 else entryEnd r x (at_ + e.2)

/-- The first offset after x at which an entry begins that has gate c closed. -/
def closeAfter (c x : Nat) : List (Nat × Nat) → Nat → Option Nat
  | [], _ => none
  | e :: r, at_ => if x < at_ ∧ ¬ e.1.testBit c then some at_ else closeAfter c x r (at_ + e.2)

/-- The operational list of a port and the offset of a tick of full time in its cycle. -/
def gatePhase (s : State) (p : Nat) (t : Int) : List (Nat × Nat) × Nat :=
  let g := s.gateList p
  let es := s.gateEntries p (s.fld (Reg.SWC_GCTL_OPER p)) g.len
  (es, ((t - g.base) % (cycleTime es : Int)).toNat)

/-- Whether the operational list sets the gates (R299). -/
def gated (s : State) (p : Nat) : Bool := s.inForce (Reg.SWC_GCTL_EN p) == 1

/-- The gate states of port p in a tick of full time (R299). -/
def gates (s : State) (p : Nat) (t : Int) : Nat :=
  if s.gated p then let (es, x) := s.gatePhase p t; entryAt es x else 255

/-- The tick of full time at which the operational list closes gate c of port p next after a tick. -/
def operClosing (s : State) (p c : Nat) (t : Int) : Option Int :=
  let (es, x) := s.gatePhase p t
  (closeAfter c x (es ++ es) 0).map (fun y => t + (y : Int) - x)

/-- The tick of full time at which the pending list of port p closes gate c first, from its base on (R301). -/
def pendingClosing (s : State) (p c : Nat) : Option Int :=
  let g : GateList := Tab.get {} p s.massif.gatePending
  let es := s.gateEntries p (1 - s.fld (Reg.SWC_GCTL_OPER p)) g.len
  if (entryAt es 0).testBit c then (closeAfter c 0 (es ++ es) 0).map (fun y => g.base + (y : Int)) else some g.base

/-- The tick of full time at which gate c of port p closes next after a tick: under the operational list up to the base of a
pending one, under that from there on (R300, R301). -/
def nextClosing (s : State) (p c : Nat) (t : Int) : Option Int :=
  if ¬ s.gated p then none
  else if ¬ s.isSet (Reg.SWC_GCTL_PENDING p) then s.operClosing p c t
  else match s.operClosing p c t with
    | some y => if y < (Tab.get {} p s.massif.gatePending : GateList).base then some y else s.pendingClosing p c
    | none => s.pendingClosing p c

/-! ### Stream filters and meters (R303 to R305) -/

/-- Word k of filter f. -/
def filterWord (s : State) (f k : Nat) : Word := Tab.get 0 (4 * f + k) s.massif.filters

/-- Whether filter f matches a frame (R303). -/
def filterMatches (s : State) (p vid dst src f : Nat) : Bool :=
  let w0 := s.filterWord f 0
  let w1 := s.filterWord f 1
  let addr := w1.field 15 0 * 2 ^ 32 + w0.field 31 0
  w1.bit 35 && w1.field 27 16 == vid &&
    (match w1.field 29 28 with
     | 0 => addr == dst
     | 1 => addr == src
     | 2 => addr == dst && w1.field 34 30 == p
     | _ => false)

/-- The filters that hold anything, in ascending number. -/
def listedFilters (s : State) : List Nat :=
  s.massif.filters.filterMap (fun e => if e.1 % 4 = 1 then some (e.1 / 4) else none)

/-- The filters that match a frame, lowest number first: the first decides (R303). -/
def filtersOf (s : State) (p vid dst src : Nat) : List Nat :=
  s.listedFilters.filter (s.filterMatches p vid dst src)

/-- A meter's fill up to a tick, in 2^−16 octets (R305): CIR × 64 kbit/s. (DEDUCED, log 42) -/
def fillUpTo (cir t : Nat) : Nat := cir * 4194304 * t / 1000000

/-- Meter m judges a frame of n octets that completes now. -/
def meter (s : State) (m n : Nat) : Bool × State :=
  let cir := (Tab.get 0 (2 * m) s.massif.meters : Word).field 17 0
  let cbs := (Tab.get 0 (2 * m + 1) s.massif.meters : Word).field 23 0
  let (lack, at_) := Tab.get (0, 0) m s.massif.deficits
  let t := s.clk / 128
  let now := if at_ = 0 then 0 else lack - (fillUpTo cir t - fillUpTo cir (at_ - 1))
  if now + n * 65536 ≤ cbs * 65536 then
    (true, s.modMassif (fun x => { x with deficits := Tab.put (0, 0) m (now + n * 65536, t + 1) x.deficits }))
  else (false, s.modMassif (fun x => { x with deficits := Tab.put (0, 0) m (now, t + 1) x.deficits }))

/-- The verdict on a frame as it enters: BLOCKED or a closed stream gate; the counter it takes (R304). -/
def filterEarly (s : State) (f tsw : Nat) : Option Nat :=
  let w := s.filterWord f 2
  if w.bit 33 then some 7
  else if w.bit 22 ∧ ¬ (s.gates (w.field 18 14) (((s.tbu.time : Int) + s.distance tsw) / 128)).testBit (w.field 21 19) then
    some 4
  else none

/-- The verdict on a frame of n octets, FCS included, at its good completion: size and meter (R304, R305). -/
def filterLate (s : State) (f n : Nat) : Option Nat × State :=
  let w := s.filterWord f 2
  if w.field 13 0 ≠ 0 ∧ w.field 13 0 < n - 4 then
    if w.bit 32 then
      (some 5, (s.modMassif (fun x =>
        { x with filters := Tab.put 0 (4 * f + 2) (w.setField 33 33 1) x.filters })).raise 107)
    else (some 5, s)
  else if w.bit 31 then
    let (ok, s1) := s.meter (w.field 30 23) n
    (if ok then none else some 6, s1)
  else (none, s)

/-! ### Redundancy pairs (R306 to R309) -/

/-- The enabled pair a port belongs to, and whether the port is its B. -/
def pairOfPort (s : State) (p : Nat) : Option (Nat × Bool) :=
  [0, 1].findSome? (fun r =>
    if s.inForce (Reg.SWC_RPCFG_EN r) = 0 then none
    else if s.inForce (Reg.SWC_RPCFG_PORT_A r) = p then some (r, false)
    else if s.inForce (Reg.SWC_RPCFG_PORT_B r) = p then some (r, true)
    else none)

/-- Ports A and B of pair r. -/
def pairPorts (s : State) (r : Nat) : List Nat :=
  [s.inForce (Reg.SWC_RPCFG_PORT_A r), s.inForce (Reg.SWC_RPCFG_PORT_B r)]

/-- Whether pair r is an HSR ring. -/
def isRing (s : State) (r : Nat) : Bool := s.inForce (Reg.SWC_RPCFG_MODE r) == 1

/-- A bucket of a duplicate table. -/
def dupsAt (s : State) (r b : Nat) : List DupEntry := Tab.get [] (2048 * r + b) s.massif.dups

/-- s with a bucket replaced. -/
def setDups (s : State) (r b : Nat) (l : List DupEntry) : State :=
  s.modMassif (fun x => { x with dups := Tab.put [] (2048 * r + b) l x.dups })

/-- A frame's key is decided by pair r (R307): a key that the same port has brought before is neither the first copy nor a
duplicate. (DEDUCED, log 42) -/
def decide_ (s : State) (r : Nat) (byB : Bool) (src seq p : Nat) : KeyVerdict × State :=
  let b := dupBucket src seq
  let l := s.dupsAt r b
  match l.find? (fun e => e.src == src && e.seq == seq) with
  | some e =>
    if e.byB = byB then (.again, s)
    else (.duplicate, ((s.setDups r b (l.filter (· != e))).redCount r 2).swCount p 8)
  | none =>
    let new : DupEntry := { src := src, seq := seq, byB := byB, at_ := s.clk }
    if l.length < 4 then (.first, s.setDups r b (l ++ [new]))
    else (.first, ((s.setDups r b (l.drop 1 ++ [new])).redCount r 6).raise 109)

/-- Whether pair r has forwarded a key round the ring in this direction within FORGET ms (R308), and s with it noted. -/
def ringForward (s : State) (r : Nat) (byB : Bool) (src seq : Nat) : Bool × State :=
  let key := 2 * r + bit01 byB
  let fresh := s.massif.ringSeen.filter (fun e => s.clk < e.2.at_ + s.inForce Reg.SWC_LIMITS_FORGET * Config.ms)
  if fresh.any (fun e => e.1 == key && e.2.src == src && e.2.seq == seq) then
    (true, s.modMassif (fun x => { x with ringSeen := fresh }))
  else
    let new : DupEntry := { src := src, seq := seq, byB := byB, at_ := s.clk }
    (false, s.modMassif (fun x => { x with ringSeen := fresh ++ [(key, new)] }))

/-! ### Cells and copies (R277 to R282) -/

/-- A cell enters the fabric at the next fabric port of its ingress device port (R279). (DEDUCED, log 42) -/
def dealCell (s : State) (c : Cell) : State :=
  let fs := fabricPorts c.ingress
  let k := Tab.get 0 c.ingress s.massif.deal % fs.length
  let f := fs.getD k 0
  s.modMassif (fun x => { x with
    deal := Tab.put 0 c.ingress ((k + 1) % fs.length) x.deal
    inputs := Tab.put [] f (Tab.get [] f x.inputs ++ [c]) x.inputs
    flying := x.flying ++ [c] })

/-- One cell of copy c is formed and sent into the fabric (R281, R282). -/
def formCell (s : State) (c : Nat) : State :=
  match s.copyAt c with
  | none => s
  | some x =>
    match s.frameAt x.frame with
    | none => s
    | some f =>
      let key := 32 * f.ingress + x.egress
      let seq := Tab.get 0 key s.massif.seqNext
      let s1 := s.modMassif (fun m => { m with seqNext := Tab.put 0 key ((seq + 1) % 2 ^ 16) m.seqNext })
      let counts := x.egress ≤ 17 ∧ f.ingress ≤ 17
      let s2 := s1.modCopy c (fun y => { y with cells := y.cells + 1, counted := y.counted + bit01 (decide counts) })
      let s3 := s2.dealCell { copy := c, ingress := f.ingress, egress := x.egress, seq := seq, idx := x.cells }
      if counts then s3.flow f.ingress else s3

/-- The header words of a cell (R281). -/
def cellHeader (s : State) (c : Cell) : Word × Word × Word :=
  match s.copyAt c.copy with
  | none => (0, 0, 0)
  | some x =>
    match s.frameAt x.frame with
    | none => (0, 0, 0)
    | some f =>
      let first := c.idx == 0
      let last := f.complete.isSome && c.idx + 1 == x.cells
      let valid := if last then f.octets.length - 64 * c.idx else 64
      let w0 := c.ingress * 2 ^ 31 + c.egress * 2 ^ 26 + c.seq * 2 ^ 10 + bit01 first * 2 ^ 9 + bit01 last * 2 ^ 8
        + bit01 (last && f.bad) * 2 ^ 7 + valid
      let w1 := if first then f.tsw else if last then (f.complete.getD 0) % 2 ^ 29 else 0
      let w2 := if first then bit01 x.mirror * 2 ^ 33 + bit01 x.stored * 2 ^ 32 + x.cls * 2 ^ 29
          + (x.elig.getD 0) % 2 ^ 29
        else 0
      (Word.ofN w0, Word.ofN w1, Word.ofN w2)

/-- A copy of frame k bound for an egress port comes into being; its number is that of the answer. -/
def makeCopy (s : State) (x : Copy) : Nat × State :=
  (s.massif.nextCopy, s.modMassif (fun m =>
    { m with copies := m.copies ++ [(m.nextCopy, x)], nextCopy := m.nextCopy + 1 }))

/-- Whether a frame from MAC port p that filters match is forwarded cut-through to egress port e (R287). -/
def cutsThrough (s : State) (p e : Nat) (filters : List Nat) : Bool :=
  e ≤ 17 && s.inForce (Reg.SWC_PCFG_CUT e) == 1 && s.rateOf e ≤ s.rateOf p && (s.pairOfPort p).isNone &&
    filters.all (fun f => !(s.filterWord f 2).bit 31 && (s.filterWord f 2).field 13 0 == 0)

/-- Forwarding latency Λ of a copy, in ticks (R285): its egress port's; the longer one of the two where it has a twin, since both
take the same E (R309). (DEDUCED, log 43) -/
def latency (s : State) (x : Copy) : Nat :=
  max (s.inForce (Reg.SWC_PCFG_LAT x.egress)) (s.inForce (Reg.SWC_PCFG_LAT x.twin))

/-- Mirror source n counts a candidate: whether it selects it (R310). -/
def mirrorSelects (s : State) (n : Nat) : Bool × State :=
  let k := Tab.get 0 n s.massif.mirrorCount
  (k % max 1 (s.inForce Reg.SWC_MIRROR_N) == 0,
    s.modMassif (fun x => { x with mirrorCount := Tab.put 0 n (k + 1) x.mirrorCount }))

/-- The mirror sources that a frame is a candidate of (R310). -/
def mirrorSources (s : State) (ingress : Nat) (dests filters : List Nat) : List Nat :=
  (if ingress ≤ 17 ∧ s.inForce (Reg.SWC_PCFG_MIRROR_RX ingress) = 1 then [ingress] else [])
    ++ (dests.filter (fun e => e ≤ 17 && s.inForce (Reg.SWC_PCFG_MIRROR_TX e) == 1)).map (32 + ·)
    ++ (filters.filter (fun f => (s.filterWord f 2).bit 34)).map (64 + ·)

/-- Every source counts its candidate; whether any selects it. -/
def mirrorJudge (s : State) : List Nat → Bool × State
  | [] => (false, s)
  | n :: r =>
    let (a, s1) := s.mirrorSelects n
    let (b, s2) := s1.mirrorJudge r
    (a || b, s2)

/-- A mirror copy of frame k is made, or refused (R310). A frame from P18 or P19 is admitted at tick E (R291). -/
def mirrorCopy (s : State) (k : Nat) (dests : List Nat) : State :=
  match s.frameAt k with
  | none => s
  | some f =>
    if s.inForce Reg.SWC_MIRROR_EN = 0 then s
    else
      let (sel, s1) := s.mirrorJudge (s.mirrorSources f.ingress dests f.filters)
      let e := s.inForce Reg.SWC_MIRROR_PORT
      let cls := s.inForce Reg.SWC_MIRROR_MCLASS
      if ¬ sel then s1
      else if e ≤ 17 ∧ f.ingress ≤ 17 ∧ ¬ s1.admits e cls then s1.modFrame k (fun f => { f with mirrorRefused := true })
      else
        let cut := f.ingress ≤ 17 && s1.cutsThrough f.ingress e f.filters
        let x : Copy := { frame := k, egress := e, twin := e, mirror := true, stored := !cut, cls := cls }
        (s1.makeCopy { x with elig := if cut then some (f.formed + s1.latency x) else none }).2

/-! ### Destinations (R296, R297, R309) -/

/-- Where a frame of a VID goes: single destinations, and pairs with those of their ports that the mask leaves; both empty where it
is discarded without a destination (R297 steps 2 to 4). An ingress port that belongs to a pair forwards to the other port with its
HSR tag kept. -/
def resolveMask (s : State) (ingress vid mask : Nat) : List FrameDest × List (Nat × List Nat) :=
  let members := (s.vlan 0 vid).field 19 0
  let home := (s.pairOfPort ingress).map (·.1)
  let ok (e : Nat) : Bool := e != ingress && members.testBit e && s.inForce (Reg.SWC_PCFG_EN e) == 1
  let tag (e : Nat) : RedTag := match home with
    | some r => if s.isRing r ∧ (s.pairPorts r).contains e then .keep else .none
    | none => .none
  let pairs := (maskBits 2 (mask / 2 ^ 20)).filter (fun r => s.inForce (Reg.SWC_RPCFG_EN r) == 1)
  let inner := pairs.filter (fun r => home == some r)
  let outer := (pairs.filter (fun r => home != some r)).map (fun r => (r, (s.pairPorts r).filter ok))
  let single := (maskBits 20 mask).filter ok
  let around := (inner.flatMap (fun r => (s.pairPorts r).filter ok)).filter (fun e => !single.contains e)
  ((single ++ around).map (fun e => { port := e, twin := e, red := tag e }), outer.filter (fun x => !x.2.isEmpty))

/-- A frame is sent on both ports of pair r, of those kept, with its next sequence number (R309). -/
def pairDests (s : State) (r : Nat) (kept : List Nat) : List FrameDest × State :=
  let seq := s.fld (Reg.SWC_RPSEQ_SEQ r)
  let a := s.inForce (Reg.SWC_RPCFG_PORT_A r)
  let b := s.inForce (Reg.SWC_RPCFG_PORT_B r)
  let dests : List FrameDest :=
    [{ port := a, twin := b, red := if s.isRing r then .hsr seq 0 else .prp seq 0xA },
     { port := b, twin := a, red := if s.isRing r then .hsr seq 1 else .prp seq 0xB }]
  (dests.filter (fun d => kept.contains d.port), s.bump (Reg.SWC_RPSEQ_SEQ r) 1)

/-- The copies' destinations of every pair in a list. -/
def allPairDests (s : State) : List (Nat × List Nat) → List FrameDest × State
  | [] => ([], s)
  | (r, kept) :: rs =>
    let (l, s1) := s.pairDests r kept
    let (m, s2) := s1.allPairDests rs
    (l ++ m, s2)

/-- Database or VLAN: the mask of a destination (R297); inr where the frame is discarded, counted unless it met DROP. -/
def maskOf (s : State) (vid dst : Nat) : Option Nat :=
  let flood := if (s.vlan 0 vid).bit 20 ∧ (s.vlan 0 vid).bit 22 then some ((s.vlan 0 vid).field 19 0) else none
  if dst = 0xFFFFFFFFFFFF then flood
  else match s.fdbLookup vid dst with
    | some e => some (if e.drop then 0 else e.dest)
    | none => flood

/-- Whether a database entry discards a destination (R297). -/
def dropsDst (s : State) (vid dst : Nat) : Bool :=
  dst != 0xFFFFFFFFFFFF && ((s.fdbLookup vid dst).map (·.drop)).getD false

/-- The enabled MAC address entry of port p that a destination matches: its DEST (R227). -/
def terminates (s : State) (p dst : Nat) : Option Nat :=
  ((List.range 8).find? (fun i => s.inForce (Reg.MAC_ADDR_HI_EN p i) == 1 &&
    s.inForce (Reg.MAC_ADDR_HI_ADDR_HI p i) * 2 ^ 32 + s.inForce (Reg.MAC_ADDR_LO_ADDR_LO p i) == dst)).map
    (fun i => 18 + s.inForce (Reg.MAC_ADDR_HI_DEST p i))

/-- MAC_ADDR0 of port p. -/
def macAddr0 (s : State) (p : Nat) : Nat :=
  s.inForce (Reg.MAC_ADDR_HI_ADDR_HI p 0) * 2 ^ 32 + s.inForce (Reg.MAC_ADDR_LO_ADDR_LO p 0)

/-! ### Ingress from a MAC port (R282, R290, R293, R307, R308) -/

/-- What parsing finds (R293): VID, PCP, whether tagged, class. -/
def parse (s : State) (p : Nat) (octets : List Nat) : Nat × Nat × Bool × Nat :=
  let cls (pcp : Nat) : Nat := s.inForce ⟨Reg.SWC_PVLAN p, 14 + 3 * pcp, 12 + 3 * pcp⟩
  match (tagsOf octets).vlanOff with
  | some o =>
    let tci := beAt octets (o + 2) 2
    let pcp := tci / 2 ^ 13
    let vid := tci % 2 ^ 12
    (if vid = 0 then s.inForce (Reg.SWC_PVLAN_PVID p) else vid, pcp, true, cls pcp)
  | none => (s.inForce (Reg.SWC_PVLAN_PVID p), 0, false, cls 0)

/-- Copies of frame k are made for its destinations, each where its port admits it (R291). -/
def makeCopies (s : State) (k p cls : Nat) (filters : List Nat) (formed : Nat) : List FrameDest → State
  | [] => s
  | d :: r =>
    let s1 :=
      if d.port ≤ 17 ∧ ¬ s.admits d.port cls then s.modFrame k (fun f => { f with refused := f.refused + 1 })
      else
        let cut := s.cutsThrough p d.port filters && (d.twin == d.port || s.cutsThrough p d.twin filters)
        let x : Copy := { frame := k, egress := d.port, twin := d.twin, stored := !cut, cls := cls, red := d.red }
        (s.makeCopy { x with elig := if cut then some (formed + s.latency x) else none }).2
    s1.makeCopies k p cls filters formed r

/-- The numbers of a frame's copies. -/
def copiesOf (s : State) (k : Nat) : List Nat :=
  s.massif.copies.filterMap (fun e => if e.2.frame = k then some e.1 else none)

/-- Every copy of frame k forms a cell. -/
def formAll (s : State) (k : Nat) : State := (s.copiesOf k).foldl formCell s

/-- A copy to one egress port, which has no twin. -/
def soleDest (e : Nat) : FrameDest := { port := e, twin := e }

/-- A frame from MAC port p is parsed, its destination resolved, and its copies made (R282, R293 to R297, R303, R304). The
number of the frame is that of the answer. (DEDUCED, log 42) -/
def ingest (s : State) (p : Nat) (octets : List Nat) (clkIn : Int) : Nat × State :=
  let (vid, pcp, tagged, cls) := s.parse p octets
  let tsw := s.tswAt clkIn
  let dst := dstAddr octets
  let filters := s.filtersOf p vid dst (srcAddr octets)
  let early := filters.head?.bind (fun f => s.filterEarly f tsw)
  let home := s.pairOfPort p
  let v0 := s.vlan 0 vid
  let badVlan := vid = 4095 ∨ s.inForce (Reg.SWC_PCFG_INGRESS_FILTER p) = 1 ∧ ¬ (v0.bit 22 ∧ v0.bit p)
  let local_ := s.terminates p dst
  let reserved := reservedAddr dst
  let (dests, outer, gone) : List FrameDest × List (Nat × List Nat) × Option Nat :=
    if badVlan then ([], [], some 1)
    else if reserved then ([soleDest (18 + s.inForce (Reg.SWC_PCFG_LL_DEST p))], [], early)
    else match local_ with
      | some e => ([soleDest e], [], early)
      | none =>
        if s.inForce (Reg.SWC_PCFG_EN p) = 0 then ([], [], some 2)
        else match s.maskOf vid dst with
          | none => ([], [], some 2)
          | some m =>
            let (l, o) := s.resolveMask p vid m
            (l, o, if l.isEmpty ∧ o.isEmpty ∧ ¬ s.dropsDst vid dst then some 2 else early)
  let k := s.massif.nextFrame
  let f : Frame := {
    ingress := p, octets := octets, tsw := tsw, clkIn := clkIn, formed := s.tick, vid := vid, pcp := pcp
    tagged := tagged, filters := filters, drop := gone, terminated := local_.isSome && !reserved
    lan := match home with
      | some (_, b) => if b then 2 else 1
      | none => 0 }
  let s1 := s.modMassif (fun x => { x with frames := x.frames ++ [(k, f)], nextFrame := k + 1 })
  if gone.isSome then (k, s1)
  else
    let (more, s2) := s1.allPairDests outer
    let s3 := s2.makeCopies k p cls filters s.tick (dests ++ more)
    (k, s3.mirrorCopy k ((dests ++ more).map (·.port)))

/-- Every copy of frame k but those that keep satisfies leaves. -/
def dropCopies (s : State) (k : Nat) (keep : Copy → Bool) : State :=
  ((s.massif.copies.filter (fun e => e.2.frame == k && !keep e.2)).map (·.1)).foldl freeCopy s

/-- The verdict of the redundancy pair on a good frame from port p (R307, R308). (DEDUCED, log 46) -/
def pairVerdict (s : State) (p k : Nat) (body : List Nat) : State :=
  match s.pairOfPort p with
  | none => s
  | some (r, byB) =>
    let s1 := s.redCount r (bit01 byB)
    let src := srcAddr body
    let dup (s : State) (keep : Copy → Bool) : State := s.dropCopies k keep
    if s1.isRing r then
      match hsrSeq body with
      | none => s1
      | some seq =>
        if src = s1.macAddr0 (s1.inForce (Reg.SWC_RPCFG_PORT_A r)) then dup (s1.redCount r 2) (fun _ => false)
        else
          let around := s1.massif.copies.any (fun e => e.2.frame == k && e.2.red == .keep)
          let (seen, s2) := if around then s1.ringForward r byB src seq else (false, s1)
          let (v, s3) := s2.decide_ r byB src seq p
          let s4 := if seen then s3.dropCopies k (fun c => c.red != .keep) else s3
          if v = .first then s4 else dup s4 (fun c => c.red == .keep)
    else
      match rctOf body with
      | none => s1
      | some (seq, lan) =>
        let s2 := if lan = (if byB then 0xA else 0xB) then (s1.redCount r 3).raise 108 else s1
        let (v, s3) := s2.decide_ r byB src seq p
        if v = .duplicate then dup s3 (fun _ => false) else s3

/-- The eligibility tick of every store-and-forward copy of frame k is set (R286). -/
def setElig (s : State) (k t : Nat) : State :=
  s.modMassif (fun x => { x with copies := x.copies.map (fun e =>
    if e.2.frame = k ∧ e.2.stored ∧ e.2.egress ≤ 17 then (e.1, { e.2 with elig := some (t + s.latency e.2) })
    else e) })

/-- Frame k goes once it is complete and has no copy. -/
def sweepFrame (s : State) (k : Nat) : State :=
  if (s.copiesOf k).isEmpty then
    s.modMassif (fun x => { x with frames := x.frames.filter (fun e => e.1 != k) })
  else s

/-- A frame from MAC port p completes in Massif (R282, R290, R295, R304 to R308). (DEDUCED, log 42) -/
def finish (s : State) (p k : Nat) (octets : List Nat) (good : Bool) : State :=
  let t := s.tick
  let s1 := s.modFrame k (fun f => { f with octets := octets, complete := some t, bad := !good })
  let s2 := (s1.formAll k).setElig k t
  match s2.frameAt k with
  | none => s2
  | some f =>
    if ¬ good then s2.sweepFrame k
    else
      let (gone, s3) := match f.drop, f.filter with
        | none, some i => s2.filterLate i octets.length
        | d, _ => (d, s2)
      let s4 := if gone.isSome ∧ f.drop = none then s3.dropCopies k (fun _ => false) else s3
      let s5 := (((match gone with
        | some n => s4.swCount p n
        | none => s4).bump (Reg.SWC_PCNT_COUNT p 3) f.refused).bump (Reg.SWC_PCNT_COUNT p 14) (bit01 f.mirrorRefused))
      let s6 := if gone = some 1 ∨ gone = some 2 ∨ gone.isNone then s5.pairVerdict p k (octets.take (octets.length - 4)) else s5
      let forwarded := s6.massif.copies.any (fun e => e.2.frame == k && !e.2.mirror)
      let s7 := if forwarded then s6.swCount p 0 else s6
      let learns := s7.inForce (Reg.SWC_PCFG_LEARN p) = 1 ∧ (s7.vlan 0 f.vid).bit 21 ∧ gone ≠ some 1
      let s8 := if learns then s7.learn p f.vid (srcAddr octets) else s7
      s8.sweepFrame k

/-! ### The fabric (R278 to R280) -/

/-- Whether the spare has taken over fabric port f's role. -/
def substituted (s : State) (f : Nat) : Bool := s.isSet Reg.SWC_FAB_SPARE_USED && s.fld Reg.SWC_FAB_SPARE_SUBST == f

/-- The fabric port whose role the input link at position i carries; none where the link is out of use (R280). -/
def roleAt (s : State) (i : Nat) : Option Nat :=
  if s.massif.faulty.contains i ∨ s.substituted i then none
  else if i = 31 then (if s.isSet Reg.SWC_FAB_SPARE_USED then some (s.fld Reg.SWC_FAB_SPARE_SUBST) else none)
  else some i

/-- The position of the link that carries fabric port f's role. -/
def linkOfPort (s : State) (f : Nat) : Nat :=
  if s.substituted f then 31 else f

/-- The output of stage 2 a cell is bound for: its egress port's fabric ports in turn by SEQ. -/
def outputOf (s : State) (c : Cell) : Nat :=
  let fs := fabricPorts c.egress
  s.linkOfPort (fs.getD (c.seq % fs.length) 0)

/-- Input i of stage 1 moves a cell in the present slot. -/
def moveIn (s : State) (i : Nat) : State :=
  let m := (i + s.massif.slot1) % 32
  match s.roleAt i with
  | none => s
  | some f =>
    match Tab.get [] f s.massif.inputs with
    | [] => s
    | c :: rest =>
      if (s.fld Reg.SWC_FAB_STAT_MIDS).testBit m then
        let key := 32 * m + s.outputOf c
        s.modMassif (fun x => { x with
          inputs := Tab.put [] f rest x.inputs, mids := Tab.put [] key (Tab.get [] key x.mids ++ [c]) x.mids })
      else s

/-- Intermediate m moves a cell in the present slot of stage 2; a faulty output link loses it (R280). -/
def moveOut (s : State) (m : Nat) : State :=
  let o := (m + s.massif.slot2) % 32
  let key := 32 * m + o
  match Tab.get [] key s.massif.mids with
  | [] => s
  | c :: rest =>
    s.modMassif (fun x => { x with
      mids := Tab.put [] key rest x.mids
      outputs := if x.faultyOut.contains o then x.outputs else Tab.put [] o (Tab.get [] o x.outputs ++ [c]) x.outputs })

/-- A slot of stage 1 (false) or stage 2 (true) completes. -/
def fabricSlot (s : State) (second : Bool) : State :=
  if second then
    let s1 := (List.range 32).foldl moveOut s
    s1.modMassif (fun x => { x with slot2 := (x.slot2 + 1) % 32 })
  else
    let s1 := (List.range 32).foldl moveIn s
    s1.modMassif (fun x => { x with slot1 := (x.slot1 + 1) % 32 })

/-- Fabric port 31 takes over the role of fabric port n, once and where its own links are sound: the cells bound for output n turn
to output 31 (R280). -/
def takeSpare (s : State) (n : Nat) : State :=
  if n = 31 ∨ s.isSet Reg.SWC_FAB_SPARE_USED ∨ s.massif.faulty.contains 31 ∨ s.massif.faultyOut.contains 31 then s
  else
    let s1 := (s.setFld Reg.SWC_FAB_SPARE_SUBST n).setFld Reg.SWC_FAB_SPARE_USED 1
    s1.modMassif (fun x => { x with mids := (List.range 32).foldl (fun t m =>
      let q := Tab.get [] (32 * m + n) t
      Tab.put [] (32 * m + 31) (Tab.get [] (32 * m + 31) t ++ q) (Tab.put [] (32 * m + n) [] t)) x.mids })

/-- The input or output link at position n, or a link of intermediate n, is found faulty (R280): lost cells at the head of what waits
at the link are gone. The record's DETAIL names the link: 32 × (0 input, 1 intermediate, 2 output) + n. (DEDUCED, log 42) -/
def fabricFault (s : State) (link : FabricLink) (n lost : Nat) : State :=
  let (kind, s1) : Nat × State := match link with
    | .mid =>
      let s0 := s.setFld Reg.SWC_FAB_STAT_MIDS (s.fld Reg.SWC_FAB_STAT_MIDS &&& (2 ^ 32 - 1 - 2 ^ n))
      (1, s0.modMassif (fun x => { x with mids := Tab.drop (fun k => k / 32 == n) x.mids }))
    | .input =>
      let f := (s.roleAt n).getD n
      (0, (s.modMassif (fun x => { x with
        faulty := n :: x.faulty.filter (· != n)
        inputs := Tab.put [] f ((Tab.get [] f x.inputs).drop lost) x.inputs })).takeSpare n)
    | .output =>
      (2, (s.modMassif (fun x => { x with
        faultyOut := n :: x.faultyOut.filter (· != n)
        outputs := Tab.put [] n ((Tab.get [] n x.outputs).drop lost) x.outputs })).takeSpare n)
  (s1.raise 105).report 0xA1 105 (32 * kind + n) 0 0 0

/-! ### Delivery to P18 and P19 (R284) -/

/-- An area of n words of the packet buffer that overlaps no frame held, from the free choice b on. -/
def freeArea (held : List (Nat × Nat)) (n : Nat) : Nat → Nat → Nat
  | 0, b => b
  | k + 1, b =>
    let b1 := if 2097152 < b + n then 0 else b
    match held.find? (fun h => decide (h.1 < b1 + n ∧ b1 < h.1 + h.2)) with
    | some h => freeArea held n k (h.1 + h.2)
    | none => b1

/-- The octets of a frame with its check sequence. -/
def withFcs (f : Frame) : List Nat := if f.ingress ≤ 17 then f.octets else f.octets ++ fcsOf f.octets

/-- The octets of a frame without its check sequence. -/
def bodyOf (f : Frame) : List Nat := if f.ingress ≤ 17 then f.octets.take (f.octets.length - 4) else f.octets

/-- Words are written to the packet buffer from word b on. -/
def putWords (s : State) (b : Nat) : List Word → State
  | [] => s
  | w :: r => (s.memWrite 0 0 (b % 2097152) w).putWords (b + 1) r

/-- The octets of a frame, packed to words, are written to the packet buffer from word b on by an agent; a tail that does not fill
its last word is a narrow write (R201). -/
def putFrame (s : State) (agent b n : Nat) (words : List Word) : State :=
  if n % 4 = 0 then s.putWords b words
  else
    (s.putWords b (words.take (n / 4))).memNarrow agent 0 ((b + n / 4) % 2097152) (2 ^ (n % 4) - 1) (words.getD (n / 4) 0)

/-- The four-word receive header (R284). -/
def receiveHeader (d : Delivered) : List Word :=
  [Word.ofN (d.octets.length % 2 ^ 14 + 2 ^ 14 * d.ingress + 2 ^ 19 * d.cls + 2 ^ 22 * d.vid + 2 ^ 34 * d.lan),
   Word.ofN d.tsw, Word.ofN (d.complete % 2 ^ 29),
   (match d.filter with
    | some f => Word.ofN (f + 2 ^ 10)
    | none => 0)]

/-- An area of n words of the packet buffer is taken at a frame index of the device's choice (R316): its first word.
(DESIGN CHOICE, log 11) -/
def takeArea (s : State) (n : Nat) : Nat × State :=
  let m := (n + 15) / 16 * 16
  let (i, s1) := s.free
  let b := freeArea s1.massif.areas m (s1.massif.areas.length + 2) (Config.frameArea i % 131072 * 16)
  (b, s1.modMassif (fun x => { x with areas := x.areas ++ [(b, m)] }))

/-- Whether the packet buffer has room for n words more. -/
def areaRoom (s : State) (n : Nat) : Bool :=
  decide ((s.massif.areas.map (·.2)).foldl (· + ·) 0 + (n + 15) / 16 * 16 ≤ 2097152)

/-- A delivered frame is stored behind its receive header (R284, R435). -/
def storeFrame (s : State) (d : Delivered) : Nat × State :=
  let words := packWords true d.octets
  let (b, s1) := s.takeArea (4 + words.length)
  (b, (s1.putWords b (receiveHeader d)).putFrame 58 (b + 4) d.octets.length words)

/-- A complete frame is delivered to P18 or P19, or freed and counted (R284, R435). -/
def deliver (s : State) (c : Nat) : State :=
  match s.copyAt c with
  | none => s
  | some x =>
    match s.frameAt x.frame with
    | none => s
    | some f =>
      if f.bad ∨ x.lost then (s.swCount x.egress 15).freeCopy c
      else
        let d : Delivered := {
          octets := withFcs f, ingress := f.ingress, cls := x.cls, vid := f.vid, pcp := f.pcp, lan := f.lan
          tsw := f.tsw, complete := f.complete.getD 0, filter := f.filter, mirror := x.mirror }
        let s1 := s.freeCopy c
        if x.egress = 18 then
          if s1.isSet Reg.HDMA_CTRL_P18_EN then
            let (b, s2) := s1.storeFrame d
            let s3 := s2.modMassif (fun m => { m with toHost := m.toHost ++ [{ d with base := b }] })
            s3.push 58 (128 + (s3.fld Reg.HDMA_CTRL_P18_BASE + x.cls) % 64) (b / 16) (Reg.TALUS_QDATA 0)
          else s1.swCount 18 2
        else
          let (b, s2) := s1.storeFrame d
          s2.modMassif (fun m => { m with toSts := m.toSts ++ [{ d with base := b }] })

/-! ### The resequencer (R283) -/

/-- Whether the MAC has needed the first octet of cell idx of the copy that it is sending, or that waits to resume (R288). -/
def neededYet (s : State) (p c idx : Nat) : Bool :=
  let m := s.mac p
  (match m.sending with
   | some g => g.kind == .copy c && (decide (64 * idx < g.sent)
       || decide (g.start + (8 + 64 * idx - g.sent) * s.octetOf p < s.lineNow))
   | none => false)
  || (match m.remainder with
      | some g => g.kind == .copy c && decide (64 * idx < g.sent)
      | none => false)

/-- A cell leaves its resequencer. -/
def passCell (s : State) (c : Cell) : State :=
  let s1 := s.modMassif (fun x => { x with flying := x.flying.filter (· != c) })
  match s1.copyAt c.copy with
  | none => s1
  | some x =>
    let late := s1.neededYet x.egress c.copy c.idx
    let s2 := s1.modCopy c.copy (fun y => { y with got := y.got ++ [c.idx], missed := y.missed || late })
    let whole := ((s2.frameAt x.frame).map (fun f => f.complete.isSome)).getD false && c.idx + 1 == x.cells
    if 18 ≤ x.egress ∧ whole then s2.deliver c.copy else s2

/-- Held cells that have come up are passed on in SEQ order. -/
def passHeld (s : State) (key : Nat) : Nat → State
  | 0 => s
  | n + 1 =>
    let e := Tab.get 0 key s.massif.seqExpect
    match s.massif.held.find? (fun h => 32 * h.cell.ingress + h.cell.egress == key && h.cell.seq == e) with
    | none => s
    | some h =>
      let s1 := s.modMassif (fun x => { x with
        held := x.held.filter (· != h), seqExpect := Tab.put 0 key ((e + 1) % 2 ^ 16) x.seqExpect })
      (s1.passCell h.cell).passHeld key n

/-- A cell reaches its resequencer (R283). -/
def arriveCell (s : State) (c : Cell) : State :=
  let key := 32 * c.ingress + c.egress
  let e := Tab.get 0 key s.massif.seqExpect
  let d := (c.seq + 2 ^ 16 - e) % 2 ^ 16
  if d = 0 then
    let s1 := s.modMassif (fun x => { x with seqExpect := Tab.put 0 key ((e + 1) % 2 ^ 16) x.seqExpect })
    (s1.passCell c).passHeld key (s1.massif.held.length)
  else if 2 ^ 15 ≤ d then s.bumpSat Reg.SWC_CELL_STAT_LATE_CELL 1
  else s.modMassif (fun x => { x with held := x.held ++ [{ cell := c, since := s.clk }] })

/-- A cell is declared lost: its copy loses its frame unless that has started (R283, R289). -/
def loseCell (s : State) (c : Cell) : State :=
  let s1 := s.modMassif (fun x => { x with flying := x.flying.filter (· != c) })
  match s1.copyAt c.copy with
  | none => s1
  | some x =>
    let s2 := s1.modCopy c.copy (fun y => { y with lost := true })
    if x.stage = .queued then (s2.swCount x.egress 15).freeCopy c.copy
    else if 18 ≤ x.egress ∧ c.idx + 1 = x.cells ∧ ((s2.frameAt x.frame).bind (·.complete)).isSome then s2.deliver c.copy
    else s2

/-- The cell held longest by the resequencer of port e for port i has waited 2 µs (R283). -/
def declareLost (s : State) (e i : Nat) : State :=
  let key := 32 * i + e
  match s.massif.held.find? (fun h => h.cell.ingress == i && h.cell.egress == e) with
  | none => s
  | some h =>
    let s1 := s.advanceTo (h.since + 2 * Config.us)
    let from_ := Tab.get 0 key s1.massif.seqExpect
    let here := s1.massif.held.filter (fun h => h.cell.ingress == i && h.cell.egress == e)
    let gap := (h.cell.seq + 2 ^ 16 - from_) % 2 ^ 16
    let missing := ((List.range gap).map (fun n => (from_ + n) % 2 ^ 16)).filter (fun q => !here.any (fun h => h.cell.seq == q))
    let gone := s1.massif.flying.filter (fun c => c.ingress == i && c.egress == e && missing.contains c.seq)
    let s2 := s1.bumpSat Reg.SWC_CELL_STAT_LOST missing.length
    let s3 := gone.foldl loseCell s2
    let before := here.filter (fun x => (x.cell.seq + 2 ^ 16 - from_) % 2 ^ 16 ≤ gap)
    let order := (List.range (gap + 1)).flatMap (fun n => before.filter (fun x => x.cell.seq == (from_ + n) % 2 ^ 16))
    let s4 := order.foldl (fun s x => (s.modMassif (fun m => { m with held := m.held.filter (· != x) })).passCell x.cell) s3
    let s5 := s4.modMassif (fun x => { x with seqExpect := Tab.put 0 key ((h.cell.seq + 1) % 2 ^ 16) x.seqExpect })
    ((s5.passHeld key s5.massif.held.length).raise 104).report 0xA1 104 missing.length (32 * i + e) 0 0

/-! ### Frames from P18 and P19 (R286, R309, R311) -/

/-- The copies from number c on come from transmit ring r. -/
def orderCopies (s : State) (c r : Nat) : State :=
  s.modMassif (fun x => { x with copies := x.copies.map (fun e => if c ≤ e.1 then (e.1, { e.2 with ring := r }) else e) })

/-- A frame of the host port (18) or the engine port (19) is launched (R282, R286, R311): octets without FCS, destination
0–17, 18, 19, 20 + pair or 31 for a database lookup; eligibility tick of full time, none for the present tick plus Λ. -/
def launch (s : State) (ingress : Nat) (octets : List Nat) (dest cls : Nat) (stamp : Option Nat) (oneStep bad : Bool)
    (elig : Option Nat) : State :=
  let tags := tagsOf octets
  let tci := match tags.vlanOff with
    | some o => beAt octets (o + 2) 2
    | none => 1
  let vid := if tci % 2 ^ 12 = 0 then 1 else tci % 2 ^ 12
  let pcp := if tags.vlanOff.isSome then tci / 2 ^ 13 else 0
  let (dests, outer) : List FrameDest × List (Nat × List Nat) :=
    if dest ≤ 18 then ([soleDest dest], [])
    else if dest = 20 ∨ dest = 21 then
      ([], if s.inForce (Reg.SWC_RPCFG_EN (dest - 20)) = 1 then [(dest - 20, s.pairPorts (dest - 20))] else [])
    else if dest = 31 then
      if reservedAddr (dstAddr octets) then ([soleDest (18 + s.inForce (Reg.SWC_PCFG_LL_DEST ingress))], [])
      else match s.maskOf vid (dstAddr octets) with
        | some m => s.resolveMask ingress vid m
        | none => ([], [])
    else ([], [])
  if dests.isEmpty ∧ outer.isEmpty then
    (if bad ∨ dest = 31 ∧ s.dropsDst vid (dstAddr octets) then s else s.swCount ingress 2)
  else
    let k := s.massif.nextFrame
    let f : Frame := {
      ingress := ingress, octets := octets, tsw := 0, clkIn := s.clk, formed := s.tick, complete := some s.tick
      bad := bad, vid := vid, pcp := pcp, tagged := tags.vlanOff.isSome }
    let s1 := s.modMassif (fun x => { x with frames := x.frames ++ [(k, f)], nextFrame := k + 1 })
    let (more, s2) := s1.allPairDests outer
    let s3 := (dests ++ more).foldl (fun s d =>
      (s.makeCopy { frame := k, egress := d.port, twin := d.twin, cls := cls, red := d.red, stamp := stamp, oneStep := oneStep }).2)
      s2
    let s4 := (s3.mirrorCopy k ((dests ++ more).map (·.port))).setElig k s.tick
    let s5 := if elig.isNone then s4 else s4.modMassif (fun x => { x with copies := x.copies.map (fun e =>
      if e.2.frame = k ∧ e.2.egress ≤ 17 then (e.1, { e.2 with elig := elig }) else e) })
    let cells := (octets.length + 63) / 64
    ((List.range cells).foldl (fun s _ => s.formAll k) s5 |>.bump (Reg.SWC_PCNT_COUNT ingress 0) (bit01 (!bad))).sweepFrame k

end State
end Sys2Proof.Machine
end

