-- ==== Sys2Proof/Machine/Egress.lean ====
section
/-! DEFINITION. Transmission at a MAC port: eligibility, the choice of the next frame under gates, guard and pauses,
preemption, timed frames, one-step insertion and the transparent clock, the end of a frame, and half-duplex collisions
(spec/08 R235 to R244, spec/09 R260 to R271, spec/10 R286 to R302). -/
namespace Sys2Proof.Machine
namespace State

/-! ### What a frame looks like on the line (R297, R309) -/

/-- The octets of a copy as its egress port sends them, without FCS and before any insertion of time. A frame too short is padded
before its redundancy trailer, which stays last. (PRESUMED, log 43) -/
def egressOctets (s : State) (x : Copy) (f : Frame) : List Nat :=
  let b := bodyOf f
  let out :=
    if x.mirror then b
    else
      let b1 := if x.red = .keep then b else dropHsr b
      let b2 := setTag b1 ((s.vlan 1 f.vid).bit x.egress) f.pcp f.vid
      let b3 := if s.inForce (Reg.SWC_PCFG_REMOVE_RCT x.egress) = 1 then dropRct b2 else b2
      match x.red with
      | .prp q l => addRct (b3 ++ List.replicate (54 - b3.length) 0) q l
      | .hsr q l => addHsr b3 q l
      | _ => b3
  out ++ List.replicate (60 - out.length) 0

/-- The length of a copy on the line, FCS included; MAX_LEN where it is not yet known (R237). -/
def copyLength (s : State) (p : Nat) (x : Copy) : Nat :=
  match s.frameAt x.frame with
  | some f => if f.complete.isSome then (s.egressOctets x f).length + 4 else s.inForce (Reg.MAC_CFG_MAX_LEN p)
  | none => 64

/-- Whether preemption is active on port p (R240). -/
def preempts (s : State) (p : Nat) : Bool :=
  s.inForce (Reg.MAC_PREEMPT_EN p) == 1 &&
    (s.fld (Reg.MAC_PREEMPT_STATUS p) == 3 || s.inForce (Reg.MAC_PREEMPT_VERIFY_DIS p) == 1)

/-- Whether frames of a class are preemptable on port p (R240). -/
def preemptable (s : State) (p cls : Nat) : Bool :=
  s.preempts p && !(s.inForce (Reg.MAC_PREEMPT_EXPRESS p)).testBit cls

/-- Octets of the smallest fragment, mCRC included (R241). -/
def minFragment (s : State) (p : Nat) : Nat := 64 * (1 + s.inForce (Reg.MAC_PREEMPT_ADD_FRAG p))

/-! ### Timed frames waiting (R236 to R239) -/

/-- The pending timed frame of port p that is performed first: by due tick, agent, posting order (R238). -/
def nextTimed (s : State) (p : Nat) : Option Posted :=
  (s.posted.filter (fun q => q.unit == p)).foldl (fun b q => match b with
    | none => some q
    | some r =>
      let dq := s.distance (q.due / 128 * 128)
      let dr := s.distance (r.due / 128 * 128)
      if dq < dr ∨ dq = dr ∧ (q.agent < r.agent ∨ q.agent = r.agent ∧ q.seq < r.seq) then some q else some r) none

/-- The start instant of a timed frame (R236). -/
def timedStart (s : State) (p : Nat) (q : Posted) : Nat :=
  s.startAt p (s.lineOf ((s.tbu.time : Int) + s.distance (q.due / 128 * 128)))

/-- The start instant T of the earliest pending timed frame (R237). -/
def guardAt (s : State) (p : Nat) : Option Nat := (s.nextTimed p).map (s.timedStart p)

/-! ### Whether and how a frame may start (R237, R298, R300) -/

/-- The line instant at which gate c of port p closes next after a line instant. -/
def closingAt (s : State) (p c x : Nat) : Option Nat :=
  (s.nextClosing p c (s.fullOf x / 128)).map (fun t => s.lineOf (t * 128))

/-- The earlier of two limits. -/
def earlier : Option Nat → Option Nat → Option Nat
  | some a, some b => some (min a b)
  | some a, none => some a
  | none, b => b

/-- Whether n more octets of a class, FCS included, may start at line instant x: none, or after how many of them the fragment
must end (R237, R241, R300). -/
def mayStart (s : State) (p cls n x : Nat) : Option (Option Nat) :=
  let oct := s.octetOf p
  if ¬ (s.gates p (s.fullOf x / 128)).testBit cls then none
  else match earlier (s.guardAt p) (s.closingAt p cls x) with
    | none => some none
    | some lim =>
      if x + (8 + n + 12) * oct ≤ lim then some none
      else if s.preemptable p cls ∧ x + (s.minFragment p + 75) * oct ≤ lim ∧ s.minFragment p + 60 ≤ n then
        some (some (min ((lim - x) / oct - 24) (n - 64)))
      else none

/-- The order in which copies reach their port: by eligibility tick, then by ingress port, for P18 by ring (R291, R298, R438). -/
def eligKey (s : State) (x : Copy) : Nat × Nat := (x.elig.getD 0, 64 * ((s.frameAt x.frame).map (·.ingress)).getD 0 + x.ring)

/-- Of copies in the order of their making, the one that comes first. -/
def firstCopy (s : State) (l : List (Nat × Copy)) : Option (Nat × Copy) :=
  l.foldl (fun b e => match b with
    | none => some e
    | some y =>
      let k := s.eligKey e.2
      let l := s.eligKey y.2
      if k.1 < l.1 ∨ k.1 = l.1 ∧ k.2 < l.2 then some e else some y) none

/-- The head of class queue c of port p (R298). -/
def classHead (s : State) (p c : Nat) : Option (Nat × Copy) :=
  s.firstCopy (s.massif.copies.filter (fun e => e.2.egress == p && e.2.stage == .queued && e.2.cls == c))

/-- The class queues' heads, highest class first. -/
def heads (s : State) (p : Nat) : List (Nat × Copy) := [7, 6, 5, 4, 3, 2, 1, 0].filterMap (s.classHead p)

/-- Whether the egress of a port is empty. -/
def egressEmpty (s : State) (p : Nat) : Bool :=
  let m := s.mac p
  m.sending.isNone && m.remainder.isNone && m.retry.isNone && m.ctrls.isEmpty
    && !s.massif.copies.any (fun e => e.2.egress == p && e.2.stage == .queued)

/-! ### The end of a copy at its port -/

/-- The entry of a frame that asked for a transmit timestamp (R260, R261): its descriptor's tag, or TX_AUTO. -/
def stampFor (s : State) (p : Nat) (stamp : Option Nat) (octets : List Nat) (status tsw : Nat) : State :=
  let ptp := ptpOf octets
  let type := (ptp.map (·.type)).getD 0
  match stamp, ptp with
  | some tag, _ => s.stamp p { tsw := tsw, status := status, auto := false, msgType := type, tag := tag }
  | none, some m =>
    if (s.inForce (Reg.MAC_TS_CFG_TX_AUTO p)).testBit m.type then
      s.stamp p { tsw := tsw, status := status, auto := true, msgType := type, tag := beAt octets (m.off + 30) 2 }
    else s
  | none, none => s

/-- A copy that never starts leaves its port, with the entry DISCARDED where it asked for one. -/
def discardCopy (s : State) (p c : Nat) : State :=
  match s.copyAt c with
  | none => s
  | some x =>
    let octets := match s.frameAt x.frame with
      | some f => s.egressOctets x f
      | none => []
    (s.stampFor p x.stamp octets 2 0).freeCopy c

/-! ### Eligibility (R286, R288, R289, R291) -/

/-- The copy of port p whose eligibility tick comes first; those of one tick in ascending ingress port order (R291). -/
def nextEligible (s : State) (p : Nat) : Option (Nat × Copy) :=
  s.firstCopy (s.massif.copies.filter (fun e => e.2.egress == p && e.2.stage == .waiting && e.2.elig.isSome))

/-- A frame misses its eligibility at port p (R288). (DEDUCED, log 42) -/
def missEligibility (s : State) (p c e : Nat) : State := ((s.swCount p 12).late p 58 (e * 128 % 2 ^ 36)).freeCopy c

/-- Tick E of the copy that comes first at port p. -/
def eligible (s : State) (p : Nat) : State :=
  match s.nextEligible p with
  | none => s
  | some (c, x) =>
    let e := x.elig.getD 0
    let s1 := s.advanceToTime (e * 128)
    match s1.frameAt x.frame with
    | none => s1.freeCopy c
    | some f =>
      let fromMac := f.ingress ≤ 17
      let first := x.got.contains 0
      if ¬ fromMac ∧ ¬ s1.admits p x.cls then
        (s1.bump (Reg.SWC_PCNT_COUNT f.ingress (if x.mirror then 14 else 3)) (bit01 (!f.bad))).freeCopy c
      else if ¬ first ∧ ¬ x.lost then s1.missEligibility p c e
      else if (x.lost ∨ f.bad) ∧ (¬ fromMac ∨ (f.complete.map (fun t => decide (t + s1.latency x ≤ e))).getD false ∨ ¬ first) then
        (s1.swCount p 15).freeCopy c
      else
        let s2 := s1.modCopy c (fun y => { y with stage := .queued, counted := if fromMac then y.counted else y.cells })
        if fromMac then s2.flow f.ingress else s2

/-! ### Residence and inserted time (R263 to R271) -/

/-- The residence of a frame whose recorded egress instant is clk of the elapsed clock, and whether a step of time falls in it
(R268). -/
def residence (s : State) (f : Frame) (clk : Int) : Int × Bool :=
  let steps := s.tbu.steps.filter (fun x => decide (f.clkIn < x.1 ∧ (x.1 : Int) ≤ clk))
  ((((s.tswAt clk : Int) - f.tsw) % 2 ^ 36) - steps.foldl (fun n x => n + x.2) 0, !steps.isEmpty)

/-- Whether the transparent clock of port p corrects or counts a copy: the message (R268). A frame still coming in is recognised
from what it holds so far (R270: the discard comes before its start). (DEDUCED, log 46) -/
def tcMessage (s : State) (p : Nat) (x : Copy) (f : Frame) (octets : List Nat) : Option Ptp :=
  if f.ingress ≤ 17 ∧ ¬ x.mirror ∧ s.inForce (Reg.MAC_TS_CFG_TC_MODE p) ≠ 0 then ptpIn octets f.complete.isSome else none

/-- What bars a copy from its port (R268 to R270): a residence too long, a peer-delay message under P2P; and whether its residence
spans a step. -/
def tcBars (s : State) (p : Nat) (x : Copy) (f : Frame) (clk : Int) : Bool × Bool × Bool :=
  match s.tcMessage p x f (s.egressOctets x f) with
  | none => (false, false, false)
  | some m =>
    let (r, span) := s.residence f clk
    ((s.inForce (Reg.MAC_TS_CFG_RES_MAX p) * Config.us : Int) < r,
      s.inForce (Reg.MAC_TS_CFG_TC_MODE p) == 2 && 2 ≤ m.type, span)

/-- Whether fields of a message may be changed: UDP/IPv6 needs the trailing octets (R265, R266, R269). -/
def changeable (s : State) (p : Nat) (m : Ptp) : Bool :=
  match m.via with
  | .udp6 _ => s.inForce (Reg.MAC_TS_CFG_IPV6_TRAIL p) == 1
  | _ => true

/-- The transparent clock's correction of a forwarded message (R268, R269): octets, whether corrected, counters. -/
def correct (s : State) (p : Nat) (x : Copy) (f : Frame) (octets : List Nat) (clk : Int) :
    List Nat × Bool × State :=
  match s.tcMessage p x f octets with
  | none => (octets, false, s)
  | some m =>
    let (r, span) := s.residence f clk
    let s1 := if span then s.tsCount p 7 else s
    let mode := s.inForce (Reg.MAC_TS_CFG_TC_MODE p)
    if mode = 2 ∧ m.type ≠ 0 then (octets, false, s1)
    else if ¬ s.changeable p m then (octets, false, s1.tsCount p 5)
    else
      let d := if mode = 2 then r + s.inForce (Reg.MAC_TS_LINKDLY_DLY f.ingress) else r
      (fixUdp (addCorrection octets m.off (d * 4096)) m.via, true, s1)

/-- One-step insertion into a locally originated frame (R263 to R266); clk is its recorded egress instant. -/
def oneStep (s : State) (p : Nat) (octets : List Nat) (clk : Int) : List Nat × State :=
  let skip (s : State) : List Nat × State :=
    (octets, ((s.tsCount p 3).setFld (Reg.MAC_TS_STAT_ONESTEP_ERR p) 1).raise 98)
  match ptpOf octets with
  | none => skip s
  | some m =>
    if ¬ s.changeable p m then skip s
    else if m.type = 0 then
      let t := (s.timeAt clk).toNat
      let o1 := putBe (putBe octets (m.off + 34) 6 (t / Config.sec)) (m.off + 40) 4 (t % Config.sec / 16)
      (fixUdp (addCorrection o1 m.off ((t % 16 : Nat) * 4096)) m.via, s.tsCount p 2)
    else if m.type = 3 then
      let d := (((s.tswAt clk : Int) - 16 * beAt octets (m.off + 16) 4) % 2 ^ 36).toNat
      if 2 ^ 35 ≤ d then skip s
      else (fixUdp (putBe (addCorrection octets m.off (d * 4096)) (m.off + 16) 4 0) m.via, s.tsCount p 2)
    else skip s

/-! ### Starting -/

/-- The elapsed clock of the recorded egress instant of a frame that port p starts at line instant x: the timestamp point, 8 octet
times on, plus TXADJ (R254, R262). -/
def clkOut (s : State) (p x : Nat) : Int :=
  ((x + 8 * s.octetOf p) / 5 : Nat) + signed 16 (s.inForce (Reg.MAC_TS_TXADJ_ADJ p))

/-- Port p starts to send at line instant x (R254), under the settings in force then (R24); an untimed frame takes one of its
transmit opportunity's places (R244). -/
def begin_ (s : State) (p x : Nat) (kind : TxKind) (cls : Nat) (preemptable : Bool) (cut : Option Nat) : State :=
  let s1 := s.advanceToLine x
  s1.modMac p (fun m => { m with
    deferred := false
    retry := none
    opportunity := m.opportunity - 1
    sending := some { kind := kind, start := x, clk := s.clkOut p x, cls := cls, preemptable := preemptable, cut := cut
                      act := s.frameSettings } })

/-- The copy c of port p starts at line instant x, unless its residence bars it (R269, R270). (DEDUCED, log 39 and 46) -/
def startCopy (s : State) (p c : Nat) (y : Copy) (x : Nat) (cut : Option Nat) : State :=
  let (long, peer, span) := match s.frameAt y.frame with
    | some f => s.tcBars p y f (s.clkOut p x)
    | none => (false, false, false)
  if peer ∨ long then
    let s0 := (if span then s.tsCount p 7 else s).modMac p (fun m => { m with retry := none })
    if peer then s0.freeCopy c
    else (((s0.tsCount p 6).setFld (Reg.MAC_TS_STAT_TC_DROP p) 1).raise 99).discardCopy p c
  else
    let s1 := s.modCopy c (fun z => { z with stage := .started })
    s1.begin_ p x (.copy c) y.cls (s1.preemptable p y.cls) cut

/-- The remainder of a preempted frame resumes at line instant x (R241). -/
def resume (s : State) (p x : Nat) (g : Sending) (cut : Option Nat) : State :=
  (s.advanceToLine x).modMac p (fun m => { m with
    remainder := none, sending := some { g with start := x, cut := cut } })

/-- A frame that a collision ended is sent again at line instant x (R243). -/
def again (s : State) (p x : Nat) : State :=
  match (s.mac p).retry with
  | some (.copy c, _) => match s.copyAt c with
    | some y => s.startCopy p c y x none
    | none => s.modMac p (fun m => { m with retry := none })
  | some (k, cls) => s.begin_ p x k cls false none
  | none => s

/-- Frame octets of a transmission, FCS included. (DEDUCED, log 41) -/
def txLength (s : State) (p : Nat) (g : Sending) : Nat :=
  match g.kind with
  | .copy c => match s.copyAt c with
    | some x => s.copyLength p x
    | none => 64
  | .timed o _ => o.length + 4
  | .control _ => 64

/-- The first head of the class queues that may start at line instant x, or the remainder that may resume. -/
def choose (s : State) (p x : Nat) : State :=
  let m := s.mac p
  let fits (e : Nat × Copy) : Option (Nat × Copy × Option Nat) :=
    if s.pausedAt p e.2.cls x ∨ (m.remainder.isSome ∧ s.preemptable p e.2.cls) then none
    else (s.mayStart p e.2.cls (s.copyLength p e.2) x).map (fun cut => (e.1, e.2, cut))
  match (s.heads p).findSome? fits, m.remainder with
  | some (c, y, cut), _ => s.startCopy p c y x cut
  | none, some g =>
    match s.mayStart p g.cls (s.txLength p g - g.sent) x with
    | some cut => s.resume p x g cut
    | none => s
  | none, none => s

/-- Octets of the present fragment that the line has begun to carry. -/
def soFar (s : State) (p : Nat) (g : Sending) : Nat :=
  let oct := s.octetOf p
  (s.lineNow - g.start + (oct - 1)) / oct - 8

/-- An express frame that is ready makes the preemptable frame in transmission end its fragment at the first allowed point
(R241). -/
def preemptNow (s : State) (p : Nat) (g : Sending) : State :=
  let n := s.txLength p g - g.sent
  let cut := max (s.minFragment p - 4) (s.soFar p g)
  let ready := (s.heads p).any (fun e => !s.preemptable p e.2.cls && !s.pausedAt p e.2.cls s.lineNow
    && (s.gates p (s.fullOf s.lineNow / 128)).testBit e.2.cls)
  if ready ∧ g.preemptable ∧ g.cut = none ∧ cut + 64 ≤ n then
    s.modMac p (fun m => { m with sending := some { g with cut := some cut } })
  else s

/-- Every frame that Massif hands a port that is not open is discarded (R230). A preempted frame's remainder, a frame to be sent
again and control frames asked for stay, and leave after the next UP. (DEDUCED, log 39) -/
def discardDown (s : State) (p : Nat) : State :=
  ((s.massif.copies.filter (fun e => e.2.egress == p && e.2.stage == .queued)).map (·.1)).foldl
    (fun s c => (s.macCount p 18 1).discardCopy p c) s

/-- Whether the port keeps to its transmit opportunities (R244). -/
def plcaOn (s : State) (p : Nat) : Bool :=
  s.isSet (Reg.MAC_STAT_HALF p) && s.inForce (Reg.MAC_PLCA_EN p) == 1 && s.isSet (Reg.MAC_STAT_PLCA_OK p)

/-- A frame boundary of a port whose line is free from instant x on: a frame that a collision ended goes first, then a control frame
that the guard lets start, then what Massif has queued. A paused port only resumes a preempted frame (R232 to R234, R237, R243). -/
def startNext (s : State) (p x : Nat) : State :=
  let m := s.mac p
  if x < m.pauseUntil then s.choose p x
  else if m.retry.isSome then s.again p x
  else match m.ctrls with
    | k :: rest =>
      let clear := match s.guardAt p with
        | some t => decide (x + (8 + 64 + 12) * s.octetOf p ≤ t)
        | none => true
      if clear then (s.modMac p (fun m => { m with ctrls := rest })).begin_ p x (.control k) 7 false none
      else s.choose p x
    | [] => s.choose p x

/-- A frame boundary at port p (R230, R243 to R245, R249, R298): the next frame starts, where one may. carrier says whether a
half-duplex line is busy. -/
def frameBoundary (s : State) (p : Nat) (carrier : Bool) : State :=
  let m := s.mac p
  let x := s.startAt p (max s.lineNow m.free)
  if ¬ s.linkOpen p then s.discardDown p
  else match m.sending with
    | some g => s.underFrame g.act (fun s => s.preemptNow p g)
    | none =>
      if m.backoff.isSome ∨ s.isSet (Reg.MAC_STAT_LPI_TX p) ∨ m.locking.isSome then s
      else if s.plcaOn p then
        if m.opportunity = 0 ∨ m.opportunityEnd < x then s.modMac p (fun m => { m with opportunity := 0 }) else s.startNext p x
      else if s.isSet (Reg.MAC_STAT_HALF p) ∧ carrier then
        if m.deferred ∨ ((s.heads p).isEmpty ∧ m.ctrls.isEmpty ∧ m.retry.isNone) then s
        else (s.macCount p 22 1).modMac p (fun m => { m with deferred := true })
      else s.startNext p x

/-! ### The end of a frame (R241, R250, R261, R289, R290) -/

/-- The octets of a control frame, without FCS (R232, R233, R247). -/
def ctrlOctets (s : State) (p : Nat) (k : Ctrl) : List Nat :=
  let src := beOctets 6 (s.macAddr0 p)
  let body : List Nat := match k with
    | .pause q => beOctets 6 0x0180C2000001 ++ src ++ beOctets 2 0x8808 ++ beOctets 2 1 ++ beOctets 2 q
    | .pfc c q => beOctets 6 0x0180C2000001 ++ src ++ beOctets 2 0x8808 ++ beOctets 2 0x0101 ++ beOctets 2 c
        ++ (List.range 8).flatMap (fun i => beOctets 2 (if c.testBit i then q else 0))
    | .saddle t q => beOctets 6 0x0300C5964800 ++ src ++ beOctets 2 0x88B5 ++ [1, t] ++ beOctets 2 q
    | .verify => []
  body ++ List.replicate (60 - body.length) 0

/-- The TSW that a transmission records (R254). -/
def txTsw (s : State) (g : Sending) : Nat := s.tswAt g.clk

/-- The line instant until which the next frame of a burst may start after a frame that ends at line instant x (R244). -/
def burstEnd (s : State) (p x : Nat) : Nat := x + 8000 * s.inForce (Reg.MAC_PLCA_B_BURST_TMR p)

/-- The line is free after n octets from the preamble on and the gap; the port's octets of the present millisecond count. -/
def endLine (s : State) (p : Nat) (g : Sending) (n : Nat) (timed : Bool) : State :=
  let oct := s.octetOf p
  let s1 := s.advanceToLine (g.start + (8 + n) * oct)
  s1.modMac p (fun m => { m with
    sending := none, free := g.start + (8 + n + 12) * oct, attempts := 0
    timedEnd := if timed then g.start + (8 + n + 12) * oct else m.timedEnd
    opportunityEnd := s.burstEnd p (g.start + (8 + n) * oct)
    windowOctets := m.windowOctets + n, emptySince := s1.clk })

/-- An ACK that the port has sent, or received, arms its switch 8 µs on (R249). -/
def armSwitch (s : State) (p : Nat) (up : Bool) : State :=
  s.modMac p (fun m => { m with switchAt := some (up, s.lineNow + 5 * 8 * Config.us) })

/-- The port's own request has been sent: the 1 ms in which it is to be answered begins (R248). -/
def requestSent (s : State) (p seq : Nat) : State :=
  s.modMac p (fun m => { m with
    request := m.request.map (fun r => if r.seq = seq then { r with at_ := some s.clk } else r) })

/-- A control frame ends: PAUSE, PFC and saddle frames count among the frames sent with good FCS (R250). -/
def endControl (s : State) (p : Nat) (g : Sending) (k : Ctrl) : State :=
  let s1 := s.endLine p g 64 false
  let s2 := if k = .verify then s1 else ((s1.macCount p 13 1).macCount p 11 1).macCount p 12 64
  let s3 := (s2.emit (.frame p (s.ctrlOctets p k) (s2.txTsw g) true)).tmuxPulse 7 p (s2.txTsw g) 8
  match k with
  | .saddle 1 q => s3.requestSent p q
  | .saddle 4 q => s3.requestSent p q
  | .saddle 2 _ => s3.armSwitch p false
  | .saddle 5 _ => s3.armSwitch p true
  | _ => s3

/-- A frame's line counts and transmit timestamp entry at its end. -/
def endCounts (s : State) (p : Nat) (stamp : Option Nat) (octets : List Nat) (g : Sending) (good : Bool) : State :=
  let s1 :=
    if good then (s.macCount p 11 1).macCount p 12 (octets.length + 4)
    else s.macCount p 14 1
  let s2 := if good ∧ (ptpOf octets).isSome then s1.tsCount p 1 else s1
  let tsw := s2.txTsw g
  ((s2.stampFor p stamp octets (bit01 (!good)) tsw).emit (.frame p octets tsw good)).tmuxPulse 7 p tsw 8

/-- A timed frame ends. -/
def endTimed (s : State) (p : Nat) (g : Sending) (octets : List Nat) (one : Bool) : State :=
  let s1 := s.endLine p g (octets.length + 4) true
  let (o, s2) := if one then s1.oneStep p octets g.clk else (octets, s1)
  (s2.endCounts p none o g (!g.bad)).macCount p 16 1

/-- A fragment ends and the frame's remainder waits (R241). -/
def endFragment (s : State) (p : Nat) (g : Sending) (n : Nat) : State :=
  let s1 := (s.endLine p g (n + 4) false).macCount p 15 1
  s1.modMac p (fun m => { m with remainder := some { g with sent := g.sent + n, cut := none } })

/-- The octets of a frame, those of cells that a copy has not got replaced by free values. (DESIGN CHOICE, log 42) -/
def heldOctets (s : State) (x : Copy) (f : Frame) : Frame × State :=
  if (List.range x.cells).all x.got.contains then (f, s)
  else
    let (i, s1) := s.free
    ({ f with octets := f.octets.zipIdx.map (fun (o, n) =>
        if x.got.contains (n / 64) then o else (Config.lostOctet i n).toNat) }, s1)

/-- A copy ends, whole or stomped (R288 to R290): a stomped one too sends every octet it has not yet sent. -/
def endCopy (s : State) (p c : Nat) (g : Sending) (x : Copy) (f : Frame) : State :=
  let here := f.complete.isSome && (List.range x.cells).all x.got.contains
  let miss := (x.missed || !here) && !x.lost
  let bad := x.lost || f.bad || miss
  let (h, s0) := s.heldOctets x f
  let sentOctets := s0.egressOctets x h
  let s1 := s0.endLine p g (sentOctets.length + 4 - g.sent) false
  let (o1, fixed, s2) := s1.correct p x f sentOctets g.clk
  let (o2, s3) := if x.oneStep ∧ 18 ≤ f.ingress then s2.oneStep p o1 g.clk else (o1, s2)
  let s4 := s3.endCounts p x.stamp o2 g (!bad)
  let s5 := if fixed ∧ ¬ bad then s4.tsCount p 4 else s4
  let s6 := if bad then s5.swCount p 11 else s5.swCount p 10
  let s7 := if miss then (s6.swCount p 12).late p 58 ((x.elig.getD 0) * 128 % 2 ^ 36) else s6
  s7.freeCopy c

/-- A transmission of port p ends: a fragment where it was cut, a frame otherwise. -/
def endSending (s : State) (p : Nat) (g : Sending) : State :=
  match g.cut, g.kind with
  | some n, _ => s.endFragment p g n
  | none, .control k => s.endControl p g k
  | none, .timed o one => s.endTimed p g o one
  | none, .copy c =>
    match s.copyAt c with
    | none => s.endLine p g 64 false
    | some x =>
      match s.frameAt x.frame with
      | none => (s.endLine p g 64 false).freeCopy c
      | some f => s.endCopy p c g x f

/-- The transmission of port p ends, under the settings it began under (R24). -/
def txEnd (s : State) (p : Nat) : State :=
  match (s.mac p).sending with
  | none => s
  | some g => s.underFrame g.act (fun s => s.endSending p g)

/-- The line instant at which the transmission in progress leaves the line free, its gap included. -/
def txFreeAt (s : State) (p : Nat) (g : Sending) : Nat :=
  let n := match g.cut with
    | some n => n + 4
    | none => s.txLength p g - g.sent
  g.start + (8 + n + 12) * s.octetOf p

/-! ### Timed frames (R235 to R239) -/

/-- A SEND_TIMED's completion entry is pushed (R239). -/
def doneEntry (s : State) (p arg outcome : Nat) : State :=
  if s.inForce (Reg.MAC_CFG_DONE_EN p) = 1 then
    let q := s.inForce (Reg.MAC_CFG_DONE_Q p)
    s.push 58 q (arg % 2 ^ 21 + 2 ^ 21 * outcome + 2 ^ 24 * p) (Reg.TALUS_QDATA q)
  else s

/-- A timed frame is blocked (R239). -/
def blockTimed (s : State) (p : Nat) (q : Posted) (cause : Nat) : State :=
  (((s.macCount p 17 1).macEvent p 2).report (0x80 + p) 90 cause q.due q.agent 0).doneEntry p q.arg cause

/-- The words of a timed frame, read by Massif's agent; whether one of them was uncorrectable. -/
def readWords (s : State) (a : Nat) : Nat → List Word × Bool × State
  | 0 => ([], false, s)
  | n + 1 =>
    let (w, syn, s1) := s.memRead 58 0 0 (a % 2097152) false
    let (ws, bad, s2) := s1.readWords (a + 1) n
    (w :: ws, bad || syn == .uncorrectable, s2)

/-- SEND_TIMED: the timed frame of port p that comes first starts at its start instant, or is blocked. (DEDUCED, log 39) -/
def sendTimed (s : State) (p : Nat) : State :=
  match s.nextTimed p with
  | none => s
  | some q =>
    let t := s.timedStart p q
    let oct := s.octetOf p
    let cutFor (s : State) : State := match (s.mac p).sending with
      | some g =>
        let n := s.txLength p g - g.sent
        let c := (t - g.start) / oct - 24
        if t < s.txFreeAt p g ∧ g.preemptable ∧ s.minFragment p ≤ c + 4 ∧ s.soFar p g ≤ c ∧ c + 64 ≤ n then
          s.modMac p (fun m => { m with sending := some { g with cut := some c } })
        else s
      | none => s
    let finishUp (s : State) : State := match (s.mac p).sending with
      | some g => if s.txFreeAt p g ≤ t then s.txEnd p else s
      | none => s
    let s1 := (finishUp (cutFor s)).advanceToLine t
    let s2 := { s1 with posted := s1.posted.filter (· != q) }
    let m := s2.mac p
    let len := q.arg / 2 ^ 21 % 2 ^ 14
    if ¬ s2.linkOpen p then s2.blockTimed p q 2
    else if s2.pausedAt p 7 t then s2.blockTimed p q 3
    else if t < m.timedEnd ∨ t < m.free ∨ m.sending.isSome then s2.blockTimed p q 4
    else if len = 0 ∨ s2.inForce (Reg.MAC_CFG_MAX_LEN p) < len + 4 then s2.blockTimed p q 5
    else if s2.inForce (Reg.MAC_CFG_TIMED p) = 0 then s2.blockTimed p q 6
    else
      let (ws, bad, s3) := (s2.noteSlack q).readWords (q.arg % 2 ^ 21) ((len + 3) / 4)
      let octets := (unpackWords ws).take len
      let s4 := s3.begin_ p t (.timed (octets ++ List.replicate (60 - len) 0) (q.arg.testBit 35)) 7 false none
      let s5 := if bad then s4.modMac p (fun m => { m with sending := m.sending.map (fun g => { g with bad := true }) }) else s4
      s5.doneEntry p q.arg 1

/-! ### Half duplex (R243) -/

/-- One step of the backoff register: x^16 + x^14 + x^13 + x^11 + 1. (DEDUCED, log 39) -/
def lfsrStep (v : Nat) : Nat :=
  let bit (i : Nat) : Nat := v / 2 ^ i % 2
  v * 2 % 2 ^ 16 + (bit 15 + bit 13 + bit 12 + bit 10) % 2

/-- n steps of the backoff register. -/
def lfsrSteps : Nat → Nat → Nat
  | 0, v => v
  | n + 1, v => lfsrSteps n (lfsrStep v)

/-- A frame in transmission at port p is given up after a collision: a copy leaves Massif, with the entry DISCARDED where it asked for
one and discarded says that the attempts were exhausted (R243, R261). A late collision makes no entry. (DEDUCED, log 39) -/
def giveUp (s : State) (p : Nat) (g : Sending) (discarded : Bool) : State :=
  let s1 := s.modMac p (fun m => { m with attempts := 0, emptySince := s.clk })
  match g.kind with
  | .copy c => if discarded then s1.discardCopy p c else s1.freeCopy c
  | _ => s1

/-- A collision (R243): the jam of 32 bits follows; the frame is sent again after a backoff of r slot times, unless the collision is
late or the attempts are exhausted. -/
def collide (s : State) (p : Nat) : State :=
  match (s.mac p).sending with
  | none => s
  | some g =>
    let oct := s.octetOf p
    let tooLate := g.start + 64 * oct < s.lineNow
    let s1 := (s.macCount p 19 1).modMac p (fun m => { m with
      sending := none, free := s.lineNow + (4 + 12) * oct, attempts := m.attempts + 1 })
    let n := (s1.mac p).attempts
    if tooLate then (s1.macCount p 20 1).giveUp p g false
    else if 16 ≤ n then (s1.macCount p 21 1).giveUp p g true
    else
      let v := lfsrSteps 16 (s1.mac p).lfsr
      let r := v % 2 ^ min n 10
      s1.modMac p (fun m => { m with
        retry := some (g.kind, g.cls), lfsr := v, backoff := some (s.lineNow + (4 + 64 * r) * oct) })

end State
end Sys2Proof.Machine
end

