-- ==== Sys2Proof/Machine/Mac.lean ====
section
/-! DEFINITION. The MACs: reception, saddle frames and rate steps, register access, and the commands of
spec/08_ethernet_mac.md and spec/09_timestamping_ptp.md. -/
namespace Sys2Proof.Machine

/-- The SMD octets of first fragments by frame count, also the fragment counts 0 to 3; and those of continuations (IEEE 802.3br,
R242). (PRESUMED, log 40) -/
def smdStart : List Nat := [0xE6, 0x4C, 0x7F, 0xB3]
def smdNext : List Nat := [0x61, 0x52, 0x9E, 0x2A]

namespace State

/-! ### Automatic rate step-down (R246 to R249) -/

/-- A DOWN_REQ of a peer (R248). -/
def downReq (s : State) (p seq peer : Nat) : State :=
  let m := s.mac p
  let meets := s.inForce (Reg.MAC_STEP_EN p) = 1 ∧ s.inForce (Reg.MAC_CFG_TIMED p) = 0 ∧ s.rateOf p = 4
    ∧ s.inForce (Reg.MAC_STEP_HOLD p) ≤ m.quietWindows
  let answer (s : State) (ok : Bool) : State := s.askCtrl p (.saddle (if ok then 2 else 3) seq)
  match m.request with
  | some r =>
    if r.up then answer s false
    else if s.macAddr0 p < peer then s
    else answer (s.modMac p (fun m => { m with request := none })) (decide meets)
  | none => answer s (decide meets)

/-- The port's own request has been answered (R248): its kind must be the one the answer names. -/
def stepAnswered (s : State) (p : Nat) (up : Bool) (seq : Nat) (ack : Bool) : State :=
  match (s.mac p).request with
  | some r =>
    if r.up = up ∧ r.seq = seq then
      let s1 := (s.modMac p (fun m => { m with request := none, unanswered := 0 })).setFld (Reg.MAC_STAT_STEP_PEER p) 1
      if ack then s1.armSwitch p up else s1
    else s
  | none => s

/-- An UP_REQ of a peer is always answered UP_ACK, and takes precedence over a DOWN_REQ of this port (R248). -/
def upReq (s : State) (p seq : Nat) : State :=
  let s1 := s.modMac p (fun m => { m with
    request := match m.request with
      | some r => if r.up then some r else none
      | none => none })
  s1.askCtrl p (.saddle 5 seq)

/-- A saddle frame of a type, with its sequence number and sender (R247). -/
def saddle (s : State) (p type seq peer : Nat) : State :=
  match type with
  | 1 => s.downReq p seq peer
  | 2 => s.stepAnswered p false seq true
  | 3 => s.stepAnswered p false seq false
  | 4 => s.upReq p seq
  | _ => s.stepAnswered p true seq true

/-- The port is asked to send a saddle request (R248). -/
def sendRequest (s : State) (p : Nat) (up : Bool) : State :=
  let q := (s.mac p).stepSeq
  (s.askCtrl p (.saddle (if up then 4 else 1) q)).modMac p (fun m => { m with
    request := some { up := up, seq := q, at_ := none }, stepSeq := (q + 1) % 2 ^ 16 })

/-- A whole millisecond of TBU time: the egress octets of the window are judged (R248). LOW and HIGH are percent of 312,500
octets. -/
def stepWindow (s : State) (p : Nat) : State :=
  let m := s.mac p
  let n := m.windowOctets
  let quiet := if n < 3125 * s.inForce (Reg.MAC_STEP_LOW p) then m.quietWindows + 1 else 0
  let s1 := s.modMac p (fun m => { m with windowOctets := 0, windowAt := s.tbu.time, quietWindows := quiet })
  let idle := m.request.isNone ∧ m.switchAt.isNone ∧ m.locking.isNone
  if s1.inForce (Reg.MAC_STEP_EN p) = 1 ∧ s1.rateOf p = 4 ∧ s1.inForce (Reg.MAC_STEP_HOLD p) ≤ quiet ∧ idle
      ∧ s1.fld (Reg.MAC_STAT_STEP_PEER p) ≠ 2 then s1.sendRequest p false
  else if s1.isSet (Reg.MAC_STAT_STEPPED p) ∧ 3125 * s1.inForce (Reg.MAC_STEP_HIGH p) < n ∧ idle then
    s1.sendRequest p true
  else s1

/-! ### Reception (R226, R227, R230, R242, R254, R259, R290) -/

/-- Whether the MAC ends a frame itself: EtherType 0x8808, or a saddle frame (R226, R247). -/
def macEnds (octets : List Nat) : Bool :=
  beAt octets 12 2 == 0x8808 || dstAddr octets == 0x0300C5964800 && beAt octets 12 2 == 0x88B5

/-- The elapsed clock of the recorded ingress instant of a frame whose timestamp point lies back sixteenths before now: the point
minus RXADJ (R254). -/
def clkIn (s : State) (p back : Nat) : Int := (s.clk : Int) - back - signed 16 (s.inForce (Reg.MAC_TS_RXADJ_ADJ p))

/-- 64 octets of a frame have been received, and more follow (R282). -/
def cellForm (s : State) (p back : Nat) (octets : List Nat) : State :=
  if octets.length ≠ 64 ∨ ¬ s.linkOpen p then s
  else match (s.mac p).receiving with
    | some r =>
      let r1 := { r with octets := r.octets ++ octets }
      let s1 := s.modMac p (fun m => { m with receiving := some r1 })
      (match r.frame with
       | some k => s1.underFrame r.act (fun s => (s.modFrame k (fun f => { f with octets := r1.octets })).formAll k)
       | none => s1)
    | none =>
      let r : Receiving := { octets := octets, frame := none, act := s.frameSettings }
      if macEnds octets then s.modMac p (fun m => { m with receiving := some r })
      else
        let (k, s1) := s.ingest p octets (s.clkIn p back)
        (s1.modMac p (fun m => { m with receiving := some { r with frame := some k } })).formAll k

/-- A good frame of EtherType 0x8808 (R232, R233): one that is neither PAUSE for this port nor PFC is counted in RX_CTRL_IGNORED.
(DESIGN CHOICE, log 39) -/
def macControl (s : State) (p : Nat) (o : List Nat) (an : Bool) : State :=
  let forUs := dstAddr o == 0x0180C2000001 || dstAddr o == s.macAddr0 p
  if beAt o 14 2 = 1 ∧ forUs then s.pauseRx p (beAt o 16 2) an
  else if beAt o 14 2 = 0x0101 then s.pfcRx p (beAt o 16 2 % 256) ((List.range 8).map (fun c => beAt o (18 + 2 * c) 2))
  else s.macCount p 7 1

/-- A good saddle frame (R247). -/
def macSaddle (s : State) (p : Nat) (o : List Nat) : State :=
  if octAt o 14 = 1 ∧ 1 ≤ octAt o 15 ∧ octAt o 15 ≤ 5 ∧ ((o.drop 18).take 42).all (· == 0) then
    (s.macCount p 6 1).saddle p (octAt o 15) (beAt o 16 2) (srcAddr o)
  else s.macCount p 7 1

/-- A frame whose length the MAC accepts ends (R226): what Massif or the MAC itself makes of it. r is what CELL_FORM has begun of
it, clkIn its recorded ingress instant. -/
def rxAccepted (s : State) (p : Nat) (r : Option Receiving) (octets : List Nat) (clkIn : Int) (codeErr an : Bool) : State :=
  let crc := fcsGood octets
  let good := crc && !codeErr
  let s1 := (s.macCount p 0 1).macCount p 1 octets.length
  let s2 := if crc then s1 else s1.macCount p 2 1
  let body := octets.take (octets.length - 4)
  if ¬ s2.linkOpen p then s2
  else if macEnds octets then
    if beAt octets 12 2 = 0x8808 then (if good then s2.macControl p body an else s2.macCount p 7 1)
    else if good then s2.macSaddle p body
    else s2
  else
    let had := match r with
      | some x => x.octets.length / 64
      | none => 0
    let (k, s3) := match r.bind (·.frame) with
      | some k => (k, s2)
      | none => s2.ingest p octets clkIn
    let s4 := s3.modFrame k (fun g => { g with octets := octets })
    let s5 := (List.range ((octets.length + 63) / 64 - 1 - had)).foldl (fun s _ => s.formAll k) s4
    let ended := ((s5.frameAt k).map (·.terminated)).getD false
    let s6 := if good ∧ ended then s5.macCount p 8 1 else s5
    let s7 := if good ∧ (ptpOf body).isSome then s6.tsCount p 0 else s6
    s7.finish p k octets good

/-- A code error in what has ended at port p is counted (R250, R510). -/
def codeError (s : State) (p : Nat) (codeErr : Bool) : State :=
  if codeErr then (s.macCount p 3 1).countWindow 5 p (0x80 + p) else s

/-- A whole frame ends at the MAC of port p (R226). (DEDUCED, log 39) -/
def rxWhole (s : State) (p : Nat) (r : Option Receiving) (octets : List Nat) (clkIn : Int) (codeErr an : Bool) : State :=
  let s1 := s.codeError p codeErr
  let stop (s : State) : State := match r.bind (·.frame) with
    | some k => s.finish p k octets false
    | none => s
  if octets.length < 64 then stop (s1.macCount p 4 1)
  else if s1.inForce (Reg.MAC_CFG_MAX_LEN p) < octets.length then stop (s1.macCount p 5 1)
  else s1.rxAccepted p r octets clkIn codeErr an

/-- An express frame ends at port p, under the settings in force as its first cell was formed (R24). -/
def rxExpress (s : State) (p : Nat) (f : RxFrame) : State :=
  match (s.mac p).receiving with
  | some r =>
    (s.modMac p (fun m => { m with receiving := none })).underFrame r.act (fun s =>
      s.rxWhole p (some r) (r.octets ++ f.octets) (s.clkIn p f.back) f.codeErr f.an)
  | none => s.rxWhole p none f.octets (s.clkIn p f.back) f.codeErr f.an

/-- The first fragment of a preemptable frame ends at port p (R242), k its frame count: a frame in progress misses its continuation;
one that does not end in mCRC is the whole frame. (PRESUMED, log 40) -/
def rxFirst (s : State) (p k : Nat) (f : RxFrame) : State :=
  let s1 := if (s.mac p).assembly.isSome then s.macCount p 9 1 else s
  let n := f.octets.length - 4
  if f.octets.drop n = mcrcOf (f.octets.take n) then
    s1.modMac p (fun m => { m with assembly := some {
      octets := f.octets.take n, clkIn := s.clkIn p f.back, count := k, next := 0, codeErr := f.codeErr, act := s.frameSettings } })
  else (s1.modMac p (fun m => { m with assembly := none })).rxWhole p none f.octets (s.clkIn p f.back) f.codeErr f.an

/-- A continuation fragment ends at port p (R242), k its frame count: a wrong count or a bad mCRC ends the frame in progress; the
final one, which ends in the frame's FCS, passes the frame on with the timestamp of its first fragment. (PRESUMED, log 40) -/
def rxNext (s : State) (p k : Nat) (f : RxFrame) : State :=
  match (s.mac p).assembly with
  | none => (s.codeError p f.codeErr).macCount p 10 1
  | some x =>
    let all := x.octets ++ f.octets
    let n := all.length - 4
    let code := x.codeErr || f.codeErr
    let s1 := s.modMac p (fun m => { m with assembly := none })
    if k ≠ x.count ∨ f.fragCount ≠ smdStart.getD x.next 0 then (s1.codeError p code).macCount p 9 1
    else if all.drop n = mcrcOf (all.take n) then
      s1.modMac p (fun m => { m with assembly := some { x with octets := all.take n, next := (x.next + 1) % 4, codeErr := code } })
    else if fcsGood all then s1.underFrame x.act (fun s => s.rxWhole p none all x.clkIn code f.an)
    else (s1.codeError p code).macCount p 9 1

/-- A frame or fragment ends at the MAC of port p (R226, R242): verify and response mPackets reach PREEMPT_VERIFY, any other SMD that
is neither a start nor a continuation is unknown. (DEDUCED, log 39) -/
def rxFrame (s : State) (p : Nat) (f : RxFrame) : State :=
  if f.smd = 0xD5 then s.rxExpress p f
  else if p < 16 ∧ (f.smd = 0x07 ∨ f.smd = 0x19) then s
  else match smdStart.idxOf? f.smd, smdNext.idxOf? f.smd with
    | some k, _ => if p < 16 then s.rxFirst p k f else s.macCount p 10 1
    | none, some k => if p < 16 then s.rxNext p k f else s.macCount p 10 1
    | none, none => s.macCount p 10 1

/-! ### Registers (R252, R253, R275, R276) -/

/-- A port's number of an offset in the MAC windows. -/
def macPortOf (o : Nat) : Nat := (o - 0x100000) / 0x4000

/-- MAC_TS_TXHEAD (R276). -/
def txHead (s : State) (p : Nat) : Word :=
  match (s.mac p).stamps with
  | [] => 0
  | x :: r => Word.ofN (r.length + 1 + 2 ^ 6 * x.status + 2 ^ 8 * bit01 x.auto + 2 ^ 9 * x.msgType + 2 ^ 13 * x.tag)

/-- A read of MAC_TS_TXPOP (R261). -/
def txPop (s : State) (p : Nat) : Word × State :=
  match (s.mac p).stamps with
  | [] => (0, s)
  | x :: r => (Word.ofN x.tsw, s.modMac p (fun m => { m with stamps := r }))

/-- The ports that satisfy a test, as a mask. -/
def portMask (f : Nat → Bool) : Word := Word.ofN ((List.range 18).foldl (fun n p => n + 2 ^ p * bit01 (f p)) 0)

/-- A read in a MAC window at BAR0 offset o. -/
def macRead (s : State) (o : Nat) : Word × State :=
  let p := macPortOf o
  let r := (o - 0x100000) % 0x4000
  if r = 0x1020 then
    let (a, b) := tsConst (s.inForce (Reg.MAC_MODE_MODE p)) (s.rateOf p)
    (Word.ofN (a + 2 ^ 18 * b), s)
  else if r = 0x1028 then (s.txHead p, s)
  else if r = 0x1030 then s.txPop p
  else if r = 0x3F00 then (portMask (fun q => s.fld (Reg.MAC_EVTSTAT_EVT q) != 0), s)
  else if r = 0x3F08 then
    (portMask (fun q => s.reg (Reg.MAC_TS_STAT q) != 0 || !(s.mac q).stamps.isEmpty), s)
  else s.readGeneric o

/-- A write of MAC_CTRL: RESTART, UNSUPPRESS and the link source (R225, R228, R231). -/
def writeMacCtrl (s : State) (a p : Nat) (w : Word) : State :=
  let w1 := if p < 16 then w.setField 1 1 0 else w
  let s1 := s.writeGeneric a (Reg.MAC_CTRL p) w1
  let s2 := if p < 16 ∧ w.bit 1 then s1.reject a (Reg.MAC_CTRL p) else s1
  let s3 := if 16 ≤ p then s2.followLink p else s2
  let s4 := if w.bit 3 then s3.unsuppress p else s3
  if w.bit 0 then s4.restartPort p else s4

/-- A write of MAC_MODE (R225): a mode the port lacks is reserved, and so is a SPEED, DUPLEX or AN that the resulting mode does not
allow; half duplex is refused beside TIMED (R243, R246). Each such field keeps its value and the rest of the write is carried
out (R10). (DEDUCED, log 39) -/
def writeMacMode (s : State) (a p : Nat) (w : Word) : State :=
  let badMode := !modeAccepted p (w.field 2 0)
  let mode := if badMode then s.fld (Reg.MAC_MODE_MODE p) else w.field 2 0
  let bad :=
    (if badMode then [Reg.MAC_MODE_MODE p] else [])
      ++ (if speedAllowed mode (w.field 4 3) then [] else [Reg.MAC_MODE_SPEED p])
      ++ (if duplexAllowed mode (w.field 5 5) && !(w.bit 5 && s.isSet (Reg.MAC_CFG_TIMED p)) then [] else [Reg.MAC_MODE_DUPLEX p])
      ++ (if anAllowed mode (w.field 6 6) then [] else [Reg.MAC_MODE_AN p])
  let was := (s.reg (Reg.MAC_MODE p)).field 5 0
  let s1 := s.writeBut a (Reg.MAC_MODE p) bad w
  if (s1.reg (Reg.MAC_MODE p)).field 5 0 = was then s1 else s1.restartPort p

/-- A write of MAC_CFG: TIMED is refused beside STEP, LPI or half duplex (R246). -/
def writeMacCfg (s : State) (a p : Nat) (w : Word) : State :=
  if w.bit 14 ∧ (s.isSet (Reg.MAC_STEP_EN p) ∨ s.isSet (Reg.MAC_LPI_EN p) ∨ s.isSet (Reg.MAC_MODE_DUPLEX p)) then
    s.reject a (Reg.MAC_CFG p)
  else s.writeGeneric a (Reg.MAC_CFG p) w

/-- A write of MAC_PAUSE (R234). -/
def writeMacPause (s : State) (a p : Nat) (w : Word) : State :=
  let s1 := s.writeGeneric a (Reg.MAC_PAUSE p) w
  if w.bit 24 then s1.askPause p (s1.fld (Reg.MAC_PAUSE_TX_CLASSES p)) (s1.fld (Reg.MAC_PAUSE_TX_QUANTA p)) else s1

/-- A write of MAC_PREEMPT (R240, R253): EN on P16, P17 or in half duplex is reserved. -/
def writeMacPreempt (s : State) (a p : Nat) (w : Word) : State :=
  let bad := w.bit 0 && (decide (16 ≤ p) || s.isSet (Reg.MAC_MODE_DUPLEX p))
  let was := s.isSet (Reg.MAC_PREEMPT_EN p)
  let s2 := s.writeBut a (Reg.MAC_PREEMPT p) (if bad then [Reg.MAC_PREEMPT_EN p] else []) w
  let is := s2.isSet (Reg.MAC_PREEMPT_EN p)
  if was = is then s2
  else (s2.setFld (Reg.MAC_PREEMPT_STATUS p) (bit01 is)).modMac p (fun m => { m with verifies := 0, verifyAt := s2.clk })

/-- Whether port p runs MII at 10 Mb/s in half duplex (R244). -/
def plcaMode (s : State) (p : Nat) : Bool :=
  s.fld (Reg.MAC_MODE_MODE p) == 5 && s.fld (Reg.MAC_MODE_SPEED p) == 0 && s.isSet (Reg.MAC_MODE_DUPLEX p)

/-- A write of MAC_PLCA (R244, R253): EN in another mode is reserved, and so is NODE_CNT 0 while EN is 1. With EN at 0 the PLCA status
is false. -/
def writeMacPlca (s : State) (a p : Nat) (w : Word) : State :=
  let badEn := w.bit 0 && !s.plcaMode p
  let en := if badEn then s.isSet (Reg.MAC_PLCA_EN p) else w.bit 0
  let bad := (if badEn then [Reg.MAC_PLCA_EN p] else []) ++ (if en && w.field 16 9 == 0 then [Reg.MAC_PLCA_NODE_CNT p] else [])
  let s1 := s.writeBut a (Reg.MAC_PLCA p) bad w
  if en then s1 else (s1.setFld (Reg.MAC_STAT_PLCA_OK p) 0).modMac p (fun m => { m with opportunity := 0 })

/-- Whether port p's mode supports low-power idle (R245). -/
def lpiMode (s : State) (p : Nat) : Bool :=
  p < 12 && s.fld (Reg.MAC_MODE_MODE p) == 1 && s.modeRate p == 2
    || 16 ≤ p && s.fld (Reg.MAC_MODE_MODE p) == 5 && s.fld (Reg.MAC_MODE_SPEED p) == 1 && !s.isSet (Reg.MAC_MODE_DUPLEX p)

/-- A write of MAC_LPI (R245, R246): EN is refused beside TIMED, and reserved in a mode without low-power idle. -/
def writeMacLpi (s : State) (a p : Nat) (w : Word) : State :=
  if w.bit 0 ∧ s.isSet (Reg.MAC_CFG_TIMED p) then s.reject a (Reg.MAC_LPI p)
  else s.writeBut a (Reg.MAC_LPI p) (if w.bit 0 && !s.lpiMode p then [Reg.MAC_LPI_EN p] else []) w

/-- A write of MAC_STEP (R246, R253): EN is refused beside TIMED and in any mode but 10GBASE-R; a HIGH not above LOW is
reserved. -/
def writeMacStep (s : State) (a p : Nat) (w : Word) : State :=
  let o := Reg.MAC_STEP p
  if w.bit 0 ∧ (s.isSet (Reg.MAC_CFG_TIMED p) ∨ s.fld (Reg.MAC_MODE_MODE p) ≠ 4) then s.reject a o
  else
    let nw := (s.written o w).1
    s.writeBut a o (if nw.field 14 8 ≤ nw.field 7 1 then [Reg.MAC_STEP_HIGH p] else []) w

/-- A write by an agent in a MAC window at BAR0 offset o. -/
def macWrite (s : State) (a o : Nat) (w : Word) : State :=
  let p := macPortOf o
  match (o - 0x100000) % 0x4000 with
  | 0x008 => s.writeMacCtrl a p w
  | 0x010 => s.writeMacMode a p w
  | 0x018 => s.writeMacCfg a p w
  | 0x040 => s.writeMacPause a p w
  | 0x048 => s.writeMacPreempt a p w
  | 0x058 => s.writeMacPlca a p w
  | 0x068 => s.writeMacLpi a p w
  | 0x070 => s.writeMacStep a p w
  | _ => s.writeGeneric a o w

/-- A transmit-opportunity timer of port p, in units of the line instant: TO_TIMER bit times at 10 Mb/s (R244). -/
def toTime (s : State) (p : Nat) : Nat := 8000 * s.inForce (Reg.MAC_PLCA_TO_TIMER p)

/-- The line instant at which the transmit opportunity of port p's node comes at the earliest: after the 20 bits of the BEACON and one
timer for every node before it (IEEE 802.3cg Clause 148, R244). (PRESUMED, log 39) -/
def opportunityDue (s : State) (p : Nat) : Nat :=
  (s.mac p).beaconAt + 20 * 8000 + s.inForce (Reg.MAC_PLCA_NODE_ID p) * s.toTime p

/-- The line instant at which the coordinator sends its next BEACON at the earliest: after the transmit opportunities of NODE_CNT nodes
(R244). (PRESUMED, log 39) -/
def beaconDue (s : State) (p : Nat) : Nat :=
  (s.mac p).beaconAt + 20 * 8000 + s.inForce (Reg.MAC_PLCA_NODE_CNT p) * s.toTime p

/-- The next whole n sixteenths of full time: the present one where last says it has not been handled. -/
def nextWhole (s : State) (n last : Nat) : Nat :=
  if s.tbu.time % n = 0 ∧ last ≠ s.tbu.time ∧ 0 < s.tbu.time then s.tbu.time else (s.tbu.time / n + 1) * n

end State

/-! ### The commands of the MAC ports -/

/-- RX_FRAME (R226): a frame ends at port p. -/
def execRxFrame (p : Fin 18) (f : RxFrame) (s : State) : Host.Outcome State Fault Refusal :=
  live s (fun s =>
    let s1 := s.elapse f.dt
    (s1.tmuxPulse 6 p (s1.tswAt ((s1.clk : Int) - f.back)) 8).rxFrame p f)

/-- PAUSE_RX (R232). -/
def execPauseRx (p : Fin 18) (quanta : Nat) (an : Bool) (s : State) : Host.Outcome State Fault Refusal :=
  live s (fun s => s.pauseRx p quanta an)

/-- PFC_RX (R233). -/
def execPfcRx (p : Fin 18) (classes : Nat) (quanta : List Nat) (s : State) : Host.Outcome State Fault Refusal :=
  live s (fun s => s.pfcRx p classes quanta)

/-- PAUSE_END (R232, R233): the pause of class c, or of the port with c = 8, ends. -/
def execPauseEnd (p : Fin 18) (c : Fin 9) (s : State) : Host.Outcome State Fault Refusal :=
  live s (fun s =>
    if c.val = 8 then
      if s.isSet (Reg.MAC_STAT_PAUSED p) then
        (s.advanceToLine (s.mac p).pauseUntil).setFld (Reg.MAC_STAT_PAUSED p) 0
      else s
    else if (s.reg (Reg.MAC_STAT p)).bit (10 + c) then
      let s1 := s.advanceToLine (Tab.get 0 c (s.mac p).pfcUntil)
      s1.setReg (Reg.MAC_STAT p) ((s1.reg (Reg.MAC_STAT p)).setField (10 + c) (10 + c) 0)
    else s)

/-- DOWN_REQ (R248). -/
def execDownReq (p : Fin 18) (seq peer : Nat) (s : State) : Host.Outcome State Fault Refusal :=
  live s (fun s => (s.macCount p 6 1).saddle p 1 seq peer)

/-- DOWN_ACK (R249). -/
def execDownAck (p : Fin 18) (seq : Nat) (s : State) : Host.Outcome State Fault Refusal :=
  live s (fun s => (s.macCount p 6 1).saddle p 2 seq 0)

/-- DOWN_NAK (R248). -/
def execDownNak (p : Fin 18) (seq : Nat) (s : State) : Host.Outcome State Fault Refusal :=
  live s (fun s => (s.macCount p 6 1).saddle p 3 seq 0)

/-- UP_REQ (R248). -/
def execUpReq (p : Fin 18) (seq : Nat) (s : State) : Host.Outcome State Fault Refusal :=
  live s (fun s => (s.macCount p 6 1).saddle p 4 seq 0)

/-- UP_ACK (R249). -/
def execUpAck (p : Fin 18) (seq : Nat) (s : State) : Host.Outcome State Fault Refusal :=
  live s (fun s => (s.macCount p 6 1).saddle p 5 seq 0)

/-- LINK_LOSS (R228, R229): the source of link present of port p goes away. -/
def execLinkLoss (p : Fin 18) (s : State) : Host.Outcome State Fault Refusal :=
  live s (fun s => (s.modMac p (fun m => { m with carrier := false })).followLink p)

/-- LINK_RETURN (R228, R229): the source of link present of port p comes back; phy is the speed code of the PHY's control
word, used where MAC_MODE takes the speed from it. -/
def execLinkReturn (p : Fin 18) (phy : Fin 3) (s : State) : Host.Outcome State Fault Refusal :=
  live s (fun s => (s.modMac p (fun m => { m with carrier := true, phy := phy })).followLink p)

/-- QUAL_EXPIRY (R229): at the end of the expiry tick, in which a loss would still have come in time (R51). -/
def execQualExpiry (p : Fin 18) (s : State) : Host.Outcome State Fault Refusal :=
  live s (fun s =>
    match s.link p, (s.mac p).timer with
    | 1, some t =>
      let s0 := s.expire t
      let s1 := s0.modMac p (fun m => { m with timer := none, free := s0.lineNow, unanswered := 0 })
      (((s1.setLink p 2).bumpSat (Reg.MAC_PLUG_UPS p) 1).setFld (Reg.MAC_STAT_STEP_PEER p) 0).macEvent p 0
    | _, _ => s)

/-- HOLD_DOWN_EXPIRY (R229): at the end of the expiry tick, in which a return would still have come in time (R51). -/
def execHoldDownExpiry (p : Fin 18) (s : State) : Host.Outcome State Fault Refusal :=
  live s (fun s =>
    match s.link p, (s.mac p).timer with
    | 3, some t => (s.expire t).declareDown p
    | _, _ => s)

/-- MODE_CHANGE (R225): a write of MAC_MODE of port p. -/
def execModeChange (a : Nat) (p : Fin 18) (w : Word) (s : State) : Host.Outcome State Fault Refusal :=
  live s (fun s => s.writeMacMode a p w)

/-- RESTART (R225). -/
def execRestart (p : Fin 18) (s : State) : Host.Outcome State Fault Refusal := live s (fun s => s.restartPort p)

/-- UNSUPPRESS (R231). -/
def execUnsuppress (p : Fin 18) (s : State) : Host.Outcome State Fault Refusal := live s (fun s => s.unsuppress p)

/-- FLAP_CLASSIFY (R231): at the next whole second of TBU time. -/
def execFlapClassify (p : Fin 18) (s : State) : Host.Outcome State Fault Refusal :=
  live s (fun s =>
    if s.tbu.running then (s.advanceToTime ((s.tbu.time + (Config.sec - 1)) / Config.sec * Config.sec)).classify p else s)

/-- FLAP_QUIET_EXPIRY (R231). -/
def execFlapQuietExpiry (p : Fin 18) (s : State) : Host.Outcome State Fault Refusal :=
  live s (fun s =>
    if s.link p = 4 ∧ (s.mac p).present then
      (s.advanceTo ((s.mac p).quietFrom + s.inForce (Reg.MAC_FLAP_FLAP_QUIET p) * Config.sec)).leaveSuppressed p
    else s)

/-- TX_SEND (R234): a write of MAC_PAUSE with TX_SEND. -/
def execTxSend (a : Nat) (p : Fin 18) (w : Word) (s : State) : Host.Outcome State Fault Refusal :=
  live s (fun s => s.writeMacPause a p (w.setField 24 24 1))

/-- SEND_TIMED (R236 to R239). -/
def execSendTimed (p : Fin 18) (s : State) : Host.Outcome State Fault Refusal := live s (fun s => s.sendTimed p)

/-- TX_FRAME_START (R298): a frame boundary of port p. -/
def execTxFrameStart (p : Fin 18) (carrier : Bool) (s : State) : Host.Outcome State Fault Refusal :=
  live s (fun s => s.frameBoundary p carrier)

/-- TX_FRAME_END (R261, R290): the frame or fragment in transmission at port p ends. -/
def execTxFrameEnd (p : Fin 18) (s : State) : Host.Outcome State Fault Refusal := live s (fun s => s.txEnd p)

/-- PREEMPT_VERIFY (R240): a verify attempt is sent, or the outstanding one is answered. -/
def execPreemptVerify (p : Fin 18) (answered : Bool) (s : State) : Host.Outcome State Fault Refusal :=
  live s (fun s =>
    let m := s.mac p
    let st := s.fld (Reg.MAC_PREEMPT_STATUS p)
    let try_ (s : State) : State :=
      ((s.askCtrl p .verify).setFld (Reg.MAC_PREEMPT_STATUS p) 2).modMac p (fun m =>
        { m with verifies := m.verifies + 1, verifyAt := s.clk })
    if ¬ s.linkOpen p ∨ s.inForce (Reg.MAC_PREEMPT_VERIFY_DIS p) = 1 then s
    else if st = 1 then try_ s
    else if st = 2 then
      if answered then (s.setFld (Reg.MAC_PREEMPT_STATUS p) 3).macEvent p 3
      else
        let s1 := s.advanceTo (m.verifyAt + s.inForce (Reg.MAC_PREEMPT_VERIFY_TIME p) * Config.ms)
        if m.verifies < 3 then try_ s1 else (s1.setFld (Reg.MAC_PREEMPT_STATUS p) 4).macEvent p 3
    else s)

/-- COLLISION (R243): dt sixteenths from now. -/
def execCollision (p : Fin 18) (dt : Nat) (s : State) : Host.Outcome State Fault Refusal :=
  live s (fun s => if s.isSet (Reg.MAC_STAT_HALF p) ∧ (s.mac p).sending.isSome then (s.elapse dt).collide p else s)

/-- BACKOFF_EXPIRY (R243). -/
def execBackoffExpiry (p : Fin 18) (s : State) : Host.Outcome State Fault Refusal :=
  live s (fun s =>
    match (s.mac p).backoff with
    | some t => ((s.advanceToLine t).modMac p (fun m => { m with backoff := none })).frameBoundary p false
    | none => s)

/-- BEACON (R244): the PLCA sublayer sees a BEACON, or stops seeing one. Node 0, the coordinator, sends it, at the earliest once every
node's transmit opportunity has passed. -/
def execBeacon (p : Fin 18) (seen : Bool) (s : State) : Host.Outcome State Fault Refusal :=
  live s (fun s =>
    if s.inForce (Reg.MAC_PLCA_EN p) = 0 ∨ ¬ s.plcaMode p then s
    else if seen then
      let s1 := if s.inForce (Reg.MAC_PLCA_NODE_ID p) = 0 then (s.advanceToLine (s.beaconDue p)).emit (.macCtrl p 0 0) else s
      (s1.setFld (Reg.MAC_STAT_PLCA_OK p) 1).modMac p (fun m => { m with beaconAt := s1.lineNow })
    else (s.setFld (Reg.MAC_STAT_PLCA_OK p) 0).modMac p (fun m => { m with opportunity := 0 }))

/-- PLCA_TRANSMIT_OPPORTUNITY (R244): the port's transmit opportunity comes, at the earliest once those of the nodes before it have
passed; a frame may start in it within TO_TIMER. -/
def execPlcaTransmitOpportunity (p : Fin 18) (s : State) : Host.Outcome State Fault Refusal :=
  live s (fun s =>
    if s.inForce (Reg.MAC_PLCA_EN p) = 0 ∨ ¬ s.plcaMode p ∨ ¬ s.isSet (Reg.MAC_STAT_PLCA_OK p) then s
    else
      let s1 := s.advanceToLine (s.opportunityDue p)
      (s1.modMac p (fun m => { m with
        opportunity := 1 + s.inForce (Reg.MAC_PLCA_BURST_CNT p)
        opportunityEnd := s1.lineNow + s.toTime p })).frameBoundary p false)

/-- PEER_LPI (R245): the peer starts, or stops, to signal low-power idle. -/
def execPeerLpi (p : Fin 18) (idle : Bool) (s : State) : Host.Outcome State Fault Refusal :=
  live s (fun s =>
    if s.inForce (Reg.MAC_LPI_EN p) = 0 ∨ ¬ s.lpiMode p ∨ ¬ s.linkOpen p then s
    else if ¬ idle then s.setFld (Reg.MAC_STAT_LPI_RX p) 0
    else if s.isSet (Reg.MAC_STAT_LPI_RX p) then s
    else (s.setFld (Reg.MAC_STAT_LPI_RX p) 1).macCount p 24 1)

/-- LPI_ENTER (R245): the port signals low-power idle once its egress has been empty for IDLE µs. -/
def execLpiEnter (p : Fin 18) (s : State) : Host.Outcome State Fault Refusal :=
  live s (fun s =>
    if s.inForce (Reg.MAC_LPI_EN p) = 0 ∨ ¬ s.lpiMode p ∨ ¬ s.linkOpen p then s
    else if s.egressEmpty p ∧ ¬ s.isSet (Reg.MAC_STAT_LPI_TX p) then
      let s1 := s.advanceTo ((s.mac p).emptySince + s.inForce (Reg.MAC_LPI_IDLE p) * Config.us)
      (s1.setFld (Reg.MAC_STAT_LPI_TX p) 1).macCount p 23 1
    else s)

/-- LPI_WAKE (R245): a frame that is ready ends low-power idle and starts WAKE µs later. -/
def execLpiWake (p : Fin 18) (s : State) : Host.Outcome State Fault Refusal :=
  live s (fun s =>
    if s.isSet (Reg.MAC_STAT_LPI_TX p) ∧ ¬ s.egressEmpty p then
      (s.setFld (Reg.MAC_STAT_LPI_TX p) 0).modMac p (fun m =>
        { m with free := max m.free (s.lineNow + 5 * s.inForce (Reg.MAC_LPI_WAKE p) * Config.us) })
    else s)

/-- STEP_WINDOW (R248). -/
def execStepWindow (p : Fin 18) (s : State) : Host.Outcome State Fault Refusal :=
  live s (fun s =>
    if s.tbu.running then (s.advanceToTime (s.nextWhole Config.ms (s.mac p).windowAt)).stepWindow p else s)

/-- STEP_REQ_TIMEOUT (R248): the request sent has stayed unanswered for 1 ms. -/
def execStepReqTimeout (p : Fin 18) (s : State) : Host.Outcome State Fault Refusal :=
  live s (fun s =>
    match (s.mac p).request.bind (·.at_) with
    | none => s
    | some t =>
      let s1 := (s.expire (t + Config.ms)).modMac p (fun m =>
        { m with request := none, unanswered := m.unanswered + 1 })
      if 3 ≤ (s1.mac p).unanswered then s1.setFld (Reg.MAC_STAT_STEP_PEER p) 2 else s1)

/-- STEP_SWITCH (R249): at the first frame boundary at or after the switch instant. -/
def execStepSwitch (p : Fin 18) (s : State) : Host.Outcome State Fault Refusal :=
  live s (fun s =>
    let m := s.mac p
    match m.switchAt, m.sending with
    | some (up, x), none =>
      let s1 := s.advanceToLine (max x m.free)
      ((s1.setFld (Reg.MAC_STAT_RATE p) (if up then 4 else 3)).setFld (Reg.MAC_STAT_STEPPED p) (bit01 (!up))).modMac p
        (fun m => { m with switchAt := none, locking := some (up, s1.lineNow) })
    | _, _ => s)

/-- STEP_CHANGE (R249): the lane locks at the new rate. -/
def execStepChange (p : Fin 18) (s : State) : Host.Outcome State Fault Refusal :=
  live s (fun s =>
    match (s.mac p).locking with
    | none => s
    | some (up, _) =>
      ((s.modMac p (fun m => { m with locking := none })).macCount p (if up then 26 else 25) 1).macEvent p 4)

/-- STEP_FAIL (R249): 4 µs after the switch without lock. -/
def execStepFail (p : Fin 18) (s : State) : Host.Outcome State Fault Refusal :=
  live s (fun s =>
    match (s.mac p).locking with
    | none => s
    | some (up, x) =>
      let s1 := (s.advanceToLine (x + 5 * 4 * Config.us)).modMac p (fun m => { m with locking := none })
      let s2 := (s1.setFld (Reg.MAC_STAT_RATE p) (if up then 3 else 4)).setFld (Reg.MAC_STAT_STEPPED p) (bit01 up)
      let s3 := (s2.setFld (Reg.MAC_STEP_EN p) 0)
      let o := Reg.MAC_STEP p
      ({ s3 with act := Tab.put (resetWord o) o ((s3.actReg o).setField 0 0 0) s3.act }).macEvent p 5)

/-- MAC_PLUG_READ (R253). -/
def execMacPlugRead (a : Nat) (p : Fin 18) (s : State) : Host.Outcome State Fault Refusal :=
  live s (fun s => let (w, s1) := s.readGeneric (Reg.MAC_PLUG p); s1.emit (.read a w false))

/-- TXTS_POP (R261). -/
def execTxtsPop (a : Nat) (p : Fin 18) (s : State) : Host.Outcome State Fault Refusal :=
  live s (fun s => let (w, s1) := s.txPop p; s1.emit (.read a w false))

/-- TXTS_LOST_READ (R276). -/
def execTxtsLostRead (a : Nat) (p : Fin 18) (s : State) : Host.Outcome State Fault Refusal :=
  live s (fun s => let (w, s1) := s.readGeneric (Reg.MAC_TS_TXLOST p); s1.emit (.read a w false))

end Sys2Proof.Machine
end

