-- ==== Sys2Proof/Machine/Switch.lean ====
section
/-! DEFINITION. The register access of Massif, frames taken from the engines' queue, and the commands of
spec/10_massif_switch.md. -/
namespace Sys2Proof.Machine
namespace State

/-! ### The forwarding database's commands (R294, R295, R315) -/

/-- Key address and VID of SWC_FDB_KEY0 and SWC_FDB_KEY1. -/
def fdbKey (s : State) : Nat × Nat :=
  (s.fld Reg.SWC_FDB_KEY1_ADDR_HI * 2 ^ 32 + s.fld Reg.SWC_FDB_KEY0_ADDR_LO, s.fld Reg.SWC_FDB_KEY1_VID)

/-- INDEX, FOUND and FULL after an operation. -/
def fdbResult (s : State) (index : Option Nat) (full : Bool) : State :=
  let s1 := match index with
    | some k => s.setFld Reg.SWC_FDB_CMD_INDEX k
    | none => s
  (s1.setFld Reg.SWC_FDB_CMD_FOUND (bit01 index.isSome)).setFld Reg.SWC_FDB_CMD_FULL (bit01 full)

/-- SWC_FDB_DATA shows an entry. -/
def showEntry (s : State) (e : FdbEntry) : State :=
  s.setReg Reg.SWC_FDB_DATA
    (Word.ofN (e.dest % 2 ^ 22 + 2 ^ 22 * bit01 e.static + 2 ^ 23 * bit01 e.valid + 2 ^ 24 * bit01 e.drop))

/-- LOOKUP. -/
def fdbOpLookup (s : State) : State :=
  let (addr, vid) := s.fdbKey
  let k := fdbFind s.massif.fdb vid addr
  let e : FdbEntry := match k with
    | some i => Tab.get {} i s.massif.fdb
    | none => {}
  (s.fdbResult k false).showEntry e

/-- INSERT: a static entry goes to its key's entry, or to a free one of its bucket. -/
def fdbOpInsert (s : State) : State :=
  let (addr, vid) := s.fdbKey
  let e : FdbEntry := { valid := true, vid := vid, addr := addr, static := true
                        drop := s.isSet Reg.SWC_FDB_DATA_DROP, dest := s.fld Reg.SWC_FDB_DATA_DEST }
  let old := fdbFind s.massif.fdb vid addr
  match old.or (s.fdbRoom vid addr) with
  | some k => ((s.fdbPut k e).fdbResult (some k) false).setFld Reg.SWC_FDB_CMD_FOUND (bit01 old.isSome)
  | none => s.fdbResult none true

/-- DELETE. -/
def fdbOpDelete (s : State) : State :=
  let (addr, vid) := s.fdbKey
  match fdbFind s.massif.fdb vid addr with
  | some k => (s.fdbPut k {}).fdbResult (some k) false
  | none => s.fdbResult none false

/-- READ_INDEX. -/
def fdbOpReadIndex (s : State) : State :=
  let k := s.fld Reg.SWC_FDB_CMD_INDEX
  let e : FdbEntry := Tab.get {} k s.massif.fdb
  let s1 := (s.setReg Reg.SWC_FDB_KEY0 (Word.ofN (e.addr % 2 ^ 32))).setReg Reg.SWC_FDB_KEY1
    (Word.ofN (e.addr / 2 ^ 32 % 2 ^ 16 + 2 ^ 16 * e.vid))
  ((s1.showEntry e).setFld Reg.SWC_FDB_CMD_FOUND (bit01 e.valid)).setFld Reg.SWC_FDB_CMD_FULL 0

/-- A write of SWC_FDB_CMD. (DEDUCED, log 44) -/
def writeFdbCmd (s : State) (a : Nat) (w : Word) : State :=
  let s1 := s.writeGeneric a Reg.SWC_FDB_CMD w
  match w.field 2 0 with
  | 1 => s1.fdbOpLookup
  | 2 => s1.fdbOpInsert
  | 3 => s1.fdbOpDelete
  | 4 => s1.fdbOpReadIndex
  | _ => s1

/-- Every dynamic entry is removed (R315). -/
def flushDyn (s : State) : State :=
  ((s.massif.fdb.filter (fun e => !e.2.static)).map (·.1)).foldl (fun s k => s.fdbPut k {}) s

/-! ### VLANs, filters and meters -/

/-- SWC_VLAN_CMD READ of a VID. -/
def vlanOpRead (s : State) (v : Nat) : State :=
  (s.setReg Reg.SWC_VLAN_DATA0 (s.vlan 0 v)).setReg Reg.SWC_VLAN_DATA1 (s.vlan 1 v)

/-- SWC_VLAN_CMD WRITE of a VID. -/
def vlanOpWrite (s : State) (v : Nat) : State :=
  s.modMassif (fun x => { x with
    vlan0 := Tab.put (vlanReset 0 v) v (s.reg Reg.SWC_VLAN_DATA0) x.vlan0
    vlan1 := Tab.put (vlanReset 1 v) v (s.reg Reg.SWC_VLAN_DATA1) x.vlan1 })

/-- A write of SWC_VLAN_CMD. (DEDUCED, log 44) -/
def writeVlanCmd (s : State) (a : Nat) (w : Word) : State :=
  let v := w.field 11 0
  if (s.written Reg.SWC_VLAN_CMD w).2 ∨ v = 0 ∨ v = 4095 then s.reject a Reg.SWC_VLAN_CMD
  else match w.field 13 12 with
    | 1 => s.vlanOpRead v
    | 2 => s.vlanOpWrite v
    | _ => s.reject a Reg.SWC_VLAN_CMD

/-- SWC_QCI_CMD READ of a filter, or with meter of a meter. -/
def qciOpRead (s : State) (meter : Bool) (i : Nat) : State :=
  if meter then
    (s.setReg Reg.SWC_QCI_DATA0 (Tab.get 0 (2 * i) s.massif.meters)).setReg Reg.SWC_QCI_DATA1
      (Tab.get 0 (2 * i + 1) s.massif.meters)
  else
    ((s.setReg Reg.SWC_QCI_DATA0 (s.filterWord i 0)).setReg Reg.SWC_QCI_DATA1 (s.filterWord i 1)).setReg
      Reg.SWC_QCI_DATA2 (s.filterWord i 2)

/-- SWC_QCI_CMD WRITE: BLOCKED is only cleared by software (R315); a meter starts full (R305). (DEDUCED, log 42) -/
def qciOpWrite (s : State) (meter : Bool) (i : Nat) : State :=
  let d0 := s.reg Reg.SWC_QCI_DATA0
  let d1 := s.reg Reg.SWC_QCI_DATA1
  let d2 := s.reg Reg.SWC_QCI_DATA2
  if meter then
    s.modMassif (fun x => { x with
      meters := Tab.put 0 (2 * i) (Word.ofN (d0.field 17 0)) (Tab.put 0 (2 * i + 1) (Word.ofN (d1.field 23 0)) x.meters)
      deficits := Tab.put (0, 0) i (0, 0) x.deficits })
  else
    let w2 := d2.setField 33 33 (bit01 (d2.bit 33 && (s.filterWord i 2).bit 33))
    s.modMassif (fun x => { x with
      filters := Tab.put 0 (4 * i) d0 (Tab.put 0 (4 * i + 1) d1 (Tab.put 0 (4 * i + 2) w2 x.filters)) })

/-- A write of SWC_QCI_CMD. (DEDUCED, log 44) -/
def writeQciCmd (s : State) (a : Nat) (w : Word) : State :=
  let meter := w.bit 2
  let i := w.field 12 3
  if meter ∧ 255 < i then s.reject a Reg.SWC_QCI_CMD
  else match w.field 1 0 with
    | 1 => s.qciOpRead meter i
    | 2 => s.qciOpWrite meter i
    | _ => s.reject a Reg.SWC_QCI_CMD

/-! ### Gate lists (R301) -/

/-- Sixteenths of full time of the boundary of a TSW's tick, nearest to the present. -/
def boundaryOf (s : State) (x : Nat) : Int := (s.tbu.time : Int) + s.distance x

/-- CHANGE is written for port p. -/
def changeGates (s : State) (a p : Nat) : State :=
  let o := Reg.SWC_GCTL p
  if s.isSet (Reg.SWC_GCTL_PENDING p) then s.reject a o
  else
    let len := s.fld (Reg.SWC_GCTL_LEN p) + 1
    let es := s.gateEntries p (1 - s.fld (Reg.SWC_GCTL_OPER p)) len
    let base := s.boundaryOf (s.fld (Reg.SWC_GBASE_BASE p)) / 128
    if base ≤ s.tick ∨ 2 ^ 28 < cycleTime es then (s.setFld (Reg.SWC_GSTAT_GATE_ERR p) 1).raise 110
    else
      (s.modMassif (fun x => { x with gatePending := Tab.put {} p { len := len, base := base } x.gatePending })).setFld
        (Reg.SWC_GCTL_PENDING p) 1

/-- CANCEL is written for port p: without effect where the change has been made or none is pending. -/
def cancelGates (s : State) (p : Nat) : State :=
  if s.isSet (Reg.SWC_GCTL_PENDING p) then
    (s.setFld (Reg.SWC_GCTL_PENDING p) 0).modMassif (fun x =>
      { x with gatePending := Tab.put {} p {} x.gatePending })
  else s

/-- A write of SWC_GCTLp. -/
def writeGctl (s : State) (a p : Nat) (w : Word) : State :=
  let o := Reg.SWC_GCTL p
  let s0 := if w.bit 12 then s.cancelGates p else s
  if s0.isSet (Reg.SWC_GCTL_PENDING p) ∧ (w.bit 10 ∨ w.field 8 1 ≠ s0.fld (Reg.SWC_GCTL_LEN p)) then s0.reject a o
  else
    let s1 := s0.writeGeneric a o w
    if w.bit 10 then s1.changeGates a p else s1

/-- ENTRY of SWC_GCL_ADDRp advances (R315). (DEDUCED, log 44) -/
def gclAdvance (s : State) (p : Nat) : State :=
  s.setFld (Reg.SWC_GCL_ADDR_ENTRY p) (s.fld (Reg.SWC_GCL_ADDR_ENTRY p) + 1)

/-- Key of the gate list entry that SWC_GCL_ADDRp names. -/
def gclKey (s : State) (p : Nat) : Nat :=
  (2 * p + s.fld (Reg.SWC_GCL_ADDR_BANK p)) * 256 + s.fld (Reg.SWC_GCL_ADDR_ENTRY p)

/-- A write of SWC_GCL_DATAp (R301). -/
def writeGcl (s : State) (a p : Nat) (w : Word) : State :=
  let o := Reg.SWC_GCL_DATA p
  if s.fld (Reg.SWC_GCL_ADDR_BANK p) = s.fld (Reg.SWC_GCTL_OPER p) ∨ s.isSet (Reg.SWC_GCTL_PENDING p) then s.reject a o
  else
    let k := s.gclKey p
    let old : Word := Tab.get 0 k s.massif.gcl
    let bad := w.field 35 8 = 0
    let nw := if bad then old.setField 7 0 (w.field 7 0) else w
    let s1 := (s.modMassif (fun x => { x with gcl := Tab.put 0 k nw x.gcl })).gclAdvance p
    if bad then s1.reject a o else s1

/-! ### Registers (R314, R315) -/

/-- A read in the Massif block at BAR0 offset o. -/
def swcRead (s : State) (o : Nat) : Word × State :=
  let r := o - 0x180000
  if 0x1000 ≤ r ∧ r < 0x2200 then
    let p := (r - 0x1000) / 0x100
    if r % 0x100 = 0x38 then (Tab.get 0 (s.gclKey p) s.massif.gcl, s.gclAdvance p)
    else if r % 0x100 = 0x40 then
      ((s.reg o).setField 8 1 (s.gates p s.tick), s)
    else s.readGeneric o
  else s.readGeneric o

/-- A write of a register in which some fields' encodings are reserved where bad holds of the word the write would leave: those fields
keep their values (R10, R315). -/
def writePaired (s : State) (a o : Nat) (fields : List Fld) (bad : Word → Bool) (w : Word) : State :=
  s.writeBut a o (if bad (s.written o w).1 then fields else []) w

/-- Whether an RPCFG word makes the pairs share a port, or a pair of one port (R306). -/
def pairsClash (s : State) (r : Nat) (w : Word) : Bool :=
  let other := s.reg (Reg.SWC_RPCFG (1 - r))
  let a := w.field 5 2
  let b := w.field 9 6
  w.bit 0 && (a == b || other.bit 0 &&
    (a == other.field 5 2 || a == other.field 9 6 || b == other.field 5 2 || b == other.field 9 6))

/-- A write by an agent in the Massif block at BAR0 offset o. -/
def swcWrite (s : State) (a o : Nat) (w : Word) : State :=
  let r := o - 0x180000
  if r = 0x008 then
    let s1 := s.writeGeneric a o w
    if w.bit 9 then s1.flushDyn else s1
  else if r = 0x030 then s.writeFdbCmd a w
  else if r = 0x050 then s.writeVlanCmd a w
  else if r = 0x068 then s.writeQciCmd a w
  else if r = 0x088 then s.writePaired a o [Reg.SWC_MIRROR_N] (fun w => w.bit 5 && w.field 21 6 == 0) w
  else if 0x1000 ≤ r ∧ r < 0x2200 then
    let p := (r - 0x1000) / 0x100
    match r % 0x100 with
    | 0x10 => s.writePaired a o [Reg.SWC_PBUF_RESERVE p] (fun w => w.field 16 0 ≤ w.field 29 17) w
    | 0x18 => s.writePaired a o [Reg.SWC_PFLOW_XON p] (fun w => w.field 15 0 ≤ w.field 31 16) w
    | 0x20 => s.writeGctl a p w
    | 0x28 => if s.isSet (Reg.SWC_GCTL_PENDING p) then s.reject a o else s.writeGeneric a o w
    | 0x38 => s.writeGcl a p w
    | _ => s.writeGeneric a o w
  else if r = 0x3000 then
    s.writePaired a o [Reg.SWC_RPCFG_EN 0, Reg.SWC_RPCFG_PORT_A 0, Reg.SWC_RPCFG_PORT_B 0] (s.pairsClash 0) w
  else if r = 0x3080 then
    s.writePaired a o [Reg.SWC_RPCFG_EN 1, Reg.SWC_RPCFG_PORT_A 1, Reg.SWC_RPCFG_PORT_B 1] (s.pairsClash 1) w
  else s.writeGeneric a o w

/-! ### Frames from the engines (R311) -/

/-- The MAC ports a descriptor's destination reaches. -/
def macDests (s : State) (dest : Nat) (octets : List Nat) : List Nat :=
  if dest ≤ 17 then [dest]
  else if dest = 20 ∨ dest = 21 then s.pairPorts (dest - 20)
  else if dest = 31 ∧ ¬ reservedAddr (dstAddr octets) then
    let tci := match (tagsOf octets).vlanOff with
      | some o => beAt octets (o + 2) 2
      | none => 1
    let vid := if tci % 2 ^ 12 = 0 then 1 else tci % 2 ^ 12
    match s.maskOf vid (dstAddr octets) with
    | some m =>
      let (l, o) := s.resolveMask 19 vid m
      (l.map (·.port) ++ o.flatMap (·.2)).filter (· ≤ 17)
    | none => []
  else []

/-- A descriptor at a packet-buffer word offset is taken (R311). (DEDUCED, log 41) -/
def takeDescriptor (s : State) (base : Nat) : State :=
  let (ws, bad, s1) := s.readWords base 4
  let w0 := ws.getD 0 0
  let len := w0.field 13 0
  let dest := w0.field 18 14
  let due := (ws.getD 2 0).toNat
  let (fs, bad2, s2) := s1.readWords (base + 4) ((len + 3) / 4)
  let octets := (unpackWords fs).take len
  let e := s2.boundaryOf due / 128
  let ports := s2.macDests dest octets
  if e < s2.tick ∧ ¬ ports.isEmpty then ports.foldl (fun s p => s.late p 58 due) s2
  else
    let tag := if w0.bit 22 then some ((ws.getD 1 0).field 15 0) else none
    s2.launch 19 octets dest (w0.field 21 19) tag (w0.bit 23) (bad || bad2) (some e.toNat)

end State

/-! ### The commands of Massif -/

/-- CELL_FORM (R282): the next 64 octets of a frame at port p, dt sixteenths from now; the frame's timestamp point lies back
sixteenths before that. -/
def execCellForm (p : Fin 18) (dt back : Nat) (octets : List Nat) (s : State) : Host.Outcome State Fault Refusal :=
  live s (fun s => (s.elapse dt).cellForm p back octets)

/-- FABRIC_SLOT (R278): a slot of stage 1 (0) or stage 2 (1). -/
def execFabricSlot (stage : Fin 2) (s : State) : Host.Outcome State Fault Refusal :=
  live s (fun s => s.fabricSlot (stage.val == 1))

/-- CELL_ARRIVE (R283): the cell at output f of stage 2 reaches its resequencer. -/
def execCellArrive (f : Fin 32) (s : State) : Host.Outcome State Fault Refusal :=
  live s (fun s =>
    match Tab.get [] f s.massif.outputs with
    | [] => s
    | c :: rest => (s.modMassif (fun x => { x with outputs := Tab.put [] f rest x.outputs })).arriveCell c)

/-- CELL_LOST (R283): at the resequencer of egress port e for ingress port i. -/
def execCellLost (e i : Fin 20) (s : State) : Host.Outcome State Fault Refusal := live s (fun s => s.declareLost e i)

/-- FABRIC_FAULT (R280): of the input or output link at position n, or of intermediate n; lost cells at the link's head are gone. -/
def execFabricFault (link : FabricLink) (n : Fin 32) (lost : Nat) (s : State) : Host.Outcome State Fault Refusal :=
  live s (fun s => s.fabricFault link n lost)

/-- ELIGIBILITY (R286, R288, R289). -/
def execEligibility (p : Fin 18) (s : State) : Host.Outcome State Fault Refusal := live s (fun s => s.eligible p)

/-- FDB_AGE (R295): at the next whole second of TBU time. -/
def execFdbAge (s : State) : Host.Outcome State Fault Refusal :=
  live s (fun s =>
    if ¬ s.tbu.running then s
    else
      let s1 := s.advanceToTime ((s.tbu.time + (Config.sec - 1)) / Config.sec * Config.sec)
      let age := s1.inForce Reg.SWC_LIMITS_AGE * Config.sec
      ((s1.massif.fdb.filter (fun e => !e.2.static && decide (e.2.learned + age ≤ s1.clk))).map (·.1)).foldl
        (fun s k => s.fdbPut k {}) s1)

/-- AGED (R302): the frame of port p that has waited longest. -/
def execAged (p : Fin 18) (s : State) : Host.Outcome State Fault Refusal :=
  live s (fun s =>
    let waiting := s.massif.copies.filter (fun e => e.2.egress == p.val && e.2.stage == .queued)
    match waiting.foldl (fun (b : Option (Nat × Copy)) e => match b with
        | none => some e
        | some y => if e.2.elig.getD 0 < y.2.elig.getD 0 then some e else some y) none with
    | none => s
    | some (c, x) =>
      let s1 := s.advanceToTime (x.elig.getD 0 * 128 + s.inForce Reg.SWC_LIMITS_MAX_WAIT * Config.ms)
      (s1.swCount p 13).freeCopy c)

/-- DUP_FORGET (R307): the oldest unmatched entry of pair r. -/
def execDupForget (r : Fin 2) (s : State) : Host.Outcome State Fault Refusal :=
  live s (fun s =>
    let mine := (s.massif.dups.filter (fun b => b.1 / 2048 == r.val)).flatMap (fun b => b.2.map (fun e => (b.1 % 2048, e)))
    match mine.foldl (fun (b : Option (Nat × DupEntry)) e => match b with
        | none => some e
        | some y => if e.2.at_ < y.2.at_ then some e else some y) none with
    | none => s
    | some (b, e) =>
      let s1 := s.advanceTo (e.at_ + s.inForce Reg.SWC_LIMITS_FORGET * Config.ms)
      (s1.setDups r b ((s1.dupsAt r b).filter (· != e))).redCount r (if e.byB then 5 else 4))

/-- GATE_CHANGE (R301): CHANGE is written for port p by agent a. -/
def execGateChange (a : Nat) (p : Fin 18) (s : State) : Host.Outcome State Fault Refusal :=
  live s (fun s => s.changeGates a p)

/-- GATE_CANCEL (R301). -/
def execGateCancel (p : Fin 18) (s : State) : Host.Outcome State Fault Refusal := live s (fun s => s.cancelGates p)

/-- GATE_SWITCH (R301): tick B of the pending list. -/
def execGateSwitch (p : Fin 18) (s : State) : Host.Outcome State Fault Refusal :=
  live s (fun s =>
    if ¬ s.isSet (Reg.SWC_GCTL_PENDING p) then s
    else
      let g : GateList := Tab.get {} p s.massif.gatePending
      let s1 := s.advanceToTime (g.base * 128).toNat
      let s2 := s1.modMassif (fun x => { x with
        gateOper := Tab.put {} p g x.gateOper, gatePending := Tab.put {} p {} x.gatePending })
      (s2.setFld (Reg.SWC_GCTL_OPER p) (1 - s2.fld (Reg.SWC_GCTL_OPER p))).setFld (Reg.SWC_GCTL_PENDING p) 0)

/-- GATE_ENTRY (R299): the interval of the entry in force ends. -/
def execGateEntry (p : Fin 18) (s : State) : Host.Outcome State Fault Refusal :=
  live s (fun s =>
    if ¬ s.gated p ∨ ¬ s.tbu.running then s
    else
      let (es, x) := s.gatePhase p s.tick
      let s1 := s.advanceToTime ((s.tick + (State.entryEnd es x 0 - x)) * 128)
      s1.setFld (Reg.SWC_GSTAT_GATES p) (s1.gates p s1.tick))

/-- TXQ_ENTRY (R311): Massif takes an entry of the queue in TXQ. -/
def execTxqEntry (s : State) : Host.Outcome State Fault Refusal :=
  live s (fun s =>
    if s.inForce Reg.SWC_CTRL_TXQ_EN = 0 then s
    else match s.popQueue (s.inForce Reg.SWC_CTRL_TXQ) with
      | none => s
      | some (entry, bad, s1) => if bad then s1.swCount 19 2 else s1.takeDescriptor (entry % 2 ^ 21))

/-- FDB_LOOKUP (R315). -/
def execFdbLookup (s : State) : Host.Outcome State Fault Refusal := live s State.fdbOpLookup

/-- FDB_INSERT (R315). -/
def execFdbInsert (s : State) : Host.Outcome State Fault Refusal := live s State.fdbOpInsert

/-- FDB_DELETE (R315). -/
def execFdbDelete (s : State) : Host.Outcome State Fault Refusal := live s State.fdbOpDelete

/-- FDB_READ_INDEX (R315). -/
def execFdbReadIndex (i : Fin 16384) (s : State) : Host.Outcome State Fault Refusal :=
  live s (fun s => (s.setFld Reg.SWC_FDB_CMD_INDEX i).fdbOpReadIndex)

/-- FLUSH_DYN (R315). -/
def execFlushDyn (s : State) : Host.Outcome State Fault Refusal := live s State.flushDyn

/-- VLAN_READ (R315). -/
def execVlanRead (a : Nat) (v : Fin 4096) (s : State) : Host.Outcome State Fault Refusal :=
  live s (fun s => s.writeVlanCmd a (Word.ofN (v + 2 ^ 12)))

/-- VLAN_WRITE (R315). -/
def execVlanWrite (a : Nat) (v : Fin 4096) (s : State) : Host.Outcome State Fault Refusal :=
  live s (fun s => s.writeVlanCmd a (Word.ofN (v + 2 ^ 13)))

/-- QCI_READ (R315). -/
def execQciRead (a : Nat) (meter : Bool) (i : Fin 1024) (s : State) : Host.Outcome State Fault Refusal :=
  live s (fun s => s.writeQciCmd a (Word.ofN (1 + 4 * bit01 meter + 8 * i)))

/-- QCI_WRITE (R315). -/
def execQciWrite (a : Nat) (meter : Bool) (i : Fin 1024) (s : State) : Host.Outcome State Fault Refusal :=
  live s (fun s => s.writeQciCmd a (Word.ofN (2 + 4 * bit01 meter + 8 * i)))

/-- CELL_STAT_READ (R315). -/
def execCellStatRead (a : Nat) (s : State) : Host.Outcome State Fault Refusal :=
  live s (fun s => let (w, s1) := s.readGeneric Reg.SWC_CELL_STAT; s1.emit (.read a w false))

end Sys2Proof.Machine
end

