-- ==== Sys2Proof/Machine/Sts.lean ====
section
/-! DEFINITION. Stream services: classification, subscriptions, authentication and the hand-over of frames to queues
(spec/11_stream_services.md R316 to R326). -/
namespace Sys2Proof.Machine

/-- The octet at which the EtherType stands after at most n VLAN tags. -/
def skipVlans (f : List Nat) : Nat → Nat → Nat
  | 0, o => o
  | n + 1, o => if beAt f o 2 = 0x8100 ∨ beAt f o 2 = 0x88A8 then skipVlans f n (o + 4) else o

/-- What a frame is classified as (R317): table, whether over UDP, key address, identifier. -/
structure StsKey where
  table : Nat
  udp : Bool
  addr : Nat
  ident : Nat
  deriving DecidableEq, Repr

/-- Entries of a subscription table (R318). -/
def subTableSize (t : Nat) : Nat := match t with
  | 0 => 4096
  | 1 => 2048
  | _ => 256

namespace State

/-- Stream services changed by f. -/
def modSts (s : State) (f : Sts → Sts) : State := { s with sts := f s.sts }

/-- Counter k of stream services counts one (R345). -/
def stsCount (s : State) (k : Nat) : State := s.bump (Reg.STS_CNT_COUNT k) 1

/-- The classification of a frame (R317). The APPID of an SV or GOOSE frame follows its EtherType, that of a session header
stands at octet 32 of the UDP payload, and an IDCODE at octet 4 of a C37.118.2 frame. -/
def stsKey (s : State) (f : List Nat) : Option StsKey :=
  let o := skipVlans f 2 12
  let et := beAt f o 2
  if et = 0x88BA then some { table := 0, udp := false, addr := dstAddr f, ident := beAt f (o + 2) 2 }
  else if et = 0x88B8 then some { table := 1, udp := false, addr := dstAddr f, ident := beAt f (o + 2) 2 }
  else
    let ip := o + 2
    let pay := ip + 28
    if et = 0x0800 ∧ octAt f ip = 0x45 ∧ beAt f (ip + 6) 2 % 2 ^ 14 = 0 ∧ octAt f (ip + 9) = 17 then
      let port := beAt f (ip + 22) 2
      if port = s.inForce Reg.STS_LIMITS_R_PORT ∧ (octAt f pay = 0xA2 ∨ octAt f pay = 0xA1) then
        some { table := (if octAt f pay = 0xA2 then 0 else 1), udp := true, addr := beAt f (ip + 16) 4
               ident := beAt f (pay + 32) 2 }
      else if port = s.inForce Reg.STS_LIMITS_C37_PORT ∧ octAt f pay = 0xAA ∧ octAt f (pay + 1) / 16 % 8 = 0 then
        some { table := 2, udp := true, addr := beAt f (ip + 12) 4, ident := beAt f (pay + 4) 2 }
      else none
    else none

/-- A subscription entry as it applies to a frame of an ingress tick of full time (R322). -/
def subFor (s : State) (key : Nat) (t : Int) : SubEntry :=
  let now : SubEntry := Tab.get {} key s.sts.subs
  let base := s.sts.former.foldl (fun (e : SubEntry) x => if x.key = key ∧ t < x.tick then x.entry else e) now
  match s.sts.pending with
  | some p => if p.key = key ∧ p.tick ≤ t then p.entry else base
  | none => base

/-- Whether an entry matches a frame (R317, R318): VID is no part of the key of the C37 table. -/
def subMatches (e : SubEntry) (k : StsKey) (vid : Nat) : Bool :=
  e.d2.bit 22 && e.d2.bit 13 == k.udp && (k.table == 2 || e.d2.bit 12 || e.d2.field 11 0 == vid)
    && e.d1.field 31 16 == k.ident && e.d0.field 31 0 == k.addr % 2 ^ 32
    && e.d1.field 15 0 == k.addr / 2 ^ 32

/-- The table's entries that a frame can match: those that hold anything now, held anything before a WRITE_AT, or are to.
(PRESUMED, log 45; DEDUCED, log 46) -/
def subCandidates (s : State) (table : Nat) : List Nat :=
  ((s.sts.subs.map (·.1) ++ s.sts.former.map (·.key) ++ (s.sts.pending.map (·.key)).toList).filter
    (fun k => k / 4096 == table)).map (· % 4096)

/-- The frame at packet-buffer word base, as its receive header and its octets are read back there under Massif's agent number
(R185, R188, R284): octets without the FCS, ingress TSW and VID. A word with an uncorrectable mark is used as read, since no rule of
stream services names the mark. (DESIGN CHOICE, log 45) -/
def storedFrame (s : State) (base : Nat) : List Nat × Nat × Nat × State :=
  let (h, _, s1) := s.readWords base 4
  let len := (h.headD 0).field 13 0
  let (ws, _, s2) := s1.readWords (base + 4) ((len + 3) / 4)
  ((unpackWords ws).take (len - 4), (h.getD 1 0).toNat, (h.headD 0).field 33 22, s2)

/-- The words of a frame are free again. -/
def freeFrame (s : State) (index : Nat) : State :=
  (s.modMassif (fun x => { x with areas := x.areas.filter (fun h => h.1 != 16 * index) })).stsCount 10

/-- Entries at the front that are ready are pushed or freed, in order (R318, R321). -/
def flushSts (s : State) : Nat → State
  | 0 => s
  | n + 1 =>
    let stuck := match s.sts.blocked with
      | some (q, e) => (s.queue q).waiting.any (fun w => w.agent == 58 && w.entry == e)
      | none => false
    if stuck then s
    else
      let s0 := s.modSts (fun x => { x with blocked := none })
      match s0.sts.work with
      | [] => s0
      | w :: rest =>
        if w.verifying then s0
        else
          let s1 := s0.modSts (fun x => { x with work := rest })
          if w.drop then (s1.freeFrame w.index).flushSts n
          else
            let entry := w.index + 2 ^ 17 * w.sub + 2 ^ 29 * w.table + 2 ^ 31 * bit01 w.failed
            let room := s1.queueRoom w.queue && (s1.queue w.queue).waiting.isEmpty
            let s2 := s1.modSts (fun x => { x with
              held := x.held ++ [w.index], blocked := if room then none else some (w.queue, entry) })
            (s2.push 58 w.queue entry (Reg.TALUS_QDATA w.queue)).flushSts n

/-- A frame joins the work in order, and what is ready goes on. -/
def addWork (s : State) (w : StsWork) : State :=
  let s1 := s.modSts (fun x => { x with work := x.work ++ [w] })
  s1.flushSts (s1.sts.work.length + 1)

/-- Stream services takes a completed frame (R316 to R319, R325). -/
def stsTake (s : State) (d : Delivered) : State :=
  let index := d.base / 16
  let s1 := s.stsCount 0
  let miss (s : State) : State :=
    let en := s.inForce Reg.STS_CTRL_MISS_EN = 1 ∧ s.inForce Reg.STS_CTRL_EN = 1
    (s.stsCount 4).addWork { index := index, table := 3, sub := 0, queue := s.inForce Reg.STS_CTRL_MISS_Q, d3 := 0
                             verifying := false, drop := !decide en }
  if s1.inForce Reg.STS_CTRL_EN = 0 then miss s1
  else
    let (octets, tsw, vid, s2) := s1.storedFrame d.base
    match s2.stsKey octets with
    | none => miss s2
    | some k =>
      let t := s2.boundaryOf tsw / 128
      match ((s2.subCandidates k.table).filter (fun i => subMatches (s2.subFor (4096 * k.table + i) t) k vid)).min? with
      | none => miss s2
      | some i =>
        let key := 4096 * k.table + i
        let e := s2.subFor key t
        let s3 := (s2.stsCount (1 + k.table)).modSts (fun x =>
          let old : SubEntry := Tab.get {} key x.subs
          { x with subs := Tab.put {} key { old with matched := (old.matched + 1) % 2 ^ 18 } x.subs })
        s3.addWork { index := index, table := k.table, sub := i, queue := e.d2.field 21 14, d3 := e.d3
                     udp := k.udp, octets := octets, verifying := k.table != 2 && e.d3.field 8 7 != 0 }

/-! ### Authentication (R323 to R325) -/

/-- Whether a key of n words and a TAGLEN go with an ALG (R323). -/
def keyAllowed (alg n taglen : Nat) : Bool :=
  match alg with
  | 1 => 8 ≤ n && n ≤ 16 && 1 ≤ taglen
  | 2 => n == 4 && (taglen == 0 || taglen == 2)
  | 3 => n == 8 && (taglen == 0 || taglen == 2)
  | _ => false

/-- The verdict on a frame (R325): 5 OK, 6 NO_TAG, 7 KEY_UNKNOWN, 8 KEY_MISMATCH, 9 BAD_TAG, as STS_CNT numbers them.
(DESIGN CHOICE, log 45) -/
def verdict (s : State) (w : StsWork) : Nat :=
  match Config.authExtension w.udp w.octets with
  | none => 6
  | some (keyId, value) =>
    let pair := w.d3.field 6 0
    match [2 * pair, 2 * pair + 1].find?
        (fun k => s.isSet (Reg.STS_KSLOT_LOADED k) && s.inForce (Reg.STS_KSLOT_KEY_ID k) == keyId) with
    | none => 7
    | some k =>
      let key : List Nat := Tab.get [] k s.memc.keySlots
      let alg := s.inForce (Reg.STS_KSLOT_ALG k)
      if ¬ keyAllowed alg key.length (w.d3.field 10 9) then 8
      else if Config.authTag alg key (w.d3.field 10 9) w.udp w.octets = value then 5 else 9

/-- The tag unit that takes a verification: the unit u asked for, unless it is retired (R511) or is the one that abandoned it (R516);
then the lowest other one, and none where there is no other. (DESIGN CHOICE, log 45) -/
def tagUnit (s : State) (u : Nat) (abandoned : Option Nat) : Option Nat :=
  (u :: List.range 4).find? (fun k => !s.strata.tagRetired.contains k && some k != abandoned)

/-- The verification of the frame w: the units asked for in turn, each with whether its self-check flags. A unit that flags abandons
it, a TAG_RETRY report is made, and another unit repeats it from the beginning (R516). Whether some unit finished. -/
def verify (s : State) (w : StsWork) : List (Nat × Bool) → Option Nat → Bool × State
  | [], _ => (false, s)
  | (u, flags) :: r, abandoned =>
    match s.tagUnit u abandoned with
    | none => (false, s)
    | some k => if flags then (s.report (0xA5 + k) 260 0 w.index 0 0).verify w r (some k) else (true, s)

/-- A verdict reaches the frame of an index (R325). -/
def applyVerdict (s : State) (w : StsWork) (v : Nat) : State :=
  let ok := v = 5
  let s1 := s.stsCount v
  let key := 4096 * w.table + w.sub
  let s2 := if ok then s1 else (s1.modSts (fun x =>
    let old : SubEntry := Tab.get {} key x.subs
    { x with subs := Tab.put {} key { old with fails := satAdd (2 ^ 18 - 1) old.fails 1 } x.subs })).raise 112
  let w1 := { w with verifying := false, failed := !decide ok, drop := !decide ok && w.d3.field 8 7 == 2 }
  let s3 := s2.modSts (fun x => { x with work := x.work.map (fun y => if y.index = w.index then w1 else y) })
  s3.flushSts (s3.sts.work.length + 1)

/-! ### Subscription entries (R322) -/

/-- The fields of the staged entry that the C37 table reserves: UDP other than 1, AUTH other than 0 (R345). -/
def c37Bad (s : State) (table : Nat) : Bool × Bool :=
  (table == 2 && !(s.reg Reg.STS_SUB_DATA2).bit 13, table == 2 && (s.reg Reg.STS_SUB_DATA3).field 8 7 != 0)

/-- The entry that STS_SUB_DATA0 to 3 describe, with the counts of an old one. A field whose value the table reserves keeps the old
entry's (R10, R345). (DEDUCED, log 45) -/
def stagedSub (s : State) (table : Nat) (old : SubEntry) : SubEntry :=
  let (udpBad, authBad) := s.c37Bad table
  let d2 := s.reg Reg.STS_SUB_DATA2
  let d3 := s.reg Reg.STS_SUB_DATA3
  { old with d0 := s.reg Reg.STS_SUB_DATA0, d1 := s.reg Reg.STS_SUB_DATA1
             d2 := if udpBad then d2.setField 13 13 (old.d2.field 13 13) else d2
             d3 := if authBad then d3.setField 8 7 (old.d3.field 8 7) else d3 }

/-- CFG_REJECT for the reserved fields of a staged entry (R10). -/
def rejectStaged (s : State) (a table : Nat) : State :=
  let (udpBad, authBad) := s.c37Bad table
  if udpBad || authBad then s.reject a Reg.STS_SUB_CMD else s

/-- A write of STS_SUB_DATA2: a reserved VID is left alone (R345). -/
def writeSubData2 (s : State) (a : Nat) (w : Word) : State :=
  s.writeBut a Reg.STS_SUB_DATA2
    (if ¬ w.bit 12 ∧ (w.field 11 0 = 0 ∨ w.field 11 0 = 4095) then [Reg.STS_SUB_DATA2_VID] else []) w

/-- READ of an entry. -/
def subRead (s : State) (key : Nat) : State :=
  let e : SubEntry := Tab.get {} key s.sts.subs
  ((((s.setReg Reg.STS_SUB_DATA0 e.d0).setReg Reg.STS_SUB_DATA1 e.d1).setReg Reg.STS_SUB_DATA2 e.d2).setReg
    Reg.STS_SUB_DATA3 e.d3).setReg Reg.STS_SUB_CNT (Word.ofN (e.matched + 2 ^ 18 * e.fails))

/-- WRITE of an entry. -/
def subWrite (s : State) (key : Nat) : State :=
  let old : SubEntry := Tab.get {} key s.sts.subs
  s.modSts (fun x => { x with
    subs := Tab.put {} key (s.stagedSub (key / 4096) old) x.subs, former := x.former.filter (fun f => f.key != key) })

/-- WRITE_AT of an entry. -/
def subWriteAt (s : State) (key : Nat) (t : Int) : State :=
  let old : SubEntry := Tab.get {} key s.sts.subs
  (s.modSts (fun x => { x with pending := some { key := key, entry := s.stagedSub (key / 4096) old, tick := t } })).setFld
    Reg.STS_SUB_CMD_PENDING 1

/-- A write of STS_SUB_CMD by an agent. -/
def writeSubCmd (s : State) (a op table index : Nat) : State :=
  let o := Reg.STS_SUB_CMD
  let key := 4096 * table + index
  if table = 3 ∨ subTableSize table ≤ index then s.reject a o
  else match op with
    | 1 => s.subRead key
    | 2 => if s.isSet Reg.STS_SUB_CMD_PENDING then s.reject a o else (s.subWrite key).rejectStaged a table
    | 3 =>
      let t := s.boundaryOf (s.fld Reg.STS_SUB_AT_AT) / 128
      if s.isSet Reg.STS_SUB_CMD_PENDING ∨ t ≤ s.tick then s.reject a o else (s.subWriteAt key t).rejectStaged a table
    | _ => s.reject a o

/-- A write of STS_FREE by an agent (R320). -/
def writeStsFree (s : State) (a index : Nat) : State :=
  if s.sts.held.contains index then
    (s.modSts (fun x => { x with held := x.held.filter (· != index) })).freeFrame index
  else s.reject a Reg.STS_FREE

/-- A write by an agent in the STS block at BAR0 offset o. -/
def stsWrite (s : State) (a o : Nat) (w : Word) : State :=
  if o = Reg.STS_FREE then s.writeStsFree a (w.field 16 0)
  else if o = Reg.STS_SUB_CMD then s.writeSubCmd a (w.field 1 0) (w.field 3 2) (w.field 15 4)
  else if o = Reg.STS_SUB_DATA2 then s.writeSubData2 a w
  else s.writeGeneric a o w

end State

/-! ### The commands of stream services -/

/-- STS_FRAME (R317): the frame that completed first in the packet buffer is taken. -/
def execStsFrame (s : State) : Host.Outcome State Fault Refusal :=
  live s (fun s =>
    match s.massif.toSts with
    | [] => s.flushSts (s.sts.work.length + 1)
    | d :: rest => (s.modMassif (fun x => { x with toSts := rest })).stsTake d)

/-- AUTH_VERDICT (R325, R516): the verification of the frame of an index ends, on the tag unit u, or on v where u flagged, or on x
where v flagged as well. -/
def execAuthVerdict (u : Fin 4) (index : Nat) (flags : Bool) (v : Fin 4) (flagsAgain : Bool) (x : Fin 4) (s : State) :
    Host.Outcome State Fault Refusal :=
  live s (fun s =>
    match s.sts.work.find? (fun w => w.verifying && w.index == index) with
    | none => s
    | some w =>
      let (done, s1) := s.verify w [(u.val, flags), (v.val, flagsAgain), (x.val, false)] none
      if done then s1.applyVerdict w (s1.verdict w) else s1)

/-- STS_FREE (R320). -/
def execStsFree (a index : Nat) (s : State) : Host.Outcome State Fault Refusal :=
  live s (fun s => s.writeStsFree a (index % 2 ^ 17))

/-- SUB_READ (R322). -/
def execSubRead (a : Nat) (table : Fin 4) (i : Fin 4096) (s : State) : Host.Outcome State Fault Refusal :=
  live s (fun s => s.writeSubCmd a 1 table i)

/-- SUB_WRITE (R322). -/
def execSubWrite (a : Nat) (table : Fin 4) (i : Fin 4096) (s : State) : Host.Outcome State Fault Refusal :=
  live s (fun s => s.writeSubCmd a 2 table i)

/-- SUB_WRITE_AT (R322). -/
def execSubWriteAt (a : Nat) (table : Fin 4) (i : Fin 4096) (s : State) : Host.Outcome State Fault Refusal :=
  live s (fun s => s.writeSubCmd a 3 table i)

/-- WRITE_AT_APPLY (R322): the tick of STS_SUB_AT. -/
def execWriteAtApply (s : State) : Host.Outcome State Fault Refusal :=
  live s (fun s =>
    match s.sts.pending with
    | none => s
    | some p =>
      let s1 := s.advanceToTime (p.tick * 128).toNat
      let old : SubEntry := Tab.get {} p.key s1.sts.subs
      let new : SubEntry := { p.entry with matched := old.matched, fails := old.fails }
      (s1.modSts (fun x => { x with
        pending := none, subs := Tab.put {} p.key new x.subs
        former := { p with entry := old } :: x.former })).setFld Reg.STS_SUB_CMD_PENDING 0)

end Sys2Proof.Machine
end

