-- ==== Sys2Proof/Machine/Tbu.lean ====
section
/-! DEFINITION. The time base unit: oscillators and PLL, full time and its steps, snapshots, captures, triggers, pulses per
second and calibration (spec/02_time_base.md). -/
namespace Sys2Proof.Machine
namespace State

/-! ### Oscillators and the PLL (R36 to R41) -/

/-- The judgement on oscillator input i. -/
def osc (s : State) (i : Nat) : OscState := if i = 0 then s.tbu.oscA else s.tbu.oscB

/-- s with the judgement on input i replaced, and its OK bit following. -/
def setOsc (s : State) (i : Nat) (x : OscState) : State :=
  let s1 := if i = 0 then { s with tbu := { s.tbu with oscA := x } } else { s with tbu := { s.tbu with oscB := x } }
  s1.setFld (if i = 0 then Reg.TBU_OSC_STAT_A_OK else Reg.TBU_OSC_STAT_B_OK) (bit01 (x == .qualified))

/-- Whether the time is unsure now: TIME_SET is 0 or HOLDOVER is 1 (R340). -/
def timeUnsure (s : State) : Bool := !s.isSet Reg.TBU_STAT_TIME_SET || s.isSet Reg.TBU_STAT_HOLDOVER

/-- What timeUnsure says now is noted before it changes. (DEDUCED, log 47) -/
def noteUnsure (s : State) : State :=
  { s with tbu := { s.tbu with unsure := ((s.tbu.time, s.timeUnsure) :: s.tbu.unsure).take 16 } }

/-- Whether the time was unsure at full time t (R340). -/
def unsureAt (s : State) (t : Nat) : Bool :=
  s.tbu.unsure.foldl (fun v x => if t < x.1 then x.2 else v) s.timeUnsure

/-- HOLDOVER, and its copy. -/
def setHoldover (s : State) (b : Bool) : State :=
  ((s.noteUnsure).setFld Reg.TBU_STAT_HOLDOVER (bit01 b)).setFld Reg.TBU_OSC_STAT_HOLDOVER (bit01 b)

/-- Since when input i has stayed within tolerance (R37). -/
def goodSince (s : State) (i : Nat) : Option Nat := if i = 0 then s.tbu.goodSinceA else s.tbu.goodSinceB

/-- s with the start of the present stay of input i within tolerance replaced. -/
def setGoodSince (s : State) (i : Nat) (x : Option Nat) : State :=
  if i = 0 then { s with tbu := { s.tbu with goodSinceA := x } } else { s with tbu := { s.tbu with goodSinceB := x } }

/-- Oscillator input i is found bad (R37 to R39): its stay within tolerance is broken; where it was not bad before it becomes
so, and with both inputs bad a PLL that has locked enters holdover. -/
def oscBad (s : State) (i : Nat) : State :=
  let s0 := s.setGoodSince i none
  if s0.osc i = .bad then s0
  else
    let s1 := ((s0.setOsc i .bad).raise 16).report 0xA0 16 i 0 0 0
    let other := 1 - i
    let inUse := s1.tbu.running && s1.fld Reg.TBU_OSC_STAT_ACTIVE == i
    let s2 := { s1 with tbu := { s1.tbu with
        switching := if inUse ∧ s1.osc other = .qualified then some other
                     else if s1.tbu.switching = some i then none else s1.tbu.switching } }
    if s2.tbu.running ∧ s2.osc other = .bad ∧ ¬ s2.isSet Reg.TBU_STAT_HOLDOVER then (s2.setHoldover true).raise 19 else s2

/-- A measurement window of input i that ends within tolerance starts its stay there, unless one has begun (R37).
(DEDUCED, log 48) -/
def oscGood (s : State) (i : Nat) : State :=
  if (s.goodSince i).isNone then s.setGoodSince i (some (s.clk - 100 * Config.us)) else s

/-! ### Full time -/

/-- The signed value of a 16-bit delay field, in sixteenths. -/
def delay (s : State) (f : Fld) : Int := signed 16 (s.fld f)

/-- The full time of TSW x nearest to the present (R49). -/
def fullTime (s : State) (x : Nat) : Int := (s.tbu.time : Int) + s.distance x

/-- The instant of full time at which the action of a commit unit is due: on the trigger pins the drive instant (R57), on the
tick grid the boundary that begins the due tick (R45). -/
def dueInstant (s : State) (p : Posted) : Int :=
  if 18 ≤ p.unit ∧ p.unit ≤ 25 then s.fullTime p.due - s.delay (Reg.TBU_TRG_DLY_DLY (p.unit - 18))
  else s.fullTime (p.due / 128 * 128)

/-- A GO write of TBU_CTRL (R45). -/
def writeTbuCtrl (s : State) (a : Nat) (w : Word) : State :=
  let stepGo := w.bit 0
  let setGo := w.bit 1
  if ¬ stepGo ∧ ¬ setGo then s
  else if s.isSet Reg.TBU_STAT_STEP_PENDING then s.reject a Reg.TBU_CTRL
  else
    let sec := s.fld Reg.TBU_SET_SECH_SEC * 2 ^ 32 + s.fld Reg.TBU_SET_SECL_SEC
    let set := sec * Config.sec + s.fld Reg.TBU_SET_NS_NS * Config.ns + s.fld Reg.TBU_SET_NS_SUB
    let c := if setGo then TimeChange.set set else .step (signed 36 (s.fld Reg.TBU_STEP_STEP))
    let s1 := { s with tbu := { s.tbu with change := some c, changeBy := a, changeAt := s.nextBoundary } }
    s1.setFld Reg.TBU_STAT_STEP_PENDING 1

/-! ### Trigger pins (R56 to R60) -/

/-- A pulse of width w starts on pin n now, or with w = 0 the pin inverts; a pulse still in progress merges with it (R56,
R58). The ball stays idle while EN is 0. -/
def pulse (s : State) (n w : Nat) : State :=
  let x := s.trg n
  if ¬ s.isSet (Reg.TBU_TRG_CTRL_EN n) then s
  else if w = 0 then (s.ball n (!x.level) s.tbu.time).setTrg n { x with level := !x.level, pulseEnd := none }
  else
    let s1 := if x.level then s else s.ball n true s.tbu.time
    s1.setTrg n { x with level := true, pulseEnd := some (s.clk + w) }

/-- Whether pin n signals internal targets (R60). -/
def targetsOn (s : State) (n : Nat) : Bool :=
  s.isSet (Reg.TBU_TRG_CTRL_TALUS_EN n) || s.isSet (Reg.TBU_TRG_CTRL_TOR_EN n)

/-- An edge of pin n due at full time t signals its internal targets at the first tick boundary at or after t, unless it has
done so already (R60). (DESIGN CHOICE, log 20) -/
def internalTargets (s : State) (n : Nat) (t : Int) (a : Nat) : State :=
  let x := s.trg n
  if x.early.contains t then s.setTrg n { x with early := x.early.filter (· != t) }
  else if s.targetsOn n then
    { s with tbu := { s.tbu with internals :=
        s.tbu.internals ++ [{ pin := n, boundary := ((t + 127) / 128 * 128).toNat, agent := a }] } }
  else s

/-- Pending ONESHOT actions of pin n, those on their way included. -/
def trgPending (s : State) (n : Nat) : Nat :=
  (s.posted ++ s.flight).countP (fun p => p.unit == 18 + n && p.sel == 1)

/-- A trigger action is dropped (R59): cause d, agents a1 and a2. -/
def trgConflict (s : State) (d due a1 a2 : Nat) : State := (s.raise 28).report 0xA0 28 d due a1 a2

/-- A write of TBU_TRGn_AT by an agent (R58, R59). Selector 2 stands for a TRAIN start. (DEDUCED, log 48) -/
def writeTrgAt (s : State) (a n : Nat) (w : Word) : State :=
  let due := w.toNat
  if s.fld (Reg.TBU_TRG_CTRL_MODE n) = 1 then
    let peri := s.fld (Reg.TBU_TRG_PERI_PERI n)
    let period := peri * 2 ^ 32 + s.fld (Reg.TBU_TRG_PERF_PERF n)
    let width := s.fld (Reg.TBU_TRG_WIDTH_WIDTH n)
    if peri < 256 ∨ period < (width + 32) * 2 ^ 32 then s.reject a (Reg.TBU_TRG_AT n)
    else
      let x := s.trg n
      let s1 := s.setTrg n { x with starts := x.starts ++ [{ seq := s.postSeq, period := period, width := width }] }
      s1.post (18 + n) 2 0 due a
  else if 8 ≤ s.trgPending n then s.trgConflict 1 due a 0
  else s.post (18 + n) 1 0 due a

/-- Whether two pending actions of pin n overlap or fall in the same 62.5 ps position (R59). -/
def trgOverlap (s : State) (n : Nat) (x y : Posted) : Bool :=
  decide ((s.distance x.due - s.distance y.due).natAbs < max 1 (s.fld (Reg.TBU_TRG_WIDTH_WIDTH n)))

/-- A pending ONESHOT action is taken in by trigger pin n on time (R59). (DEDUCED, log 48) -/
def takeInFire (s : State) (n : Nat) (p : Posted) : State :=
  if s.fld (Reg.TBU_TRG_CTRL_MODE n) = 1 then s.trgConflict 2 p.due p.agent 0
  else
    let rivals := s.posted.filter (fun q => q.unit == p.unit && q.sel == 1 && s.trgOverlap n p q)
    match rivals.find? (fun q => q.agent ≤ p.agent) with
    | some q => s.trgConflict 3 p.due p.agent q.agent
    | none =>
      let s1 := { s with posted := s.posted.filter (fun q => !rivals.contains q) ++ [p] }
      rivals.foldl (fun s q => s.trgConflict 3 q.due q.agent p.agent) s1

/-- The earliest pending action of pin n with a selector. -/
def trgNext (s : State) (n sel : Nat) : Option Posted :=
  (s.posted.filter (fun p => p.unit == 18 + n && p.sel == sel)).foldl (fun b p => match b with
    | some q => if s.distance p.due < s.distance q.due then some p else some q
    | none => some p) none

/-- The instant t_k of full time of edge k of a train, to the nearest sixteenth, halves up (R56). -/
def edgeAt (x : Train) (k : Nat) : Int := ((x.anchor : Int) * 2 ^ 32 + k * x.period + 2 ^ 31) / 2 ^ 32

/-- The first edge of a train at or after nextK whose instant is not before full time t. -/
def firstEdgeFrom (x : Train) (t : Int) : Nat :=
  max x.nextK ((((t - x.anchor) * 2 ^ 32 - 2 ^ 31 + (x.period - 1)) / x.period).toNat)

/-- The edge that the running train of pin n produces next: its instant and its drive instant. -/
def trainNext (s : State) (n : Nat) : Option (Train × Int × Int) :=
  (s.trg n).train.bind (fun x =>
    let t := edgeAt x x.nextK
    let d := t - s.delay (Reg.TBU_TRG_DLY_DLY n)
    let stopped := match x.stopAt with
      | some b => decide ((b : Int) ≤ d)
      | none => false
    let replaced := match s.trgNext n 2 with
      | some p => decide (s.dueInstant p ≤ d)
      | none => false
    if stopped || replaced then none else some (x, t, d))

/-- The earliest edge of pin n still to be driven that signals internal targets and has not done so: its due instant and
agent. It precedes its drive where DLY is negative (R60); fewer than 130 edges fall within the largest delay. -/
def undriven (s : State) (n : Nat) : Option (Int × Nat) :=
  let x := s.trg n
  let shots := (s.posted.filter (fun p => p.unit == 18 + n && p.sel == 1)).map (fun p => (s.fullTime p.due, p.agent))
  let edges := match s.trainNext n, x.train with
    | some _, some t =>
      ((List.range 130).filter (fun i => (t.nextK + i) % (s.fld (Reg.TBU_TRG_CTRL_DIV n) + 1) == 0)).map
        (fun i => (edgeAt t (t.nextK + i), t.agent))
    | _, _ => []
  ((shots ++ edges).filter (fun y => !x.early.contains y.1)).foldl (fun b y => match b with
    | some z => if y.1 < z.1 then some y else some z
    | none => some y) none

/-- The internal targets of an edge of pin n whose due instant comes before its drive, DLY being negative, are queued at
their boundary where no earlier edge of the pin waits to be signalled (R60). -/
def queueEarly (s : State) (n : Nat) : State :=
  if s.targetsOn n ∧ s.delay (Reg.TBU_TRG_DLY_DLY n) < 0 ∧ ¬ s.tbu.internals.any (fun x => x.pin == n) then
    match s.undriven n with
    | some (t, a) =>
      let x := s.trg n
      (s.internalTargets n t a).setTrg n { x with early := t :: x.early.filter (fun y => s.tbu.time - 2 ^ 16 < y) }
    | none => s
  else s

/-- A write of TBU_TRGn_CTRL (R58). -/
def writeTrgCtrl (s : State) (a n : Nat) (w : Word) : State :=
  let old := s.reg (Reg.TBU_TRG_CTRL n)
  let s1 := s.writeGeneric a (Reg.TBU_TRG_CTRL n) w
  let new := s1.reg (Reg.TBU_TRG_CTRL n)
  let stops := old.bit 0 && !new.bit 0 || old.field 2 1 == 1 && new.field 2 1 != 1
  let x := s1.trg n
  match x.train with
  | some t => if stops ∧ t.stopAt = none then s1.setTrg n { x with train := some { t with stopAt := some s1.nextBoundary } }
              else s1
  | none => s1

/-! ### Steps of time (R45) -/

/-- n edges of a train from edge k on are late at unit u because a step of time skips them (R45). (DEDUCED, log 17) -/
def lateEdges (s : State) (u : Nat) (t : Train) (k : Nat) : Nat → State
  | 0 => s
  | n + 1 => (s.lateFrom 21 u t.agent ((edgeAt t k % 2 ^ 36).toNat)).lateEdges u t (k + 1) n

/-- The edges of the train of pin n that a step forward to full time new skips are late (R45). -/
def skipTrain (s : State) (n new : Nat) : State :=
  let x := s.trg n
  match x.train with
  | none => s
  | some t =>
    let dly := s.delay (Reg.TBU_TRG_DLY_DLY n)
    let first := firstEdgeFrom t ((s.tbu.time : Int) + 1 + dly)
    let next := firstEdgeFrom t ((new : Int) + dly)
    let s1 := s.lateEdges (18 + n) t first (next - first)
    s1.setTrg n { x with train := some { t with nextK := next } }

/-- Internal targets that a step forward skips are late (R45, R60). -/
def skipInternal (s : State) (x : Internal) : State :=
  let s1 := if s.isSet (Reg.TBU_TRG_CTRL_TALUS_EN x.pin) ∧ ¬ x.flagDone then s.lateFrom 21 26 x.agent (x.boundary % 2 ^ 36) else s
  if s.isSet (Reg.TBU_TRG_CTRL_TOR_EN x.pin) then
    s1.lateFrom 21 (27 + s.fld (Reg.TBU_TRG_CTRL_TOR_CH x.pin)) x.agent (x.boundary % 2 ^ 36)
  else s1

/-! ### Captures (R52 to R55) -/

/-- Capture input n. -/
def cap (s : State) (n : Nat) : CapFifo := Tab.get {} n s.tbu.caps

/-- s with capture input n replaced. -/
def setCap (s : State) (n : Nat) (x : CapFifo) : State :=
  { s with tbu := { s.tbu with caps := Tab.put {} n x s.tbu.caps } }

/-- Whether an edge sense is selected: 1 rising, 2 falling, 3 both. -/
def senseSelected (sel : Nat) (rising : Bool) : Bool := if rising then sel.testBit 0 else sel.testBit 1

/-- An edge at the ball of CAP input n (R52 to R55); short marks an edge of a pulse or gap shorter than 2 ns.
(DEDUCED, log 48) -/
def captureEdge (s : State) (n : Nat) (rising short : Bool) : State :=
  if ¬ s.isSet (Reg.TBU_CAP_CTRL_EN n) ∨ ¬ senseSelected (s.fld (Reg.TBU_CAP_CTRL_EDGE n)) rising
      ∨ (short ∧ s.isSet (Reg.TBU_CAP_CTRL_FILTER n)) then s
  else
    let x := s.cap n
    let close := match x.last with
      | some t => decide (s.clk < t + 4 * Config.ns)
      | none => false
    if close then s.bumpSat (Reg.TBU_CAP_LOST_LOST n) 1
    else if 16 ≤ x.fifo.length then (s.bumpSat (Reg.TBU_CAP_LOST_LOST n) 1).raise 27
    else
      let tsw := (((s.tbu.time : Int) - s.delay (Reg.TBU_CAP_DLY_DLY n)) % 2 ^ 36).toNat
      let s1 := (s.setCap n { fifo := x.fifo ++ [(tsw, rising)], last := some s.clk }).raise (32 + n)
      if s1.isSet (Reg.TBU_CAP_CTRL_TALUS_EN n) then
        s1.taskFlag (s1.fld (Reg.TBU_CAP_CTRL_TALUS_TASK n)) (s1.fld (Reg.TBU_CAP_CTRL_TALUS_FLAG n)) true
      else s1

/-- TBU_CAPn_HEAD (R54). -/
def capHead (s : State) (n : Nat) : Word :=
  let x := s.cap n
  Word.ofN (x.fifo.length + 2 ^ 5 * bit01 ((x.fifo.head?.map (·.2)).getD false))

/-- A read of TBU_CAPn_POP (R54). -/
def capPop (s : State) (n : Nat) : Word × State :=
  let x := s.cap n
  match x.fifo with
  | [] => (0, s)
  | (t, _) :: rest => (Word.ofN t, s.setCap n { x with fifo := rest })

/-! ### Snapshots and calibration -/

/-- A read of TBU_SNAP_SECH by an agent takes its snapshot (R46). -/
def takeSnapshot (s : State) (a : Nat) : Word × State :=
  let b := s.tbu.time / 128 * 128
  let sec := b / Config.sec
  let hi := Word.ofN (sec / 2 ^ 32 % 2 ^ 16)
  let s1 := ((s.setAgentReg a Reg.TBU_SNAP_SECH hi).setAgentReg a Reg.TBU_SNAP_SECL (Word.ofN (sec % 2 ^ 32))).setAgentReg
    a Reg.TBU_SNAP_NS (Word.ofN (b % Config.sec))
  (hi, s1)

/-- TBU_NOW_TSW (R46). -/
def nowTsw (s : State) : Word := Word.ofN (s.tbu.time / 128 * 128)

/-- A calibration run starts at junction temperature tj, unless one is in progress (R63). -/
def startCal (s : State) (tj : Nat) : State :=
  if s.isSet Reg.TBU_CAL_STAT_BUSY then s
  else
    let s1 := { s with tbu := { s.tbu with calStart := some s.clk, calLast := some s.clk, calTemp := tj % 2 ^ 12 } }
    s1.setFld Reg.TBU_CAL_STAT_BUSY 1

/-- A run that software starts: its junction temperature is the last one measured (R63, R459). (DEDUCED, log 48) -/
def goCal (s : State) : State := s.startCal s.prc.measured.tj

/-! ### Registers -/

/-- A read by an agent in the TBU block at BAR0 offset o. -/
def tbuRead (s : State) (a o : Nat) : Word × State :=
  let r := o - 0x20000
  if r = 0x50 then s.takeSnapshot a
  else if r = 0x58 ∨ r = 0x60 then (s.agentReg a o, s)
  else if r = 0x68 then (s.nowTsw, s)
  else if 0x200 ≤ r ∧ r < 0x400 then
    let n := (r - 0x200) / 0x40
    if r % 0x40 = 0x10 then (s.capHead n, s)
    else if r % 0x40 = 0x18 then s.capPop n
    else s.readGeneric o
  else s.readGeneric o

/-- A write of TBU_PPSIp_CTRL: VALID starts anew when EN is set (R66); a pulse captured before still starts the 1.1 s of R61.
(DESIGN CHOICE, log 48) -/
def writePpsi (s : State) (a p : Nat) (w : Word) : State :=
  let was := s.isSet (Reg.TBU_PPSI_CTRL_EN p)
  let s1 := s.writeGeneric a (Reg.TBU_PPSI_CTRL p) w
  if ¬ was ∧ s1.isSet (Reg.TBU_PPSI_CTRL_EN p) then s1.setFld (Reg.TBU_PPSI_STAT_VALID p) 0 else s1

/-- A write of TBU_CAL_CTRL (R63). -/
def writeCalCtrl (s : State) (a : Nat) (w : Word) : State :=
  let s1 := s.writeGeneric a Reg.TBU_CAL_CTRL w
  if w.bit 0 then s1.goCal else s1

/-- A write by an agent in the TBU block at BAR0 offset o. -/
def tbuWrite (s : State) (a o : Nat) (w : Word) : State :=
  let r := o - 0x20000
  if r = 0x08 then s.writeTbuCtrl a w
  else if r = 0x80 then s.writeCalCtrl a w
  else if r = 0x100 then s.writePpsi a 0 w
  else if r = 0x120 then s.writePpsi a 1 w
  else if 0x400 ≤ r ∧ r < 0x600 then
    let n := (r - 0x400) / 0x40
    if r % 0x40 = 0 then s.writeTrgCtrl a n w
    else if r % 0x40 = 8 then s.writeTrgAt a n w
    else s.writeGeneric a o w
  else s.writeGeneric a o w

end State

/-! ### The commands of the time base unit -/

/-- OSC_LOSS (R37, R38, R39): input i has shown no edge for three nominal periods. -/
def execOscLoss (i : Fin 2) (s : State) : Host.Outcome State Fault Refusal := live s (fun s => s.oscBad i)

/-- OSC_FREQ_WINDOW (R37): a measurement window of input i ends with a deviation of ppm. -/
def execOscFreqWindow (i : Fin 2) (ppm : Nat) (s : State) : Host.Outcome State Fault Refusal :=
  live s (fun s => if s.fld Reg.TBU_OSC_CTRL_TOL < ppm then s.oscBad i else s.oscGood i)

/-- OSC_SWITCH (R38, R40): the switch-over in progress is complete. -/
def execOscSwitch (s : State) : Host.Outcome State Fault Refusal :=
  live s (fun s =>
    match s.tbu.switching with
    | none => s
    | some i =>
      let s1 := { s with tbu := { s.tbu with switching := none } }
      ((s1.setFld Reg.TBU_OSC_STAT_ACTIVE i).bumpSat Reg.TBU_OSC_STAT_SWITCHES 1).raise 17)

/-- OSC_QUALIFIED (R37 to R40): input i has stayed within tolerance for QUAL × 10 ms. The PLL leaves holdover to it, switches
to it from an input in use that is bad, or returns to it under REVERTIVE. A return is made at a qualification of the preferred
input only: setting REVERTIVE or changing PREFER while it is qualified causes none. (DESIGN CHOICE, log 48) -/
def execOscQualified (i : Fin 2) (s : State) : Host.Outcome State Fault Refusal :=
  live s (fun s =>
    match s.goodSince i with
    | none => s
    | some t =>
      if s.osc i = .qualified then s
      else
        let s0 := s.advanceTo (t + s.fld Reg.TBU_OSC_CTRL_QUAL * 10 * Config.ms)
        let s1 := (s0.setOsc i .qualified).raise 18
        let active := s1.fld Reg.TBU_OSC_STAT_ACTIVE
        if s1.isSet Reg.TBU_STAT_HOLDOVER then (s1.setHoldover false).setFld Reg.TBU_OSC_STAT_ACTIVE i
        else if s1.tbu.running ∧ active ≠ i ∧ (s1.osc active = .bad
            ∨ s1.isSet Reg.TBU_OSC_CTRL_REVERTIVE ∧ s1.fld Reg.TBU_OSC_CTRL_PREFER = i) then
          { s1 with tbu := { s1.tbu with switching := some i } }
        else s1)

/-- PLL_FIRST_LOCK (R36, R42): the PLL locks to the preferred input if that is qualified, and otherwise to the other. -/
def execPllFirstLock (s : State) : Host.Outcome State Fault Refusal :=
  live s (fun s =>
    let p := s.fld Reg.TBU_OSC_CTRL_PREFER
    if s.tbu.running ∨ (s.osc p ≠ .qualified ∧ s.osc (1 - p) ≠ .qualified) then s
    else
      let s1 := { s with tbu := { s.tbu with running := true, time := 0 } }
      (s1.setFld Reg.TBU_OSC_STAT_ACTIVE (if s.osc p = .qualified then p else 1 - p)).setFld Reg.TBU_STAT_PLL_LOCK 1)

/-- PLL_UNLOCK (R41). -/
def execPllUnlock (s : State) : Host.Outcome State Fault Refusal :=
  live s (fun s =>
    if ¬ s.isSet Reg.TBU_STAT_PLL_LOCK ∨ s.isSet Reg.TBU_STAT_HOLDOVER then s
    else
      let s1 := { s with tbu := { s.tbu with unlockAt := s.clk } }
      (((s1.setFld Reg.TBU_STAT_PLL_LOCK 0).setFld Reg.TBU_STAT_PLL_HOLD 1).raise 20).report 0xA0 20 0 0 0 0)

/-- PLL_RELOCK (R41). -/
def execPllRelock (s : State) : Host.Outcome State Fault Refusal :=
  live s (fun s =>
    if ¬ s.isSet Reg.TBU_STAT_PLL_HOLD ∨ s.tbu.pllFailed then s
    else (s.setFld Reg.TBU_STAT_PLL_LOCK 1).setFld Reg.TBU_STAT_PLL_HOLD 0)

/-- PLL_RELOCK_TIMEOUT (R41): 200 µs after the loss of lock. -/
def execPllRelockTimeout (s : State) : Host.Outcome State Fault Refusal :=
  live s (fun s =>
    if ¬ s.isSet Reg.TBU_STAT_PLL_HOLD ∨ s.tbu.pllFailed then s
    else
      let s1 := s.advanceTo (s.tbu.unlockAt + 200 * Config.us)
      let s2 := { s1 with tbu := { s1.tbu with pllFailed := true } }
      (s2.raise 20).report 0xA0 20 0 0 0 0)

/-- SECOND_MARK (R47): the present whole second, if it is not marked yet, or else the next one. -/
def execSecondMark (s : State) : Host.Outcome State Fault Refusal :=
  live s (fun s =>
    if ¬ s.tbu.running then s
    else
      let c := (s.tbu.time + (Config.sec - 1)) / Config.sec
      let marked := s.fld Reg.TBU_MARK_SECH_SEC * 2 ^ 32 + s.fld Reg.TBU_MARK_SECL_SEC
      let next := if c * Config.sec = s.tbu.time ∧ marked = c then c + 1 else c
      let s0 := s.advanceToTime (next * Config.sec)
      let s1 := s0.tmuxPulse 2 0 s0.tsw 1000
      (s1.setFld Reg.TBU_MARK_SECH_SEC (next / 2 ^ 32)).setFld Reg.TBU_MARK_SECL_SEC (next % 2 ^ 32))

/-- RATE_APPLY (R44): TBU_RATE takes effect at the next tick boundary. -/
def execRateApply (s : State) : Host.Outcome State Fault Refusal :=
  live s (fun s =>
    let s1 := s.advanceToTime s.nextBoundary
    let s2 := { s1 with tbu := { s1.tbu with rate := s1.fld Reg.TBU_RATE_RATE } }
    { s2 with tbu := { s2.tbu with pllFrac := s1.tbu.pllFrac * s2.pace / s1.pace } })

/-- STEP_GO (R45): a write of TBU_CTRL with STEP_GO. -/
def execStepGo (a : Nat) (s : State) : Host.Outcome State Fault Refusal := live s (fun s => s.writeTbuCtrl a 1)

/-- SET_GO (R45): a write of TBU_CTRL with SET_GO. -/
def execSetGo (a : Nat) (s : State) : Host.Outcome State Fault Refusal := live s (fun s => s.writeTbuCtrl a 2)

/-- SNAPSHOT_READ (R46). -/
def execSnapshotRead (a : Nat) (s : State) : Host.Outcome State Fault Refusal :=
  live s (fun s => let (w, s1) := s.takeSnapshot a; s1.emit (.read a w false))

/-- NOW_TSW_READ (R46). -/
def execNowTswRead (a : Nat) (s : State) : Host.Outcome State Fault Refusal :=
  live s (fun s => s.emit (.read a s.nowTsw false))

/-- CAPTURE (R52 to R55): an edge at the ball of CAPn, dt sixteenths of PLL time from now. -/
def execCapture (n : Fin 8) (dt : Nat) (rising short : Bool) (s : State) : Host.Outcome State Fault Refusal :=
  live s (fun s => (s.elapse dt).captureEdge n rising short)

/-- CAP_POP (R54). -/
def execCapPop (a : Nat) (n : Fin 8) (s : State) : Host.Outcome State Fault Refusal :=
  live s (fun s => let (w, s1) := s.capPop n; s1.emit (.read a w false))

/-- CAP_LOST_READ (R53). -/
def execCapLostRead (a : Nat) (n : Fin 8) (s : State) : Host.Outcome State Fault Refusal :=
  live s (fun s => let (w, s1) := s.readGeneric (Reg.TBU_CAP_LOST n); s1.emit (.read a w false))

/-- OSC_STAT_READ (R66). -/
def execOscStatRead (a : Nat) (s : State) : Host.Outcome State Fault Refusal :=
  live s (fun s => let (w, s1) := s.readGeneric Reg.TBU_OSC_STAT; s1.emit (.read a w false))

/-- TRG_AT_WRITE (R58, R59). -/
def execTrgAtWrite (a : Nat) (n : Fin 8) (w : Word) (s : State) : Host.Outcome State Fault Refusal :=
  live s (fun s => s.writeTrgAt a n w)

/-- FIRE (R56, R57, R59): the earliest pending ONESHOT action of pin n is performed. -/
def execFire (n : Fin 8) (s : State) : Host.Outcome State Fault Refusal :=
  live s (fun s =>
    match s.trgNext n 1 with
    | none => s
    | some p =>
      let due := s.fullTime p.due
      let drive := (s.dueInstant p).toNat
      let s1 := s.advanceToTime drive
      let s2 := { s1 with posted := s1.posted.filter (· != p) }
      let s3 := (s2.pulse n (s2.fld (Reg.TBU_TRG_WIDTH_WIDTH n))).bump (Reg.TBU_TRG_CNT_CNT n) 1
      ((s3.internalTargets n due p.agent).noteSlack p).raise (40 + n))

/-- TRAIN_START (R58): the earliest TRAIN start that pin n has taken in starts its train, in place of any that runs. -/
def execTrainStart (n : Fin 8) (s : State) : Host.Outcome State Fault Refusal :=
  live s (fun s =>
    match s.trgNext n 2 with
    | none => s
    | some p =>
      let anchor := (s.fullTime p.due).toNat
      let s1 := s.advanceToTime (s.dueInstant p).toNat
      let s2 := { s1 with posted := s1.posted.filter (· != p) }
      let x := s2.trg n
      match x.starts.find? (fun y => y.seq == p.seq) with
      | none => s2
      | some y =>
        let t : Train := { anchor := anchor, period := y.period, width := y.width, agent := p.agent }
        (s2.setTrg n { x with train := some t, starts := x.starts.filter (fun y => p.seq < y.seq) }).noteSlack p)

/-- TRAIN_EDGE (R56, R57, R60): the running train of pin n produces its next edge. -/
def execTrainEdge (n : Fin 8) (s : State) : Host.Outcome State Fault Refusal :=
  live s (fun s =>
    match s.trainNext n with
    | none => s
    | some (x, t, d) =>
      let s1 := s.advanceToTime d.toNat
      let s2 := s1.setTrg n { s1.trg n with train := some { x with nextK := x.nextK + 1 } }
      let s3 := (s2.pulse n x.width).bump (Reg.TBU_TRG_CNT_CNT n) 1
      if x.nextK % (s.fld (Reg.TBU_TRG_CTRL_DIV n) + 1) = 0 then s3.internalTargets n t x.agent else s3)

/-- TRAIN_STOP (R58): the train of pin n stops at the tick boundary after the write that stopped it. -/
def execTrainStop (n : Fin 8) (s : State) : Host.Outcome State Fault Refusal :=
  live s (fun s =>
    match (s.trg n).train.bind (·.stopAt) with
    | none => s
    | some b =>
      let s1 := s.advanceToTime b
      s1.setTrg n { s1.trg n with train := none })

/-- TRIGGER_INTERNAL (R60, R139, R561): the next internal targets of pin n are signalled at their tick boundary; the Tor
channel start is taken in at exactly that tick. (DESIGN CHOICE, log 20) -/
def execTriggerInternal (n : Fin 8) (s : State) : Host.Outcome State Fault Refusal :=
  live s (fun s =>
    let s := s.queueEarly n
    match s.tbu.internals.find? (fun x => x.pin == n.val) with
    | none => s
    | some x =>
      let s1 := s.talusStep x.boundary
      let rest := s1.tbu.internals.filter (fun y => !(y.pin == n.val && y.boundary == x.boundary))
      let s2 := { s1 with tbu := { s1.tbu with internals := rest } }
      if s2.isSet (Reg.TBU_TRG_CTRL_TOR_EN n) then
        let p : Posted := { unit := 27 + s2.fld (Reg.TBU_TRG_CTRL_TOR_CH n), sel := 1, arg := 0,
                            due := x.boundary % 2 ^ 36, agent := 0, seq := s2.postSeq }
        { s2 with posted := s2.posted ++ [p], postSeq := s2.postSeq + 1 }
      else s2)

/-- PPS_IN (R61): a pulse edge at PPS_INp, dt sixteenths of PLL time from now. A pulse exactly half a second from two whole
seconds takes the later one as the nearest. (DESIGN CHOICE, log 48) -/
def execPpsIn (p : Fin 2) (dt : Nat) (rising : Bool) (s : State) : Host.Outcome State Fault Refusal :=
  live s (fun s =>
    let s1 := s.elapse dt
    if ¬ s1.isSet (Reg.TBU_PPSI_CTRL_EN p) ∨ rising = s1.isSet (Reg.TBU_PPSI_CTRL_EDGE p) then s1
    else
      let t : Int := s1.tbu.time - s1.delay (Reg.TBU_PPSI_CTRL_DLY p)
      let r := t % Config.sec
      let off : Int := if 2 * r < Config.sec then r else r - Config.sec
      let s2 := { s1 with tbu := { s1.tbu with ppsLast := Tab.put none p (some s1.clk) s1.tbu.ppsLast } }
      ((s2.setFld (Reg.TBU_PPSI_STAT_OFFSET p) (toBits 34 off)).setFld (Reg.TBU_PPSI_STAT_VALID p) 1).raise (24 + p))

/-- PPS_MISS (R51, R61): no pulse on PPS_INp by the end of the tick that lies 1.1 s after the last one. -/
def execPpsMiss (p : Fin 2) (s : State) : Host.Outcome State Fault Refusal :=
  live s (fun s =>
    match Tab.get none p s.tbu.ppsLast with
    | none => s
    | some t =>
      if ¬ s.isSet (Reg.TBU_PPSI_CTRL_EN p) then s
      else
        let s1 := s.expire (t + 1100 * Config.ms)
        let s2 := { s1 with tbu := { s1.tbu with ppsLast := Tab.put none p none s1.tbu.ppsLast } }
        (s2.setFld (Reg.TBU_PPSI_STAT_MISSED p) 1).raise 26)

/-- PPS_OUT (R62): the pulse of the next whole second minus DLY on PPS_OUTp. (DEDUCED, log 48) -/
def execPpsOut (p : Fin 2) (s : State) : Host.Outcome State Fault Refusal :=
  live s (fun s =>
    let w := s.fld (Reg.TBU_PPSO_CTRL_WIDTH p) * Config.us
    if ¬ s.tbu.running ∨ ¬ s.isSet (Reg.TBU_PPSO_CTRL_EN p) ∨ w = 0
        ∨ (¬ s.isSet Reg.TBU_STAT_TIME_SET ∧ ¬ s.isSet (Reg.TBU_PPSO_CTRL_FREE p)) then s
    else
      let dly := s.delay (Reg.TBU_PPSO_DLY_DLY p)
      let first := (((s.tbu.time : Int) + dly + (Config.sec - 1)) / Config.sec).toNat
      let sec := if Tab.get none p s.tbu.ppsOutLast = some first then first + 1 else first
      let t := ((sec * Config.sec : Nat) - dly).toNat
      let idle := s.isSet (Reg.TBU_PPSO_CTRL_POL p)
      let s0 := s.advanceToTime t
      let s1 := { s0 with tbu := { s0.tbu with ppsOutLast := Tab.put none p (some sec) s0.tbu.ppsOutLast } }
      (s1.emit (.pin 1 p (!idle) (t % 2 ^ 36))).emit (.pin 1 p idle ((t + w) % 2 ^ 36)))

/-- CAL_GO (R63): a write of TBU_CAL_CTRL.GO. -/
def execCalGo (_a : Nat) (s : State) : Host.Outcome State Fault Refusal := live s State.goCal

/-- CAL_AUTO (R63): the first run after start-up, or an automatic run by time or by the junction temperature tj. -/
def execCalAuto (tj : Nat) (s : State) : Host.Outcome State Fault Refusal :=
  live s (fun s =>
    match s.tbu.calLast with
    | none => s.startCal tj
    | some t =>
      let change := (signed 12 (tj % 2 ^ 12) - signed 12 s.tbu.calTemp).natAbs
      if ¬ s.isSet Reg.TBU_CAL_CTRL_AUTO then s
      else if 4 * s.fld Reg.TBU_CAL_CTRL_TEMP_STEP ≤ change then s.startCal tj
      else (s.advanceTo (t + s.fld Reg.TBU_CAL_CTRL_INTERVAL * Config.sec)).startCal tj)

/-- CAL_DONE (R63): the run in progress ends; its largest interpolator step error is worst ps. (DEDUCED, log 48) -/
def execCalDone (worst : Nat) (s : State) : Host.Outcome State Fault Refusal :=
  live s (fun s =>
    if ¬ s.isSet Reg.TBU_CAL_STAT_BUSY then s
    else
      let s1 := (s.setFld Reg.TBU_CAL_STAT_BUSY 0).setFld Reg.TBU_CAL_STAT_WORST (min worst 255)
      if 40 < worst then (s1.setFld Reg.TBU_CAL_STAT_FAILED 1).raise 23
      else ((s1.setFld Reg.TBU_CAL_STAT_FAILED 0).setFld Reg.TBU_STAT_CAL_VALID 1).raise 22)

end Sys2Proof.Machine
end

