-- ==== Sys2Proof/Machine/Tal.lean ====
section
/-! DEFINITION. The Terrace aligner: streams and groups, contributions, interpolation, rows and their release
(spec/11_stream_services.md R327 to R341, R563, spec/01_architecture.md R27, R28). Instants are sixteenths of full time. -/
namespace Sys2Proof.Machine

/-- Rows per second of a group's RATE code (R346). -/
def gridRate (c : Nat) : Nat := match c with
  | 0 => 4000
  | 1 => 4800
  | 2 => 12800
  | _ => 14400

/-- Instant number k of a rate: second k / rate, and the instant of k mod rate in it, rounded down (R331, R333). -/
def instantOf (rate k : Nat) : Nat := k / rate * Config.sec + (k % rate) * Config.sec / rate

/-- The least number whose instant is at or after t. -/
def instantFrom (rate : Nat) (t : Int) : Nat :=
  let k := ((t * rate) / (Config.sec : Int)).toNat
  ((List.range 4).map (fun i => k - 1 + i)).find? (fun i => decide (t ≤ (instantOf rate i : Int))) |>.getD (k + 2)

/-- The nominal instant of sample number n of a source rate: second n / rate, and n mod rate in it, rounded down (R331). -/
def sampleInstant (rate : Nat) (n : Int) : Int := n / rate * Config.sec + (n % rate) * Config.sec / rate

/-- The largest sample number of a source rate whose nominal instant is at or before t. -/
def sampleBefore (rate : Nat) (t : Int) : Int := ((t + 1) * rate - 1) / (Config.sec : Int)

/-- The largest number at or below k that is none of a list, among the next fuel numbers. -/
def firstNot (l : List Int) : Nat → Int → Int
  | 0, k => k
  | fuel + 1, k => if l.contains k then firstNot l fuel (k - 1) else k

/-- The scale S of R335. -/
def scaleS : Int := 2 ^ 24

/-- The interpolation of R335 by a weight x: linear between two values, or Lagrange over four; 16 × v for one sample. -/
def interpolate (vs : List Int) (x : Int) : Int :=
  match vs with
  | [v] => 16 * v
  | [v0, v1] => (v0 * scaleS + x * (v1 - v0) + 2 ^ 19) / 2 ^ 20
  | [vm, v0, v1, v2] =>
    let S := scaleS
    let acc := -x * (x - S) * (x - 2 * S) * vm + 3 * (x + S) * (x - S) * (x - 2 * S) * v0
      - 3 * (x + S) * x * (x - 2 * S) * v1 + (x + S) * x * (x - S) * v2
    (16 * acc + 3 * S ^ 3) / (6 * S ^ 3)
  | _ => 0

/-- An output held to 36 bits, and whether it saturated (R335). -/
def saturate (v : Int) : Int × Bool :=
  if v < -(2 ^ 35) then (-(2 ^ 35), true) else if 2 ^ 35 - 1 < v then (2 ^ 35 - 1, true) else (v, false)

/-- How a stream is placed in a row (R334): the samples used, the weight, whether by the arrival rule. -/
structure Placing where
  samples : List Sample
  x : Int
  arrival : Bool
  deriving DecidableEq, Repr

/-- What R563 finds for a stream: settled with the samples it needs, or not; the numbers of needed samples that are not
present. -/
structure Need where
  settled : Bool
  samples : List Sample
  missing : List Int
  deriving DecidableEq, Repr

namespace State

/-- Terrace changed by f. -/
def modTal (s : State) (f : Tal → Tal) : State := { s with tal := f s.tal }

/-- Group g. -/
def group (s : State) (g : Nat) : Group := Tab.get {} g s.tal.groups

/-- s with group g replaced. -/
def setGroup (s : State) (g : Nat) (x : Group) : State := s.modTal (fun t => { t with groups := Tab.put {} g x t.groups })

/-- Stream i. -/
def stream (s : State) (i : Nat) : Stream := Tab.get {} i s.tal.streams

/-- s with stream i replaced. -/
def setStream (s : State) (i : Nat) (x : Stream) : State :=
  s.modTal (fun t => { t with streams := Tab.put {} i x t.streams })

/-- Counter k of Terrace counts one (R346). -/
def talCount (s : State) (k : Nat) : State := s.bump (Reg.TAL_CNT_COUNT k) 1

/-! ### Streams -/

/-- Channels of stream i. -/
def channels (s : State) (i : Nat) : Nat := s.fld (Reg.TAL_SCFG_NCH i) + 1

/-- History slots of stream i. -/
def depth (s : State) (i : Nat) : Nat := 16 * 2 ^ s.fld (Reg.TAL_SRATE_DEPTH i)

/-- Words of the history of stream i (R332). -/
def historySize (s : State) (i : Nat) : Nat := s.depth i * (3 + s.channels i)

/-- ceil(16 × 10^9 / F_s) (R328). -/
def periodCeil (s : State) (i : Nat) : Nat :=
  let f := s.fld (Reg.TAL_SRATE_RATE i)
  (Config.sec + f - 1) / f

/-- The streams whose SCFG.EN is 1, in ascending number. -/
def enabledStreams (s : State) : List Nat :=
  s.regs.filterMap (fun e =>
    let r := e.1 - Reg.TAL_SCFG 0
    if Reg.TAL_SCFG 0 ≤ e.1 ∧ e.1 < Reg.TAL_SCFG 0 + 0x40 * 1024 ∧ r % 0x40 = 0 ∧ e.2.bit 0 then some (r / 0x40) else none)

/-- The enabled streams of group g. -/
def groupStreams (s : State) (g : Nat) : List Nat :=
  s.enabledStreams.filter (fun i => s.fld (Reg.TAL_SCFG_GROUP i) == g)

/-! ### Enabling and disabling a group (R328, R329) -/

/-- The look-ahead A_g (R328). -/
def lookAhead (s : State) (g : Nat) : Nat :=
  let k := if s.isSet (Reg.TAL_GCFG_METHOD g) then 2 else 1
  (s.groupStreams g).foldl (fun a i =>
    max a (k * s.periodCeil i + s.fld (Reg.TAL_SDLY_DELAY i) + s.fld (Reg.TAL_SADLY_ARR_DLY i))) 0

/-- The depth rule for stream i of group g with look-ahead A (R328). -/
def depthRule (s : State) (g i a : Nat) : Bool :=
  a + Config.us * s.fld (Reg.TAL_GTIME_MAXWAIT g) + 128 * s.fld (Reg.TAL_GTIME_MARGIN g) + 3 * s.periodCeil i
    ≤ s.depth i * s.periodCeil i

/-- The rows' area of group g: first word and words (R339). -/
def rowsArea (s : State) (g : Nat) : Nat × Nat :=
  (s.fld (Reg.TAL_GROWS_BASE g), s.fld (Reg.TAL_GROWS_NROWS g) * (3 + (s.fld (Reg.TAL_GCFG_CHCOUNT g) + 1)))

/-- The areas of group g in the Terrace store: its rows and its streams' histories. -/
def groupAreas (s : State) (g : Nat) : List (Nat × Nat) :=
  s.rowsArea g :: (s.groupStreams g).map (fun i => (s.fld (Reg.TAL_SRATE_BASE i), s.historySize i))

/-- Whether no two areas of a list overlap. -/
def disjointAreas : List (Nat × Nat) → Bool
  | [] => true
  | x :: r => r.all (fun y => x.1 + x.2 ≤ y.1 || y.1 + y.2 ≤ x.1) && disjointAreas r

/-- Whether some pair of a list satisfies a test. -/
def somePair (f : Nat → Nat → Bool) : List Nat → Bool
  | [] => false
  | x :: r => r.any (f x) || somePair f r

/-- The groups that are active. -/
def activeGroups (s : State) : List Nat := s.tal.groups.filterMap (fun e => if e.2.active then some e.1 else none)

/-- Whether group g may be enabled (R328). -/
def enableOk (s : State) (g : Nat) : Bool :=
  let is := s.groupStreams g
  let lo (i : Nat) : Nat := s.fld (Reg.TAL_SCFG_CHBASE i)
  let hi (i : Nat) : Nat := lo i + s.channels i
  let others := (s.activeGroups.filter (· != g)).flatMap s.groupAreas
  let mine := s.groupAreas g
  !somePair (fun i j => s.fld (Reg.TAL_SCFG_SLOT i) == s.fld (Reg.TAL_SCFG_SLOT j)) is
    && !somePair (fun i j => decide (lo i < hi j ∧ lo j < hi i)) is
    && is.all (fun i => hi i ≤ s.fld (Reg.TAL_GCFG_CHCOUNT g) + 1)
    && disjointAreas (mine ++ others) && mine.all (fun x => x.1 + x.2 ≤ 524288)
    && decide ((s.tick : Int) < s.boundaryOf (s.fld (Reg.TAL_GSTART_START g)) / 128)
    && is.all (fun i => s.depthRule g i (s.lookAhead g))
    && s.fld (Reg.TAL_GROWS_NROWS g) != 0

/-- The streams' histories of group g are empty and its streams expected (R329). -/
def freshStreams (s : State) (g : Nat) : State :=
  (s.groupStreams g).foldl (fun s i => (s.setStream i {}).setFld (Reg.TAL_SSTAT_ABSENT i) 0) s

/-- Group g is enabled (R328, R329). Register writes made before are in force from here on; row buffers of an earlier run that are
not freed yet stay busy (R341). (DEDUCED, log 47) -/
def enableGroup (s : State) (g : Nat) : State :=
  let first := instantFrom (gridRate (s.fld (Reg.TAL_GCFG_RATE g))) (s.boundaryOf (s.fld (Reg.TAL_GSTART_START g)))
  (((s.applyBlock .tal).freshStreams g).setGroup g { active := true, first := first, next := first, busy := (s.group g).busy }).setFld
    (Reg.TAL_GSTAT_LOOKAHEAD g) (s.lookAhead g)

/-- The instant of the next row of group g. -/
def nextRow (s : State) (g : Nat) : Nat := instantOf (gridRate (s.fld (Reg.TAL_GCFG_RATE g))) (s.group g).next

/-- The group ends once its last row has been released: late samples that served no row are counted (R329, R336). -/
def endIfDone (s : State) (g : Nat) : State :=
  let x := s.group g
  match x.stop with
  | some t =>
    if x.active ∧ t ≤ (s.nextRow g : Int) then
      let unserved := (s.groupStreams g).foldl (fun n i => n + ((s.stream i).held.countP (fun h => h.2.late && !h.2.served))) 0
      let s1 := (s.bump (Reg.TAL_CNT_COUNT 2) unserved).setGroup g { x with active := false, stop := none, missed := [] }
      (s1.groupStreams g).foldl (fun s i => s.setStream i {}) s1
    else s
  | none => s

/-- A write of TAL_GCFGg by an agent (R328, R329). -/
def writeGcfg (s : State) (a g : Nat) (w : Word) : State :=
  let o := Reg.TAL_GCFG g
  let x := s.group g
  let was := s.isSet (Reg.TAL_GCFG_EN g)
  let old := s.reg o
  if x.active then
    if w.field 3 1 ≠ old.field 3 1 ∨ w.field 20 5 ≠ old.field 20 5 ∨ (w.bit 0 ∧ ¬ was) then s.reject a o
    else
      let s1 := s.writeGeneric a o w
      if was ∧ ¬ w.bit 0 then
        let limit : Int := if w.bit 4 then s.boundaryOf (s.fld (Reg.TAL_GSTART_START g))
          else ((s.tick + 1) * 128 : Nat)
        (s1.setGroup g { x with stop := some limit }).endIfDone g
      else s1
  else if w.bit 0 then
    let s1 := s.writeGeneric a o (w.setField 0 0 0)
    if s1.enableOk g then (s1.setFld (Reg.TAL_GCFG_EN g) 1).enableGroup g
    else s.reject a o
  else s.writeGeneric a o w

/-- A write of TAL_GROWSg: NROWS 0 is reserved while GCFG.EN is 1 (R346). -/
def writeGrows (s : State) (a g : Nat) (w : Word) : State :=
  let o := Reg.TAL_GROWS g
  if s.isSet (Reg.TAL_GCFG_EN g) ∧ w.field 26 19 = 0 then
    (s.writeGeneric a o (w.setField 26 19 ((s.reg o).field 26 19))).reject a o
  else s.writeGeneric a o w

/-! ### Stream registers (R328) -/

/-- Whether stream i belongs to an active group. -/
def streamBusy (s : State) (i : Nat) : Bool :=
  s.isSet (Reg.TAL_SCFG_EN i) && (s.group (s.fld (Reg.TAL_SCFG_GROUP i))).active

/-- Whether a stream's RATE lies outside 1,000 to 16,000. -/
def rateBad (v : Nat) : Bool := v < 1000 || 16000 < v

/-- A write of TAL_SCFGs. (DEDUCED, log 47) -/
def writeScfg (s : State) (a i : Nat) (w : Word) : State :=
  let o := Reg.TAL_SCFG i
  if s.streamBusy i ∨ (w.bit 0 ∧ (s.group (w.field 11 6)).active) then s.reject a o
  else if w.bit 0 ∧ ¬ s.isSet (Reg.TAL_SCFG_EN i) ∧ rateBad (s.fld (Reg.TAL_SRATE_RATE i)) then
    (s.writeGeneric a o (w.setField 0 0 0)).reject a o
  else s.writeGeneric a o w

/-- A write of TAL_SRATEs. -/
def writeSrate (s : State) (a i : Nat) (w : Word) : State :=
  let o := Reg.TAL_SRATE i
  if s.streamBusy i then s.reject a o
  else if s.isSet (Reg.TAL_SCFG_EN i) ∧ rateBad (w.field 13 0) then
    (s.writeGeneric a o (w.setField 13 0 (s.fld (Reg.TAL_SRATE_RATE i)))).reject a o
  else s.writeGeneric a o w

/-! ### Contributions (R330 to R332, R336) -/

/-- A contribution is refused (R330). -/
def badContribution (s : State) (a i reason : Nat) : State :=
  ((s.talCount 3).setReg Reg.TAL_BADINFO (Word.ofN (i + 2 ^ 10 * (a % 64) + 2 ^ 16 * reason + 2 ^ 35))).raise 118

/-- Sample number and nominal instant of a smpCnt whose frame arrived at full time r (R331). -/
def numberOf (rate : Nat) (r : Int) (smp : Nat) : Int × Int :=
  let second := r / (Config.sec : Int)
  let instant (c : Int) : Int := c * Config.sec + (smp * Config.sec / rate : Nat)
  let c := if r < instant second then second - 1 else second
  (c * rate + smp, instant c)

/-- First word of a history slot in the Terrace store (R332). -/
def slotWord (s : State) (i slot : Nat) : Nat :=
  (s.fld (Reg.TAL_SRATE_BASE i) + slot * (3 + s.channels i)) % 524288

/-- The history slot of sample number n of stream i (R331). -/
def historySlot (s : State) (i : Nat) (n : Int) : Nat := (n % (s.depth i : Int)).toNat

/-- The history words of a sample (R332). -/
def sampleWords (x : Sample) : List Word :=
  [Word.ofN ((x.u % 2 ^ 36).toNat), Word.ofN x.tsw,
   Word.ofN (x.smpCnt % 2 ^ 16 + 2 ^ 16 * bit01 x.arrival + 2 ^ 17 * bit01 x.invalid + 2 ^ 18 * bit01 x.test
     + 2 ^ 19 * bit01 x.conflict + 2 ^ 20 * (x.n % 2 ^ 16).toNat)]
    ++ x.values.map (fun v => Word.ofN (toBits 36 v))

/-- Words are written to the Terrace store from word b on. -/
def putStore (s : State) (b : Nat) : List Word → State
  | [] => s
  | w :: r => (s.memWrite 1 0 (b % 524288) w).putStore (b + 1) r

/-- A sample takes its history slot. (DEDUCED, log 47) -/
def storeSample (s : State) (i : Nat) (x : Sample) : State :=
  let t := s.stream i
  let k := s.historySlot i x.n
  (s.setStream i { t with held := (t.held.filter (fun h => h.1 != k)) ++ [(k, x)] }).putStore (s.slotWord i k)
    (sampleWords x)

/-- A sample is late for a row: it counts once (R336). -/
def countLateSample (s : State) (i : Nat) : State :=
  ((s.talCount 1).bumpSat (Reg.TAL_SCNT_LATE i) 1).raise 113

/-! ### Placing a stream in a row (R334, R563) -/

/-- The held sample of a number. -/
def heldSample (s : State) (i : Nat) (n : Int) : Option Sample :=
  ((s.stream i).held.find? (fun h => h.2.n == n)).map (·.2)

/-- Whether a held sample is present for a row whose D lies in tick d (R28, R331, R334). -/
def isPresent (x : Sample) (d : Int) : Bool := decide (x.r / 128 ≤ d) && !x.conflict && !x.shut.contains d

/-- The sample of a number where it is present for a row whose D lies in tick d. -/
def presentSample (s : State) (i : Nat) (n : Int) (d : Int) : Option Sample :=
  (s.heldSample i n).filter (isPresent · d)

/-- The samples of stream i that are present for a row whose D lies in tick d. -/
def presentSamples (s : State) (i : Nat) (d : Int) : List Sample :=
  ((s.stream i).held.map (·.2)).filter (isPresent · d)

/-- The instant that a sample number would be given as a synchronised sample under the DELAY in force (R328, R563). -/
def wouldInstant (s : State) (i : Nat) (n : Int) : Int :=
  sampleInstant (s.fld (Reg.TAL_SRATE_RATE i)) n - s.inForce (Reg.TAL_SDLY_DELAY i)

/-- The synchronised instant of a sample number: as stored where the sample is held and synchronised, else as it would be given
(R334, R563). (DEDUCED, log 47) -/
def syncInstant (s : State) (i : Nat) (n : Int) : Int :=
  match s.heldSample i n with
  | some x => if x.arrival then s.wouldInstant i n else x.u
  | none => s.wouldInstant i n

/-- The largest number whose synchronised instant is at or before g (R334): among the held synchronised samples by the instants they
were given, among all others by those they would be given. -/
def syncBase (s : State) (i : Nat) (g : Int) : Int :=
  let kept := ((s.stream i).held.map (·.2)).filter (fun x => !x.arrival)
  let other := firstNot (kept.map (·.n)) (kept.length + 1)
    (sampleBefore (s.fld (Reg.TAL_SRATE_RATE i)) (g + s.inForce (Reg.TAL_SDLY_DELAY i)))
  kept.foldl (fun k x => if x.u ≤ g ∧ k < x.n then x.n else k) other

/-- The numbers of the samples that the synchronised rule names for a row at g (R334). -/
def namedSamples (s : State) (i : Nat) (lagrange : Bool) (g : Int) : List Int :=
  let j := s.syncBase i g
  if s.syncInstant i j = g then [j] else if lagrange then [j - 1, j, j + 1, j + 2] else [j, j + 1]

/-- The present sample with the largest number whose instant is at or before g (R334). -/
def arrivalBase (s : State) (i : Nat) (g d : Int) : Option Sample :=
  ((s.presentSamples i d).filter (fun x => decide (x.u ≤ g))).foldl (fun b x =>
    match b with
    | some y => if y.n < x.n then some x else some y
    | none => some x) none

/-- The first present sample whose instant lies after g (R563). -/
def arrivalAfter (s : State) (i : Nat) (g d : Int) : Option Sample :=
  ((s.presentSamples i d).filter (fun x => decide (g < x.u))).foldl (fun b x =>
    match b with
    | some y => if x.n < y.n then some x else some y
    | none => some x) none

/-- What a row at g with D in tick d needs of stream i (R563). Under the arrival rule it waits for the first present sample after g
also where the sample before lies at g itself. (DEDUCED, log 47) -/
def need (s : State) (i : Nat) (lagrange : Bool) (g d : Int) : Need :=
  let names := s.namedSamples i lagrange g
  let have_ := names.filterMap (fun n => s.presentSample i n d)
  let lacking := names.filter (fun n => (s.presentSample i n d).isNone)
  if lacking.isEmpty ∧ have_.all (fun x => !x.arrival) then { settled := true, samples := have_, missing := [] }
  else if have_.any (fun x => x.arrival) then
    match s.arrivalBase i g d, s.arrivalAfter i g d with
    | some b, some e => { settled := true, samples := [b, e], missing := [] }
    | some b, none => { settled := false, samples := [b], missing := [b.n + 1] }
    | none, some e => { settled := false, samples := [e], missing := lacking }
    | none, none => { settled := false, samples := have_, missing := lacking }
  else { settled := false, samples := have_, missing := lacking }

/-- How stream i is placed at the release of the row at g (R334, R563); none where it is missing. -/
def place (s : State) (i : Nat) (lagrange : Bool) (g d : Int) : Option Placing :=
  let names := s.namedSamples i lagrange g
  let have_ := names.filterMap (fun n => s.presentSample i n d)
  let rate := s.fld (Reg.TAL_SRATE_RATE i)
  if have_.length = names.length ∧ have_.all (fun x => !x.arrival) then
    let u : Int := ((have_.map (·.u)).drop (if have_.length = 4 then 1 else 0)).headD g
    some { samples := have_, x := ((g - u) * scaleS * rate) / (Config.sec : Int), arrival := false }
  else match s.arrivalBase i g d with
    | none => none
    | some b =>
      if b.u = g then some { samples := [b], x := 0, arrival := true }
      else match s.presentSample i (b.n + 1) d with
        | some e => if g < e.u then some { samples := [b, e], x := ((g - b.u) * scaleS) / (e.u - b.u), arrival := true } else none
        | none => none

/-! ### The release of a row (R27, R338 to R341) -/

/-- The deadline D of the row at g of group gr (R333). -/
def deadline (s : State) (gr : Nat) (g : Int) : Int :=
  g + s.fld (Reg.TAL_GSTAT_LOOKAHEAD gr) + (Config.us * s.inForce (Reg.TAL_GTIME_MAXWAIT gr) : Nat)

/-- The instant R at which the row of group gr at g is released, the row before it released at prev (R27, R338). -/
def releaseOf (s : State) (gr : Nat) (g prev : Int) : Int :=
  let dl := s.deadline gr g
  let lag := s.isSet (Reg.TAL_GCFG_METHOD gr)
  let needs := ((s.groupStreams gr).filter (fun i => !s.isSet (Reg.TAL_SSTAT_ABSENT i))).map
    (fun i => s.need i lag g (dl / 128))
  let l : Int :=
    if needs.isEmpty ∨ needs.any (fun n => !n.settled) then dl
    else (needs.flatMap (·.samples)).foldl (fun m x => max m ((x.ctick + 1) * 128)) 0
  let r := l + 128 * s.inForce (Reg.TAL_GTIME_MARGIN gr)
  max ((r + 127) / 128 * 128) prev

/-- The instant R at which the next row of group gr is released (R27, R338). -/
def releaseAt (s : State) (gr : Nat) : Int := s.releaseOf gr (s.nextRow gr) (s.group gr).lastRelease

/-! ### Contributions that come too late, and contributions (R28, R330, R336) -/

/-- The first row that a contribution of time r came too late to, of those released without it (R28), and whether some of them
needed it and had their D before r (R336). -/
def lateFor (s : State) (g i : Nat) (n r : Int) : Option Int × Bool :=
  let rows := (s.group g).missed.filter (fun m => m.stream == i && m.n == n)
  (((rows.filter (fun m => decide (r / 128 ≤ m.dtick))).getLast?).map (·.rel),
    rows.any (fun m => m.needed && decide (m.dtick < r / 128)))

/-- The held sample of a number comes too late to the row whose D lies in tick d (R28). -/
def shutSample (s : State) (i : Nat) (n d : Int) : State :=
  let t := s.stream i
  s.setStream i { t with held := t.held.map (fun h => if h.2.n = n then (h.1, { h.2 with shut := d :: h.2.shut }) else h) }

/-- The tick boundary at which the release unit takes in what reaches Terrace now: the next one, or, within the 500 ps before it, as
the synchroniser decides, the one after it (R27, R561). (DEDUCED, log 16) -/
def takenInAt (s : State) : Int × State :=
  let edge := s.boundaryAt
  if edge - s.tbu.time ≤ 8 then
    let (k, s1) := s.free
    (if Config.syncLater k then edge + 128 else edge, s1)
  else (edge, s)

/-- Sample n of stream i is taken in at tick boundary t: it is missing in each of the next rows (fuel of them, from row k of group
gr on, the row before released at prev) that it serves and whose release instant is before t. With it the release instant of
the first of them (R28, R338). (DEDUCED, log 47) -/
def shutRows (s : State) (t : Int) (gr i : Nat) (n : Int) : Nat → Nat → Int → Option Int × State
  | 0, _, _ => (none, s)
  | fuel + 1, k, prev =>
    let g : Int := instantOf (gridRate (s.fld (Reg.TAL_GCFG_RATE gr))) k
    let d := s.deadline gr g / 128
    let r := s.releaseOf gr g prev
    if t ≤ r then (none, s)
    else if (s.need i (s.isSet (Reg.TAL_GCFG_METHOD gr)) g d).samples.any (fun x => x.n == n) then
      let s1 := s.shutSample i n d
      (some r, (s1.shutRows t gr i n fuel (k + 1) (s1.releaseOf gr g prev)).2)
    else s.shutRows t gr i n fuel (k + 1) r

/-- The first contribution of its number takes its history slot; where no row released without it made it late, a row still
pending whose release instant is past does (R28, R332). -/
def newSample (s : State) (a g i : Nat) (x : Sample) (counted : Bool) : State :=
  let (t, s0) := (s.storeSample i x).takenInAt
  match s0.shutRows t g i x.n 4096 (s.group g).next (s.group g).lastRelease with
  | (some r, s1) => if counted then s1 else s1.late 100 a ((r % 2 ^ 36).toNat)
  | (none, s1) => s1

/-- A contribution is taken in, its number and instant known (R28, R331, R336, R338). -/
def takeSample (s : State) (a g i : Nat) (x : Sample) : State :=
  let (released, tooLate) := s.lateFor g i x.n x.r
  let s0 := match released with
    | some r => (s.talCount 10).late 100 a ((r % 2 ^ 36).toNat)
    | none => s
  let s1 := if tooLate then s0.countLateSample i else s0
  let y := { x with late := tooLate }
  match ((s1.stream i).held.find? (fun h => h.1 == s1.historySlot i x.n)).map (·.2) with
  | none => s1.newSample a g i y released.isSome
  | some z =>
    if z.n = x.n then
      if z.tsw = x.tsw ∧ z.values ≠ x.values then (s1.storeSample i { z with conflict := true }).talCount 5
      else if x.r < z.r then
        (s1.storeSample i { y with served := z.served, late := z.late || tooLate, shut := z.shut }).talCount 4
      else s1.talCount 4
    else (if z.late ∧ ¬ z.served then s1.talCount 2 else s1).newSample a g i y released.isSome

/-- A write of TAL_SUB_HDR by an agent (R330, R331). (DEDUCED, log 47) -/
def contribute (s : State) (a : Nat) (w : Word) : State :=
  let i := w.field 9 0
  let smp := w.field 25 10
  let synch := w.field 33 26
  let tsw := (s.agentReg a Reg.TAL_SUB_TSW).toNat
  let ct := (s.agentReg a Reg.TAL_SUB_CTICK).field 28 0
  let vals := (List.range (s.channels i)).map (fun k => signed 32 ((s.agentReg a (Reg.TAL_SUB_VAL k)).field 31 0))
  let s0 := (List.range 11).foldl (fun s k => s.setAgentReg a (Reg.TAL_SUB_TSW + 8 * k) 0) s
  let rate := s.fld (Reg.TAL_SRATE_RATE i)
  let g := s.fld (Reg.TAL_SCFG_GROUP i)
  if ¬ s.isSet (Reg.TAL_SCFG_EN i) then s0.badContribution a i 1
  else if rate ≤ smp then s0.badContribution a i 2
  else if ¬ (s.group g).active then s0.talCount 2
  else
    let r := s.boundaryOf tsw
    let (n, nom) := numberOf rate r smp
    let sync := if s.isSet (Reg.TAL_SCFG_SYNC_REQ i) then synch == 2 else synch != 0
    let dly := s.inForce (Reg.TAL_SDLY_DELAY i)
    let arr := s.inForce (Reg.TAL_SADLY_ARR_DLY i)
    let u : Int := if sync then nom - dly else r - dly - arr
    let ctick := s.boundaryOf (ct * 128) / 128
    let s1 := ((s0.talCount 0).setFld (Reg.TAL_SSTAT_ATIMED i) (bit01 (!sync))).setFld (Reg.TAL_SSTAT_SMPCNT i) smp
    s1.takeSample a g i { n := n, u := u, tsw := tsw, r := r, ctick := ctick, smpCnt := smp, arrival := !sync
                          invalid := w.bit 34, test := w.bit 35, values := vals }

/-! ### What a row holds (R334 to R341) -/

/-- Whether full time t lies in an interval that a forward step has skipped: steps newest first, with the full time and the
elapsed clock at which the walk stands. -/
def stepSkipped (t : Int) : List (Nat × Int) → Int → Nat → Bool
  | [], _, _ => false
  | (c, d) :: r, now, clk =>
    let after := now - ((clk : Int) - c)
    let before := after - d
    decide (before < t ∧ t < after) || stepSkipped t r before c

/-- Samples of stream i with given numbers are marked as having served a row. -/
def markServed (s : State) (i : Nat) (ns : List Int) : State :=
  let t := s.stream i
  s.setStream i { t with held := t.held.map (fun h => if ns.contains h.2.n then (h.1, { h.2 with served := true }) else h) }

/-- Needed samples of stream i that are held but came after the row's deadline count as late, once each (R336). -/
def markLate (s : State) (i : Nat) (ns : List Int) (d : Int) : State :=
  ns.foldl (fun s n =>
    match s.heldSample i n with
    | some x =>
      if d < x.r / 128 ∧ ¬ x.late then
        let t := s.stream i
        (s.setStream i { t with held := t.held.map (fun h => if h.2.n = n then (h.1, { h.2 with late := true }) else h) }).countLateSample i
      else s
    | none => s) s

/-- Absence of a stream after a row in which it was missing or not (R337). -/
def judgeAbsent (s : State) (gr i : Nat) (missing : Bool) : State :=
  let t := s.stream i
  let absent := s.isSet (Reg.TAL_SSTAT_ABSENT i)
  if missing then
    let s1 := (s.setStream i { t with misses := t.misses + 1 }).bumpSat (Reg.TAL_SCNT_MISSING i) 1
    if ¬ absent ∧ s1.inForce (Reg.TAL_GTIME_ABSENT_ROWS gr) ≤ t.misses + 1 then
      (s1.setFld (Reg.TAL_SSTAT_ABSENT i) 1).raise 115
    else s1
  else
    let s1 := s.setStream i { t with misses := 0 }
    if absent then (s1.setFld (Reg.TAL_SSTAT_ABSENT i) 0).raise 116 else s1

/-- What a row has collected so far: channel words by row channel, MISSING, ARRIVAL_TIMED, INVALID, TEST. -/
structure RowSoFar where
  words : Tab Word := []
  missing : Nat := 0
  arrival : Bool := false
  invalid : Bool := false
  test : Bool := false
  deriving DecidableEq, Repr

/-- One channel of a placed stream goes into a row (R335). -/
def rowChannel (s : State) (i : Nat) (p : Placing) (c : Nat) (r : RowSoFar) : RowSoFar × State :=
  let (v, sat) := saturate (interpolate (p.samples.map (fun x => x.values.getD c 0)) p.x)
  let ch := s.fld (Reg.TAL_SCFG_CHBASE i) + c
  ({ r with words := Tab.put 0 ch (Word.ofN (toBits 36 v)) r.words, invalid := r.invalid || sat },
    if sat then s.talCount 9 else s)

/-- Channels c, c + 1, … of a placed stream go into a row. -/
def rowChannels (s : State) (i : Nat) (p : Placing) (r : RowSoFar) : List Nat → RowSoFar × State
  | [] => (r, s)
  | c :: cs =>
    let (r1, s1) := s.rowChannel i p c r
    s1.rowChannels i p r1 cs

/-- The n words of the Terrace store from word b on, read under Terrace's agent number (R185, R188). -/
def readStore (s : State) (b : Nat) : Nat → List Word × State
  | 0 => ([], s)
  | n + 1 =>
    let (w, _, s1) := s.memRead 59 1 0 (b % 524288) false
    let (ws, s2) := s1.readStore (b + 1) n
    (w :: ws, s2)

/-- A sample as its history slot holds it: values and quality are what the store gives; the instants and the number that the rules
of R334 judge are Terrace's own record. A word with an uncorrectable mark is used as read. (DESIGN CHOICE, log 47) -/
def recalled (s : State) (i : Nat) (x : Sample) : Sample × State :=
  let (ws, s1) := s.readStore (s.slotWord i (s.historySlot i x.n)) (3 + s.channels i)
  let q := ws.getD 2 0
  ({ x with invalid := q.bit 17, test := q.bit 18, values := (ws.drop 3).map (fun w => signed 36 w.toNat) }, s1)

/-- The samples of a list, each as its history slot holds it. -/
def recallAll (s : State) (i : Nat) : List Sample → List Sample × State
  | [] => ([], s)
  | x :: r =>
    let (y, s1) := s.recalled i x
    let (ys, s2) := s1.recallAll i r
    (y :: ys, s2)

/-- A row of group gr goes without the samples ns of stream i that are not held: it is noted for when they come (R28, R336). needed:
the row needed them. -/
def noteMissed (s : State) (gr i : Nat) (ns : List Int) (d rel : Int) (needed : Bool) : State :=
  let gone : List Missed := (ns.filter (fun k => (s.heldSample i k).isNone)).map
    (fun k => { stream := i, n := k, dtick := d, needed := needed, rel := rel })
  let x := s.group gr
  s.setGroup gr { x with missed := (gone ++ x.missed).take 4096 }

/-- One stream goes into a row (R334 to R337). -/
def rowStream (s : State) (gr i : Nat) (g d rel : Int) (r : RowSoFar) : RowSoFar × State :=
  let lag := s.isSet (Reg.TAL_GCFG_METHOD gr)
  let needed := !s.isSet (Reg.TAL_SSTAT_ABSENT i)
  let lacking := (s.need i lag g d).missing
  let s1 := (if needed then s.markLate i lacking d else s).noteMissed gr i lacking d rel needed
  match s.place i lag g d with
  | some pl =>
    let (xs, s2) := ((s1.markServed i (pl.samples.map (·.n))).judgeAbsent gr i false).recallAll i pl.samples
    let r1 := { r with
      arrival := r.arrival || pl.arrival
      invalid := r.invalid || xs.any (·.invalid)
      test := r.test || xs.any (·.test) }
    s2.rowChannels i { pl with samples := xs } r1 (List.range (s2.channels i))
  | none => ({ r with missing := r.missing ||| 2 ^ s.fld (Reg.TAL_SCFG_SLOT i) }, s1.judgeAbsent gr i true)

/-- Every stream of a list goes into a row. -/
def rowStreams (s : State) (gr : Nat) (g d rel : Int) (r : RowSoFar) : List Nat → RowSoFar × State
  | [] => (r, s)
  | i :: is =>
    let (r1, s1) := s.rowStream gr i g d rel r
    s1.rowStreams gr g d rel r1 is

/-- The words of a row (R339, R340). -/
def rowWords (s : State) (gr k : Nat) (g : Int) (r : RowSoFar) : List Word :=
  let n := s.fld (Reg.TAL_GCFG_CHCOUNT gr)
  [Word.ofN (2 ^ 30 * gr + 2 ^ 22 * n + k % 2 ^ 22), Word.ofN ((g % 2 ^ 36).toNat),
   Word.ofN (r.missing + 2 ^ 32 * bit01 r.arrival + 2 ^ 33 * bit01 r.invalid + 2 ^ 34 * bit01 r.test
     + 2 ^ 35 * bit01 (s.unsureAt g.toNat))] ++ (List.range (n + 1)).map (fun c => Tab.get 0 c r.words)

/-- A row that has been computed is written and pushed, or dropped for want of its buffer (R339, R341). -/
def deliverRow (s : State) (gr k : Nat) (g : Int) (r : RowSoFar) : State :=
  let x := s.group gr
  let b := k % max 1 (s.fld (Reg.TAL_GROWS_NROWS gr))
  if x.busy.contains b then (s.talCount 8).raise 117
  else
    let words := s.rowWords gr k g r
    let off := (s.fld (Reg.TAL_GROWS_BASE gr) + b * words.length) % 524288
    let s1 := ((s.putStore off words).setGroup gr { x with busy := b :: x.busy }).modTal (fun t =>
      { t with delivered := t.delivered ++ [(off, gr, b)] })
    let s2 := (s1.talCount 6).bump (Reg.TAL_GCNT_ROWS gr) 1
    let s3 := if r.missing = 0 then s2
      else ((s2.talCount 7).bumpSat (Reg.TAL_GCNT_MISSING gr) 1).raise 114
    let q := s3.fld (Reg.TAL_GCFG_TARGET_Q gr)
    s3.push 59 q (off + 2 ^ 19 * (words.length - 1) + 2 ^ 29) (Reg.TALUS_QDATA q)

/-- The next row of group gr is released, or lost to a step of time (R338). (DEDUCED, log 47) -/
def releaseRow (s : State) (gr : Nat) : State :=
  let x := s.group gr
  if ¬ x.active then s
  else
    let g : Int := s.nextRow gr
    let r := s.releaseAt gr
    let k := x.next - x.first
    if stepSkipped r s.tbu.steps s.tbu.time s.clk then
      let s1 := s.lateFrom 21 100 59 ((r % 2 ^ 36).toNat)
      (s1.setGroup gr { x with next := x.next + 1 }).endIfDone gr
    else
      let s1 := s.advanceToTime r.toNat
      let d := s1.deadline gr g / 128
      let (row, s2) := s1.rowStreams gr g d r {} (s1.groupStreams gr)
      let s3 := s2.deliverRow gr k g row
      (s3.setGroup gr { s3.group gr with next := x.next + 1, lastRelease := r }).endIfDone gr

/-- A delivered row's buffer is free again (R341). -/
def freeRow (s : State) (off : Nat) : Option State :=
  match s.tal.delivered.find? (fun x => x.1 == off) with
  | none => none
  | some (_, gr, b) =>
    let x := s.group gr
    some ((s.setGroup gr { x with busy := x.busy.filter (· != b) }).modTal (fun t =>
      { t with delivered := t.delivered.filter (fun y => y.1 != off) }))

/-- A write of TAL_RFREE by an agent (R341, R346). -/
def writeRfree (s : State) (a off : Nat) : State := (s.freeRow off).getD (s.reject a Reg.TAL_RFREE)

/-! ### Registers (R344, R346) -/

/-- Whether group g produces rows now. -/
def producing (s : State) (g : Nat) : Bool :=
  (s.group g).active && decide (instantOf (gridRate (s.fld (Reg.TAL_GCFG_RATE g))) (s.group g).first ≤ s.tbu.time)

/-- TAL_STAT. -/
def talStat (s : State) : Word :=
  Word.ofN ((s.activeGroups.filter s.producing).length
    + 2 ^ 7 * (s.enabledStreams.filter (fun i => s.isSet (Reg.TAL_SSTAT_ABSENT i))).length)

/-- A read in the TAL block at BAR0 offset o. -/
def talRead (s : State) (o : Nat) : Word × State :=
  let r := o - 0x280000
  if r = 0x008 then (s.talStat, s)
  else if 0x800 ≤ r ∧ r < 0x1800 ∧ r % 0x40 = 0x20 then
    let g := (r - 0x800) / 0x40
    (((s.reg o).setField 0 0 (bit01 (s.producing g))).setField 1 1 (bit01 ((s.group g).active && !s.producing g)), s)
  else s.readGeneric o

/-- A write by an agent in the TAL block at BAR0 offset o. -/
def talWrite (s : State) (a o : Nat) (w : Word) : State :=
  let r := o - 0x280000
  if r = 0x018 then s.writeRfree a (w.field 18 0)
  else if 0x040 ≤ r ∧ r < 0x090 then
    s.setAgentReg a o (if r = 0x040 then w else if r = 0x048 then Word.ofN (w.field 28 0) else Word.ofN (w.field 31 0))
  else if r = 0x090 then s.contribute a w
  else if 0x800 ≤ r ∧ r < 0x1800 ∧ r % 0x40 = 0 then s.writeGcfg a ((r - 0x800) / 0x40) w
  else if 0x800 ≤ r ∧ r < 0x1800 ∧ r % 0x40 = 0x18 then s.writeGrows a ((r - 0x800) / 0x40) w
  else if 0x10000 ≤ r ∧ r < 0x20000 ∧ r % 0x40 = 0 then s.writeScfg a ((r - 0x10000) / 0x40) w
  else if 0x10000 ≤ r ∧ r < 0x20000 ∧ r % 0x40 = 8 then s.writeSrate a ((r - 0x10000) / 0x40) w
  else s.writeGeneric a o w

end State

/-! ### The commands of Terrace -/

/-- CONTRIBUTION (R330): a write of TAL_SUB_HDR. -/
def execContribution (a : Nat) (w : Word) (s : State) : Host.Outcome State Fault Refusal :=
  live s (fun s => s.contribute a w)

/-- GROUP_ENABLE (R328): a write of TAL_GCFGg with EN 1. -/
def execGroupEnable (a : Nat) (g : Fin 64) (w : Word) (s : State) : Host.Outcome State Fault Refusal :=
  live s (fun s => s.writeGcfg a g (w.setField 0 0 1))

/-- GROUP_DISABLE (R329): a write of TAL_GCFGg with EN 0. -/
def execGroupDisable (a : Nat) (g : Fin 64) (w : Word) (s : State) : Host.Outcome State Fault Refusal :=
  live s (fun s => s.writeGcfg a g (w.setField 0 0 0))

/-- ROW_RELEASE (R338): the next row of group g. -/
def execRowRelease (g : Fin 64) (s : State) : Host.Outcome State Fault Refusal := live s (fun s => s.releaseRow g)

/-- RFREE (R341). -/
def execRfree (a off : Nat) (s : State) : Host.Outcome State Fault Refusal :=
  live s (fun s => s.writeRfree a (off % 2 ^ 19))

/-- BADINFO_READ (R346). -/
def execBadinfoRead (a : Nat) (s : State) : Host.Outcome State Fault Refusal :=
  live s (fun s => let (w, s1) := s.readGeneric Reg.TAL_BADINFO; s1.emit (.read a w false))

end Sys2Proof.Machine
end

