-- ==== Sys2Proof/Machine/Hdma.lean ====
section
/-! DEFINITION. Host DMA and the endpoint: descriptor rings, receive and transmit moves, coalescing, the watchdog, resets of the
endpoint (spec/15_host_interface.md R426 to R439, R446 to R448). Receive ring r is direction 0, transmit ring r direction 1. -/
namespace Sys2Proof.Machine

/-- A word as host memory receives it: eight octets (R6, R435). -/
def hostWord (w : Word) : List Nat := leOctets 8 w.toNat

/-- What a receive-ring entry moves (R435, R437): octets, whether a word was uncorrectable, and dwords 4–7 of the written-back
descriptor. -/
structure RxMove where
  octets : List Nat
  ecc : Bool
  tsw : Nat := 0
  info : Nat := 0
  complete : Nat := 0

namespace State

/-- Ring r of direction d: 0 receive, 1 transmit. -/
def ring (s : State) (d r : Nat) : Ring := Tab.get {} (64 * d + r) s.hostIf.rings

/-- s with a ring changed. -/
def modRing (s : State) (d r : Nat) (f : Ring → Ring) : State :=
  { s with hostIf := { s.hostIf with rings := Tab.put {} (64 * d + r) (f (s.ring d r)) s.hostIf.rings } }

/-- Whether a ring is enabled and not stopped. -/
def ringRuns (s : State) (d r : Nat) : Bool :=
  s.isSet (Reg.HDMA_RING_CFG_EN d r) && !s.isSet (Reg.HDMA_RING_HEAD_STOPPED d r)

/-- HEAD and TAIL. -/
def ringHead (s : State) (d r : Nat) : Nat := s.fld (Reg.HDMA_RING_HEAD_HEAD d r)
def ringTail (s : State) (d r : Nat) : Nat := s.fld (Reg.HDMA_RING_TAIL_TAIL d r)

/-- Whether a ring holds a descriptor that the host has handed over. -/
def ringReady (s : State) (d r : Nat) : Bool := s.ringRuns d r && s.ringHead d r != s.ringTail d r

/-- Address in host memory of the descriptor at HEAD (R436). -/
def descAddr (s : State) (d r : Nat) : Nat :=
  s.fld (Reg.HDMA_RING_BASE_LO_ADDR d r) + 2 ^ 32 * s.fld (Reg.HDMA_RING_BASE_HI_ADDR d r)
    + 32 * (s.ringHead d r % 2 ^ s.fld (Reg.HDMA_RING_CFG_SIZE d r))

/-- A counter of host DMA counts one (R448). -/
def dmaCount (s : State) (k : Nat) : State := s.bump (Reg.HDMA_CNT_COUNT k) 1

/-- The last error is recorded (R448): 1 NOT_OWNED, 2 FETCH_ERR, 3 LENGTH, 4 BAD_ENTRY, 5 UR, 6 POISONED, 7 WATCHDOG. -/
def dmaLog (s : State) (d r reason : Nat) : State :=
  s.setReg Reg.HDMA_ERRLOG (Word.ofN (2 ^ 35 + 2 ^ 7 * reason + 2 ^ 6 * d + r % 64))

/-- A ring stops: descriptors read ahead are forgotten, and an entry at its head waits from now on where it had a descriptor
(R430, R436). (DEDUCED, log 65) -/
def stopRing (s : State) (d r : Nat) : State :=
  (s.setFld (Reg.HDMA_RING_HEAD_STOPPED d r) 1).modRing d r (fun x => { x with
    ahead := [], dryAt := if s.ringReady d r then s.clk else x.dryAt })

/-- A ring reports its written-back descriptors (R446). -/
def reportRing (s : State) (d r : Nat) : State :=
  let o := if d = 0 then Reg.HDMA_RXSUM (r / 32) else Reg.HDMA_TXSUM (r / 32)
  let s1 := (s.setReg o ((s.reg o).setField (r % 32) (r % 32) 1)).raise (160 + 8 * d + r / 8)
  s1.modRing d r (fun x => { x with unreported := 0, firstUnreported := none })

/-- A descriptor has been written back: HEAD advances and the ring reports where COAL_N is reached (R436, R446). -/
def descDone (s : State) (d r : Nat) : State :=
  let s1 := (s.setFld (Reg.HDMA_RING_HEAD_HEAD d r) (s.ringHead d r + 1)).dmaCount d
  let s2 := s1.modRing d r (fun x => { x with
    ahead := x.ahead.drop 1, unreported := x.unreported + 1, barked := false, waitSince := none, movedAt := s.clk
    firstUnreported := some (x.firstUnreported.getD s.clk) })
  let s3 := if s2.ringReady d r then s2 else s2.modRing d r (fun x => { x with dryAt := s.clk })
  if s3.fld (Reg.HDMA_RING_CFG_COAL_N d r) ≤ (s3.ring d r).unreported then s3.reportRing d r else s3

/-- A descriptor read from host memory completes with its eight dwords, or in error (R429, R436, R438). -/
def fetchDesc (s : State) (d r : Nat) (desc : Option (List Nat)) : State :=
  let n := (s.ring d r).ahead.length
  let more := (s.ringTail d r + 2 ^ 16 - s.ringHead d r) % 2 ^ 16
  if ¬ s.ringRuns d r ∨ 4 ≤ n ∨ more ≤ n then s
  else match desc with
    | none => ((s.dmaCount 4).dmaLog d r 2).raise 177
    | some ds =>
      let own := (ds.getD (if d = 0 then 3 else 2) 0) / 2 ^ 31 % 2
      if own = 1 then s.modRing d r (fun x => { x with ahead := x.ahead ++ [ds] })
      else (((s.stopRing d r).dmaCount 2).dmaLog d r 1).raise 177

/-! ### Receive moves (R435, R437) -/

/-- Words of a memory as host DMA reads them: an unwritten word as 0 (R435). -/
def dmaWords (s : State) (c a : Nat) : Nat → List Word × Bool × State
  | 0 => ([], false, s)
  | n + 1 =>
    let (w, syn, s1) := s.memRead 60 c 0 (a % arraySize c 0) false
    let (ws, bad, s2) := s1.dmaWords c (a + 1) n
    ((if syn = .unwritten then 0 else w) :: ws, bad || syn == .uncorrectable, s2)

/-- What a FRAME entry moves, its frame freed. (DEDUCED, log 65) -/
def moveFrame (s : State) (entry : Nat) : RxMove × State :=
  let base := 16 * (entry % 2 ^ 17)
  let (hs, bad, s1) := s.dmaWords 0 base 4
  let w0 := hs.getD 0 0
  let len := w0.field 13 0
  let (ws, bad2, s2) := s1.dmaWords 0 (base + 4) ((len + 3) / 4)
  let s3 := s2.modMassif (fun m => { m with
    toHost := m.toHost.filter (fun f => f.base != base), areas := m.areas.filter (fun h => h.1 != base) })
  ({ octets := (unpackWords ws).take len, ecc := bad || bad2, tsw := (hs.getD 1 0).toNat
     info := w0.field 18 14 + 2 ^ 5 * w0.field 21 19 + 2 ^ 8 * w0.field 33 22 + 2 ^ 20 * w0.field 35 34
     complete := (hs.getD 2 0).field 28 0 }, s3)

/-- What a ROW entry moves, its row buffer freed. -/
def moveRow (s : State) (entry : Nat) : RxMove × State :=
  let off := entry % 2 ^ 19
  let (ws, bad, s1) := s.dmaWords 1 off (entry / 2 ^ 19 % 2 ^ 9 + 1)
  let w0 := ws.getD 0 0
  ({ octets := ws.flatMap hostWord, ecc := bad, tsw := (ws.getD 1 0).toNat
     info := w0.field 21 0 + 2 ^ 22 * w0.field 35 30 }, (s1.freeRow off).getD s1)

/-- What a BLOCK entry moves; with DONE_EN the entry is pushed to DONE_Q. -/
def moveBlock (s : State) (entry : Nat) : RxMove × State :=
  let (ws, bad, s1) := s.dmaWords 2 (entry % 2 ^ 16) (entry / 2 ^ 16 % 2 ^ 9 + 1)
  let s2 := if s1.isSet Reg.HDMA_CTRL_DONE_EN then
      s1.push 60 (s1.fld Reg.HDMA_CTRL_DONE_Q) entry (Reg.TALUS_QDATA (s1.fld Reg.HDMA_CTRL_DONE_Q))
    else s1
  ({ octets := ws.flatMap hostWord, ecc := bad }, s2)

/-- A receive-ring entry is moved to the descriptor at the head of ring r (R434, R437). -/
def rxWrite (s : State) (r type : Nat) (m : RxMove) : State :=
  match (s.ring 0 r).ahead with
  | [] => s
  | ds :: _ =>
    let addr := ds.getD 0 0 + 2 ^ 32 * ds.getD 1 0
    let len := ds.getD 2 0 % 2 ^ 16
    let out := m.octets.take len
    let trunc := decide (len < m.octets.length)
    let d := s.descAddr 0 r
    let status := 2 ^ 28 * type + 2 ^ 27 * bit01 trunc + 2 ^ 26 * bit01 m.ecc
    let s1 := (s.emit (.hostWrite addr out)).emit (.hostWrite (d + 8) (leOctets 4 out.length))
    let s2 := s1.emit (.hostWrite (d + 16) (leOctets 8 m.tsw ++ leOctets 4 m.info ++ leOctets 4 m.complete))
    let s3 := s2.emit (.hostWrite (d + 12) (leOctets 4 status))
    let s4 := if trunc then s3.dmaCount 3 else s3
    (if m.ecc then s4.dmaCount 7 else s4).descDone 0 r

/-- RX_ENTRY_MOVE of ring r. -/
def moveRx (s : State) (r : Nat) : State :=
  if (s.ring 0 r).ahead.isEmpty ∨ ¬ s.ringRuns 0 r then s
  else match s.popQueue (128 + r) with
    | none => s
    | some (entry, bad, s1) =>
      let type := entry / 2 ^ 29
      if bad ∨ 3 ≤ type then
        ((s1.dmaCount 5).dmaLog 0 r 4).modRing 0 r (fun x => { x with barked := false, movedAt := s.clk })
      else
        let (m, s2) := match type with
          | 0 => s1.moveFrame entry
          | 1 => s1.moveRow entry
          | _ => s1.moveBlock entry
        s2.rxWrite r type m

/-! ### Transmit moves (R438, R439) -/

/-- A transmit descriptor is written back with a status: 1 TAKEN, 2 LENGTH_ERR, 3 FETCH_ERR (R439). -/
def txWriteBack (s : State) (r : Nat) (ds : List Nat) (status : Nat) : State :=
  let d := s.descAddr 1 r
  ((s.emit (.hostWrite (d + 8) (leOctets 4 (ds.getD 2 0 % 2 ^ 31)))).emit
    (.hostWrite (d + 12) (leOctets 4 (ds.getD 3 0 % 2 ^ 16 + 2 ^ 16 * status)))).descDone 1 r

/-- The area of a frame index is freed. -/
def freeArea_ (s : State) (base : Nat) : State :=
  s.modMassif (fun m => { m with areas := m.areas.filter (fun h => h.1 != base) })

/-- Massif takes a frame index of ring r as a frame that enters on P18 (R438): its transmit descriptor's words stand in the two words
before the frame. -/
def takeTx (s : State) (r index : Nat) : State :=
  let base := 16 * index
  let (ws, bad, s1) := s.readWords base 2
  let w0 := ws.getD 0 0
  let len := w0.field 13 0
  let (fs, bad2, s2) := s1.readWords (base + 2) ((len + 3) / 4)
  let dest := w0.field 18 14
  let dest := if dest ≤ 17 ∨ dest = 19 ∨ dest = 20 ∨ dest = 21 ∨ dest = 31 then dest else 30
  ((s2.freeArea_ base).launch 18 ((unpackWords fs).take len) dest (w0.field 21 19)
    (if w0.bit 22 then some ((ws.getD 1 0).field 15 0) else none) (w0.bit 23) (bad || bad2) none).orderCopies s2.massif.nextCopy r

/-- Massif takes the entries of FRAME ring r's queue in order, n at most: one that a pop delivers as uncorrectable, or of another type,
is discarded into DROP_NODEST of P18 (R438, R562). (DEDUCED, log 65) -/
def drainTx (s : State) (r : Nat) : Nat → State
  | 0 => s
  | n + 1 => match s.popQueue (192 + r) with
    | none => s
    | some (entry, bad, s1) =>
      (if bad ∨ 2 ^ 17 ≤ entry then s1.swCount 18 2 else s1.takeTx r entry).drainTx r n

/-- A FRAME of ring r is stored behind two words of its descriptor and enters on P18 through queue 192 + r (R201, R438).
(DESIGN CHOICE, log 65) -/
def txFrame (s : State) (r d2 tag : Nat) (octets : List Nat) : State :=
  let frame := octets ++ List.replicate (60 - octets.length) 0
  let words := packWords true frame
  let (b, s1) := s.takeArea (2 + words.length)
  let w0 := Word.ofN (frame.length + 2 ^ 14 * (d2 / 2 ^ 14 % 2 ^ 10))
  let s2 := (s1.putWords b [w0, Word.ofN tag]).putFrame 60 (b + 2) frame.length words
  if ¬ s2.isSet (Reg.TALUS_QCFG_EN (192 + r)) then (s2.freeArea_ b).reject 60 (Reg.TALUS_QDATA (192 + r))
  else
    let s3 := s2.push 60 (192 + r) (b / 16) (Reg.TALUS_QDATA (192 + r))
    s3.drainTx r (s3.queueCount (192 + r))

/-- A BLOCK of ring r is stored and its entry pushed (R438). -/
def txBlock (s : State) (r tag : Nat) (octets : List Nat) : State :=
  let words := packWords false octets
  let (b, s1) := s.takeArea (2 + words.length)
  let s2 := (s1.putWords b [Word.ofN octets.length, Word.ofN tag]).putFrame 60 (b + 2) octets.length words
  let s3 := { s2 with hostIf := { s2.hostIf with blockAreas := s2.hostIf.blockAreas ++ [b / 16] } }
  s3.push 60 (192 + r) (b / 16 + 2 ^ 30) (Reg.TALUS_QDATA (192 + r))

/-- TX_DESC_MOVE of ring r: the data of the descriptor at its head has been read from host memory, or its read has failed. -/
def moveTx (s : State) (r : Nat) (data : Option (List Nat)) : State :=
  match (s.ring 1 r).ahead with
  | [] => s
  | ds :: _ =>
    let d2 := ds.getD 2 0
    let len := d2 % 2 ^ 14
    let tag := ds.getD 3 0 % 2 ^ 16
    let block := s.isSet (Reg.HDMA_RING_CFG_MODE 1 r)
    let legal := if block then decide (1 ≤ len ∧ len ≤ 4096) && d2 / 2 ^ 14 % 2 ^ 17 == 0
                 else decide (14 ≤ len ∧ len ≤ 9212) && d2 / 2 ^ 24 % 2 ^ 7 == 0
    if ¬ s.ringRuns 1 r then s
    else if ¬ legal then ((s.txWriteBack r ds 2).dmaLog 1 r 3).raise 177
    else match data with
      | none => (((s.txWriteBack r ds 3).dmaCount 4).dmaLog 1 r 2).raise 177
      | some bytes =>
        if ¬ s.areaRoom (len / 4 + 3) then
          s.modRing 1 r (fun x => { x with waitSince := some (x.waitSince.getD s.clk) })
        else
          let octets := bytes.take len ++ List.replicate (len - bytes.length) 0
          (if block then s.txBlock r tag octets else s.txFrame r d2 tag octets).txWriteBack r ds 1

/-! ### Register access (R436, R448) -/

/-- EN := 0 of a ring takes effect at a descriptor boundary, where every command of this model leaves it (R436).
(DEDUCED, log 65) -/
def disableRing (s : State) (d r : Nat) : State := (s.setFld (Reg.HDMA_RING_CFG_EN d r) 0).stopRing d r

/-- EN := 1 clears STOPPED (R436). -/
def enableRing (s : State) (d r : Nat) : State :=
  ((s.setFld (Reg.HDMA_RING_CFG_EN d r) 1).setFld (Reg.HDMA_RING_HEAD_STOPPED d r) 0)

/-- A write of a ring's CFG (R436): while it may not be written only EN is. -/
def writeRingCfg (s : State) (a d r : Nat) (w0 : Word) : State :=
  let o := Reg.HDMA_RING_CFG d r
  let w := if d = 0 then w0.setField 31 31 0 else w0
  let on := s.isSet (Reg.HDMA_RING_CFG_EN d r)
  let free := !on && s.isSet (Reg.HDMA_RING_HEAD_STOPPED d r)
  let s1 := if free then s.writeGeneric a o (w.setField 0 0 0)
            else if w.field 31 1 = (s.reg o).field 31 1 then s else s.reject a o
  if w.bit 0 then s1.enableRing d r else if on then s1.disableRing d r else s1

/-- A write of a ring's TAIL (R436). -/
def writeTail (s : State) (a d r : Nat) (w : Word) : State :=
  let o := Reg.HDMA_RING_TAIL d r
  if 2 ^ s.fld (Reg.HDMA_RING_CFG_SIZE d r) < (w.field 15 0 + 2 ^ 16 - s.ringHead d r) % 2 ^ 16 then s.reject a o
  else s.writeGeneric a o w

/-- A write of HDMA_TXFREE (R438, R448). -/
def writeTxFree (s : State) (a i : Nat) : State :=
  if s.hostIf.blockAreas.contains i then
    let s1 := { s with hostIf := { s.hostIf with blockAreas := s.hostIf.blockAreas.filter (· != i) } }
    s1.modMassif (fun m => { m with areas := m.areas.filter (fun h => h.1 != 16 * i) })
  else s.reject a Reg.HDMA_TXFREE

/-- A write by an agent in the HDMA block at BAR0 offset o. -/
def hdmaWrite (s : State) (a o : Nat) (w : Word) : State :=
  let r := o - 0x330000
  if r = 0x040 then s.writeTxFree a (w.field 16 0)
  else if 0x1000 ≤ r ∧ r < 0x3000 then
    let d := (r - 0x1000) / 0x1000
    let n := (r - 0x1000) % 0x1000 / 0x40
    match r % 0x40 with
    | 0x00 => s.writeGeneric a o (w.setField 4 0 0)
    | 0x10 => s.writeRingCfg a d n w
    | 0x18 => s.writeTail a d n w
    | _ => s.writeGeneric a o w
  else s.writeGeneric a o w

/-! ### The endpoint (R427 to R430) -/

/-- A host request that breaks R427. -/
def unsupportedRequest (s : State) : State := ((s.dmaCount 6).dmaLog 0 0 5).raise 179

/-- A poisoned write (R428). (DEDUCED, log 66) -/
def poisonedWrite (s : State) : State := (s.dmaLog 0 0 6).raise 180

/-- The endpoint's reset (R430). (DEDUCED, log 66) -/
def endpointReset (s : State) : State :=
  let s1 := (List.range 128).foldl (fun s i => s.stopRing (i / 64) (i % 64)) s
  let s2 := (List.range 8).foldl (fun s k => s.setReg (Reg.EVC_EN k) 0) s1
  let s3 := (List.range 32).foldl (fun s v => s.setVector v { s.vector v with pending := false, held := false }) s2
  { s3 with localHost := {} }

/-- The link has gone down: HDMA_LINK. -/
def linkDown (s : State) : State := s.setReg Reg.HDMA_LINK 0

end State

/-! ### The commands of the endpoint and host DMA -/

/-- PCIE_RESET (R430, R452): 0 a Function Level Reset, 1 a hot reset, after which the link trains again, 2 a loss of the link,
3 PERSTn low, which is sensed also while power-on reset holds the device. -/
def execPcieReset (kind : Fin 4) (s : State) : Host.Outcome State Fault Refusal :=
  if s.held ∧ kind.val = 3 then .next { s with hostIf := { s.hostIf with perst := false } }
  else live s (fun s =>
    if kind.val = 0 then s.endpointReset.raise 181
    else if kind.val = 1 then s.endpointReset.linkDown.trainLink.raise 178
    else if kind.val = 2 then s.endpointReset.linkDown.raise 178
    else
      let s1 := s.endpointReset.linkDown
      { s1 with hostIf := { s1.hostIf with perst := false } }.raise 178)

/-- RING_TAIL_WRITE (R436). -/
def execRingTailWrite (a : Nat) (d : Fin 2) (r : Fin 64) (tail : Nat) (s : State) : Host.Outcome State Fault Refusal :=
  live s (fun s => s.writeTail a d r (Word.ofN (tail % 2 ^ 16)))

/-- DESC_FETCH (R436). -/
def execDescFetch (d : Fin 2) (r : Fin 64) (desc : Option (List Nat)) (s : State) : Host.Outcome State Fault Refusal :=
  live s (fun s => s.fetchDesc d r desc)

/-- RX_ENTRY_MOVE (R435, R437). -/
def execRxEntryMove (r : Fin 64) (s : State) : Host.Outcome State Fault Refusal := live s (fun s => s.moveRx r)

/-- TX_DESC_MOVE (R438, R439). -/
def execTxDescMove (r : Fin 64) (data : Option (List Nat)) (s : State) : Host.Outcome State Fault Refusal :=
  live s (fun s => s.moveTx r data)

/-- DMA_READ_TIMEOUT (R429): of the read of a descriptor (data false) or of a transmit descriptor's data. -/
def execDmaReadTimeout (d : Fin 2) (r : Fin 64) (data : Bool) (s : State) : Host.Outcome State Fault Refusal :=
  live s (fun s =>
    let s1 := s.advance (10 * Config.ms)
    if data ∧ d.val = 1 then s1.moveTx r none else s1.fetchDesc d r none)

/-- RING_WATCHDOG (R436): an entry, or a handed-over transmit descriptor, has waited WDOG µs, judged at the end of the expiry tick, in
which a TAIL write would still have come in time (R51). -/
def execRingWatchdog (d : Fin 2) (r : Fin 64) (s : State) : Host.Outcome State Fault Refusal :=
  live s (fun s =>
    let x := s.ring d r
    let w := s.fld (Reg.HDMA_RING_CFG_WDOG d r)
    let since : Option Nat :=
      if d.val = 1 then x.waitSince
      else if s.ringReady 0 r then none
      else (s.queue (128 + r)).stamps.head?.map (fun t => max (t * 128) (max x.movedAt x.dryAt))
    match since with
    | none => s
    | some t =>
      if w = 0 ∨ x.barked then s
      else
        let s1 := s.expire (t + w * Config.us)
        ((s1.modRing d r (fun y => { y with barked := true })).dmaLog d r 7).raise 176)

/-- RING_DISABLE (R436). -/
def execRingDisable (a : Nat) (d : Fin 2) (r : Fin 64) (s : State) : Host.Outcome State Fault Refusal :=
  live s (fun s => s.writeRingCfg a d r ((s.reg (Reg.HDMA_RING_CFG d r)).setField 0 0 0))

/-- RING_ENABLE (R436). -/
def execRingEnable (a : Nat) (d : Fin 2) (r : Fin 64) (s : State) : Host.Outcome State Fault Refusal :=
  live s (fun s => s.writeRingCfg a d r ((s.reg (Reg.HDMA_RING_CFG d r)).setField 0 0 1))

/-- TXFREE (R448). -/
def execTxfree (a : Nat) (i : Fin 131072) (s : State) : Host.Outcome State Fault Refusal :=
  live s (fun s => s.writeTxFree a i)

/-- COAL_TIMEOUT (R446). -/
def execCoalTimeout (d : Fin 2) (r : Fin 64) (s : State) : Host.Outcome State Fault Refusal :=
  live s (fun s =>
    match (s.ring d r).firstUnreported with
    | none => s
    | some t =>
      let c := s.fld (Reg.HDMA_RING_CFG_COAL_T d r)
      if c = 0 then s else (s.advanceTo (t + c * Config.us)).reportRing d r)

/-- ERRLOG_READ (R448). -/
def execErrlogRead (a : Nat) (s : State) : Host.Outcome State Fault Refusal :=
  live s (fun s => let (w, s1) := s.readGeneric Reg.HDMA_ERRLOG; s1.emit (.read a w false))

end Sys2Proof.Machine
end

