-- ==== Sys2Proof/Machine/Ridgeline.lean ====
section
/-! DEFINITION. The Ridgeline controller: Ridgeline time, frames and records, states, slots, synchronisation, spares, the
guardian, the root and its queue (spec/12_ridgeline.md R347 to R384). -/
namespace Sys2Proof.Machine

/-! ### Frames (R353 to R355) and records (R374) -/

/-- Eight steps of the CRC-24 register. -/
def crc24Bits : Nat → Nat → Nat
  | 0, c => c
  | n + 1, c => crc24Bits n (if 2 ^ 23 ≤ c then (c * 2 % 2 ^ 24) ^^^ 0x864CFB else c * 2)

/-- CRC-24 of octets in order of transmission (R355), from register value c. -/
def crc24From : List Nat → Nat → Nat
  | [], c => c
  | x :: r, c => crc24From r (crc24Bits 8 (c ^^^ (x % 256 * 2 ^ 16)))

/-- CRC-24 of a frame's header and payload. -/
def crc24 (f : List Nat) : Nat := crc24From f 0xB704CE

/-- The header fields of R354. -/
structure RlHeader where
  sender : Nat
  slot : Nat
  cycle : Nat
  sync : Bool
  cold : Bool
  null : Bool
  kind : Nat
  root : Bool
  standby : Bool
  reserved : Nat := 0
  deriving DecidableEq, Repr

/-- The header of a number of 32 bits. -/
def RlHeader.ofNat (h : Nat) : RlHeader :=
  { sender := h / 2 ^ 26 % 64, slot := h / 2 ^ 19 % 128, cycle := h / 2 ^ 13 % 64, sync := h.testBit 12
    cold := h.testBit 11, null := h.testBit 10, kind := h / 256 % 4, root := h.testBit 7, standby := h.testBit 6
    reserved := h % 64 }

/-- The header as a number of 32 bits. -/
def RlHeader.toNat (h : RlHeader) : Nat :=
  2 ^ 26 * (h.sender % 64) + 2 ^ 19 * (h.slot % 128) + 2 ^ 13 * (h.cycle % 64) + 2 ^ 12 * bit01 h.sync
    + 2 ^ 11 * bit01 h.cold + 2 ^ 10 * bit01 h.null + 2 ^ 8 * (h.kind % 4) + 2 ^ 7 * bit01 h.root
    + 2 ^ 6 * bit01 h.standby + h.reserved % 64

/-- The octets of a frame: header, payload, CRC-24. -/
def rlOctets (h : RlHeader) (payload : List Nat) : List Nat :=
  let b := beOctets 4 h.toNat ++ payload
  b ++ beOctets 3 (crc24 b)

/-- Start of a slot, in sixteenths from the start of its cycle (R350, R352). -/
def slotStart (slot : Nat) : Nat :=
  if slot ≤ 80 then 40960 * slot else if slot = 81 then 26000 * 128 else if slot = 82 then 28000 * 128 else 30400 * 128

/-- The slot a position in the cycle lies in; none in the NIT. -/
def slotAt (pos : Int) : Option Nat :=
  if pos < 0 ∨ 30400 * 128 ≤ pos then none
  else if pos < 40960 * 80 then some (pos.toNat / 40960)
  else if pos < 26000 * 128 then some 80
  else if pos < 28000 * 128 then some 81
  else some 82

/-- Whether a payload of n octets is one that the slot carries (R353). -/
def payloadFits (slot n : Nat) : Bool :=
  if slot ≤ 79 then n == 80 else if slot = 80 then decide (n ≤ 104) else if slot = 81 then decide (n ≤ 616)
  else decide (n ≤ 744)

/-- Word data in five octets (R374). -/
def wireWord (w : Word) : List Nat := beOctets 5 w.toNat

/-- The words of 5-octet groups; the high nibble of each first octet is 0. -/
def wordsOf (n : Nat) (f : List Nat) : List Word := (List.range n).map (fun i => Word.ofN (beAt f (5 * i) 5))

/-- The octets of a record (R374). -/
def RlRecord.octets : RlRecord → List Nat
  | .done => [0]
  | .read fixed node size count off tag =>
    [if fixed then 0x05 else 0x01, node, 64 * size + (count - 1)] ++ beOctets 4 off ++ [tag]
  | .write fixed node size off tag ws =>
    [if fixed then 0x03 else 0x02, node, 64 * size + (ws.length - 1)] ++ beOctets 4 off ++ [tag] ++ ws.flatMap wireWord
  | .grant n => [0x04, n.getD 0x80, 0, 0, 0, 0, 0, 0]
  | .readData node size count off tag ws =>
    [0x81, node, 64 * size + (count - 1)] ++ beOctets 4 off ++ [tag] ++ ws.flatMap wireWord
  | .fail node reason off tag => [0x82, node, reason] ++ beOctets 4 off ++ [tag]
  | .event n => [0x83, n, 0, 0, 0, 0, 0, 0]

/-- The first record of a payload in a slot, and what follows it; none where its form is not one of R374. first tells whether
it is the frame's first record. -/
def firstRecord (slot : Nat) (first : Bool) (f : List Nat) : Option (RlRecord × List Nat) :=
  let op := octAt f 0
  let node := octAt f 1
  let size := octAt f 2 / 64
  let count := octAt f 2 % 64 + 1
  let off := beAt f 3 4
  let tag := octAt f 7
  let form := 8 ≤ f.length ∧ node < 64 ∧ size ≤ 2 ∧ (size = 0 ∨ count = 1) ∧ off % 8 = 0
  let data := f.drop 8
  let ws := wordsOf count data
  let whole := 5 * count ≤ data.length ∧ (List.range count).all (fun i => octAt data (5 * i) < 16)
  let zeros := (f.drop 2).take 6 = [0, 0, 0, 0, 0, 0]
  if (op = 1 ∨ op = 5) ∧ slot = 80 ∧ form then some (.read (op == 5) node size count off tag, data)
  else if (op = 2 ∨ op = 3) ∧ slot = 81 ∧ form ∧ whole then
    some (.write (op == 3) node size off tag ws, data.drop (5 * count))
  else if op = 4 ∧ slot = 80 ∧ first ∧ (node < 64 ∨ node = 0x80) ∧ zeros then
    some (.grant (if node = 0x80 then none else some node), data)
  else if op = 0x81 ∧ slot = 82 ∧ form ∧ whole then some (.readData node size count off tag ws, data.drop (5 * count))
  else if op = 0x82 ∧ slot = 82 ∧ 8 ≤ f.length ∧ node < 64 ∧ off % 8 = 0 then some (.fail node (octAt f 2) off tag, data)
  else if op = 0x83 ∧ slot = 82 ∧ node < 64 ∧ zeros then some (.event node, data)
  else none

/-- The records of a payload, and whether a record of another form has ended them (R374). -/
def recordsOf (slot : Nat) : Nat → Bool → List Nat → List RlRecord × Bool
  | 0, _, _ => ([], false)
  | n + 1, first, f =>
    match f with
    | [] => ([], false)
    | 0 :: _ => ([.done], false)
    | _ =>
      match firstRecord slot first f with
      | none => ([], true)
      | some (r, rest) => let (rs, bad) := recordsOf slot n false rest; (r :: rs, bad)

/-- Insertion into an ascending list. -/
def insertInt (x : Int) : List Int → List Int
  | [] => [x]
  | y :: r => if x ≤ y then x :: y :: r else y :: insertInt x r

/-- An ascending list. -/
def sortInt (xs : List Int) : List Int := xs.foldl (fun l x => insertInt x l) []

/-- The fault-tolerant average of R363: k smallest and k largest values discarded, division toward minus infinity. -/
def midpoint (xs : List Int) : Int :=
  let m := xs.length
  let k := if m ≤ 2 then 0 else if m ≤ 7 then 1 else 2
  if m = 0 then 0 else (((sortInt xs).drop k).take (m - 2 * k)).foldl (· + ·) 0 / ((m - 2 * k : Nat) : Int)

namespace State

/-- s with the controller's part changed. -/
def modRl (s : State) (f : Ridgeline → Ridgeline) : State := { s with rl := f s.rl }

/-- The node number (R349). -/
def rlNode (s : State) : Nat := s.straps.rid % 64

/-- RLC_STAT.STATE: 0 OFF, 1 LISTEN, 2 COLD_LEAD, 3 INTEGRATE, 4 ACTIVE, 5 HALTED. -/
def rlState (s : State) : Nat := s.fld Reg.RLC_STAT_STATE

/-- Whether the device holds Ridgeline time. -/
def rlHolds (s : State) : Bool := s.rlState == 2 || s.rlState == 3 || s.rlState == 4

/-- Whether the device may send in its slots. -/
def rlSends (s : State) : Bool := s.rlState == 2 || s.rlState == 4

/-- A counter of the controller counts one (R384). -/
def rlCount (s : State) (k : Nat) : State := s.bump (Reg.RLC_CNT_COUNT k) 1

/-! ### Ridgeline time (R351, R352, R364)

It runs on what the PLL counts, which neither TBU_RATE nor a step of TBU time touches. -/

/-- Length of the current cycle before any change of its NIT, in 2^-8 sixteenths. -/
def rlSpan (s : State) : Int := 4000000 * 256 + s.rl.rho

/-- Position in the current cycle at a count of the PLL. -/
def rlPosAt (s : State) (c : Int) : Int := (c * 256 - s.rl.start) * 4000000 / s.rlSpan

/-- The count of the PLL at a position in the current cycle. -/
def rlInstant (s : State) (pos : Nat) : Nat :=
  ((s.rl.start + ((pos : Int) * s.rlSpan + 3999999) / 4000000 + 255) / 256).toNat

/-- Time passes up to a position of the current cycle. -/
def rlAdvance (s : State) (pos : Nat) : State := s.elapse (s.rlInstant pos - s.tbu.pll)

/-- The current cycle count. -/
def rlCycle (s : State) : Nat := s.fld Reg.RLC_CYCLE_CYCLE

/-- The RTSW of a position of the current cycle. -/
def rtswOf (s : State) (pos : Int) : Nat := (((s.rlCycle : Int) * 4000000 + pos) % 2 ^ 36).toNat

/-- The current RTSW (R351); a lengthened NIT stays at the last position. -/
def rtsw (s : State) : Nat := s.rtswOf (max 0 (min 3999999 (s.rlPosAt s.tbu.pll)))

/-- The present tick boundary of Ridgeline time or the next one, and the one after it, as instants of the elapsed clock
(R352). -/
def rlEdges (s : State) : Nat × Nat :=
  let k := (s.rlPosAt s.tbu.pll).toNat
  let edge := (k + 127) / 128 * 128
  let at_ (pos : Nat) : Nat := s.clk + s.untilPll (s.rlInstant pos - s.tbu.pll)
  (at_ edge, at_ (edge + 128))

/-! ### The root (R378, R380, R381) -/

/-- A remote access fails (R377, R378). -/
def rlFail (s : State) (x : RlAccess) (reason : Nat) : State :=
  let s1 := s.setReg Reg.RLC_FAIL (Word.ofN (2 ^ 35 + 2 ^ 29 * reason + 2 ^ 6 * (x.off / 8 % 2 ^ 23) + x.node % 64))
  let s2 := (s1.rlCount 15).raise 135
  if x.far then (s2.setFld Reg.RLC_FAR_CMD_BUSY 0).setFld Reg.RLC_FAR_CMD_FAILED 1
  else if x.data.isNone then s2.emit (.completerAbort 51) else s2

/-- The device sees node n as the active root. -/
def seeRoot (s : State) (n : Nat) : State :=
  if s.rl.root = some n then s else (s.modRl (fun r => { r with root := some n })).raise 134

/-- Whether the device is the active root by R380. -/
def rootNow (s : State) : Bool :=
  s.rlSends && (s.fld Reg.RLC_ROOT_ROLE == 1 && !s.rl.rqOther && !s.rl.rqOtherLast
    || s.fld Reg.RLC_ROOT_ROLE == 2 && s.rl.tookOver)

/-- RLC_ROOT.IS_ROOT follows R380; a device that ceases to be the root abandons what it has not completed (R381).
(DEDUCED, log 33) -/
def judgeRoot (s : State) : State :=
  if s.rootNow = s.isSet Reg.RLC_ROOT_IS_ROOT then s
  else if s.rootNow then (s.setFld Reg.RLC_ROOT_IS_ROOT 1).seeRoot s.rlNode
  else
    let xs := s.rl.waiting ++ s.rl.queue
    let s1 := (s.setFld Reg.RLC_ROOT_IS_ROOT 0).modRl (fun r => { r with waiting := [], queue := [] })
    xs.foldl (fun s x => s.rlFail x 4) s1

/-- An access of this device's host or of RLC_FAR_CMD joins the root's queue, or fails at once with NO_ROOT (R378). -/
def rlEnqueue (s : State) (x : RlAccess) : State :=
  if s.isSet Reg.RLC_ROOT_IS_ROOT ∧ s.rlSends then s.modRl (fun r => { r with queue := r.queue ++ [x] })
  else s.rlFail x 1

/-! ### States (R367) -/

/-- RLC_SPARE.SSTATE changes (R370). -/
def setSpare (s : State) (st : Nat) : State :=
  if s.fld Reg.RLC_SPARE_SSTATE = st then s else (s.setFld Reg.RLC_SPARE_SSTATE st).raise 133

/-- The device has no spare any more. -/
def dropSpare (s : State) : State :=
  (s.setSpare 0).setFld Reg.RLC_SPARE_OWNED 0 |>.modRl (fun r => { r with release := false, claimed := 0 })

/-- An action of the slot unit is blocked (R359); cause 1 NOT_SLOT_START, 2 NOT_OWNER, 3 NOT_SYNC, 4 CONFLICT.
(DEDUCED, log 33) -/
def blockSlot (s : State) (q : Posted) (cause : Nat) : State :=
  let s1 := { s with posted := s.posted.filter (· != q) }
  ((s1.rlCount 12).raise 131).report 0xAB 131 cause q.due q.agent 0

/-- Every pending slot action is blocked with NOT_SYNC (R359, R365). (DEDUCED, log 33) -/
def blockAllSlots (s : State) : State :=
  (s.posted.filter (fun q => q.unit == 91)).foldl (fun s q => s.blockSlot q 3) s

/-- Length of the listen timer (R367). -/
def listenTime (s : State) : Nat := 4000000 + (s.rlNode + 1) * 40960

/-- RLC_STAT.STATE changes (R367). (DEDUCED, log 33) -/
def rlEnter (s : State) (st : Nat) : State :=
  let old := s.rlState
  if old = st then s
  else
    let s1 := (s.setFld Reg.RLC_STAT_STATE st).raise 128
    let s2 := if old = 4 then s1.dropSpare else s1
    let s3 := if st = 4 then s2.modRl (fun r => { r with seed := s.rlNode + 1 }) else s2
    let s4 := if st = 0 ∨ st = 1 ∨ st = 5 then
        (s3.blockAllSlots.modRl (fun r => { r with
          activate := false, fresh := false, sending := none, rxA := none, rxB := none, devs := [], before := none
          nosync := 0, skew := 0, rho := 0, nit := 0, grant := none, tookOver := false, rqBackoff := none
          rqSent := false })).setFld Reg.RLC_CORR_RHO 0
      else s3
    let s5 := if st = 1 ∧ (old = 0 ∨ s.rl.listenFrom + s.listenTime ≤ s.tbu.pll) then
        s4.modRl (fun r => { r with listenFrom := s.tbu.pll })
      else s4
    s5.judgeRoot

/-- Ridgeline time is set: cycle c, whose start lay at a count of the PLL. -/
def rlSetTime (s : State) (c : Nat) (start : Int) (fresh : Bool) : State :=
  ((s.modRl (fun r => { r with
      start := start * 256, fresh := fresh, rho := 0, nit := 0, devs := [], before := none, nosync := 0, skew := 0
      mapFrom := none, rqSilence := 0, dynSeen := [], grant := none, rxA := none, rxB := none })).setFld
    Reg.RLC_CYCLE_CYCLE c).setReg Reg.RLC_CYC_TSW (Word.ofN (((s.tsw : Int) + s.clockAt start - s.clk) % 2 ^ 36).toNat)

/-! ### The slot map (R357, R370, R371) -/

/-- The octet of the slot map for a spare. -/
def mapOctet (s : State) (spare : Nat) : Nat :=
  let i := spare - 64
  (s.reg (Reg.RLC_SMAP (i / 4))).field (31 - 8 * (i % 4)) (24 - 8 * (i % 4))

/-- The slot map with the octet of a spare replaced. -/
def setMapOctet (s : State) (spare v : Nat) : State :=
  let i := spare - 64
  let o := Reg.RLC_SMAP (i / 4)
  s.setReg o ((s.reg o).setField (31 - 8 * (i % 4)) (24 - 8 * (i % 4)) v)

/-- The sixteen octets of the slot map. -/
def mapOctets (s : State) : List Nat := (List.range 16).map (fun i => s.mapOctet (64 + i))

/-- The slot map of a sync frame comes into use. -/
def useMap (s : State) (octets : List Nat) : State :=
  (List.range 16).foldl (fun s i => s.setMapOctet (64 + i) (octAt octets i)) s

/-! ### Sending (R357, R358, R371, R372) -/

/-- The header of a frame that the device sends. -/
def rlHeader (s : State) (slot kind : Nat) (sync null : Bool) : RlHeader :=
  { sender := s.rlNode, slot := slot, cycle := s.rlCycle % 64, sync := sync, cold := s.rlState == 2, null := null
    kind := kind, root := s.fld Reg.RLC_ROOT_ROLE == 1, standby := s.fld Reg.RLC_ROOT_ROLE == 2 }

/-- Whether the guardian lets the device send in a slot of its own (R372): its schedule and the controller's agree, and the
transmitters are not closed. (DEDUCED, log 33) -/
def guardOpen (s : State) : Bool := s.rlSends && !s.isSet Reg.RLC_CTRL_TX_DIS && s.rl.skew == 0

/-- The guardian stops an attempt to send (R372). -/
def guardBlock (s : State) : State := (s.rlCount 11).raise 131

/-- A frame leaves in a slot, or is stopped by the guardian. -/
def rlSend (s : State) (slot kind : Nat) (sync null : Bool) (payload : List Nat) : State :=
  if s.guardOpen then
    let a := s.isSet Reg.RLC_CFG_CH_A_EN
    let b := s.isSet Reg.RLC_CFG_CH_B_EN
    let s1 := s.modRl (fun r => { r with sending := some slot, listenFrom := s.rlInstant (slotStart slot) + 480 })
    if a ∨ b then s1.emit (.rl slot (rlOctets (s.rlHeader slot kind sync null) payload) a b) else s1
  else s.guardBlock

/-- The payload of a sync frame: slot map, cycle count, application octets 20–79 (R357). -/
def syncPayload (s : State) (octets : List Nat) : List Nat :=
  s.mapOctets ++ beOctets 4 s.rlCycle ++ octets.drop 20

/-- Whether a slot is one in which the device sends sync frames. -/
def syncSlot (s : State) (slot : Nat) : Bool := slot == s.rlNode && s.isSet Reg.RLC_CFG_SYNC_NODE

/-- A posted buffer leaves in a slot (R358). -/
def sendBuffer (s : State) (slot t : Nat) : State :=
  let octets := unpackWords ((List.range 20).map (fun w => s.reg (Reg.RLC_TXBUF t w)))
  if s.syncSlot slot then s.rlSend slot 0 true false (s.syncPayload octets)
  else s.rlSend slot 0 false false octets

/-- What the device sends in a slot without a post: a NULL sync frame, a CLAIM, a RELEASE or a NULL frame (R357, R370,
R371). -/
def sendUnposted (s : State) (slot : Nat) : State :=
  let none_ := List.replicate 80 0
  if s.syncSlot slot ∧ s.rlSends then s.rlSend slot 0 true true (s.syncPayload none_)
  else if slot < 64 ∨ s.rlState ≠ 4 ∨ s.fld Reg.RLC_SPARE_OWNED ≠ slot then s
  else if s.fld Reg.RLC_SPARE_SSTATE = 1 ∧ s.rl.claimed < 2 ∧ s.rl.claimCycle ≠ s.rlCycle then
    s.rlSend slot 1 false true none_
  else if s.fld Reg.RLC_SPARE_SSTATE = 2 then
    if s.rl.release then (s.rlSend slot 2 false true none_).dropSpare
    else s.rlSend slot 0 false true none_
  else s

/-! ### Spares (R370) -/

/-- A claim fails and the device backs off for the (S mod 8) + 1 whole cycles that follow (log 30). -/
def claimFail (s : State) : State :=
  let v := lfsrSteps 16 s.rl.seed
  (((s.rlCount 13).modRl (fun r => { r with seed := v, backoff := v % 8 + 2, claimed := 0 })).setSpare 3).setFld
    Reg.RLC_SPARE_OWNED 0

/-- The lowest-numbered free spare is picked (R370 step 1). (DEDUCED, log 30) -/
def pickSpare (s : State) : State :=
  match (List.range 16).find? (fun i => s.mapOctet (64 + i) < 128) with
  | some i =>
    ((s.setFld Reg.RLC_SPARE_OWNED (64 + i)).setSpare 1).modRl (fun r => { r with
      claimed := 0, claimCycle := s.rlCycle })
  | none => s.setSpare 0

/-- In the cycle after the second accepted claim the slot map decides (R370 steps 3 and 4). (DEDUCED, log 30) -/
def settleClaim (s : State) (slot : Nat) : State :=
  if s.fld Reg.RLC_SPARE_SSTATE = 1 ∧ s.fld Reg.RLC_SPARE_OWNED = slot ∧ s.rl.claimed = 2 then
    if s.mapOctet slot = 128 + s.rlNode then s.setSpare 2 else s.claimFail
  else s

/-! ### The slot unit (R358, R359) -/

/-- Slot, and transmit buffer, of an action. -/
def slotOf (q : Posted) : Nat := q.arg / 8 % 128
def bufferOf (q : Posted) : Nat := q.arg % 8

/-- Ticks from the current RTSW to a due RTSW, signed. -/
def rlDistance (s : State) (due : Nat) : Int :=
  let d : Int := ((due / 128 : Nat) - (s.rtsw / 128 : Nat) : Int) % 2 ^ 29
  if 2 ^ 28 ≤ d then d - 2 ^ 29 else d

/-- Whether action p goes before action q of the same slot and cycle (R359 CONFLICT). -/
def slotBefore (p q : Posted) : Bool := p.agent < q.agent || p.agent == q.agent && p.seq < q.seq

/-- The cause that blocks an action whose due tick has come, if any. -/
def slotCause (s : State) (q : Posted) : Option Nat :=
  let d := (q.due + 2 ^ 36 - s.rtswOf 0) % 2 ^ 36
  if d / 128 ≠ 320 * slotOf q then some 1
  else if slotOf q ≠ s.rlNode ∧ ¬ (s.fld Reg.RLC_SPARE_SSTATE = 2 ∧ s.fld Reg.RLC_SPARE_OWNED = slotOf q) then some 2
  else if ¬ s.rlSends ∨ s.isSet Reg.RLC_CTRL_TX_DIS then some 3
  else if s.posted.any (fun p => p.unit == 91 && slotOf p == slotOf q && p.due / 128 == q.due / 128 && slotBefore p q)
    then some 4
  else none

/-- The due actions are performed or blocked, the losers of a conflict first; whether one was performed. -/
def performSlots (s : State) : Bool × State :=
  let due := s.posted.filter (fun q => q.unit == 91 && decide (s.rlDistance q.due ≤ 0))
  let causes := due.map (fun q => (q, s.slotCause q))
  let s1 := causes.foldl (fun s x => match x.2 with
    | some c => s.blockSlot x.1 c
    | none => s) s
  match causes.find? (fun x => x.2.isNone) with
  | none => (false, s1)
  | some (q, _) =>
    let s2 := ({ s1 with posted := s1.posted.filter (· != q) }).noteSlack q
    (true, s2.sendBuffer (slotOf q) (bufferOf q))

/-- The start of a static or spare slot. -/
def slotBegins (s : State) (slot : Nat) : State :=
  if ¬ s.rlHolds then s
  else
    let s1 := (s.rlAdvance (slotStart slot)).settleClaim slot
    let (sent, s2) := s1.performSlots
    if sent then s2 else s2.sendUnposted slot

/-! ### Receiving (R356, R357, R360 to R362, R368) -/

/-- The sender check of R356. -/
def rlSenderOk (s : State) (h : RlHeader) : Bool :=
  if h.slot ≤ 63 then h.sender == h.slot
  else if h.slot ≤ 79 then h.kind != 0 || s.mapOctet h.slot == 128 + h.sender
  else if h.slot ≤ 81 then
    if h.slot = 80 ∧ ¬ s.isSet Reg.RLC_ROOT_ROOT_VALID then true else h.sender == s.fld Reg.RLC_ROOT_ACTIVE_ROOT
  else s.rl.grant == some h.sender

/-- The delay from a node on a channel. -/
def rlDelay (s : State) (node : Nat) (chB : Bool) : Nat :=
  if chB then s.fld (Reg.RLC_PDLY_DLY_B node) else s.fld (Reg.RLC_PDLY_DLY_A node)

/-- A deviation is recorded (R362). -/
def noteDeviation (s : State) (node : Nat) (chB : Bool) (d : Int) : State :=
  let put (x : RlDeviation) : RlDeviation := if chB then { x with b := some d } else { x with a := some d }
  s.modRl (fun r => { r with
    devs := if r.devs.any (fun x => x.node == node) then r.devs.map (fun x => if x.node = node then put x else x)
            else r.devs ++ [put { node := node }] })

/-- Records of an accepted dynamic frame that concern this device wait to be acted on (R374, R376). -/
def takeRecords (s : State) (slot : Nat) (payload : List Nat) : State :=
  if s.rl.dynSeen.contains slot then s
  else
    let s0 := s.modRl (fun r => { r with dynSeen := slot :: r.dynSeen })
    if slot = 82 ∧ ¬ s.isSet Reg.RLC_ROOT_IS_ROOT then s0
    else
      let (rs, bad) := recordsOf slot payload.length true payload
      let mine := rs.filter (fun x => match x with
        | .read _ n _ _ _ _ => n == s.rlNode
        | .write _ n _ _ _ _ => n == s.rlNode
        | _ => true)
      let s1 := s0.modRl (fun r => { r with records := r.records ++ mine })
      if bad then s1.rlCount 6 else s1

/-- An RQ frame is accepted (R380). (DEDUCED, log 33) -/
def rqAccepted (s : State) (sender : Nat) : State :=
  let other := sender != s.rlNode
  let s1 := s.modRl (fun r => { r with
    rqSeen := true, rqOther := r.rqOther || other, rqHeard := r.rqHeard || other, rqOwn := r.rqOwn || !other
    tookOver := r.tookOver && !other })
  ((s1.setFld Reg.RLC_ROOT_ACTIVE_ROOT sender).seeRoot sender).judgeRoot

/-- A frame accepted while the device holds Ridgeline time. -/
def rlAccept (s : State) (chB : Bool) (h : RlHeader) (payload : List Nat) (pos : Int) (tsw : Nat) : State :=
  let s0 := (s.rlCount (bit01 chB)).modRl (fun r => if chB then { r with okB := true } else { r with okA := true })
  if h.slot ≤ 79 then
    if h.slot = s.rlNode ∧ h.sender = s.rlNode ∧ s.rl.sending ≠ some h.slot then (s0.rlEnter 5).raise 132
    else
      let f : RlFrame := { sender := h.sender, cycle := h.cycle, sync := h.sync, null := h.null, kind := h.kind
                           rtsw := s.rtswOf pos, tsw := tsw, octets := payload }
      let s1 := s0.modRl (fun r => if chB then { r with rxB := some f } else { r with rxA := some f })
      if h.slot ≤ 63 ∧ h.sync then
        let d := pos - (slotStart h.slot + 2080 + s.rlDelay h.sender chB : Nat)
        let s2 := if h.sender = s.rlNode then s1 else s1.noteDeviation h.sender chB d
        match s2.rl.mapFrom with
        | some n => if n ≤ h.sender then s2
                    else (s2.useMap payload).modRl (fun r => { r with mapFrom := some h.sender })
        | none => (s2.useMap payload).modRl (fun r => { r with mapFrom := some h.sender })
      else s1
  else if h.slot = 80 then (s0.rqAccepted h.sender).takeRecords 80 payload
  else s0.takeRecords h.slot payload

/-- A sync frame accepted in LISTEN sets Ridgeline time (R368). -/
def rlIntegrate (s : State) (chB : Bool) (h : RlHeader) (payload : List Nat) (ref : Int) : State :=
  let start := ref - (slotStart h.slot + 2080 + s.rlDelay h.sender chB : Nat)
  let s1 := ((s.rlEnter 3).rlSetTime (beAt payload 16 4) start true).useMap payload
  let s2 := s1.modRl (fun r => { r with mapFrom := some h.sender })
  let pos := s2.rlPosAt ref
  let f : RlFrame := { sender := h.sender, cycle := h.cycle, sync := h.sync, null := h.null, kind := h.kind
                       rtsw := s2.rtswOf pos, tsw := (((s.tsw : Int) + s.clockAt ref - s.clk) % 2 ^ 36).toNat, octets := payload }
  s2.modRl (fun r => if chB then { r with rxB := some f, okB := true } else { r with rxA := some f, okA := true })

/-- A frame has been received on channel A (chB false) or B: its octets from the header to the CRC, whether its code groups
and delimiters were right, and sixteenths that the PLL has counted since its reference point (R356, R367). (DEDUCED, log 33) -/
def rlReceive (s : State) (chB code : Bool) (octets : List Nat) (back : Nat) : State :=
  if s.rlState = 0 ∨ s.rlState = 5 then s
  else
    let s0 := s.modRl (fun r => { r with listenFrom := max r.listenFrom (s.tbu.pll - back - 1600) })
    let n := octets.length
    let body := octets.take (n - 3)
    let h := RlHeader.ofNat (beAt octets 0 4)
    let payload := body.drop 4
    if ¬ code ∨ n < 7 ∨ ¬ payloadFits h.slot payload.length ∨ beAt octets (n - 3) 3 ≠ crc24 body then
      (s0.rlCount (2 + bit01 chB)).countWindow 4 (bit01 chB) 0xAB
    else
      let ref : Int := (s0.tbu.pll : Int) - back
      if s0.rlState = 1 then
        if h.slot ≤ 63 ∧ h.sender ≠ h.slot then s0.rlCount 6
        else
          let s1 := s0.rlCount (bit01 chB)
          if h.slot ≤ 63 ∧ h.sender = s.rlNode then (s1.rlEnter 5).raise 132
          else if h.slot ≤ 63 ∧ h.sync then s1.rlIntegrate chB h payload ref
          else s1
      else
        let pos := s0.rlPosAt ref
        let lead (s : State) : State :=
          if s.rlState = 2 ∧ h.sender ≠ s.rlNode ∧ s.rlSenderOk h then s.rlEnter 1 else s
        if slotAt pos ≠ some h.slot ∨ h.cycle ≠ s0.rlCycle % 64 ∨ h.reserved ≠ 0 ∨ ¬ s0.rlSenderOk h then
          lead (s0.rlCount 6)
        else
          let want : Int := (slotStart h.slot + 2080 + s0.rlDelay h.sender chB : Nat)
          let w : Int := 16 * s0.fld Reg.RLC_SYNC_WINDOW
          if pos / 128 < (want - w) / 128 ∨ (want + w) / 128 < pos / 128 then lead (s0.rlCount (4 + bit01 chB))
          else s0.rlAccept chB h payload pos (((s0.tsw : Int) + s0.clockAt ref - s0.clk) % 2 ^ 36).toNat

/-! ### The end of a slot (R360, R361, R367, R370) -/

/-- Receive buffer b of a slot is filled with words from word 0 on. -/
def fillRx (s : State) (slot b : Nat) (ws : List Word) : State :=
  (List.range 24).foldl (fun s w => s.setReg (Reg.RLC_RXBUF (2 * slot + b) w) (ws.getD w 0)) s

/-- What a sync node learns from a spare: claims, releases, idle cycles (R370, R371). -/
def watchSpare (s : State) (slot : Nat) (f : Option RlFrame) : State :=
  let m := s.mapOctet slot
  let owner := m % 64
  let c := s.rlCycle
  let idle : Nat := match f with
    | some x => if x.sender = owner then 0 else Tab.get 0 slot s.rl.idle + 1
    | none => Tab.get 0 slot s.rl.idle + 1
  let s1 := s.modRl (fun r => { r with idle := Tab.put 0 slot (if m < 128 then 0 else idle) r.idle })
  match f with
  | some x =>
    if x.kind = 1 ∧ m < 128 then
      let (n, last, k) : Nat × Nat × Nat := Tab.get (0, 0, 0) slot s.rl.claims
      let k' := if n = x.sender ∧ k ≠ 0 ∧ (last + 1) % 2 ^ 32 = c then k + 1 else 1
      let s2 := s1.modRl (fun r => { r with claims := Tab.put (0, 0, 0) slot (x.sender, c, k') r.claims })
      if 2 ≤ k' then s2.modRl (fun r => { r with mapNext := r.mapNext ++ [(slot, 128 + x.sender)] }) else s2
    else if x.kind = 2 ∧ 128 ≤ m ∧ x.sender = owner then
      s1.modRl (fun r => { r with mapNext := r.mapNext ++ [(slot, 0)] })
    else s1
  | none => s1

/-- Whether both channels brought a frame and their payloads differ (R360). -/
def chDiffer (a b : Option RlFrame) : Bool :=
  match a, b with
  | some x, some y => x.octets != y.octets
  | _, _ => false

/-- Word 0 of a receive buffer (R360). -/
def rxHead (x : RlFrame) (va vb diff : Bool) : Word :=
  Word.ofN (2 ^ 30 * x.sender + 2 ^ 24 * (x.cycle % 64) + 2 ^ 23 * bit01 va + 2 ^ 22 * bit01 vb
    + 2 ^ 21 * bit01 x.null + 2 ^ 20 * bit01 diff + 2 ^ 19 * bit01 x.sync)

/-- The words of a receive buffer (R360). -/
def rxWords (a b : Option RlFrame) : List Word :=
  match a.or b with
  | some x => rxHead x a.isSome b.isSome (chDiffer a b) :: Word.ofN x.rtsw :: Word.ofN x.tsw :: packWords false x.octets
  | none => []

/-- The counts of a slot that has ended (R360, R361). -/
def slotCounts (s : State) (slot : Nat) (a b : Option RlFrame) : State :=
  let s1 := if chDiffer a b then s.rlCount 7 else s
  match a, b with
  | none, none => s1.bumpSat (Reg.RLC_SLOTCNT_MISSED slot) 1
  | some _, some _ => s1
  | _, _ => s1.bumpSat (Reg.RLC_SLOTCNT_ONE_CH slot) 1

/-- The task flags of a slot that has ended (R360). -/
def slotFlags (s : State) (slot : Nat) : State :=
  let task := s.fld Reg.RLC_RXCFG_RX_TASK
  let s1 := if (s.reg (Reg.RLC_RXMASK (slot / 32))).bit (slot % 32) then
      s.taskFlag task (s.fld Reg.RLC_RXCFG_SLOT_FLAG) true
    else s
  if slot = 79 ∧ s1.isSet Reg.RLC_RXCFG_RX_EN then s1.taskFlag task (s1.fld Reg.RLC_RXCFG_RX_FLAG) true else s1

/-- Whether a frame is one of the device's own. -/
def ownFrame (s : State) (x : Option RlFrame) : Bool :=
  match x with
  | some y => y.sender == s.rlNode
  | none => false

/-- Whether the device's own frame was accepted on an enabled channel. -/
def ownAccepted (s : State) (a b : Option RlFrame) : Bool :=
  s.ownFrame a && s.isSet Reg.RLC_CFG_CH_A_EN || s.ownFrame b && s.isSet Reg.RLC_CFG_CH_B_EN

/-- What the fate of the device's own frame means for its claim and for a cold start (R367, R370). -/
def judgeOwn (s : State) (slot : Nat) (own : Bool) : State :=
  let sent := s.rl.sending == some slot
  let s1 := if sent ∧ s.fld Reg.RLC_SPARE_SSTATE = 1 ∧ s.fld Reg.RLC_SPARE_OWNED = slot then
      (if own then s.modRl (fun r => { r with claimed := r.claimed + 1 }) else s.claimFail)
    else s
  let s2 := s1.modRl (fun r => { r with rxA := none, rxB := none, sending := none })
  if sent ∧ slot = s2.rlNode ∧ s2.rlState = 2 ∧ ¬ own then ((s2.rlCount 10).raise 130).rlEnter 1 else s2

/-- The end of a static or spare slot. -/
def slotEnds (s : State) (slot : Nat) : State :=
  if ¬ s.rlHolds then s
  else
    let s0 := s.rlAdvance (slotStart slot + 40960)
    let a := s0.rl.rxA
    let b := s0.rl.rxB
    let s1 := s0.fillRx slot (s0.rlCycle % 2) (rxWords a b)
    let s2 := (s1.slotCounts slot a b).slotFlags slot
    let s3 := if 64 ≤ slot ∧ s2.isSet Reg.RLC_CFG_SYNC_NODE then s2.watchSpare slot (a.or b) else s2
    s3.judgeOwn slot (s3.ownAccepted a b)

/-! ### Synchronisation (R362 to R365) -/

/-- The value of a node in a cycle (R362). -/
def deviation (x : RlDeviation) : Int :=
  match x.a, x.b with
  | some a, some b => (a + b) / 2
  | some a, none => a
  | none, some b => b
  | none, none => 0

/-- The values of this cycle in node order, at most fifteen (R362). -/
def cycleValues (s : State) : List (Nat × Int) :=
  let others := s.rl.devs.map (fun x => (x.node, deviation x))
  let all := if s.isSet Reg.RLC_CFG_SYNC_NODE ∧ s.rlSends then (s.rlNode, (0 : Int)) :: others else others
  ((List.range 64).flatMap (fun n => all.filter (fun x => x.1 == n))).take 15

/-- The rate correction after an odd cycle that follows an even one (R364). -/
def correctRate (s : State) (vals : List (Nat × Int)) : State :=
  match s.rl.before with
  | some (c, old, o) =>
    if c % 2 = 0 ∧ (c + 1) % 2 ^ 32 = s.rlCycle then
      let ds := vals.flatMap (fun x => (old.filter (fun y => y.1 == x.1)).map (fun y => 256 * (x.2 + o - y.2)))
      let rho := signed 20 (s.fld Reg.RLC_CORR_RHO) + midpoint ds
      if 512000 < rho then (s.rlCount 16).setFld Reg.RLC_CORR_RHO (toBits 20 512000)
      else if rho < -512000 then (s.rlCount 16).setFld Reg.RLC_CORR_RHO (toBits 20 (-512000))
      else s.setFld Reg.RLC_CORR_RHO (toBits 20 rho)
    else s
  | none => s

/-- The start of the NIT. -/
def nitBegins (s : State) : State :=
  if ¬ s.rlHolds then s
  else
    let s0 := s.rlAdvance (slotStart 83)
    let s1 := if s0.rl.rqSent ∧ ¬ s0.rl.rqOwn then
        (s0.raise 130).modRl (fun r => { r with rqBackoff := some (s.rlNode + 2), rqHeard := r.rqOther })
      else s0
    if s1.rl.fresh then s1.setFld Reg.RLC_CORR_O 0
    else
      let vals := s1.cycleValues
      let others := s1.rl.devs.map (·.node)
      let o := midpoint (vals.map (·.2))
      let s2 := if vals.isEmpty then (s1.rlCount 8).modRl (fun r => { r with nosync := r.nosync + 1 })
                else s1.modRl (fun r => { r with nosync := 0 })
      let s3 := (s2.setFld Reg.RLC_CORR_O (toBits 16 o)).modRl (fun r => { r with nit := o })
      let s4 := if vals.isEmpty then s3 else s3.correctRate vals
      let pair : Option (List (Nat × Int)) := match s1.rl.before with
        | some (c, old, _) => if c % 2 = 0 ∧ (c + 1) % 2 ^ 32 = s1.rlCycle then some old else none
        | none => none
      let s5 := (s4.setFld Reg.RLC_STAT_SYNC_SEEN vals.length).modRl (fun r => { r with
        before := some (s1.rlCycle, vals, o) })
      match s5.rlState with
      | 3 =>
        if vals.isEmpty then s5.rlEnter 1
        else match pair with
          | some old => if old.isEmpty then s5 else s5.modRl (fun r => { r with activate := true })
          | none => s5
      | 2 =>
        match pair with
        | some old => if others.any (fun n => n != s.rlNode && old.any (fun y => y.1 == n)) then
              s5.modRl (fun r => { r with activate := true }) else s5
        | none => s5
      | _ =>
        if 48 * s5.fld Reg.RLC_SYNC_PREC < o.natAbs ∨ s5.fld Reg.RLC_SYNC_NOSYNC_MAX ≤ s5.rl.nosync then
          (((s5.rlCount 9).raise 129).report 0xAB 129 0 (s5.rlCycle) 0 0).rlEnter 1
        else s5

/-- The start of a cycle (R351). -/
def cycleBegins (s : State) : State :=
  if ¬ s.rlHolds then s
  else
    let start := s.rl.start + s.rlSpan + 256 * s.rl.nit
    let sa := s.elapse (((start + 255) / 256).toNat - s.tbu.pll)
    let s0 := sa.tmuxPulse 5 0 sa.tsw 8
    let lim : Int := 48 * s0.fld Reg.RLC_SYNC_PREC
    let r0 := s0.rl
    let s1 := (s0.setFld Reg.RLC_CYCLE_CYCLE (s0.rlCycle + 1)).setReg Reg.RLC_CYC_TSW (Word.ofN s0.tsw)
    let s2 := ((s1.setFld Reg.RLC_STAT_CH_A_OK (bit01 r0.okA)).setFld Reg.RLC_STAT_CH_B_OK (bit01 r0.okB)).setFld
      Reg.RLC_ROOT_ROOT_VALID (bit01 r0.rqSeen)
    let s3 := s2.modRl (fun r => { r with
      start := start, rho := signed 20 (s2.fld Reg.RLC_CORR_RHO), nit := 0
      skew := r.skew + (r.nit - max (-lim) (min lim r.nit))
      fresh := false, devs := [], okA := false, okB := false, mapFrom := none, dynSeen := [], grant := none
      rqOtherLast := r.rqOther, rqOther := false, rqSeen := false, rqSent := false, rqOwn := false
      rqSilence := if r.rqSeen then 0 else r.rqSilence + 1
      backoff := r.backoff - 1, rqBackoff := r.rqBackoff.map (· - 1), activate := false, mapNext := [] })
    let s4 := if s3.isSet Reg.RLC_CFG_SYNC_NODE ∧ s3.rlSends then
        r0.mapNext.foldl (fun s x => s.setMapOctet x.1 x.2) s3
      else s3
    if r0.activate then s4.rlEnter 4 else s4.judgeRoot

/-! ### The root's frames (R375) -/

/-- The reads an RQ frame carries: those of one target, at most 12 of at most 64 words, none behind an unsent write to its
target. -/
def chooseReads (s : State) : List RlAccess :=
  let ready := (s.rl.queue.foldl (fun (acc : List Nat × List RlAccess) x =>
    if x.data.isSome then (x.node :: acc.1, acc.2)
    else if acc.1.contains x.node then acc else (acc.1, acc.2 ++ [x])) ([], [])).2
  match ready with
  | [] => []
  | x :: _ =>
    ((ready.filter (fun y => y.node == x.node)).foldl (fun (acc : List RlAccess × Nat × Bool) y =>
      if acc.2.2 ∨ 12 ≤ acc.1.length ∨ 64 < acc.2.1 + y.count then (acc.1, acc.2.1, true)
      else (acc.1 ++ [y], acc.2.1 + y.count, false)) ([], 0, false)).1

/-- Tags are given to accesses in order. -/
def tagged : Nat → List RlAccess → List RlAccess
  | _, [] => []
  | n, x :: r => { x with tag := n % 256 } :: tagged (n + 1) r

/-- RQ_SLOT: the active root sends its RQ frame. -/
def sendRq (s : State) : State :=
  if ¬ s.rlHolds ∨ ¬ s.isSet Reg.RLC_ROOT_IS_ROOT ∨ s.rl.rqBackoff.isSome then s
  else
    let s0 := s.rlAdvance (slotStart 80)
    if ¬ s0.guardOpen then s0.guardBlock
    else
      let picked := s0.chooseReads
      let reads := tagged s0.rl.nextTag picked
      let granted := match reads with
        | x :: _ => x.node
        | [] => s0.rl.turn % 64
      let recs := RlRecord.grant (some granted) :: reads.map (fun x => .read false x.node x.size x.count x.off x.tag)
      let s1 := s0.rlSend 80 3 false false (recs.flatMap RlRecord.octets)
      s1.modRl (fun r => { r with
        queue := r.queue.filter (fun x => !picked.contains x), waiting := r.waiting ++ reads
        nextTag := r.nextTag + reads.length, rqSent := true, turn := if reads.isEmpty then r.turn + 1 else r.turn })

/-- A write joins the last record of a WR frame where R375 merges it: consecutive words, or one offset. -/
def mergeWrite (recs : List RlRecord) (x : RlAccess) (w : Word) : List RlRecord :=
  let new := recs ++ [.write false x.node x.size x.off x.tag [w]]
  match recs.getLast? with
  | some (.write false n 0 off t ws) =>
    if n = x.node ∧ x.size = 0 ∧ ws.length < 64 then
      if off + 8 * ws.length = x.off then recs.dropLast ++ [.write false n 0 off t (ws ++ [w])]
      else if ws.length = 1 ∧ off = x.off then recs.dropLast ++ [.write true n 0 off t (ws ++ [w])]
      else new
    else new
  | some (.write true n 0 off t ws) =>
    if n = x.node ∧ x.size = 0 ∧ ws.length < 64 ∧ off = x.off then recs.dropLast ++ [.write true n 0 off t (ws ++ [w])]
    else new
  | _ => new

/-- The records of a WR frame, as many writes of the queue as fit into its 616 octets, and the writes they carry. -/
def chooseWrites (s : State) : List RlRecord × List RlAccess :=
  let writes := s.rl.queue.filter (fun x => x.data.isSome)
  let r := (tagged s.rl.nextTag writes).foldl (fun (acc : List RlRecord × List RlAccess × Bool) x =>
    let recs := mergeWrite acc.1 x (x.data.getD 0)
    if acc.2.2 ∨ 616 < (recs.flatMap RlRecord.octets).length then (acc.1, acc.2.1, true)
    else (recs, acc.2.1 ++ [x], false)) ([], [], false)
  (r.1, r.2.1)

/-- WR_SLOT: the active root sends its WR frame where it has writes. -/
def sendWr (s : State) : State :=
  if ¬ s.rlHolds ∨ ¬ s.isSet Reg.RLC_ROOT_IS_ROOT then s
  else
    let s0 := s.rlAdvance (slotStart 81)
    let (recs, sent) := s0.chooseWrites
    if sent.isEmpty then s0
    else if ¬ s0.guardOpen then s0.guardBlock
    else
      let s1 := s0.rlSend 81 3 false false (recs.flatMap RlRecord.octets)
      let n := sent.length
      let keep := (s1.rl.queue.foldl (fun (acc : List RlAccess × Nat) x =>
        if x.data.isSome ∧ acc.2 < n then (acc.1, acc.2 + 1) else (acc.1 ++ [x], acc.2)) ([], 0)).1
      let s2 := s1.modRl (fun r => { r with queue := keep, nextTag := r.nextTag + n })
      if sent.any (·.far) then (s2.setFld Reg.RLC_FAR_CMD_BUSY 0).setFld Reg.RLC_FAR_CMD_FAILED 0 else s2

/-- RS_SLOT: the granted node sends its RS frame (R376). -/
def sendRs (s : State) : State :=
  if ¬ s.rlSends ∨ s.rl.grant ≠ some s.rlNode then s
  else
    let s0 := s.rlAdvance (slotStart 82)
    if ¬ s0.guardOpen then s0.guardBlock
    else
      let ev := if s0.hostIf.remotePending then [RlRecord.event s0.rlNode] else []
      let fit := (s0.rl.replies.foldl (fun (acc : List RlRecord × List RlRecord) x =>
        if acc.2.isEmpty ∧ ((acc.1 ++ [x]).flatMap RlRecord.octets).length ≤ 744 then (acc.1 ++ [x], acc.2)
        else (acc.1, acc.2 ++ [x])) (ev, []))
      let s1 := s0.rlSend 82 3 false false (fit.1.flatMap RlRecord.octets)
      let s2 := s1.modRl (fun r => { r with replies := fit.2 })
      { s2 with hostIf := { s2.hostIf with remotePending := false } }

/-! ### Answers at the root (R376, R377) -/

/-- The head of the waiting records goes. -/
def popRecord (s : State) : State := s.modRl (fun r => { r with records := r.records.drop 1 })

/-- READ_DATA completes the read that waits for it. -/
def answerRead (s : State) : State :=
  match s.rl.records with
  | .readData node size _ _ tag ws :: _ =>
    let s1 := s.popRecord
    match s1.rl.waiting.find? (fun x => x.node == node && x.tag == tag) with
    | none => s1
    | some x =>
      let s2 := s1.modRl (fun r => { r with waiting := r.waiting.filter (· != x) })
      if x.far then
        ((s2.setReg Reg.RLC_FAR_DATA (ws.getD 0 0)).setFld Reg.RLC_FAR_CMD_BUSY 0).setFld Reg.RLC_FAR_CMD_FAILED 0
      else if size = 0 then ws.foldl (fun s w => s.emit (.read 51 w false)) s2
      else s2.emit (.readHalf 51 ((ws.getD 0 0).toNat % 2 ^ 32) false)
  | _ => s

/-- FAIL at the root. -/
def answerFail (s : State) : State :=
  match s.rl.records with
  | .fail node reason off tag :: _ =>
    let s1 := s.popRecord
    match s1.rl.waiting.find? (fun x => x.node == node && x.tag == tag) with
    | some x => (s1.modRl (fun r => { r with waiting := r.waiting.filter (· != x) })).rlFail x (reason % 8)
    | none => s1.rlFail { node := node, off := off, size := 0, data := some 0, far := false } (reason % 8)
  | _ => s

/-! ### RLC_FAR_CMD (R379) and register access -/

/-- A write of RLC_FAR_CMD. -/
def writeFarCmd (s : State) (a : Nat) (w : Word) : State :=
  if s.isSet Reg.RLC_FAR_CMD_BUSY ∨ w.field 1 0 = 0 ∨ w.field 1 0 = 3 then s.reject a Reg.RLC_FAR_CMD
  else
    let x : RlAccess := { node := w.field 7 2, off := s.fld Reg.RLC_FAR_ADDR_ADDR, size := 0
                          data := if w.field 1 0 = 2 then some (s.reg Reg.RLC_FAR_DATA) else none, far := true }
    ((s.setFld Reg.RLC_FAR_CMD_BUSY 1).setFld Reg.RLC_FAR_CMD_FAILED 0).rlEnqueue x

/-- RLC_CTRL.EN := 1 (R367). -/
def rlEnable (s : State) : State := if s.rlState = 0 then s.rlEnter 1 else s

/-- A write of RLC_CTRL.SPARE_RELEASE (R371). -/
def releaseSpare (s : State) : State :=
  if s.fld Reg.RLC_SPARE_SSTATE = 2 then s.modRl (fun r => { r with release := true }) else s

/-- A write by agent a in the RLC block at BAR0 offset o. -/
def rlcWrite (s : State) (a o : Nat) (w : Word) : State :=
  match o - 0x300000 with
  | 0x008 =>
    let s1 := s.writeGeneric a o w
    let s2 := if w.bit 3 then s1.releaseSpare else s1
    if w.bit 0 then s2.rlEnable else s2.rlEnter 0
  | 0x010 =>
    if s.isSet Reg.RLC_CTRL_EN then s.reject a o
    else s.writeBut a o (if w.bit 1 ∧ ¬ w.bit 0 then [Reg.RLC_CFG_COLDSTART] else []) w
  | 0x070 => ((s.writeGeneric a o w).modRl (fun r => { r with tookOver := r.tookOver && w.field 1 0 == 2 })).judgeRoot
  | 0x078 => s.writeFarCmd a w
  | _ => s.writeGeneric a o w

/-- A read in the RLC block at BAR0 offset o. -/
def rlcRead (s : State) (o : Nat) : Word × State :=
  if o = Reg.RLC_NOW then (Word.ofN s.rtsw, s)
  else
    let (w, s1) := s.readGeneric o
    if o = Reg.RLC_STAT then (w.setField 5 0 s.rlNode, s1) else (w, s1)

end State

/-! ### The commands of Ridgeline -/

/-- RL_ENABLE (R367): agent a writes RLC_CTRL.EN := 1. -/
def execRlEnable (a : Nat) (s : State) : Host.Outcome State Fault Refusal :=
  live s (fun s => s.rlcWrite a Reg.RLC_CTRL ((s.reg Reg.RLC_CTRL).setField 0 0 1))

/-- RL_DISABLE (R367): agent a writes RLC_CTRL.EN := 0. -/
def execRlDisable (a : Nat) (s : State) : Host.Outcome State Fault Refusal :=
  live s (fun s => s.rlcWrite a Reg.RLC_CTRL ((s.reg Reg.RLC_CTRL).setField 0 0 0))

/-- LISTEN_TIMEOUT (R367): the listen timer expires; a frame start later in the tick of its expiry would have counted (R51). -/
def execListenTimeout (s : State) : Host.Outcome State Fault Refusal :=
  live s (fun s =>
    if s.rlState ≠ 1 then s
    else
      let at_ := max s.tbu.pll (s.rl.listenFrom + s.listenTime)
      let s1 := s.expire (s.clockAt at_).toNat
      if s1.isSet Reg.RLC_CFG_COLDSTART then
        let s2 := ((s1.rlEnter 2).rlSetTime 0 ((at_ : Int) - 40960 * s1.rlNode) false).useMap []
        s2.sendUnposted s2.rlNode
      else s1.modRl (fun r => { r with listenFrom := at_ }))

/-- RL_FRAME_RX (R356): a frame has ended on channel A or B dt sixteenths from now, its reference point back sixteenths before
that. -/
def execRlFrameRx (chB code : Bool) (dt back : Nat) (octets : List Nat) (s : State) : Host.Outcome State Fault Refusal :=
  live s (fun s => (s.elapse dt).rlReceive chB code octets back)

/-- SLOT_END (R360). -/
def execSlotEnd (slot : Fin 80) (s : State) : Host.Outcome State Fault Refusal := live s (fun s => s.slotEnds slot)

/-- CYCLE_START (R351). -/
def execCycleStart (s : State) : Host.Outcome State Fault Refusal := live s State.cycleBegins

/-- NIT_START (R363). -/
def execNitStart (s : State) : Host.Outcome State Fault Refusal := live s State.nitBegins

/-- SEND_SLOT (R358): the start of a static or spare slot. -/
def execSendSlot (slot : Fin 80) (s : State) : Host.Outcome State Fault Refusal := live s (fun s => s.slotBegins slot)

/-- SPARE_CLAIM (R370 step 1). -/
def execSpareClaim (s : State) : Host.Outcome State Fault Refusal :=
  live s (fun s =>
    if s.rlState = 4 ∧ s.isSet Reg.RLC_CTRL_SPARE_WANT ∧ s.fld Reg.RLC_SPARE_SSTATE = 0 then s.pickSpare else s)

/-- SPARE_BACKOFF_END (R370 step 5). (DEDUCED, log 30) -/
def execSpareBackoffEnd (s : State) : Host.Outcome State Fault Refusal :=
  live s (fun s =>
    if s.fld Reg.RLC_SPARE_SSTATE = 3 ∧ s.rl.backoff = 0 then
      (if s.isSet Reg.RLC_CTRL_SPARE_WANT then s.pickSpare else s.setSpare 0)
    else s)

/-- SPARE_RELEASE (R371): agent a writes RLC_CTRL.SPARE_RELEASE. -/
def execSpareRelease (a : Nat) (s : State) : Host.Outcome State Fault Refusal :=
  live s (fun s => s.rlcWrite a Reg.RLC_CTRL ((s.reg Reg.RLC_CTRL).setField 3 3 1))

/-- SPARE_IDLE_EXPIRY (R371): a sync node frees spare 64 + i in the next cycle's slot map. -/
def execSpareIdleExpiry (i : Fin 16) (s : State) : Host.Outcome State Fault Refusal :=
  live s (fun s =>
    if s.isSet Reg.RLC_CFG_SYNC_NODE ∧ s.rlSends ∧ 128 ≤ s.mapOctet (64 + i)
        ∧ s.fld Reg.RLC_SYNC_SPARE_IDLE ≤ Tab.get 0 (64 + i) s.rl.idle then
      s.modRl (fun r => { r with mapNext := r.mapNext ++ [(64 + i.val, 0)], idle := Tab.put 0 (64 + i) 0 r.idle })
    else s)

/-- RQ_SLOT (R375). -/
def execRqSlot (s : State) : Host.Outcome State Fault Refusal := live s State.sendRq

/-- WR_SLOT (R375). -/
def execWrSlot (s : State) : Host.Outcome State Fault Refusal := live s State.sendWr

/-- RS_SLOT (R376). -/
def execRsSlot (s : State) : Host.Outcome State Fault Refusal := live s State.sendRs

/-- GRANT (R374). -/
def execGrant (s : State) : Host.Outcome State Fault Refusal :=
  live s (fun s => match s.rl.records with
    | .grant n :: _ => s.popRecord.modRl (fun r => { r with grant := n })
    | _ => s)

/-- READ_DATA (R377). -/
def execReadData (s : State) : Host.Outcome State Fault Refusal := live s State.answerRead

/-- FAIL_RECORD (R377). -/
def execFailRecord (s : State) : Host.Outcome State Fault Refusal := live s State.answerFail

/-- EVENT_RECORD (R376). -/
def execEventRecord (s : State) : Host.Outcome State Fault Refusal :=
  live s (fun s => match s.rl.records with
    | .event n :: _ =>
      let o := Reg.RLC_REVT (n / 32)
      (s.popRecord.setReg o ((s.reg o).setField (n % 32) (n % 32) 1)).raise 136
    | _ => s)

/-- END_RECORD (R374): nothing of the frame follows. -/
def execEndRecord (s : State) : Host.Outcome State Fault Refusal :=
  live s (fun s => match s.rl.records with
    | .done :: _ => s.popRecord
    | _ => s)

/-- REMOTE_READ_TIMEOUT (R377): the oldest read whose RS slot has passed without its READ_DATA. -/
def execRemoteReadTimeout (s : State) : Host.Outcome State Fault Refusal :=
  live s (fun s => match s.rl.waiting with
    | [] => s
    | x :: rest =>
      let s1 := if s.rlHolds ∧ s.rl.rqSent then s.rlAdvance (slotStart 83) else s
      (s1.modRl (fun r => { r with waiting := rest })).rlFail x 2)

/-- FAR_READ (R379): agent a writes RLC_FAR_CMD with OP READ. -/
def execFarRead (a : Nat) (node : Fin 64) (s : State) : Host.Outcome State Fault Refusal :=
  live s (fun s => s.writeFarCmd a (Word.ofN (1 + 4 * node)))

/-- FAR_WRITE (R379): agent a writes RLC_FAR_CMD with OP WRITE. -/
def execFarWrite (a : Nat) (node : Fin 64) (s : State) : Host.Outcome State Fault Refusal :=
  live s (fun s => s.writeFarCmd a (Word.ofN (2 + 4 * node)))

/-- ROOT_LOSS (R380): a STANDBY device takes over. -/
def execRootLoss (s : State) : Host.Outcome State Fault Refusal :=
  live s (fun s =>
    if s.rlSends ∧ s.fld Reg.RLC_ROOT_ROLE = 2 ∧ s.fld Reg.RLC_SYNC_ROOT_LOSS ≤ s.rl.rqSilence then
      (s.modRl (fun r => { r with tookOver := true })).judgeRoot
    else s)

/-- RQ_BACKOFF_END (R380). (DEDUCED, log 30) -/
def execRqBackoffEnd (s : State) : Host.Outcome State Fault Refusal :=
  live s (fun s =>
    if s.rl.rqBackoff = some 0 then
      (s.modRl (fun r => { r with rqBackoff := none, tookOver := r.tookOver && !r.rqHeard })).judgeRoot
    else s)

/-- RLC_FAIL_READ (R384). -/
def execRlcFailRead (a : Nat) (s : State) : Host.Outcome State Fault Refusal :=
  live s (fun s => let (w, s1) := s.rlcRead Reg.RLC_FAIL; s1.emit (.read a w false))

/-- SLOTCNT_READ (R384). -/
def execSlotcntRead (a : Nat) (slot : Fin 80) (s : State) : Host.Outcome State Fault Refusal :=
  live s (fun s => let (w, s1) := s.rlcRead (Reg.RLC_SLOTCNT slot); s1.emit (.read a w false))

end Sys2Proof.Machine
end

