-- ==== Sys2Proof/Machine/Strata.lean ====
section
/-! DEFINITION. The fault log: its ring, its registers, and the copies of shadowed units (spec/18_faults_availability.md). -/
namespace Sys2Proof.Machine

/-- Whether a SOURCE number is that of a shadowed unit (R501, R515). -/
def isShadowed (u : Nat) : Bool :=
  (0x40 ≤ u && u ≤ 0x76) || [0xA0, 0xA2, 0xA3, 0xA4, 0xA9, 0xAA, 0xB9, 0xBC].contains u

namespace State

/-- Records in the ring that software has not consumed (R504). -/
def strataUnread (s : State) : Nat :=
  (s.fld Reg.STRATA_HEAD_HEAD + 2 ^ 16 - s.fld Reg.STRATA_TAIL_TAIL) % 2 ^ 16

/-- The four words of the record of a pending entry (R506). -/
def recordWords (r : Report) : List Word :=
  [Word.ofN (2 ^ 28 * r.source + 2 ^ 19 * r.type + 2 ^ 17 * classOf r.type + 2 ^ 16 * bit01 r.lasting
      + r.detail % 2 ^ 16),
   Word.ofN r.tsw, Word.ofN r.arg,
   Word.ofN (2 ^ 30 * (r.agent % 64) + 2 ^ 24 * (r.agent2 % 64) + r.count)]

/-- Four registers from offset o on take the words of a record. -/
def putRecord (s : State) (o : Nat) (r : Report) : State :=
  (List.range 4).foldl (fun s i => s.setReg (o + 8 * i) ((recordWords r).getD i 0)) s

/-- The oldest pending entry is written into the ring as a record (R503, R504, R507). -/
def writeRecord (s : State) : State :=
  match s.strata.intake with
  | [] => s
  | r :: rest =>
    if s.strataUnread = 512 then s
    else
      let s1 := match s.strata.lastWrite with
        | some t => s.advanceTo (t + 100 * Config.ns)
        | none => s
      let s2 := { s1 with strata := { s1.strata with intake := rest, lastWrite := some s1.clk } }
      let head := s2.fld Reg.STRATA_HEAD_HEAD
      let s3 := (s2.putRecord (Reg.STRATA_REC (head % 512) 0) r).setFld Reg.STRATA_HEAD_HEAD (head + 1)
      let s4 := if s3.isSet Reg.STRATA_STAT_FIRST_VALID then s3
        else (s3.putRecord (Reg.STRATA_FIRST 0) r).setFld Reg.STRATA_STAT_FIRST_VALID 1
      s4.raise 184

/-- A write of STRATA_TAIL (R504). -/
def writeStrataTail (s : State) (a : Nat) (w : Word) : State :=
  let step := (w.field 15 0 + 2 ^ 16 - s.fld Reg.STRATA_TAIL_TAIL) % 2 ^ 16
  if s.strataUnread < step then s.reject a Reg.STRATA_TAIL else s.setFld Reg.STRATA_TAIL_TAIL (w.field 15 0)

/-- FIRST_VALID is cleared (R507). -/
def rearm (s : State) : State := s.setFld Reg.STRATA_STAT_FIRST_VALID 0

/-- A write of STRATA_WCFGk: of the actions only REPORT and the kind's own are assigned (R525). -/
def writeWcfg (s : State) (a k : Nat) (w : Word) : State :=
  let o := Reg.STRATA_WCFG k
  let act := w.field 18 16
  let own := if k ≤ 3 then k + 1 else 0
  if s.expert o ∧ act ≠ 0 ∧ act ≠ own then
    (s.writeGeneric a o (w.setField 18 16 ((s.reg o).field 18 16))).reject a o
  else s.writeGeneric a o w

/-- A write of STRATA_CTRL (R507, R513). -/
def writeStrataCtrl (s : State) (a : Nat) (w : Word) : State :=
  let s1 := s.writeGeneric a Reg.STRATA_CTRL w
  let s2 := if w.bit 0 then s1.rearm else s1
  s2.judgeAllStranded

/-- A read in the Strata block at BAR0 offset o. -/
def strataRead (s : State) (o : Nat) : Word × State :=
  if o = Reg.STRATA_STAT then
    (((s.reg o).setField 4 0 s.strata.intake.length).setField 6 6 (bit01 (s.strataUnread == 512)), s)
  else s.readGeneric o

/-- A write by an agent in the Strata block at BAR0 offset o; Crag engines are refused (R524). -/
def strataWrite (s : State) (a o : Nat) (w : Word) : State :=
  let r := o - 0x30000
  if isCrag a then s.reject a o
  else if r = 0x08 then s.writeStrataCtrl a w
  else if r = 0x20 then s.writeStrataTail a w
  else if 0x80 ≤ r ∧ r < 0xB8 ∧ r % 8 = 0 then s.writeWcfg a ((r - 0x80) / 8) w
  else s.writeGeneric a o w

/-- The copies of shadowed unit u. -/
def copies (s : State) (u : Nat) : CopyState := Tab.get {} u s.strata.copies

/-- s with the copies of unit u replaced. -/
def setCopies (s : State) (u : Nat) (x : CopyState) : State :=
  { s with strata := { s.strata with copies := Tab.put {} u x s.strata.copies } }

/-- Unit u goes on with copy c alone: COPY_SWITCH is reported, and the other copy is resynchronised unless it has been
retired (R510, R511, R515). -/
def switchCopy (s : State) (u c : Nat) : State :=
  let s1 := (s.setCopies u { s.copies u with onCopy := c, testing := none }).report u 259 0 0 0 0
  if (s1.copies u).retired then s1 else s1.setCopies u { s1.copies u with onCopy := 0 }

end State

/-! ### The commands of the fault log -/

/-- STRATA_RECORD_WRITE (R503). -/
def execStrataRecordWrite (s : State) : Host.Outcome State Fault Refusal := live s State.writeRecord

/-- STRATA_TAIL_WRITE (R504), refused to Crag engines (R524). -/
def execStrataTailWrite (a : Nat) (w : Word) (s : State) : Host.Outcome State Fault Refusal :=
  live s (fun s => if isCrag a then s.reject a Reg.STRATA_TAIL else s.writeStrataTail a w)

/-- REARM (R507), refused to Crag engines (R524). -/
def execRearm (a : Nat) (s : State) : Host.Outcome State Fault Refusal :=
  live s (fun s => if isCrag a then s.reject a Reg.STRATA_CTRL else s.rearm)

/-- STRATA_LAST_READ (R508). -/
def execStrataLastRead (a : Nat) (n : Fin 190) (s : State) : Host.Outcome State Fault Refusal :=
  live s (fun s => let (w, s1) := s.readGeneric (Reg.STRATA_LAST n); s1.emit (.read a w false))

/-- STRATA_WSTAT_READ (R525). -/
def execStrataWstatRead (a : Nat) (s : State) : Host.Outcome State Fault Refusal :=
  live s (fun s => let (w, s1) := s.readGeneric Reg.STRATA_WSTAT; s1.emit (.read a w false))

/-- STRATA_LOST_READ (R525). -/
def execStrataLostRead (a : Nat) (k : Fin 4) (s : State) : Host.Outcome State Fault Refusal :=
  live s (fun s => let (w, s1) := s.readGeneric (Reg.STRATA_LOST k); s1.emit (.read a w false))

/-- COPY_FAULT (R515): the copies of shadowed unit u differ. f: 0 neither flags and the repeated step agrees; 1 or 2 that
copy flags; 3 they differ again and the pattern test starts. -/
def execCopyFault (u : Fin 190) (f : Fin 4) (s : State) : Host.Outcome State Fault Refusal :=
  live s (fun s =>
    if ¬ isShadowed u ∨ (s.copies u).retired ∨ (s.copies u).testing.isSome ∨ f = 0 then s
    else if f = 3 then s.setCopies u { s.copies u with testing := some s.clk }
    else s.switchCopy u (3 - f))

/-- COPY_TEST_DONE (R515): the pattern test of unit u ends 1 µs after its start; copy pass + 1 passes. -/
def execCopyTestDone (u : Fin 190) (pass : Fin 2) (s : State) : Host.Outcome State Fault Refusal :=
  live s (fun s =>
    match (s.copies u).testing with
    | none => s
    | some t => (s.advanceTo (t + Config.us)).switchCopy u (pass + 1))

end Sys2Proof.Machine
end

