-- ==== Sys2Proof/Machine/Fwc.lean ====
section
/-! DEFINITION. Firmware control: image transfer and proof, slots, live activation, configuration blocks, life-cycle and
tamper (spec/17_firmware_configuration.md). -/
namespace Sys2Proof.Machine
namespace State

/-! ### Registers that show flash and fuses -/

/-- FWC_SLOTk (R500). -/
def slotView (s : State) (k : Nat) : Word :=
  let f := s.fwc.flash
  let (st, failed) := f.slotState k
  let svn := if s.headerOk k then f.svn k else 0
  Word.ofN (st + 2 ^ 3 * bit01 failed + 2 ^ 4 * bit01 (s.fwc.booted == some k) + 2 ^ 5 * f.okCount k + 2 ^ 20 * svn)

/-- FWC_BITMAP: the sixteen pieces that FWC_BITMAP_SEL selects (R500). -/
def bitmapView (s : State) : Word :=
  let k := s.fld Reg.FWC_BITMAP_SEL_SLOT
  let g := s.fld Reg.FWC_BITMAP_SEL_GROUP
  Word.ofN (s.fwc.flash.groupStates k (g / 8) / 4 ^ (16 * (g % 8)) % 2 ^ 32)

/-- FWC_CFG_STAT (R500). -/
def cfgStat (s : State) : Word :=
  let (b, g) := s.fwc.flash.activeCfg
  ((s.reg Reg.FWC_CFG_STAT).setField 0 0 b).setField 16 1 g

/-- FWC_KEYSTAT (R500). -/
def keyStat (s : State) : Word :=
  Word.ofN (s.fuses.keyValid % 16 + 2 ^ 4 * (s.fuses.keyRevoked % 16) + 2 ^ 8 * s.fuses.minSvn)

/-- FWC_LC_STAT (R500); the read clears REASON. -/
def readLcStat (s : State) : Word × State :=
  let (w, s1) := s.readGeneric Reg.FWC_LC_STAT
  (w.setField 2 0 s.fuses.lifecycle, s1)

/-- A read by an agent in the FWC block at BAR0 offset o. -/
def fwcRead (s : State) (o : Nat) : Word × State :=
  let r := o - 0x80000
  if r = 0x20 ∨ r = 0x28 then (s.slotView ((r - 0x20) / 8), s)
  else if r = 0x38 then (s.bitmapView, s)
  else if r = 0x68 then (s.cfgStat, s)
  else if r = 0x78 then s.readLcStat
  else if r = 0x80 then (s.keyStat, s)
  else s.readGeneric o

/-! ### Image transfer (R479 to R481) -/

/-- The operation of FWC_XFER_CMD ends, or stands, with a result (R500). -/
def xferResult (s : State) (busy result : Nat) : State :=
  (s.setFld Reg.FWC_XFER_CMD_BUSY busy).setFld Reg.FWC_XFER_CMD_RESULT result

/-- STATE of a slot. -/
def slotSt (s : State) (k : Nat) : Nat := (s.fwc.flash.slotState k).1

/-- Whether a STAGE of either slot is in progress; operations on the slots are then not allowed (log 51).
(DEDUCED, log 51) -/
def stagingNow (s : State) : Bool := s.fwc.staging.isSome

/-- BEGIN on slot k (R479). (DEDUCED, log 51 and 54) -/
def beginXfer (s : State) (k : Nat) : State :=
  if s.fwc.booted = some k ∨ 4 ≤ s.slotSt k ∨ s.stagingNow then s.xferResult 0 2
  else
    let s1 := s.setFlash (s.fwc.flash.putSlot k 1)
    { s1 with fwc := { s1.fwc with erasing := some k } }.xferResult 1 0

/-- The erase of a slot ends (R479). (DEDUCED, log 54) -/
def eraseDone (s : State) (ok : Bool) : State :=
  match s.fwc.erasing with
  | none => s
  | some k =>
    let s1 := { s with fwc := { s.fwc with erasing := none } }
    if ok then (s1.setFlash ((s1.fwc.flash.eraseSlot k).putSlot k 2)).xferResult 0 1 else s1.xferResult 0 3

/-- ABORT on slot k (R479, R482). -/
def abortXfer (s : State) (k : Nat) : State :=
  if (s.slotSt k = 2 ∨ s.slotSt k = 3) ∧ ¬ s.stagingNow then (s.setFlash (s.fwc.flash.putSlot k 0)).xferResult 0 1
  else s.xferResult 0 2

/-- A write of FWC_PIECE_CMD (R480). -/
def writePiece (s : State) (a : Nat) (w : Word) : State :=
  if ¬ (isSteward a || a == 51 || a == 52) ∨ s.isSet Reg.FWC_PIECE_STAT_BUSY then s.reject a Reg.FWC_PIECE_CMD
  else
    let (l, s1) := s.shelfOctets (256 * w.field 23 16) 256
    let s2 := { s1 with fwc := { s1.fwc with
      job := some { slot := w.field 15 15, piece := w.field 14 0, octets := l } } }
    s2.setFld Reg.FWC_PIECE_STAT_BUSY 1

/-- A slot whose every piece is OK becomes COMPLETE (R481). -/
def settleComplete (s : State) (k : Nat) : State :=
  let f := s.fwc.flash
  if s.headerOk k ∧ f.slotState k = (2, (f.slotState k).2)
      ∧ (List.range (1 + f.tablePieces k + f.bodyPieces k)).all (fun p => f.pieceState k p == 2) then
    (s.setFlash (f.putSlot k 3)).raise 190
  else s

/-- Pieces p of a list that satisfy c take a state. -/
def markPieces (f : Flash) (k v : Nat) (c : Nat → Bool) (ps : List Nat) : Flash :=
  (ps.filter c).foldl (fun f p => f.putPieceState k p v) f

/-- The table is checked once its last piece is present (R481). (DEDUCED, log 54) -/
def settleTable (s : State) (k : Nat) : State :=
  let f := s.fwc.flash
  let table := (List.range (f.tablePieces k)).map (· + 1)
  if s.headerOk k ∧ table.all (fun p => f.pieceState k p != 0) ∧ table.any (fun p => f.pieceState k p == 1) then
    if f.tableDigest k = beAt (f.piece k 0) 32 48 then s.setFlash (markPieces f k 2 (fun _ => true) table)
    else (s.setFlash (markPieces f k 0 (fun _ => true) table)).raise 191
  else s

/-- Once the header is accepted, pending pieces beyond the image return to NONE (R481). -/
def settleBeyond (s : State) (k : Nat) : State :=
  let f := s.fwc.flash
  let n := 1 + f.tablePieces k + f.bodyPieces k
  s.setFlash (markPieces f k 0 (fun p => f.pieceState k p == 1) ((List.range (24576 - n)).map (· + n)))

/-- Whether the digest table of a slot is known. -/
def tableOk (s : State) (k : Nat) : Bool :=
  s.headerOk k && (List.range (s.fwc.flash.tablePieces k)).all (fun i => s.fwc.flash.pieceState k (1 + i) == 2)

/-- The result of a piece and the REASON that goes with it (R480). (DEDUCED, log 54) -/
def judgePiece (s : State) (j : PieceJob) : Nat × Nat :=
  let f := s.fwc.flash
  let t := f.tablePieces j.slot
  if s.slotSt j.slot ≠ 2 ∨ 24576 ≤ j.piece ∨ (s.headerOk j.slot ∧ 1 + t + f.bodyPieces j.slot ≤ j.piece) then (6, 0)
  else if f.pieceState j.slot j.piece = 2 then (2, 0)
  else if j.piece = 0 then
    let reason := s.headerReason j.octets
    if reason = 0 then (1, 0) else (5, reason)
  else if s.tableOk j.slot ∧ t < j.piece then
    (if Config.sha384 j.octets = f.bodyDigest j.slot (j.piece - 1 - t) then (1, 0) else (4, 0))
  else (3, 0)

/-- The piece is judged, stored where it may be, and reported (R480, R481). -/
def pieceDone (s : State) : State :=
  match s.fwc.job with
  | none => s
  | some j =>
    let (res, reason) := s.judgePiece j
    let f := s.fwc.flash
    let s1 := if res = 1 ∨ res = 3 then
        s.setFlash ((f.putPiece j.slot j.piece j.octets).putPieceState j.slot j.piece (if res = 1 then 2 else 1))
      else s
    let s2 := { s1 with fwc := { s1.fwc with job := none } }
    let s3 := s2.setReg Reg.FWC_PIECE_STAT (Word.ofN (j.piece + 2 ^ 15 * j.slot + 2 ^ 16 * res + 2 ^ 19 * reason))
    let s4 := s3.raise (if res ≤ 3 then 188 else 189)
    let s5 := if res = 1 ∧ j.piece = 0 then s4.settleBeyond j.slot else s4
    if res = 1 ∨ res = 3 then (s5.settleTable j.slot).settleComplete j.slot else s5

/-- The slot and number of the pending body piece that is read back next: the lowest of the lowest slot (R481). -/
def nextPending (s : State) : Option (Nat × Nat) :=
  let f := s.fwc.flash
  (([0, 1].filter (fun k => s.slotSt k == 2 && s.tableOk k)).flatMap (fun k =>
    ((List.range (f.bodyPieces k)).map (· + (1 + f.tablePieces k))).filterMap (fun p =>
      if f.pieceState k p = 1 then some (k, p) else none))).head?

/-- A pending body piece is read back and judged (R481). -/
def pendingCheck (s : State) : State :=
  match s.nextPending with
  | none => s
  | some (k, p) =>
    let f := s.fwc.flash
    if Config.sha384 (f.piece k p) = f.bodyDigest k (p - 1 - f.tablePieces k) then
      (s.setFlash (f.putPieceState k p 2)).settleComplete k
    else (s.setFlash (f.putPieceState k p 0)).raise 189

/-! ### Slots and live activation (R482 to R488) -/

/-- Whether a slot other than k is STAGED, NEXT_BOOT or TRIAL (R482). -/
def otherTaken (s : State) (k : Nat) : Bool := decide (4 ≤ s.slotSt (1 - k) ∧ s.slotSt (1 - k) ≤ 6)

/-- Whether some enabled task has an entry point in the running image's table that the image of slot k gives otherwise
(R485). -/
def entriesDiffer (s : State) (k : Nat) : Bool :=
  match s.fwc.running with
  | none => false
  | some r =>
    let old := s.fwc.flash.entryTable r
    let new := s.fwc.flash.entryTable k
    old.any (fun x => x.1 < 1024 && s.isSet (Reg.TALUS_TCFG_EN x.1) && new.find? (fun y => y.1 == x.1) != some x)

/-- STAGE of slot k (R485). (DEDUCED, log 51) -/
def stage (s : State) (k : Nat) : State :=
  if s.slotSt k ≠ 3 ∨ s.fwc.running = some k ∨ s.stagingNow ∨ s.otherTaken k
      ∨ (List.range 12).any (fun c => s.isSet (Reg.PRC_CLS_IMG_VALID c)) ∨ s.entriesDiffer k then s.xferResult 0 2
  else
    let st : Staging := { slot := k, standby := 1 - s.fld Reg.TALUS_CTRL_ACTIVE_SE }
    { s with fwc := { s.fwc with staging := some st } }.xferResult 1 0

/-- A steward switches to a bank and starts there at word 0. -/
def restartSteward (s : State) (i bank : Nat) : State :=
  let e := 48 + i
  let s1 := (s.endTask e).modEngine e (fun g => { g with bank := bank })
  (s1.setFld (Reg.CE_CTRL_BANK e) bank).startSteward i

/-- The image a steward runs. (DEDUCED, log 55) -/
def stewardImage (s : State) (i : Nat) : Option Nat := if i = 0 then s.fwc.image0 else s.fwc.image1

/-- s with the image a steward runs. -/
def setImage (s : State) (i : Nat) (k : Option Nat) : State :=
  { s with fwc := if i = 0 then { s.fwc with image0 := k } else { s.fwc with image1 := k } }

/-- The programs of the image of slot k are written into every inactive bank (R485 step 1). -/
def loadInactive (s : State) (k : Nat) : State :=
  let f := s.fwc.flash
  let other (s : State) (e : Nat) : Nat := 1 - (s.engine e).bank
  let s1 := (List.range 48).foldl (fun s e => s.loadProgram e (other s e) 0 ((f.engineProgram k e).getD [])) s
  let stw := (f.part k 1 (fun _ => true)).getD []
  [48, 49].foldl (fun s e => s.loadProgram e (other s e) 0 stw) s1

/-- The standby steward starts the staged image (R485 steps 1 to 3). -/
def firstStart (s : State) : State :=
  match s.fwc.staging with
  | none => s
  | some st =>
    if st.started then s
    else
      let s1 := s.loadInactive st.slot
      let s2 := s1.restartSteward st.standby (1 - (s1.engine (48 + st.standby)).bank)
      let s3 := s2.setImage st.standby (some st.slot)
      { s3 with fwc := { s3.fwc with staging := some { st with started := true }, migrated := false } }

/-- The staging whose new image the steward of an agent runs as standby (R485). -/
def startedBy (s : State) (a : Nat) : Option Staging :=
  s.fwc.staging.bind (fun st => if st.started ∧ a = 49 + st.standby then some st else none)

/-- HANDOVER (R485 steps 4 and 5). -/
def handover (s : State) (a : Nat) : State :=
  match s.startedBy a with
  | none => s.reject a Reg.FWC_ACT_CTRL
  | some st =>
    let former := 1 - st.standby
    let s1 := (s.setFld Reg.TALUS_CTRL_ACTIVE_SE st.standby).raise 203
    let s2 := s1.setFld (Reg.CE_CTRL_BANK (48 + former)) (1 - (s1.engine (48 + former)).bank)
    let s3 := s2.setImage former (some st.slot)
    let s4 := s3.setFlash (s3.fwc.flash.putSlot st.slot 4)
    { s4 with fwc := { s4.fwc with staging := none, restart := some former } }.xferResult 0 1

/-- REVERT by the new image's steward before its handover (R485). -/
def revertStage (s : State) (a : Nat) : State :=
  match s.startedBy a with
  | none => s.reject a Reg.FWC_ACT_CTRL
  | some st =>
    let s1 := s.restartSteward st.standby (1 - (s.engine (48 + st.standby)).bank)
    let s2 := s1.setImage st.standby (s1.stewardImage (1 - st.standby))
    { s2 with fwc := { s2.fwc with staging := none } }.setFld Reg.FWC_XFER_CMD_BUSY 0

/-- UNSTAGE of slot k (R488). -/
def unstage (s : State) (k : Nat) : State :=
  if s.slotSt k = 4 ∧ s.fwc.activation = none then (s.setFlash (s.fwc.flash.putSlot k 3)).xferResult 0 1
  else s.xferResult 0 2

/-- BOOT_NEXT of slot k (R482). (DEDUCED, log 51) -/
def bootNext (s : State) (k : Nat) : State :=
  if s.slotSt k = 3 ∧ ¬ s.otherTaken k ∧ ¬ s.stagingNow then (s.setFlash (s.fwc.flash.putSlot k 5)).xferResult 0 1
  else s.xferResult 0 2

/-- COMMIT of slot k (R482, R484): from a steward that runs the image, after its migration. -/
def commit (s : State) (a k : Nat) : State :=
  if s.slotSt k = 6 ∧ s.fwc.running = some k ∧ isSteward a ∧ s.stewardImage (a - 49) = some k ∧ s.fwc.migrated then
    let f := s.fwc.flash
    let f1 := if (f.slotState (1 - k)).1 = 7 then f.putSlot (1 - k) 3 else f
    let (b, g) := f1.activeCfg
    let s1 := s.setFlash ((f1.write (.slotCfg k b g)).putSlot k 7)
    let s2 := { s1 with fuses := { s1.fuses with minSvn := max s1.fuses.minSvn (f.svn k) } }
    s2.xferResult 0 1
  else s.xferResult 0 2

/-- A write of FWC_XFER_CMD (R500). -/
def writeXfer (s : State) (a : Nat) (w : Word) : State :=
  let k := w.field 3 3
  match w.field 2 0 with
  | 1 => s.beginXfer k
  | 2 => s.abortXfer k
  | 3 => s.stage k
  | 4 => s.unstage k
  | 5 => s.bootNext k
  | 6 => s.commit a k
  | _ => s.reject a Reg.FWC_XFER_CMD

/-- Ticks from the present tick to the tick of FWC_ACT_AT, modulo 2^29. -/
def actSlack (s : State) : Nat :=
  (s.fld Reg.FWC_ACT_AT_AT / 128 + 2 ^ 29 - s.tsw / 128 % 2 ^ 29) % 2 ^ 29

/-- The STAGED slot. -/
def stagedSlot (s : State) : Option Nat := [0, 1].find? (fun k => s.slotSt k == 4)

/-- GO (R486). -/
def activateGo (s : State) (a : Nat) : State :=
  match s.stagedSlot with
  | none => s.reject a Reg.FWC_ACT_CTRL
  | some k =>
    if s.actSlack = 0 ∨ 2 ^ 28 ≤ s.actSlack ∨ s.fwc.activation.isSome then s.reject a Reg.FWC_ACT_CTRL
    else
      let act : Activation := { slot := k, atTick := s.tick + s.actSlack }
      { s with fwc := { s.fwc with activation := some act } }.setReg Reg.FWC_ACT_STAT 1

/-- An engine has switched its bank during an activation (R487). -/
def noteSwitch (s : State) (e : Nat) : State :=
  match s.fwc.activation with
  | none => s
  | some act =>
    let mark := Tab.get 0 e act.starts
    if mark = 0 ∨ act.switched.contains e then s
    else
      let pause := s.clk + 1 - mark
      let s1 := { s with fwc := { s.fwc with activation := some { act with switched := e :: act.switched } } }
      let s2 := s1.bump Reg.FWC_ACT_STAT_SWITCHED 1
      let longest := max (s2.fld Reg.FWC_ACT_STAT_MAX_PAUSE) (min (2 ^ 14 - 1) ((pause + 127) / 128))
      let s3 := s2.setFld Reg.FWC_ACT_STAT_MAX_PAUSE longest
      let s4 := if 8 * Config.us < pause then
          (s3.bumpSat Reg.FWC_ACT_STAT_SLOW 1).report e 258 0 pause 0 0
        else s3
      if act.switched.length + 1 = 48 then
        let s5 := (s4.setFlash (s4.fwc.flash.putSlot act.slot 6)).setFld Reg.FWC_ACT_STAT_STATE 3
        { s5 with fwc := { s5.fwc with activation := none, running := some act.slot } }.raise 192
      else s4

/-- An engine that is at a commit boundary switches to the bank CE_CTRL names (R71, R486, R487). A steward restarts there
as standby where HANDOVER has told it to (R485). -/
def switchBank (s : State) (e : Nat) : State :=
  let b := s.fld (Reg.CE_CTRL_BANK e)
  let g := s.engine e
  if b = g.bank ∨ g.run.isSome ∨ ¬ g.cq.isEmpty then s
  else (s.modEngine e (fun g => { g with bank := b })).noteSwitch e

/-- The engines of a group at its instant: the second group's are the odd-numbered ones with PAIR_EN (R486). -/
def groupEngines (s : State) (g : Nat) (act : Activation) : List Nat :=
  let second (e : Nat) : Bool := e % 2 == 1 && s.isSet (Reg.CE_CTRL_PAIR_EN e)
  (List.range 48).filter (fun e => if g = 0 then !second e else Tab.get 0 e act.starts == 0)

/-- The instant of a group comes: its engines take no dispatch until they have switched (R486, R487). (DEDUCED, log 55) -/
def activateGroup (s : State) (g : Nat) : State :=
  match s.fwc.activation with
  | none => s
  | some act =>
    if act.groups.contains g ∨ (g = 1 ∧ ¬ act.groups.contains 0) then s
    else
      let s1 := s.advanceToTime (act.atTick * 128 + g * (s.fld Reg.FWC_LIMITS_STAGGER * Config.us))
      let es := s1.groupEngines g act
      let act1 := { act with
        groups := g :: act.groups
        starts := es.foldl (fun t e => Tab.put 0 e (s1.clk + 1) t) act.starts }
      let s2 := { s1 with fwc := { s1.fwc with activation := some act1 } }.setFld Reg.FWC_ACT_STAT_STATE 2
      let s3 := es.foldl (fun s e => s.setFld (Reg.CE_CTRL_BANK e) (1 - (s.engine e).bank)) s2
      (es.filter (fun e => (s3.engine e).retired)).foldl switchBank s3

/-- MIGRATED (R493). -/
def migrated (s : State) : State := { s with fwc := { s.fwc with migrated := true } }.raise 193

/-- MIG_FAIL (R493). -/
def migFail (s : State) : State := s.raise 194

/-- A write of FWC_ACT_CTRL (R500). -/
def writeActCtrl (s : State) (a : Nat) (w : Word) : State :=
  let s1 := if w.bit 0 then s.activateGo a else s
  let s2 := if w.bit 1 then s1.handover a else s1
  let s3 := if w.bit 2 then s2.revertStage a else s2
  let s4 := if w.bit 3 then s3.migrated else s3
  if w.bit 4 then s4.migFail else s4

/-! ### Configuration blocks (R490 to R492) -/

/-- A configuration operation ends at CFG_OP_DONE with a result (R492). -/
def cfgStart (s : State) (result : Nat) (version : Option Nat) : State :=
  { s with fwc := { s.fwc with cfgDone := some (result, version) } }.setFld Reg.FWC_CFG_CMD_BUSY 1

/-- Whether a block read for LOAD passes its checks (R490). -/
def blockPasses (b gen version : Nat) (any : Bool) (l : List Nat) : Bool :=
  blockHolds l && leAt l 0 2 == b && leAt l 8 4 == gen && (any || leAt l 2 2 == version)

/-- Block b is replaced by its defaults: GCTL_STATUS, the counts and the reports of R490. (DEDUCED, log 56) -/
def noteDefaulted (s : State) (b : Nat) : State :=
  let s1 := (s.setFld Reg.GCTL_STATUS_CFG_DEFAULTED 1).setFld Reg.GCTL_STATUS_CFG_BLOCK b
  let s2 := (s1.setFld Reg.FWC_CFG_STAT_LAST_DEFAULTED b).bumpSat Reg.FWC_CFG_STAT_DEFAULTED 1
  (s2.raise 4).report 0xBB 4 b 0 0 0

/-- LOAD by the steward that runs the image of slot k (R490). (DEDUCED, log 56) -/
def cfgLoad (s : State) (k : Option Nat) (b shelf : Nat) (any : Bool) : State :=
  let f := s.fwc.flash
  let (bank, gen) := f.activeCfg
  let version := (k.map f.cfgVersion).getD 0
  let l := f.cfgBlock bank b
  if blockPasses b gen version any l then (s.toShelf (256 * shelf) l).cfgStart 1 (some (leAt l 2 2))
  else
    let dflts := (k.bind (fun k => f.part k 4 (fun _ => true))).getD []
    match findDefault b (dflts.length) dflts with
    | some d =>
      let x := blockOctets b (leAt d 2 2) gen ((d.drop 16).take (leAt d 4 4))
      ((s.toShelf (256 * shelf) x).noteDefaulted b).cfgStart 2 (some (leAt d 2 2))
    | none =>
      ((s.toShelf (256 * shelf) (blockOctets b version gen [])).noteDefaulted b).cfgStart 3 (some version)

/-- The octets of the block that stands in Shelf RAM at a word offset. -/
def shelfBlock (s : State) (a : Nat) : List Nat × State :=
  let (h, s1) := s.shelfOctets a 4
  let n := min 16388 (20 + leAt h 4 4)
  let (l, s2) := s1.shelfOctets a ((n + 3) / 4)
  (l.take n, s2)

/-- WRITE (R489, R491, R493). (DESIGN CHOICE, log 14; DEDUCED, log 56) -/
def cfgWrite (s : State) (k : Option Nat) (shelf : Nat) : State :=
  let (l, s1) := s.shelfBlock (256 * shelf)
  let f := s1.fwc.flash
  let bank := 1 - f.activeCfg.1
  let b := leAt l 0 2
  let used := (f.cfgBank bank).foldl (fun n x => n + x.length) 0
  if ¬ blockHolds l then s1.cfgStart 4 none
  else if k.map f.cfgVersion ≠ some (leAt l 2 2) then s1.cfgStart 7 none
  else if f.cfgBlock bank b ≠ [] then s1.cfgStart 5 none
  else if 2 ^ 21 < used + l.length then
    let (n, s2) := s1.free
    s2.cfgStart (Config.cfgBankFull n % 8) none
  else (s1.setFlash { f with cfg := Tab.put [] (1024 * bank + b) l f.cfg }).cfgStart 1 none

/-- ERASE (R491). -/
def cfgErase (s : State) : State :=
  let f := s.fwc.flash
  let bank := 1 - f.activeCfg.1
  (s.setFlash { f with cfg := Tab.drop (fun x => x / 1024 == bank) f.cfg }).cfgStart 1 none

/-- SWITCH or REVERT to the inactive bank, whose GENERATION must be g: it is active once the operation is complete, so that a reset
before leaves the old bank active (R491). (DEDUCED, log 56) -/
def cfgActivate (s : State) (g : Nat) : State :=
  let f := s.fwc.flash
  let bank := 1 - f.activeCfg.1
  if f.bankGen bank = some g then { s with fwc := { s.fwc with cfgRecord := some (.activeCfg bank g) } }.cfgStart 1 none
  else s.cfgStart 6 none

/-- SWITCH (R491). -/
def cfgSwitch (s : State) : State := s.cfgActivate ((s.fwc.flash.activeCfg.2 + 1) % 2 ^ 32)

/-- REVERT (R491). (DEDUCED, log 56) -/
def cfgRevert (s : State) : State := s.cfgActivate ((s.fwc.flash.activeCfg.2 + 2 ^ 32 - 1) % 2 ^ 32)

/-- Whether a write of FWC_CFG_CMD by an agent is refused (R492). -/
def cfgRefused (s : State) (a : Nat) : Bool := !isSteward a || s.isSet Reg.FWC_CFG_CMD_BUSY

/-- A write of FWC_CFG_CMD (R490 to R492, R500). -/
def writeCfgCmd (s : State) (a : Nat) (w : Word) : State :=
  let k := s.stewardImage (a - 49)
  let shelf := w.field 20 13
  if s.cfgRefused a then s.reject a Reg.FWC_CFG_CMD
  else match w.field 2 0 with
    | 1 => s.cfgLoad k (w.field 12 3) shelf (w.bit 21)
    | 2 => s.cfgWrite k shelf
    | 3 => s.cfgErase
    | 4 => s.cfgSwitch
    | 5 => s.cfgRevert
    | _ => s.reject a Reg.FWC_CFG_CMD

/-- The configuration operation in progress ends (R492). -/
def cfgOpDone (s : State) : State :=
  match s.fwc.cfgDone with
  | none => s
  | some (result, version) =>
    let s1 := (s.setFld Reg.FWC_CFG_CMD_BUSY 0).setFld Reg.FWC_CFG_CMD_RESULT result
    let s2 := match version with
      | some v => s1.setFld Reg.FWC_CFG_CMD_VERSION v
      | none => s1
    let s3 := match s2.fwc.cfgRecord with
      | some r => s2.setFlash (s2.fwc.flash.write r)
      | none => s2
    { s3 with fwc := { s3.fwc with cfgDone := none, cfgRecord := none } }

/-! ### Life-cycle (R494, R495) -/

/-- A request of FWC_LC_CMD is refused with a REASON. -/
def lcRefuse (s : State) (a reason : Nat) : State :=
  (s.reject a Reg.FWC_LC_CMD).setFld Reg.FWC_LC_STAT_REASON reason

/-- Why a request is refused whatever its target: a wrong key counts as TRANSITION (log 52); 0 where it is not.
(DEDUCED, log 52 and 57) -/
def lcReason (s : State) (a key : Nat) : Nat :=
  if key ≠ 0xC3A then 1
  else if isSteward a ∨ (a = 51 ∧ s.fuses.lifecycle ≤ 1) then 0
  else 2

/-- An accepted transition: wipe, fuses, event and record (R495). -/
def transition (s : State) (target : Nat) : State :=
  let old := s.fuses.lifecycle
  let s1 := s.startWipe.finishWipe
  let s2 := { s1 with fuses := { s1.fuses with lifecycle := target } }
  (s2.raise 195).report 0xBB 195 target old 0 0

/-- Whether a valid return authorisation stands in Shelf RAM (R495). -/
def returnAuthorised (s : State) (shelf : Nat) : Bool × State :=
  let (h, s1) := s.shelfOctets (256 * shelf) 256
  (s1.headerReason h == 0 && beAt h 20 4 == 1 && beAt h 16 4 == 1 && beAt h 32 48 == Config.sha384 s1.serialOctets, s1)

/-- PROVISION. -/
def lcProvision (s : State) (a key : Nat) : State :=
  if s.lcReason a key ≠ 0 then s.lcRefuse a (s.lcReason a key)
  else if s.fuses.lifecycle = 0 then s.transition 1 else s.lcRefuse a 1

/-- FIELD. -/
def lcField (s : State) (a key : Nat) : State :=
  if s.lcReason a key ≠ 0 then s.lcRefuse a (s.lcReason a key)
  else if s.fuses.lifecycle = 1 then s.transition 2 else s.lcRefuse a 1

/-- RETURN. -/
def lcReturn (s : State) (a key shelf : Nat) : State :=
  if s.lcReason a key ≠ 0 then s.lcRefuse a (s.lcReason a key)
  else if s.fuses.lifecycle ≠ 2 then s.lcRefuse a 1
  else
    let (ok, s1) := s.returnAuthorised shelf
    if ok then s1.transition 3 else s1.lcRefuse a 3

/-- SCRAPPED. -/
def lcScrapped (s : State) (a key : Nat) : State :=
  if s.lcReason a key ≠ 0 then s.lcRefuse a (s.lcReason a key) else s.transition 4

/-- FUSE_KEY (R494): a slot already fused is in use (log 52). (DEDUCED, log 52) -/
def fuseKey (s : State) (a key shelf slot : Nat) : State :=
  if s.lcReason a key ≠ 0 then s.lcRefuse a (s.lcReason a key)
  else if 2 ≤ s.fuses.lifecycle then s.lcRefuse a 1
  else if s.fuses.keyValid.testBit slot then s.lcRefuse a 4
  else
    let (l, s1) := s.shelfOctets (256 * shelf) 12
    { s1 with fuses := { s1.fuses with
        keys := Tab.put 0 slot (beAt l 0 48) s1.fuses.keys, keyValid := s1.fuses.keyValid ||| 2 ^ slot } }

/-- REVOKE_KEY (R494). -/
def revokeKey (s : State) (a key slot : Nat) : State :=
  let inUse := (s.fwc.running.map (fun k => beAt (s.fwc.flash.piece k 0) 6 2)) = some slot
  if s.lcReason a key ≠ 0 then s.lcRefuse a (s.lcReason a key)
  else if s.fuses.lifecycle = 4 then s.lcRefuse a 1
  else if inUse then s.lcRefuse a 4
  else { s with fuses := { s.fuses with keyRevoked := s.fuses.keyRevoked ||| 2 ^ slot } }

/-- A write of FWC_LC_CMD (R495, R500). (DEDUCED, log 52) -/
def writeLcCmd (s : State) (a : Nat) (w : Word) : State :=
  let key := w.field 14 3
  let shelf := w.field 22 15
  let slot := w.field 24 23
  match w.field 2 0 with
  | 1 => s.lcProvision a key
  | 2 => s.lcField a key
  | 3 => s.lcReturn a key shelf
  | 4 => s.lcScrapped a key
  | 5 => s.fuseKey a key shelf slot
  | 6 => s.revokeKey a key slot
  | _ => s.reject a Reg.FWC_LC_CMD

/-! ### Tamper (R496, R497) -/

/-- Whether a tamper source is watched: 0–3 TAMP0–3, 4 mesh, 5 VDD_AON, 6 temperature. (DEDUCED, log 57) -/
def watched (s : State) (k : Nat) : Bool :=
  let w := s.reg Reg.FWC_TAMPER_CTRL
  if k < 4 then w.bit k else w.bit (k + 4)

/-- A detection (R497): the vault is wiped and the source latched, whether or not the core runs. (DEDUCED, log 57) -/
def tamper (s : State) (k : Nat) : State :=
  if ¬ s.watched k then s
  else
    let s1 := if s.held then s.startWipe.finishWipe else s.startWipe
    let s2 := (s1.setFld Reg.FWC_TAMPER_STAT_SOURCE (s1.fld Reg.FWC_TAMPER_STAT_SOURCE ||| 2 ^ k)).bumpSat
      Reg.FWC_TAMPER_STAT_COUNT 1
    if s2.held then { s2 with fwc := { s2.fwc with unreported := s2.fwc.unreported ++ [k] } }
    else
      let s3 := (s2.raise 196).report 0xBB 196 k 0 0 0
      if s3.isSet Reg.FWC_TAMPER_CTRL_ACTION then s3.warmReset 32 else s3

/-- A write of FWC_TAMPER_CTRL by an agent (R500). -/
def writeTamperCtrl (s : State) (a : Nat) (w : Word) : State :=
  if ¬ isSteward a then s.reject a Reg.FWC_TAMPER_CTRL
  else if s.isSet Reg.FWC_TAMPER_CTRL_LOCK then s
  else s.writeGeneric a Reg.FWC_TAMPER_CTRL w

/-- A write of FWC_TAMPER_STAT by an agent: a bit clears only while its source no longer detects (R497).
(DESIGN CHOICE, log 15) -/
def writeTamperStat (s : State) (a : Nat) (w : Word) : State :=
  if ¬ isSteward a then s.reject a Reg.FWC_TAMPER_STAT
  else
    let (n, s1) := s.free
    let clear := ((List.range 7).filter (fun k => w.bit k && !(s.watched k && Config.stillDetecting n k))).foldl
      (fun m k => m + 2 ^ k) 0
    let old := s1.fld Reg.FWC_TAMPER_STAT_SOURCE
    s1.setFld Reg.FWC_TAMPER_STAT_SOURCE (old - (old &&& clear))

/-- A write of FWC_SLOTk: TRIAL_FAILED is cleared by a 1 (R500). -/
def writeSlot (s : State) (k : Nat) (w : Word) : State :=
  let (st, failed) := s.fwc.flash.slotState k
  if w.bit 3 ∧ failed then s.setFlash (s.fwc.flash.write (.slot k st false)) else s

/-- A write by an agent in the FWC block at BAR0 offset o; Crag engines are refused (R499). -/
def fwcWrite (s : State) (a o : Nat) (w : Word) : State :=
  let r := o - 0x80000
  if isCrag a then s.reject a o
  else if r = 0x08 then s.writeXfer a w
  else if r = 0x10 then s.writePiece a w
  else if r = 0x20 ∨ r = 0x28 then s.writeSlot ((r - 0x20) / 8) w
  else if r = 0x50 then s.writeActCtrl a w
  else if r = 0x60 then s.writeCfgCmd a w
  else if r = 0x70 then s.writeLcCmd a w
  else if r = 0x88 then s.writeTamperCtrl a w
  else if r = 0x90 then s.writeTamperStat a w
  else s.writeGeneric a o w

/-- A command that is a write of an FWC register: refused to Crag engines (R499). -/
def fwcBy (s : State) (a o : Nat) (f : State → State) : State := if isCrag a then s.reject a o else f s

end State

/-! ### The commands of firmware control -/

/-- BEGIN (R479). -/
def execXferBegin (a : Nat) (k : Fin 2) (s : State) : Host.Outcome State Fault Refusal :=
  live s (fun s => s.fwcBy a Reg.FWC_XFER_CMD (fun s => s.beginXfer k))

/-- ERASE_DONE (R479); ok is false where the flash reports an error. -/
def execEraseDone (ok : Bool) (s : State) : Host.Outcome State Fault Refusal := live s (fun s => s.eraseDone ok)

/-- XFER_ABORT (R479). -/
def execXferAbort (a : Nat) (k : Fin 2) (s : State) : Host.Outcome State Fault Refusal :=
  live s (fun s => s.fwcBy a Reg.FWC_XFER_CMD (fun s => s.abortXfer k))

/-- PIECE (R480). -/
def execPiece (a : Nat) (w : Word) (s : State) : Host.Outcome State Fault Refusal := live s (fun s => s.writePiece a w)

/-- PIECE_DONE (R480, R481). -/
def execPieceDone (s : State) : Host.Outcome State Fault Refusal := live s State.pieceDone

/-- PENDING_CHECK (R481). -/
def execPendingCheck (s : State) : Host.Outcome State Fault Refusal := live s State.pendingCheck

/-- STAGE (R485). -/
def execStage (a : Nat) (k : Fin 2) (s : State) : Host.Outcome State Fault Refusal :=
  live s (fun s => s.fwcBy a Reg.FWC_XFER_CMD (fun s => s.stage k))

/-- FIRST_START (R485). -/
def execFirstStart (s : State) : Host.Outcome State Fault Refusal := live s State.firstStart

/-- UNSTAGE (R488). -/
def execUnstage (a : Nat) (k : Fin 2) (s : State) : Host.Outcome State Fault Refusal :=
  live s (fun s => s.fwcBy a Reg.FWC_XFER_CMD (fun s => s.unstage k))

/-- BOOT_NEXT (R482). -/
def execBootNext (a : Nat) (k : Fin 2) (s : State) : Host.Outcome State Fault Refusal :=
  live s (fun s => s.fwcBy a Reg.FWC_XFER_CMD (fun s => s.bootNext k))

/-- COMMIT (R482, R484). -/
def execCommit (a : Nat) (k : Fin 2) (s : State) : Host.Outcome State Fault Refusal :=
  live s (fun s => s.fwcBy a Reg.FWC_XFER_CMD (fun s => s.commit a k))

/-- HANDOVER (R485). -/
def execHandover (a : Nat) (s : State) : Host.Outcome State Fault Refusal := live s (fun s => s.handover a)

/-- ACT_REVERT (R485). -/
def execActRevert (a : Nat) (s : State) : Host.Outcome State Fault Refusal := live s (fun s => s.revertStage a)

/-- ACTIVATE_GO (R486). -/
def execActivateGo (a : Nat) (s : State) : Host.Outcome State Fault Refusal :=
  live s (fun s => s.fwcBy a Reg.FWC_ACT_CTRL (fun s => s.activateGo a))

/-- ACTIVATE_GROUP (R486): g is 0 for the first group, 1 for the second. -/
def execActivateGroup (g : Fin 2) (s : State) : Host.Outcome State Fault Refusal := live s (fun s => s.activateGroup g)

/-- MIGRATED (R493). -/
def execMigrated (a : Nat) (s : State) : Host.Outcome State Fault Refusal :=
  live s (fun s => s.fwcBy a Reg.FWC_ACT_CTRL State.migrated)

/-- MIG_FAIL (R493). -/
def execMigFail (a : Nat) (s : State) : Host.Outcome State Fault Refusal :=
  live s (fun s => s.fwcBy a Reg.FWC_ACT_CTRL State.migFail)

/-- CFG_LOAD (R490). -/
def execCfgLoad (a : Nat) (b : Fin 1024) (shelf : Fin 256) (any : Bool) (s : State) :
    Host.Outcome State Fault Refusal :=
  live s (fun s => if s.cfgRefused a then s.reject a Reg.FWC_CFG_CMD
    else s.cfgLoad (s.stewardImage (a - 49)) b shelf any)

/-- CFG_WRITE (R491). -/
def execCfgWrite (a : Nat) (shelf : Fin 256) (s : State) : Host.Outcome State Fault Refusal :=
  live s (fun s => if s.cfgRefused a then s.reject a Reg.FWC_CFG_CMD else s.cfgWrite (s.stewardImage (a - 49)) shelf)

/-- CFG_ERASE (R491). -/
def execCfgErase (a : Nat) (s : State) : Host.Outcome State Fault Refusal :=
  live s (fun s => if s.cfgRefused a then s.reject a Reg.FWC_CFG_CMD else s.cfgErase)

/-- CFG_SWITCH (R491). -/
def execCfgSwitch (a : Nat) (s : State) : Host.Outcome State Fault Refusal :=
  live s (fun s => if s.cfgRefused a then s.reject a Reg.FWC_CFG_CMD else s.cfgSwitch)

/-- CFG_REVERT (R491). -/
def execCfgRevert (a : Nat) (s : State) : Host.Outcome State Fault Refusal :=
  live s (fun s => if s.cfgRefused a then s.reject a Reg.FWC_CFG_CMD else s.cfgRevert)

/-- CFG_OP_DONE (R492). -/
def execCfgOpDone (s : State) : Host.Outcome State Fault Refusal := live s State.cfgOpDone

/-- PROVISION (R495). -/
def execLcProvision (a : Nat) (key : Nat) (s : State) : Host.Outcome State Fault Refusal :=
  live s (fun s => s.fwcBy a Reg.FWC_LC_CMD (fun s => s.lcProvision a key))

/-- FIELD (R495). -/
def execLcField (a : Nat) (key : Nat) (s : State) : Host.Outcome State Fault Refusal :=
  live s (fun s => s.fwcBy a Reg.FWC_LC_CMD (fun s => s.lcField a key))

/-- RETURN (R495). -/
def execLcReturn (a : Nat) (key : Nat) (shelf : Fin 256) (s : State) : Host.Outcome State Fault Refusal :=
  live s (fun s => s.fwcBy a Reg.FWC_LC_CMD (fun s => s.lcReturn a key shelf))

/-- SCRAPPED (R495). -/
def execLcScrapped (a : Nat) (key : Nat) (s : State) : Host.Outcome State Fault Refusal :=
  live s (fun s => s.fwcBy a Reg.FWC_LC_CMD (fun s => s.lcScrapped a key))

/-- FUSE_KEY (R494). -/
def execFuseKey (a : Nat) (key : Nat) (shelf : Fin 256) (slot : Fin 4) (s : State) :
    Host.Outcome State Fault Refusal :=
  live s (fun s => s.fwcBy a Reg.FWC_LC_CMD (fun s => s.fuseKey a key shelf slot))

/-- REVOKE_KEY (R494). -/
def execRevokeKey (a : Nat) (key : Nat) (slot : Fin 4) (s : State) : Host.Outcome State Fault Refusal :=
  live s (fun s => s.fwcBy a Reg.FWC_LC_CMD (fun s => s.revokeKey a key slot))

/-- LC_STAT_READ (R500). -/
def execLcStatRead (a : Nat) (s : State) : Host.Outcome State Fault Refusal :=
  live s (fun s => let (w, s1) := s.readLcStat; s1.emit (.read a w false))

/-- TAMPER (R496, R497): the tamper logic runs whether or not power-on reset holds the device. -/
def execTamper (k : Fin 7) (s : State) : Host.Outcome State Fault Refusal := .next (s.tamper k)

/-- STATE_SECTOR_ROTATE (R475): while the current sector has room for every record in force. -/
def execStateSectorRotate (s : State) : Host.Outcome State Fault Refusal :=
  live s (fun s => if s.fwc.flash.room < recKeys then s else s.setFlash s.fwc.flash.rotate)

/-- BANK_SWITCH (R71, R486, R487). (DEDUCED, log 55) -/
def execBankSwitch (e : Fin 50) (s : State) : Host.Outcome State Fault Refusal :=
  live s (fun s =>
    let was := (s.engine e).bank
    let s1 := s.switchBank e
    if s1.fwc.restart = some (e.val - 48) ∧ 48 ≤ e.val ∧ (s1.engine e).bank ≠ was then
      { s1 with fwc := { s1.fwc with restart := none } }.startSteward (e.val - 48)
    else s1)

end Sys2Proof.Machine
end

