-- ==== Sys2Proof/Machine/Prc.lean ====
section
/-! DEFINITION. Power and reset control: resets, the boot flow, the steward watchdog and the cluster power states
(spec/16_startup_power.md). -/
namespace Sys2Proof.Machine
namespace State

/-! ### Boot (R454, R474, R483) -/

/-- The tests and marches that the loader waits for are done: every checker tested, the steward arrays marched (R454). -/
def readyToLoad (s : State) : Bool :=
  (List.range 55).all (fun c => s.memc.passed.contains c || s.memc.failed.contains c)
    && !s.memc.marches.any (fun m => m.ctrl == 53 || m.ctrl == 54)

/-- PHASE moves to LOADER (R454). (DEDUCED, log 37) -/
def marchDone (s : State) : State :=
  if s.fld Reg.PRC_STAT_PHASE = 0 ∧ s.readyToLoad then
    (s.setFld Reg.PRC_STAT_PHASE 1).setFld Reg.MEMC_STAT_MARCHED (bit01 (!s.straps.bootFast))
  else s

/-- The loader reads the boot header and passes the subsystem IDs to the endpoint (R454, R474). -/
def readHeader (s : State) : State :=
  let h0 := s.fwc.flash.header.getD 0 []
  let h1 := s.fwc.flash.header.getD 1 []
  let use (s : State) (n : Nat) (vendor device : Nat) (ok : Bool) : State :=
    { s with fwc := { s.fwc with vendor := vendor, device := device, fast := ok && !s.straps.flashSlow } }.setFld
      Reg.GCTL_STATUS_BOOT_HDR n
  if headerHolds h0 then use s 0 (beAt h0 6 2) (beAt h0 8 2) true
  else if headerHolds h1 then use s 1 (beAt h1 6 2) (beAt h1 8 2) true
  else use s 2 0x1CE5 0 false

/-- The slot that is COMMITTED. -/
def committedSlot (s : State) : Option Nat := [0, 1].find? (fun k => s.slotSt k == 7)

/-- The loader's choice of a slot, and the slot records that go with it (R483). (DEDUCED, log 53) -/
def chooseSlot (s : State) : Option Nat × State :=
  match [0, 1].find? (fun k => s.slotSt k == 5), [0, 1].find? (fun k => s.slotSt k == 6) with
  | some k, _ => (some k, s.setFlash (s.fwc.flash.putSlot k 6))
  | none, some k =>
    let s1 := s.setFlash (s.fwc.flash.write (.slot k 3 true))
    let c := s.committedSlot
    let s2 := match c.bind s.fwc.flash.slotCfg with
      | some (b, g) => s1.setFlash (s1.fwc.flash.write (.activeCfg b g))
      | none => s1
    (c, s2)
  | none, none => (s.committedSlot, s)

/-- The slot that is booted: the chosen one, or another that is COMPLETE or COMMITTED (R483). (DEDUCED, log 53) -/
def bootSlot (s : State) (chosen : Option Nat) : Option Nat :=
  match chosen.filter s.bootable with
  | some k => some k
  | none => [0, 1].find? (fun k => some k != chosen && (s.slotSt k == 3 || s.slotSt k == 7) && s.bootable k)

/-- The steward image is loaded into bank A of both stewards, and they start or wait for a debugger (R454). -/
def bootImage (s : State) (k : Nat) : State :=
  let stw := (s.fwc.flash.part k 1 (fun _ => true)).getD []
  let s1 := (s.loadProgram 48 0 0 stw).loadProgram 49 0 0 stw
  let s2 := (s1.setFld Reg.PRC_STAT_PHASE 2).setFld Reg.PRC_STAT_SLOT k
  let s3 := { s2 with fwc := { s2.fwc with
    booted := some k, running := some k, image0 := some k, image1 := some k } }
  if s3.straps.bootHalt then { s3 with prc := { s3.prc with bootHalted := true } } else s3.startStewards

/-- The loader has done its work: the stewards start, or the device is in PHASE FAILED (R454, R483).
(DEDUCED, log 5 and 53) -/
def loaderDone (s : State) : State :=
  if s.fld Reg.PRC_STAT_PHASE ≠ 1 then s
  else
    let (chosen, s1) := s.readHeader.chooseSlot
    match s1.bootSlot chosen with
    | some k => s1.bootImage k
    | none => (s1.setFld Reg.PRC_STAT_PHASE 4).raise 191

/-! ### Control (R453, R457) -/

/-- A write of PRC_CTRL.WARM_RST (R453). -/
def warmRst (s : State) (a key : Nat) : State :=
  if key = 0x5A5 ∧ (isSteward a ∨ a = 51) then s.warmReset 4 else s.reject a Reg.PRC_CTRL

/-- A write of PRC_CTRL.DP_READY (R457). -/
def dpReady (s : State) (a : Nat) : State :=
  if s.isSet Reg.TBU_STAT_PLL_LOCK ∧ s.isSet Reg.TBU_STAT_CAL_VALID ∧ s.memcStat.bit 2 ∧ s.fld Reg.PRC_STAT_PHASE = 2 then
    ((s.setFld Reg.PRC_STAT_DP_READY 1).setFld Reg.PRC_STAT_PHASE 3).raise 200
  else s.reject a Reg.PRC_CTRL

/-! ### Steward watchdog (R460 to R462) -/

/-- Elapsed clock of the last kick of steward i. (DEDUCED, log 70) -/
def kickAt (s : State) (i : Nat) : Nat := if i = 0 then s.prc.kick0 else s.prc.kick1

/-- Whether steward i has missed its timeout since its last kick. -/
def missed (s : State) (i : Nat) : Bool := if i = 0 then s.prc.missed0 else s.prc.missed1

/-- s with the miss mark of steward i. -/
def setMissed (s : State) (i : Nat) (v : Bool) : State :=
  { s with prc := if i = 0 then { s.prc with missed0 := v } else { s.prc with missed1 := v } }

/-- A kick of steward i (R460, R461). -/
def kick (s : State) (i : Nat) : State :=
  let s1 := s.setMissed i false
  let s2 := { s1 with prc := if i = 0 then { s1.prc with kick0 := s1.clk } else { s1.prc with kick1 := s1.clk } }
  if s2.fld Reg.TALUS_CTRL_ACTIVE_SE = i then s2 else s2.setFld Reg.PRC_STAT_STANDBY_OK 1

/-- Elapsed clock at which the timeout of steward i expires. -/
def expiry (s : State) (i : Nat) : Nat := s.kickAt i + s.fld Reg.PRC_WDOG_TIMEOUT * Config.ms

/-- The stewards are switched after steward i, the active one, has missed its timeout (R461). -/
def stewardSwitch (s : State) (i : Nat) : State :=
  let s1 := (s.setFld Reg.TALUS_CTRL_ACTIVE_SE (1 - i)).setFld (Reg.CE_CTRL_RUN (48 + i)) 0
  ((s1.setFld Reg.PRC_STAT_STANDBY_OK 0).raise 203).report (0x30 + i) 203 i 0 0 0

/-- Steward i misses its timeout, judged at the end of the tick in which it expires (R460); where the other's has expired by then
too, both have missed (R461, R462). -/
def wdogTimeout (s : State) (i : Nat) : State :=
  let phase := s.fld Reg.PRC_STAT_PHASE
  if (phase ≠ 2 ∧ phase ≠ 3) ∨ s.prc.bootHalted ∨ s.missed i then s
  else
    let s1 := (s.expire (s.expiry i)).setMissed i true
    if s1.missed (1 - i) ∨ s1.expiry (1 - i) < s1.clk ∨ s1.expiry (1 - i) ≤ s.expiry i then s1.warmReset 8
    else if s1.fld Reg.TALUS_CTRL_ACTIVE_SE = i then s1.stewardSwitch i
    else (s1.setFld Reg.PRC_STAT_STANDBY_OK 0).report (0x30 + i) 256 i 0 0 0

/-! ### Cluster power states (R463 to R467) -/

/-- Entry into the sleep state of PRC_CLSc_CTRL.DEPTH by a write of agent a, or by itself (a = 0) (R464, R467). -/
def startSleep (s : State) (a c : Nat) : State :=
  let depth := s.fld (Reg.PRC_CLS_CTRL_DEPTH c)
  if ¬ s.clusterActive c then s
  else if depth = 3 ∧ ¬ s.isSet (Reg.PRC_CLS_IMG_VALID c) then s.reject a (Reg.PRC_CLS_CTRL c)
  else
    (s.setFld (Reg.PRC_CLS_STAT_STATE c) 1).setCluster c
      { since := s.clk, wakeFrom := depth + 2, banks := (List.range 4).map (fun k => (s.engine (4 * c + k)).bank) }

/-- The four engines of a cluster. -/
def clusterEngines (c : Nat) : List Nat := (List.range 4).map (fun k => 4 * c + k)

/-- Whether a cluster is idle as the automatic entry asks (R464). (DEDUCED, log 70) -/
def clusterIdle (s : State) (c : Nat) : Bool :=
  s.fld (Reg.PRC_CLS_CTRL_IDLE c) != 0
    && (clusterEngines c).all (fun e => [0, 4, 5].contains (s.engineState e))
    && !s.readyTasks.any (fun t => s.fld (Reg.TALUS_TCFG_CLUSTER t) == c)

/-- Elapsed clock since which every engine of a cluster has held no task (R464). (DEDUCED, log 70) -/
def idleFrom (s : State) (c : Nat) : Nat := (clusterEngines c).foldl (fun t e => max t (s.engine e).idleSince) 0

/-- The automatic entry of an idle cluster, IDLE µs after it came to be idle (R464). -/
def idleSleep (s : State) (c : Nat) : State :=
  if s.clusterIdle c then
    (s.advanceTo (s.idleFrom c + s.fld (Reg.PRC_CLS_CTRL_IDLE c) * Config.us)).startSleep 0 c
  else s

/-- DRAINING ends: every engine has reached its commit boundary (R464). -/
def drainDone (s : State) (c : Nat) : State :=
  if s.fld (Reg.PRC_CLS_STAT_STATE c) = 1
      ∧ (clusterEngines c).all (fun e => (s.engine e).run.isNone && (s.engine e).cq.isEmpty) then
    let s1 := (s.setFld (Reg.PRC_CLS_STAT_STATE c) 2).setCluster c { s.cluster c with since := s.clk }
    s1.flushWhere (fun x => 5 + 4 * c ≤ x && x < 9 + 4 * c)
  else s

/-- The cluster is isolated 200 ns after the start of ENTERING (R464). -/
def isolate (s : State) (c : Nat) : State :=
  if s.fld (Reg.PRC_CLS_STAT_STATE c) = 2 ∧ ¬ (s.cluster c).isolated then
    let s1 := s.advanceTo ((s.cluster c).since + 200 * Config.ns)
    s1.setCluster c { s1.cluster c with isolated := true }
  else s

/-- The cluster is in its sleep state 1 µs after the start of ENTERING; a wake kept since isolation starts at once
(R464, R465). -/
def asleep (s : State) (c : Nat) : State :=
  let x := s.cluster c
  if s.fld (Reg.PRC_CLS_STAT_STATE c) = 2 ∧ x.isolated then
    let s1 := s.advanceTo (x.since + Config.us)
    let s2 := (s1.setFld (Reg.PRC_CLS_STAT_STATE c) x.wakeFrom).raise 202
    let s3 := s2.setCluster c { x with isolated := false, wakeAfter := false }
    if x.wakeAfter then s3.wake c else s3
  else s

/-- One image word is copied into a program bank of an engine (R467). -/
def reloadWord (s : State) (c e bank src i : Nat) : State :=
  let (w, syn, s1) := s.memRead 0 1 0 (src % 524288) true
  if syn = .uncorrectable then
    (s1.setFld (Reg.PRC_CLS_STAT_IMG_ERR c) 1).report 0xBA 257 c src 0 0
  else s1.memWrite (engineCtrl e) (bank + 1) i (Word.ofN (w.field 13 0))

/-- The program of a cluster is reloaded from its image (R467). -/
def reload (s : State) (c : Nat) : State :=
  let base := s.fld (Reg.PRC_CLS_IMG_OFFSET c)
  (List.range 4).foldl (fun s k =>
    (List.range 16384).foldl (fun s i =>
      s.reloadWord c (4 * c + k) ((s.cluster c).banks.getD k 0) (base + 16384 * k + i) i) s) s

/-- How long a wake takes from a sleep state, in sixteenths of a nanosecond (R466, R467). (DEDUCED, log 35) -/
def wakeTime (depth : Nat) : Nat :=
  match depth with
  | 3 => 800 * Config.ns
  | 4 => (800 + 8192 + 3000) * Config.ns
  | _ => (800 + 8192 + 3000 + 376900) * Config.ns

/-- The cluster becomes ACTIVE; fails names, by bit, the engines whose self-test failed (R466, R467). (DEDUCED, log 35) -/
def awake (s : State) (c fails : Nat) : State :=
  let depth := (s.cluster c).wakeFrom
  if s.fld (Reg.PRC_CLS_STAT_STATE c) ≠ 6 then s
  else
    let s1 := s.advanceTo ((s.cluster c).since + wakeTime depth)
    let ctrls := (List.range 4).map (fun k => 5 + 4 * c + k)
    let s2 := if depth = 3 then s1 else ctrls.foldl (fun s x => s.clearArray x 0) s1
    let s3 := if depth = 5 then ctrls.foldl (fun s x => (s.clearArray x 1).clearArray x 2) s2 else s2
    let s4 := if depth = 3 then s3 else
      (List.range 4).foldl (fun s k => s.checkerResult (5 + 4 * c + k) (!fails.testBit k)) s3
    let s5 := if depth = 5 then s4.reload c else s4
    let s6 := (s5.setFld (Reg.PRC_CLS_STAT_STATE c) 0).bump (Reg.PRC_CLS_STAT_WAKES c) 1
    s6.raise 201

/-! ### Registers -/

/-- PRC_STRAP (R471). -/
def strapView (s : State) : Word :=
  let x := s.straps
  Word.ofN (x.rid % 64 + 2 ^ 6 * bit01 x.refFreqA + 2 ^ 7 * bit01 x.refFreqB + 2 ^ 8 * bit01 x.bootFast
    + 2 ^ 9 * bit01 x.bootHalt + 2 ^ 10 * bit01 x.flashSlow)

/-- A read in the PRC block at BAR0 offset o. -/
def prcRead (s : State) (o : Nat) : Word × State :=
  if o = Reg.PRC_STRAP then (s.strapView, s) else s.readGeneric o

/-- A write of PRC_CTRL: with WARM_RST it resets the device or changes nothing at all (R453); else DP_READY (R457). -/
def writePrcCtrl (s : State) (a : Nat) (w : Word) : State :=
  if w.bit 1 then s.warmRst a (w.field 13 2) else if w.bit 0 then s.dpReady a else s

/-- A write of PRC_WDOG (R460). -/
def writeWdog (s : State) (a : Nat) (w : Word) : State :=
  let s1 := s.writeGeneric a Reg.PRC_WDOG w
  let s2 := if w.bit 0 then s1.kick 0 else s1
  if w.bit 1 then s2.kick 1 else s2

/-- A write of PRC_CLSc_CTRL: the settings, then SLEEP, then WAKE (R464, R465). -/
def writeClsCtrl (s : State) (a c : Nat) (w : Word) : State :=
  let s1 := s.writeGeneric a (Reg.PRC_CLS_CTRL c) w
  let s2 := if w.bit 0 then s1.startSleep a c else s1
  if w.bit 1 then s2.wake c else s2

/-- A write of PRC_CLSc_IMG: refused in DEEP_OFF (R467). -/
def writeClsImg (s : State) (a c : Nat) (w : Word) : State :=
  let o := Reg.PRC_CLS_IMG c
  if s.fld (Reg.PRC_CLS_STAT_STATE c) = 5 then s.reject a o else s.writeGeneric a o w

/-- A write by an agent in the PRC block at BAR0 offset o; Crag engines are refused (R470). -/
def prcWrite (s : State) (a o : Nat) (w : Word) : State :=
  let r := o - 0x90000
  let c := (r - 0x100) / 0x20
  let x := (r - 0x100) % 0x20
  if isCrag a then s.reject a o
  else if r = 0x08 then s.writePrcCtrl a w
  else if r = 0x28 then s.writeWdog a w
  else if 0x100 ≤ r ∧ c < 12 ∧ x = 0 then s.writeClsCtrl a c w
  else if 0x100 ≤ r ∧ c < 12 ∧ x = 0x10 then s.writeClsImg a c w
  else s.writeGeneric a o w

end State

/-! ### The commands of power and reset control -/

/-- POR_ASSERT (R450); aonLost where VDD_AON is below its threshold. -/
def execPorAssert (aonLost : Bool) (s : State) : Host.Outcome State Fault Refusal := .next (s.powerOff aonLost)

/-- POR_RELEASE (R451, R454): the levels of the straps are an operand. -/
def execPorRelease (x : Straps) (s : State) : Host.Outcome State Fault Refusal :=
  .next (if s.held then s.powerOn x else s)

/-- SYS_RESET_PIN (R452). -/
def execSysResetPin (s : State) : Host.Outcome State Fault Refusal := live s (fun s => s.warmReset 2)

/-- WARM_RST (R453), refused to Crag engines (R470). -/
def execWarmRst (a : Nat) (key : Nat) (s : State) : Host.Outcome State Fault Refusal := live s (fun s => s.warmRst a key)

/-- BOOT_MARCH_DONE (R454). -/
def execBootMarchDone (s : State) : Host.Outcome State Fault Refusal := live s State.marchDone

/-- LOADER_DONE (R454, R483). -/
def execLoaderDone (s : State) : Host.Outcome State Fault Refusal := live s State.loaderDone

/-- DP_READY (R457). -/
def execDpReady (a : Nat) (s : State) : Host.Outcome State Fault Refusal :=
  live s (fun s => if isCrag a then s.reject a Reg.PRC_CTRL else s.dpReady a)

/-- KICK (R460). -/
def execKick (a : Nat) (i : Fin 2) (s : State) : Host.Outcome State Fault Refusal :=
  live s (fun s => if isCrag a then s.reject a Reg.PRC_WDOG else s.kick i)

/-- WDOG_TIMEOUT (R461, R462). -/
def execWdogTimeout (i : Fin 2) (s : State) : Host.Outcome State Fault Refusal := live s (fun s => s.wdogTimeout i)

/-- CLUSTER_SLEEP_CMD (R464). -/
def execClusterSleepCmd (a : Nat) (c : Fin 12) (s : State) : Host.Outcome State Fault Refusal :=
  live s (fun s => if isCrag a then s.reject a (Reg.PRC_CLS_CTRL c) else s.startSleep a c)

/-- CLUSTER_IDLE (R464): the cluster has been idle for IDLE µs. -/
def execClusterIdle (c : Fin 12) (s : State) : Host.Outcome State Fault Refusal :=
  live s (fun s => s.idleSleep c)

/-- DRAIN_DONE (R464). -/
def execDrainDone (c : Fin 12) (s : State) : Host.Outcome State Fault Refusal := live s (fun s => s.drainDone c)

/-- ISOLATE (R464, R465). -/
def execIsolate (c : Fin 12) (s : State) : Host.Outcome State Fault Refusal := live s (fun s => s.isolate c)

/-- CLUSTER_SLEEP (R464, R465). -/
def execClusterSleep (c : Fin 12) (s : State) : Host.Outcome State Fault Refusal := live s (fun s => s.asleep c)

/-- CLUSTER_WAKE_CMD (R465). -/
def execClusterWakeCmd (a : Nat) (c : Fin 12) (s : State) : Host.Outcome State Fault Refusal :=
  live s (fun s => if isCrag a then s.reject a (Reg.PRC_CLS_CTRL c) else s.wake c)

/-- CLUSTER_WAKE (R466, R467). -/
def execClusterWake (c : Fin 12) (fails : Fin 16) (s : State) : Host.Outcome State Fault Refusal :=
  live s (fun s => s.awake c fails)

/-- RSTCAUSE_READ (R471). -/
def execRstcauseRead (a : Nat) (s : State) : Host.Outcome State Fault Refusal :=
  live s (fun s => let (w, s1) := s.readGeneric Reg.PRC_RSTCAUSE; s1.emit (.read a w false))

/-- PERSTn is high: the millisecond before the endpoint answers normally starts, and the link trains, where it is down and
power-on reset does not hold the device (R456). (DESIGN CHOICE, log 66) -/
def State.perstHigh (s : State) : State :=
  let s1 := if s.hostIf.perst then s else { s with hostIf := { s.hostIf with perst := true, perstAt := s.clk } }
  if s.held ∨ s.isSet Reg.HDMA_LINK_UP then s1 else s1.trainLink

/-- PERSTN_HIGH (R456). -/
def execPerstnHigh (s : State) : Host.Outcome State Fault Refusal := .next s.perstHigh

end Sys2Proof.Machine
end

