-- ==== Sys2Proof/Machine/Tmx.lean ====
section
/-! DEFINITION. Test multiplexer, JTAG, engine debug and self-tests (spec/20_test_debug.md). -/
namespace Sys2Proof.Machine

/-- The arguments a selection of the test multiplexer allows (R547); COMMIT takes the targets of R87. -/
def muxArgOk (sel arg : Nat) : Bool :=
  match sel with
  | 0x06 | 0x07 => arg ≤ 17
  | 0x08 => arg ≤ 0x11 || (0x20 ≤ arg && arg ≤ 0x27) || arg == 0x30 || (0x40 ≤ arg && arg ≤ 0x80)
      || (0x90 ≤ arg && arg ≤ 0x97)
  | 0x0A => arg ≤ 255
  | 0x0B => arg ≤ 49
  | 0x0C => arg ≤ 11
  | 0x0D => arg ≤ 63
  | 0x0E => arg ≤ 7
  | _ => arg == 0

namespace State

/-! ### The levels the test multiplexer shows (R547) -/

/-- The level that selection SEL with ARG shows before POL, for the selections that are levels; TICK is a square wave of
period 2^(DIV+1) ticks that rises on multiples of the period. -/
def muxLevel (s : State) (sel arg div : Nat) : Bool :=
  match sel with
  | 0x01 => s.tick / 2 ^ div % 2 == 0
  | 0x03 => s.isSet Reg.TBU_STAT_PLL_LOCK
  | 0x04 => s.isSet Reg.TBU_OSC_STAT_ACTIVE
  | 0x0A => (s.reg (Reg.EVC_STAT (arg / 32))).bit (arg % 32)
  | 0x0B => (s.engine arg).run.isSome
  | 0x0C => s.clusterActive arg
  | 0x0D => if s.tor.oe.testBit arg then s.tor.out.testBit arg else Config.observed s.freeCtr % 2 == 1
  | _ => false

/-- The level of TMUX_OUTn for a selection that is a level (R547, R548). -/
def tmuxOut (s : State) (n : Nat) : Bool :=
  s.muxLevel (s.fld (Reg.TMX_MUX_SEL n)) (s.fld (Reg.TMX_MUX_ARG n)) (s.fld (Reg.TMX_MUX_DIV n))
    != s.isSet (Reg.TMX_MUX_POL n)

/-- A write of TMX_MUXn: an ARG that the selection does not allow is a reserved encoding (R547). (DEDUCED, log 60) -/
def writeMux (s : State) (a o : Nat) (w : Word) : State :=
  let sel := if w.field 4 0 ≤ 14 then w.field 4 0 else (s.reg o).field 4 0
  if muxArgOk sel (w.field 12 5) then s.writeGeneric a o w
  else (s.writeGeneric a o (w.setField 12 5 ((s.reg o).field 12 5))).reject a o

/-! ### Engine debug (R554 to R556) -/

/-- Whether an engine is halted. -/
def isHalted (s : State) (e : Nat) : Bool := (s.engine e).halted

/-- The engines that a debug command on an engine acts on: both of a running paired task (R555). -/
def debugged (s : State) (e : Nat) : List Nat :=
  if s.paired e ∧ s.paired (partnerOf e) then [e, partnerOf e] else [e]

/-- The debug command in TMX_DBG_CMD completes with RESULT DONE or REFUSED (R554). (DEDUCED, log 58) -/
def dbgResult (s : State) (ok : Bool) : State := s.setFld Reg.TMX_DBG_CMD_RESULT (if ok then 1 else 2)

/-- An engine halts before its next bundle: at once where it is between bundles of a task, before the first bundle after
CE_RESUME where it is TRAPPED, before the first bundle of its next task where it holds none (R554, R556).
(DEDUCED, log 49 and 58) -/
def haltOne (s : State) (e : Nat) : State :=
  let g := s.engine e
  if g.halted then s
  else if g.run.isSome ∧ ¬ g.trapped then
    (s.modEngine e (fun g => { g with halted := true, stepping := false })).raise 210
  else s.modEngine e (fun g => { g with haltNext := true })

/-- HALT (R554). -/
def dbgHalt (s : State) (e : Nat) : State := ((s.debugged e).foldl haltOne s).dbgResult true

/-- RESUME (R554). -/
def dbgResume (s : State) (e : Nat) : State :=
  if s.isHalted e then
    ((s.debugged e).foldl (fun s x =>
      s.modEngine x (fun g => { g with halted := false, stepping := false, passBp := true })) s).dbgResult true
  else s.dbgResult false

/-- STEP: the halted engine may execute one bundle (R554). -/
def dbgStep (s : State) (e : Nat) : State :=
  if s.isHalted e then
    ((s.debugged e).foldl (fun s x => s.modEngine x (fun g => { g with stepping := true })) s).dbgResult true
  else s.dbgResult false

/-- The register INDEX names (R554); none where it names none. -/
def dbgRead (s : State) (e idx : Nat) : Option Word :=
  let g := s.engine e
  if idx < 16 then some (g.w idx)
  else if idx = 16 then some (Word.ofN (g.pc + 2 ^ 16 * g.bank))
  else if idx = 17 then some (Word.ofN g.flags)
  else if idx = 18 then some (Word.ofN g.wb)
  else if idx = 19 then some (Word.ofN g.dsp)
  else if 0x100 ≤ idx then some (Tab.get 0 (idx % 256) g.regs)
  else none

/-- READ_REG (R554). -/
def dbgReadReg (s : State) (e idx : Nat) : State :=
  match s.isHalted e, s.dbgRead e idx with
  | true, some w => (s.setReg Reg.TMX_DBG_DATA w).dbgResult true
  | _, _ => s.dbgResult false

/-- An engine with the register INDEX names holding w. -/
def dbgPut (e idx : Nat) (w : Word) (g : Engine) : Engine :=
  if idx < 16 then g.setW idx w
  else if idx = 16 then { g with pc := w.field 15 0 % bankSize e, bank := w.field 16 16 }
  else if idx = 17 then g.setFlags w.toNat
  else if idx = 18 then { g with wb := w.field 7 0 }
  else if idx = 19 then { g with dsp := w.field 17 0 }
  else { g with regs := Tab.put 0 (idx % 256) w g.regs }

/-- WRITE_REG (R554). -/
def dbgWriteReg (s : State) (e idx : Nat) : State :=
  if s.isHalted e ∧ ¬ s.paired e ∧ (s.dbgRead e idx).isSome then
    (s.modEngine e (dbgPut e idx (s.reg Reg.TMX_DBG_DATA))).dbgResult true
  else s.dbgResult false

/-- SET_BP (R554). -/
def dbgSetBp (s : State) (e idx : Nat) : State :=
  if 2 ≤ idx then s.dbgResult false
  else
    let a := (s.reg Reg.TMX_DBG_DATA).field 16 0
    (s.modEngine e (fun g => { g with bps := Tab.put none idx (some a) g.bps })).dbgResult true

/-- CLR_BP (R554). -/
def dbgClrBp (s : State) (e idx : Nat) : State :=
  if 2 ≤ idx then s.dbgResult false
  else (s.modEngine e (fun g => { g with bps := Tab.put none idx none g.bps })).dbgResult true

/-- RELEASE (R554). (DEDUCED, log 58) -/
def dbgRelease (s : State) : State :=
  if s.fld Reg.PRC_STAT_PHASE = 2 ∧ s.straps.bootHalt then
    (if s.prc.bootHalted then s.startStewards else s).dbgResult true
  else s.dbgResult false

/-- Whether an agent may give debug commands to an engine: a steward but not to itself, and TMX_ACCESS (R553, R554). -/
def dbgAllowed (a e : Nat) (jtag : Bool) : Bool := jtag || (isSteward a && a != e + 1)

/-- A command of TMX_DBG_CMD by an agent on engine e: the fields as written, then the command's effect, or a refusal. -/
def dbgBy (s : State) (a : Nat) (jtag : Bool) (op e idx : Nat) (f : State → State) : State :=
  if dbgAllowed a e jtag then
    f (s.setReg Reg.TMX_DBG_CMD (Word.ofN (op + 2 ^ 4 * e + 2 ^ 10 * idx)))
  else s.reject a Reg.TMX_DBG_CMD

/-- A write of TMX_DBG_CMD (R554, R560). (DEDUCED, log 58) -/
def writeDbgCmd (s : State) (a : Nat) (jtag : Bool) (w : Word) : State :=
  let op := w.field 3 0
  let e := w.field 9 4
  let idx := w.field 18 10
  let o := Reg.TMX_DBG_CMD
  if ¬ (jtag || isSteward a) then s.reject a o
  else if op = 0 ∨ 8 < op ∨ 50 ≤ e then s.writeGeneric a o w
  else s.dbgBy a jtag op e idx (fun s =>
    match op with
    | 1 => s.dbgHalt e
    | 2 => s.dbgResume e
    | 3 => s.dbgStep e
    | 4 => s.dbgReadReg e idx
    | 5 => s.dbgWriteReg e idx
    | 6 => s.dbgSetBp e idx
    | 7 => s.dbgClrBp e idx
    | _ => s.dbgRelease)

/-- Whether an armed breakpoint lies at the engine's next bundle (R555). -/
def atBreakpoint (s : State) (e : Nat) : Bool :=
  let g := s.engine e
  [0, 1].any (fun i => Tab.get none i g.bps == some (g.pc + 2 ^ 16 * g.bank))

/-- Whether the engine's next bundle is held back by a breakpoint (R555): not while it is stepped, or passed
by a RESUME. (DEDUCED, log 58) -/
def breakHere (s : State) (e : Nat) : Bool :=
  let g := s.engine e
  s.atBreakpoint e && !g.stepping && !g.passBp

/-- The engine reaches an armed breakpoint and halts (R555). -/
def breakpoint (s : State) (e : Nat) : State :=
  let g := s.engine e
  if g.run.isSome ∧ ¬ g.trapped ∧ ¬ g.halted ∧ g.stall = none ∧ s.breakHere e then (s.debugged e).foldl haltOne s else s

/-! ### Self-tests (R557) -/

/-- A LOGIC test of cluster c starts, or is refused (R557). (DEDUCED, log 59) -/
def bistLogic (s : State) (a c : Nat) : State :=
  let ok (e : Nat) : Bool := !s.isSet (Reg.CE_CTRL_RUN e) && [2, 4].contains (s.engineState e)
  if 12 ≤ c ∨ s.isSet Reg.TMX_BIST_STAT_BUSY ∨ ¬ (clusterEngines c).all ok then s.reject a Reg.TMX_BIST_CTRL
  else
    let s1 := (s.setReg Reg.TMX_BIST_CTRL (Word.ofN (1 + 2 + 2 ^ 3 * c))).setFld Reg.TMX_BIST_STAT_ENGINES 0
    { s1 with tmx := { s1.tmx with testing := some (c, s1.clk) } }.setFld Reg.TMX_BIST_STAT_BUSY 1

/-- The LOGIC test ends; fails names, by bit, the engines of the cluster that failed (R557, R512). -/
def bistLogicDone (s : State) (fails : Nat) : State :=
  match s.tmx.testing with
  | none => s
  | some (c, _) =>
    let s1 := (clusterEngines c).foldl (fun s e =>
      ((s.clearArray (engineCtrl e) 0).clearArray (engineCtrl e) 1).clearArray (engineCtrl e) 2) s
    let s2 := (List.range 4).foldl (fun s k =>
      if fails.testBit k then s.setFld (Reg.CE_CTRL_RETIRE (4 * c + k)) 1 else s) s1
    let s3 := (s2.setFld Reg.TMX_BIST_STAT_BUSY 0).setFld Reg.TMX_BIST_STAT_ENGINES fails
    let held := s3.tmx.heldWake
    let s4 := { s3 with tmx := { s3.tmx with testing := none, heldWake := false } }
    let s5 := if fails = 0 then s4.raise 208 else (s4.setFld Reg.TMX_BIST_STAT_FAILED 1).raise 209
    if held then s5.wake c else s5

/-- A PRBS test of a lane starts, or is refused (R557). (DEDUCED, log 59) -/
def bistPrbs (s : State) (a lane loop : Nat) : State :=
  if s.isSet Reg.TMX_BIST_STAT_BUSY ∨ s.inForce (Reg.MAC_MODE_MODE lane) ≠ 0 then s.reject a Reg.TMX_BIST_CTRL
  else
    let s1 := s.setReg Reg.TMX_BIST_CTRL (Word.ofN (1 + 4 + 2 ^ 3 * lane + 2 ^ 7 * loop))
    { s1 with tmx := { s1.tmx with prbs := some (lane, false) } }.setFld Reg.TMX_BIST_STAT_BUSY 1

/-- Bit errors that the PRBS test in progress has counted (R557). (DEDUCED, log 59) -/
def prbsErrors (s : State) (n : Nat) : State :=
  match s.tmx.prbs with
  | none => s
  | some (lane, left) =>
    let s1 := s.bumpSat Reg.TMX_PRBS_ERR_COUNT n
    if n = 0 ∨ left then s1
    else ({ s1 with tmx := { s1.tmx with prbs := some (lane, true) } }.setFld Reg.TMX_BIST_STAT_FAILED 1).raise 209

/-- GO := 0: a PRBS test stops (R557). -/
def bistStop (s : State) : State :=
  let s1 := s.setFld Reg.TMX_BIST_CTRL_GO 0
  if s1.tmx.prbs.isSome then { s1 with tmx := { s1.tmx with prbs := none } }.setFld Reg.TMX_BIST_STAT_BUSY 0 else s1

/-- Whether an agent may write TMX_BIST_CTRL (R557). -/
def bistAllowed (a : Nat) (jtag : Bool) : Bool := jtag || isSteward a || a == 51

/-- A write of TMX_BIST_CTRL (R557, R560). (DEDUCED, log 59) -/
def writeBist (s : State) (a : Nat) (jtag : Bool) (w : Word) : State :=
  let bad := w.field 2 1 = 0 ∨ w.field 2 1 = 3
  let kind := if bad then s.fld Reg.TMX_BIST_CTRL_KIND else w.field 2 1
  if ¬ bistAllowed a jtag then s.reject a Reg.TMX_BIST_CTRL
  else if ¬ w.bit 0 then (s.writeGeneric a Reg.TMX_BIST_CTRL w).bistStop
  else
    let s1 := if bad then s.reject a Reg.TMX_BIST_CTRL else s
    match kind with
    | 1 => s1.bistLogic a (w.field 6 3)
    | 2 => s1.bistPrbs a (w.field 6 3) (w.field 7 7)
    | _ => s1

/-! ### Registers -/

/-- TMX_STAT (R550, R552, R560). -/
def tmxStat (s : State) : Word :=
  Word.ofN (bit01 s.tmx.ext + 2 * bit01 ([0, 1, 3].contains s.fuses.lifecycle))

/-- TMX_DBG_HALTk (R555, R560). -/
def haltView (s : State) (k : Nat) : Word :=
  Word.ofN ((List.range 32).foldl (fun m j => if 32 * k + j < 50 ∧ s.isHalted (32 * k + j) then m + 2 ^ j else m) 0)

/-- A read in the TMX block at BAR0 offset o. -/
def tmxRead (s : State) (o : Nat) : Word × State :=
  let r := o - 0xA0000
  if r = 0x28 then (s.tmxStat, s)
  else if r = 0x50 ∨ r = 0x58 then (s.haltView ((r - 0x50) / 8), s)
  else s.readGeneric o

/-- A write by an agent, or through TMX_ACCESS, in the TMX block at BAR0 offset o; Crag engines are refused (R559). -/
def tmxWrite (s : State) (a : Nat) (jtag : Bool) (o : Nat) (w : Word) : State :=
  let r := o - 0xA0000
  if isCrag a then s.reject a o
  else if 0x08 ≤ r ∧ r < 0x28 then s.writeMux a o w
  else if r = 0x40 then s.writeDbgCmd a jtag w
  else if r = 0x80 then s.writeBist a jtag w
  else s.writeGeneric a o w

/-! ### JTAG (R549 to R553) -/

/-- The instruction a code selects: BYPASS where it is not listed or not allowed in the life-cycle state (R550). -/
def jtagSelect (s : State) (code : Nat) : Nat :=
  if code ≤ 6 then code
  else if code = 0x10 ∧ [0, 1, 3].contains s.fuses.lifecycle then code
  else 0xFF

/-- An instruction is in the instruction register: balls that it gives back return at the next tick (R552). -/
def jtagLoad (s : State) (ir : Nat) : State :=
  let s1 := { s with tmx := { s.tmx with ir := ir } }
  if s.tmx.ext ∧ ¬ s1.tmx.ext then
    { s1 with tmx := { s1.tmx with ballsFrom := (s1.clk / Config.tick + 1) * Config.tick } }
  else s1

/-- Update-DR of TMX_ACCESS with a 53-bit value (R553). (DEDUCED, log 60) -/
def tmxAccess (s : State) (v : Nat) : State :=
  if s.jtagSelect s.tmx.ir ≠ 0x10 then s
  else
    let r := v / 2 ^ 36 % 2 ^ 16 * 8
    let o := 0xA0000 + r
    let inside := r < 0x10000
    if v / 2 ^ 52 % 2 = 1 then
      let s1 := if inside then s.tmxWrite 49 true o (Word.ofN v) else s
      { s1 with tmx := { s1.tmx with capture := 0 } }
    else
      let (w, s1) := if inside then s.tmxRead o else (0, s)
      { s1 with tmx := { s1.tmx with capture := w.toNat } }.emit (.jtag w.toNat)

/-- Update-DR of the boundary register, or a falling TCK edge in Run-Test/Idle (R551). (DEDUCED, log 60) -/
def extest (s : State) (upd : Option Nat) : State :=
  match upd with
  | some v =>
    if [0x00, 0x02, 0x03, 0x04].contains s.tmx.ir then
      let s1 := { s with tmx := { s.tmx with boundary := v % 2 ^ 812 } }
      if s.tmx.ext then s1.emit (.balls (v % 2 ^ 812) (s.tmx.ir == 3)) else s1
    else s
  | none => if s.tmx.ir = 4 then s.emit (.balls s.tmx.boundary true) else s

end State

/-! ### The commands of test and debug -/

/-- DBG_HALT (R554). -/
def execDbgHalt (a : Nat) (e : Fin 50) (s : State) : Host.Outcome State Fault Refusal :=
  live s (fun s => s.dbgBy a false 1 e 0 (fun s => s.dbgHalt e))

/-- DBG_RESUME (R554). -/
def execDbgResume (a : Nat) (e : Fin 50) (s : State) : Host.Outcome State Fault Refusal :=
  live s (fun s => s.dbgBy a false 2 e 0 (fun s => s.dbgResume e))

/-- DBG_STEP (R554). -/
def execDbgStep (a : Nat) (e : Fin 50) (s : State) : Host.Outcome State Fault Refusal :=
  live s (fun s => s.dbgBy a false 3 e 0 (fun s => s.dbgStep e))

/-- READ_REG (R554). -/
def execReadReg (a : Nat) (e : Fin 50) (idx : Fin 512) (s : State) : Host.Outcome State Fault Refusal :=
  live s (fun s => s.dbgBy a false 4 e idx (fun s => s.dbgReadReg e idx))

/-- WRITE_REG (R554). -/
def execWriteReg (a : Nat) (e : Fin 50) (idx : Fin 512) (s : State) : Host.Outcome State Fault Refusal :=
  live s (fun s => s.dbgBy a false 5 e idx (fun s => s.dbgWriteReg e idx))

/-- SET_BP (R554). -/
def execSetBp (a : Nat) (e : Fin 50) (idx : Fin 512) (s : State) : Host.Outcome State Fault Refusal :=
  live s (fun s => s.dbgBy a false 6 e idx (fun s => s.dbgSetBp e idx))

/-- CLR_BP (R554). -/
def execClrBp (a : Nat) (e : Fin 50) (idx : Fin 512) (s : State) : Host.Outcome State Fault Refusal :=
  live s (fun s => s.dbgBy a false 7 e idx (fun s => s.dbgClrBp e idx))

/-- DBG_RELEASE (R554): by a steward, or through TMX_ACCESS, the one way while both stewards wait. -/
def execDbgRelease (a : Nat) (jtag : Bool) (s : State) : Host.Outcome State Fault Refusal :=
  live s (fun s => s.dbgBy a jtag 8 0 0 State.dbgRelease)

/-- BREAKPOINT (R555). -/
def execBreakpoint (e : Fin 50) (s : State) : Host.Outcome State Fault Refusal := live s (fun s => s.breakpoint e)

/-- TEST_LOGIC_RESET (R549). -/
def execTestLogicReset (s : State) : Host.Outcome State Fault Refusal := live s (fun s => s.jtagLoad 1)

/-- JTAG_UPDATE_IR (R550, R552). -/
def execJtagUpdateIr (code : Fin 256) (s : State) : Host.Outcome State Fault Refusal :=
  live s (fun s => s.jtagLoad (s.jtagSelect code))

/-- TMX_ACCESS (R553). -/
def execTmxAccess (v : Nat) (s : State) : Host.Outcome State Fault Refusal := live s (fun s => s.tmxAccess v)

/-- BIST_LOGIC (R557). -/
def execBistLogic (a : Nat) (c : Fin 16) (s : State) : Host.Outcome State Fault Refusal :=
  live s (fun s => if State.bistAllowed a false then s.bistLogic a c else s.reject a Reg.TMX_BIST_CTRL)

/-- BIST_LOGIC_DONE (R557). -/
def execBistLogicDone (fails : Fin 16) (s : State) : Host.Outcome State Fault Refusal :=
  live s (fun s => s.bistLogicDone fails)

/-- BIST_PRBS (R557). -/
def execBistPrbs (a : Nat) (lane : Fin 16) (loop : Fin 2) (s : State) : Host.Outcome State Fault Refusal :=
  live s (fun s => if State.bistAllowed a false then s.bistPrbs a lane loop else s.reject a Reg.TMX_BIST_CTRL)

/-- PRBS_STOP (R557), after a number of bit errors since the last command of the test. -/
def execPrbsStop (a : Nat) (errors : Nat) (s : State) : Host.Outcome State Fault Refusal :=
  live s (fun s =>
    let s1 := s.prbsErrors errors
    if State.bistAllowed a false then s1.bistStop else s1.reject a Reg.TMX_BIST_CTRL)

/-- PRBS_ERR_READ (R560), after a number of bit errors since the last command of the test. -/
def execPrbsErrRead (a : Nat) (errors : Nat) (s : State) : Host.Outcome State Fault Refusal :=
  live s (fun s => let (w, s1) := (s.prbsErrors errors).readGeneric Reg.TMX_PRBS_ERR; s1.emit (.read a w false))

/-- EXTEST_UPDATE_DR (R551): an Update-DR with the boundary register's value, or a falling TCK edge in Run-Test/Idle. -/
def execExtestUpdateDr (upd : Option Nat) (s : State) : Host.Outcome State Fault Refusal :=
  live s (fun s => s.extest upd)

end Sys2Proof.Machine
end

