-- ==== Sys2Proof/Machine/TorIsa.lean ====
section
/-! DEFINITION. The encoding of the Tor instructions: an 18-bit word read and written (spec/14_tor_units.md R412, R413, R415). -/
namespace Sys2Proof.Machine

/-- Bits [hi:lo] of an instruction word. -/
def bitsOf (w hi lo : Nat) : Nat := w / 2 ^ lo % 2 ^ (hi + 1 - lo)

/-- A number below n as an operand, where it is below n. -/
def operand (n v : Nat) : Option (Fin n) := if h : v < n then some ⟨v, h⟩ else none

/-- The conditions of BR that take no pin: their PIN field is reserved. -/
def condHasPin (c : Nat) : Bool := c == 6 || c == 7 || c == 12

/-- The instruction of a word; none where its encoding is undefined or a reserved field is not zero (R415).
(DEDUCED, log 64) -/
def torDecode (w : Nat) : Option TorOp :=
  let f := bitsOf w
  match f 17 14 with
  | 0x0 => if f 13 0 = 0 then some .halt else none
  | 0x1 =>
    (operand 13 (f 13 10)).bind (fun c => (operand 16 (f 9 6)).bind (fun p => (operand 64 (f 5 0)).bind (fun t =>
      if ¬ condHasPin c ∧ p.val ≠ 0 then none else some (.br c p t))))
  | 0x2 => (operand 16384 (f 13 0)).bind (fun n => if n.val = 0 then none else some (.beat n))
  | 0x3 =>
    (operand 16 (f 9 6)).bind (fun p =>
      if f 11 10 = 0 ∧ f 5 0 = 0 then some (.await_ (f 13 13 == 1) (f 12 12 == 1) p) else none)
  | 0x4 => (operand 6 (f 13 11)).bind (fun s => (operand 32 (f 4 0)).bind (fun n =>
      if f 10 5 = 0 then some (.take s n) else none))
  | 0x5 => (operand 6 (f 13 11)).bind (fun s => (operand 32 (f 4 0)).bind (fun n =>
      if f 10 5 = 0 then some (.emit s n) else none))
  | 0x6 => if f 11 0 = 0 then some (.send (f 13 13 == 1) (f 12 12 == 1)) else none
  | 0x7 => if f 11 0 = 0 then some (.fetch (f 13 13 == 1) (f 12 12 == 1)) else none
  | 0x8 => (operand 5 (f 13 11)).bind (fun d => (operand 2048 (f 10 0)).bind (fun i => some (.load d i)))
  | 0x9 => (operand 6 (f 13 11)).bind (fun d => (operand 8 (f 10 8)).bind (fun s => (operand 4 (f 7 6)).bind (fun o =>
      if f 5 0 = 0 then some (.copy d s o) else none)))
  | 0xA => (operand 8192 (f 12 0)).bind (fun i => some (.add (f 13 13 == 1) i))
  | 0xB => if f 12 0 = 0 then some (.stamp (f 13 13 == 1)) else none
  | 0xC => (operand 32 (f 4 0)).bind (fun g => if f 13 5 = 0 then some (.raise g) else none)
  | 0xD => if f 13 0 = 0 then some .nop else none
  | _ => none

/-- The word of an instruction (R412). -/
def torEncode : TorOp → Nat
  | .halt => 0
  | .br c p t => 0x1 * 2 ^ 14 + c * 2 ^ 10 + p * 2 ^ 6 + t
  | .beat n => 0x2 * 2 ^ 14 + n
  | .await_ l e p => 0x3 * 2 ^ 14 + (if l then 2 ^ 13 else 0) + (if e then 2 ^ 12 else 0) + p * 2 ^ 6
  | .take s n => 0x4 * 2 ^ 14 + s * 2 ^ 11 + n
  | .emit d n => 0x5 * 2 ^ 14 + d * 2 ^ 11 + n
  | .send a b => 0x6 * 2 ^ 14 + (if a then 2 ^ 13 else 0) + (if b then 2 ^ 12 else 0)
  | .fetch a b => 0x7 * 2 ^ 14 + (if a then 2 ^ 13 else 0) + (if b then 2 ^ 12 else 0)
  | .load d i => 0x8 * 2 ^ 14 + d * 2 ^ 11 + i
  | .copy d s o => 0x9 * 2 ^ 14 + d * 2 ^ 11 + s * 2 ^ 8 + o * 2 ^ 6
  | .add r i => 0xA * 2 ^ 14 + (if r then 2 ^ 13 else 0) + i
  | .stamp b => 0xB * 2 ^ 14 + (if b then 2 ^ 13 else 0)
  | .raise g => 0xC * 2 ^ 14 + g
  | .nop => 0xD * 2 ^ 14

/-- Whether an instruction's operands are ones that its encoding admits (R413): no pin where none is used, no BEAT of 0. -/
def TorOp.wf : TorOp → Bool
  | .br c p _ => condHasPin c || p.val == 0
  | .beat n => n.val != 0
  | _ => true

/-- The opcode an instruction is known by: bits [17:14]. -/
def torOpcode (w : Nat) : Nat := bitsOf w 17 14

end Sys2Proof.Machine
end

