-- ==== Sys2Proof/Machine/Tor.lean ====
section
/-! DEFINITION. The Tor programmable pin units: steps, instructions, traps, queues, starts and stops, program changes and
registers (spec/14_tor_units.md R407 to R425). -/
namespace Sys2Proof.Machine

/-- The unit of channel c and its position there (R407). -/
def torUnit (c : Nat) : Nat := c / 4 % 4
def torPos (c : Nat) : Nat := 4 * (c / 16) + c % 4

/-- The channel at position j of unit u (R407). -/
def torChan (u j : Nat) : Nat := 16 * (j / 4) + 4 * u + j % 4

/-- A bit count or limit field whose 0 stands for 32 (R412, R414). -/
def orAll (n : Nat) : Nat := if n = 0 then 32 else n

/-- n pin levels from pin base on, pin numbers modulo 64 (R411). -/
def pinBits (pins base n : Nat) : Nat := (pins / 2 ^ base + pins % 2 ^ base * 2 ^ (64 - base)) % 2 ^ n

/-- COPY's operation on a word (R413). -/
def copyOp (op v : Nat) : Nat := match op with
  | 1 => 2 ^ 32 - 1 - v
  | 2 => (List.range 32).foldl (fun r i => r + v / 2 ^ i % 2 * 2 ^ (31 - i)) 0
  | 3 => v % 2 ^ 16 * 2 ^ 16 + v / 2 ^ 16
  | _ => v

/-- Words each queue holds under a QMODE (R416): transmit, receive. -/
def torRoom (qmode : Nat) : Nat × Nat := match qmode with
  | 1 => (8, 0)
  | 2 => (0, 8)
  | _ => (4, 4)

/-- N bits d enter the input shifter (R414 TAKE). -/
def TorChannel.shiftIn (x : TorChannel) (msb : Bool) (n d : Nat) : TorChannel :=
  { x with
    is_ := if msb then (x.is_ * 2 ^ n + d) % 2 ^ 32 else x.is_ / 2 ^ n + d * 2 ^ (32 - n)
    icnt := min 32 (x.icnt + n) }

/-- N bits leave the output shifter (R414 EMIT): the value and the channel after it. -/
def TorChannel.shiftOut (x : TorChannel) (msb : Bool) (n : Nat) : Nat × TorChannel :=
  (if msb then x.os / 2 ^ (32 - n) else x.os % 2 ^ n,
   { x with os := if msb then x.os * 2 ^ n % 2 ^ 32 else x.os / 2 ^ n, ocnt := x.ocnt - n })

namespace State

/-- Channel c. -/
def torCh (s : State) (c : Nat) : TorChannel := Tab.get {} c s.tor.chans

/-- s with channel c replaced. -/
def setTor (s : State) (c : Nat) (x : TorChannel) : State :=
  { s with tor := { s.tor with chans := Tab.put {} c x s.tor.chans } }

/-- A field of a channel's register; r takes the unit and the position. -/
def torFld (s : State) (c : Nat) (r : Nat → Nat → Fld) : Nat := s.fld (r (torUnit c) (torPos c))

/-- Unit u raises event 152 + i for position j (R423). -/
def torEvent (s : State) (c i : Nat) : State :=
  let o := Reg.TOR_EVTSTAT (torUnit c)
  let w := ((s.reg o).setField i i 1).setField (3 + torPos c) (3 + torPos c) 1
  (s.setReg o w).raise (152 + i)

/-- A counter of a channel's unit counts one. -/
def torCount (s : State) (c k : Nat) : State := s.bump (Reg.TOR_CNT_COUNT (torUnit c) k) 1

/-- The channel's TM at an instant of the elapsed clock (R414). -/
def tmAt (s : State) (c t : Nat) : Nat :=
  let x := s.torCh c
  if x.run = .stopped ∨ t < x.tmAt then x.tm else satAdd (2 ^ 32 - 1) x.tm ((t - x.tmAt) / 640 + 1)

/-- The start of the channel's next step, in full time (R407): not one it has already executed. -/
def torNextStep (s : State) (c : Nat) : Nat :=
  let j := 40 * torPos c
  let t := s.tbu.time + (640 + j - s.tbu.time % 640) % 640
  if (s.torCh c).lastStep = some s.clk ∧ t = s.tbu.time then t + 640 else t

/-- The program word at the channel's PC (R412). -/
def torWord (s : State) (c : Nat) : Nat :=
  let a := (s.torFld c Reg.TOR_CH_CFG_ORIGIN * 8 + (s.torCh c).pc) % 1024
  Tab.get 0 (1024 * torUnit c + a) s.tor.prog

/-- The offset after the channel's PC (R412). (DEDUCED, log 63) -/
def torNextPc (s : State) (c : Nat) : Nat :=
  let pc := (s.torCh c).pc
  if s.torFld c Reg.TOR_CH_CFG_LEN ≤ pc then 0 else pc + 1

/-! ### Pins (R410, R411) -/

/-- Whether the channel owns a pin. -/
def ownsPin (s : State) (c n : Nat) : Bool :=
  s.isSet (Reg.TOR_PIN_OWNED 0 n) && s.fld (Reg.TOR_PIN_OWNER 0 n) == c

/-- A number with bit n replaced. -/
def putBit (v n : Nat) (b : Bool) : Nat := v / 2 ^ (n + 1) * 2 ^ (n + 1) + bit01 b * 2 ^ n + v % 2 ^ n

/-- Bit k of a value reaches pin n of the output group: its level, or its output enable. -/
def drivePin (s : State) (n : Nat) (enable v : Bool) : State :=
  if enable then
    let s1 := { s with tor := { s.tor with oe := putBit s.tor.oe n v } }
    if v ∧ ¬ s.tor.oe.testBit n then s1.emit (.pin 2 n (s.tor.out.testBit n) ((s.tbu.time + 80) % 2 ^ 36)) else s1
  else
    let s1 := { s with tor := { s.tor with out := putBit s.tor.out n v } }
    if s.tor.oe.testBit n ∧ v ≠ s.tor.out.testBit n then s1.emit (.pin 2 n v ((s.tbu.time + 80) % 2 ^ 36)) else s1

/-- The low n bits of a value reach the channel's output group (R411). -/
def driveGroup (s : State) (c : Nat) (enable : Bool) (n v : Nat) : State :=
  (List.range (min n (s.torFld c Reg.TOR_CH_PINS_OG_WIDTH))).foldl (fun s k =>
    let pin := (s.torFld c Reg.TOR_CH_PINS_OG_BASE + k) % 64
    if s.ownsPin c pin then s.drivePin pin enable (v.testBit k) else s) s

/-! ### Queues (R416, R417) -/

/-- The channel's oldest receive word as a push to its Talus queue: held by a full one under R151. -/
def torPush (s : State) (c w : Nat) : State :=
  let q := s.torFld c Reg.TOR_CH_CFG_RX_Q
  if s.isSet (Reg.TALUS_QCFG_EN q) ∧ ¬ (s.queueRoom q ∧ (s.queue q).waiting.isEmpty) then
    s.waitPush { agent := 53 + torUnit c, entry := w, chan := some c, since := s.clk } q
  else s.push (53 + torUnit c) q w (Reg.TALUS_QDATA q)

/-- Whether a push of the channel is held by its Talus queue. -/
def torHeld (s : State) (c : Nat) : Bool :=
  (s.queue (s.torFld c Reg.TOR_CH_CFG_RX_Q)).waiting.any (fun y => y.chan == some c)

/-- The oldest receive words of a forwarding channel go to its Talus queue, up to n of them. -/
def torForward (s : State) (c : Nat) : Nat → State
  | 0 => s
  | n + 1 =>
    let x := s.torCh c
    match x.rxq with
    | [] => s
    | w :: rest =>
      if x.pushing then
        if s.torHeld c then s else (s.setTor c { x with rxq := rest, pushing := false }).torForward c n
      else if s.torFld c Reg.TOR_CH_CFG_RX_FWD = 0 then s
      else
        let s1 := s.torPush c w
        if s1.torHeld c then s1.setTor c { x with pushing := true } else (s1.setTor c { x with rxq := rest }).torForward c n

/-- CTRL.QCLR: both queues are empty, and a push of the channel that a Talus queue holds is withdrawn (R421).
(DEDUCED, log 63) -/
def torClear (s : State) (c : Nat) : State :=
  let q := s.torFld c Reg.TOR_CH_CFG_RX_Q
  let s1 := if s.torHeld c then
      s.setQueue q { s.queue q with waiting := (s.queue q).waiting.filter (fun y => y.chan != some c) } else s
  s1.setTor c { s1.torCh c with txq := [], rxq := [], pushing := false }

/-- A word enters the receive queue. -/
def torReceive (s : State) (c w : Nat) : State :=
  let x := s.torCh c
  (s.setTor c { x with rxq := x.rxq ++ [w] }).torForward c 9

/-- Whether the receive queue is full, after what can be forwarded has been. -/
def rxqFull (s : State) (c : Nat) : Bool :=
  decide ((torRoom (s.torFld c Reg.TOR_CH_CFG_QMODE)).2 ≤ (s.torCh c).rxq.length)

/-! ### Ends of a step -/

/-- The step completes: the channel goes on at an offset. (DEDUCED, log 64) -/
def torDone (s : State) (c pc : Nat) : State :=
  s.setTor c { s.torCh c with run := .running, pc := pc, stampAt := none }

/-- The step completes and the next offset follows. -/
def torGo (s : State) (c : Nat) : State := s.torDone c (s.torNextPc c)

/-- The instruction stalls. -/
def torStall (s : State) (c : Nat) : State := s.setTor c { s.torCh c with run := .stalled }

/-- The channel enters STOPPED; TM holds its value (R414). -/
def torStopped (s : State) (c : Nat) : State :=
  s.setTor c { s.torCh c with run := .stopped, tm := s.tmAt c s.clk, stampAt := none }

/-- A trap (R415): cause 1 ILLEGAL, 2 RANGE. -/
def torTrap (s : State) (c cause : Nat) : State :=
  let x := s.torCh c
  let s1 := (s.torStopped c).setReg (Reg.TOR_CH_TRAP (torUnit c) (torPos c)) (Word.ofN (x.pc + 64 * s.torWord c))
  let s2 := s1.setTor c { s1.torCh c with cause := cause }
  ((s2.torCount c 2).torEvent c 0).report (0xB4 + torUnit c) 152 c (x.pc + 64 * s.torWord c) (53 + torUnit c) 0

/-- A STRICT channel's queue fails it (R418): cause 3 UNDERRUN, 4 OVERRUN. -/
def torStarve (s : State) (c cause : Nat) : State :=
  let s1 := s.torStopped c
  let s2 := s1.setTor c { s1.torCh c with cause := cause }
  ((s2.bump (Reg.GCTL_LATE_UNIT_COUNT (27 + c)) 1).raise 48).report (0xB4 + torUnit c) 48 (27 + c) s.tsw (53 + torUnit c) 0

/-- A sticky bit of TOR_CHc_STAT is set. (DEDUCED, log 63) -/
def torMiss (s : State) (c : Nat) (f : Nat → Nat → Fld) : State := s.setFld (f (torUnit c) (torPos c)) 1

/-! ### The instructions (R414) -/

/-- The levels that LEVELS shows. -/
def torLevels (s : State) (c : Nat) : Nat :=
  let x := s.torCh c
  x.txq.length + 2 ^ 4 * x.rxq.length + 2 ^ 8 * x.icnt + 2 ^ 14 * x.ocnt

/-- Whether MSB_FIRST is 1, IS_LIMIT and OS_LOAD. -/
def torMsb (s : State) (c : Nat) : Bool := s.torFld c Reg.TOR_CH_SHIFT_MSB_FIRST == 1
def isLimit (s : State) (c : Nat) : Nat := orAll (s.torFld c Reg.TOR_CH_SHIFT_IS_LIMIT)
def osLoad (s : State) (c : Nat) : Nat := orAll (s.torFld c Reg.TOR_CH_SHIFT_OS_LOAD)

/-- The levels of the input group's n pins, and of one of its pins. -/
def inputs (s : State) (c pins n : Nat) : Nat := pinBits pins (s.torFld c Reg.TOR_CH_PINS_IG_BASE) n
def inputPin (s : State) (c pins p : Nat) : Bool := pins.testBit ((s.torFld c Reg.TOR_CH_PINS_IG_BASE + p) % 64)

/-- Whether a condition of BR holds (R413). -/
def torCond (s : State) (c cond p prev pins : Nat) : Bool :=
  let x := s.torCh c
  match cond with
  | 0 => true
  | 1 => x.x == 0
  | 2 => x.x != 0
  | 3 => x.y == 0
  | 4 => x.y != 0
  | 5 => x.x == x.y
  | 6 => s.inputPin c pins p
  | 7 => !s.inputPin c pins p
  | 8 => decide (s.isLimit c ≤ x.icnt)
  | 9 => x.ocnt == 0
  | 10 => x.txq.isEmpty
  | 11 => s.rxqFull c
  | _ => s.inputPin c pins p != s.inputPin c prev p

/-- BR. -/
def torBr (s : State) (c cond p target prev pins : Nat) : State :=
  if s.torFld c Reg.TOR_CH_CFG_LEN < target then s.torTrap c 2
  else if s.torCond c cond p prev pins then
    let x := s.torCh c
    let x1 := if cond = 2 then { x with x := x.x - 1 } else if cond = 4 then { x with y := x.y - 1 } else x
    (s.setTor c x1).torDone c target
  else s.torGo c

/-- The channel's TM takes a value in this step. -/
def setTm (s : State) (c v : Nat) : State := s.setTor c { s.torCh c with tm := v, tmAt := s.clk + 640 }

/-- BEAT: at its first step it completes, slips or stalls; stalled, it completes in the step in which TM equals N. -/
def torBeat (s : State) (c n : Nat) : State :=
  let t := s.tmAt c s.clk
  if (s.torCh c).run = .stalled then
    let s1 := s.advance ((n - t) * 640)
    ((s1.setTor c { s1.torCh c with lastStep := some s1.clk }).setTm c 0).torGo c
  else if t = n then (s.setTm c 0).torGo c
  else if n < t then ((s.torMiss c Reg.TOR_CH_STAT_BEAT_SLIP).setTm c 0).torGo c
  else s.torStall c

/-- AWAIT. -/
def torAwait (s : State) (c : Nat) (level edge : Bool) (p prev pins : Nat) : State :=
  let now := s.inputPin c pins p == level
  if now ∧ (edge → s.inputPin c prev p ≠ level) then s.torGo c else s.torStall c

/-- TAKE. (DEDUCED, log 63) -/
def torTake (s : State) (c src n pins : Nat) : State :=
  let x := s.torCh c
  let k := orAll n
  let m := s.torMsb c
  let (d, x1) : Nat × TorChannel := match src with
    | 0 => (s.inputs c pins k, x)
    | 1 => (x.x % 2 ^ k, x)
    | 2 => (x.y % 2 ^ k, x)
    | 3 => (0, x)
    | 4 => (2 ^ k - 1, x)
    | _ => x.shiftOut m k
  (s.setTor c (x1.shiftIn m k d)).torGo c

/-- EMIT. (DEDUCED, log 63) -/
def torEmit (s : State) (c dst n : Nat) : State :=
  let k := orAll n
  let m := s.torMsb c
  let (v, x) := (s.torCh c).shiftOut m k
  let s1 := match dst with
    | 0 => (s.setTor c x).driveGroup c false k v
    | 1 => s.setTor c { x with x := v }
    | 2 => s.setTor c { x with y := v }
    | 3 => s.setTor c x
    | 4 => (s.setTor c x).driveGroup c true k v
    | _ => s.setTor c (x.shiftIn m k v)
  s1.torGo c

/-- SEND. -/
def torSend (s : State) (c : Nat) (ifFull noWait : Bool) : State :=
  let x := s.torCh c
  if ifFull ∧ x.icnt < s.isLimit c then s.torGo c
  else if s.rxqFull c then
    if noWait then (s.torMiss c Reg.TOR_CH_STAT_SEND_MISSED).torGo c
    else if s.torFld c Reg.TOR_CH_SHIFT_STRICT = 1 then s.torStarve c 4
    else s.torStall c
  else ((s.setTor c { x with is_ := 0, icnt := 0 }).torReceive c x.is_).torGo c

/-- FETCH. -/
def torFetch (s : State) (c : Nat) (ifEmpty noWait : Bool) : State :=
  let x := s.torCh c
  if ifEmpty ∧ x.ocnt ≠ 0 then s.torGo c
  else match x.txq with
    | [] =>
      if noWait then (s.torMiss c Reg.TOR_CH_STAT_FETCH_MISSED).torGo c
      else if s.torFld c Reg.TOR_CH_SHIFT_STRICT = 1 then s.torStarve c 3
      else s.torStall c
    | w :: rest => (s.setTor c { x with txq := rest, os := w, ocnt := s.osLoad c }).torGo c

/-- LOAD. -/
def torLoad (s : State) (c dst imm : Nat) : State :=
  let x := s.torCh c
  let s1 := match dst with
    | 0 => s.driveGroup c false 11 imm
    | 1 => s.setTor c { x with x := imm }
    | 2 => s.setTor c { x with y := imm }
    | 3 => s.driveGroup c true 11 imm
    | _ => s.setTm c imm
  s1.torGo c

/-- COPY. -/
def torCopy (s : State) (c dst src op pins : Nat) : State :=
  let x := s.torCh c
  let v := copyOp op (match src with
    | 0 => s.inputs c pins 32
    | 1 => x.x
    | 2 => x.y
    | 3 => x.is_
    | 4 => x.os
    | 5 => s.tmAt c s.clk
    | 6 => s.torLevels c
    | _ => 0)
  let s1 := match dst with
    | 0 => s.driveGroup c false 32 v
    | 1 => s.setTor c { x with x := v }
    | 2 => s.setTor c { x with y := v }
    | 3 => s.setTor c { x with is_ := v, icnt := 0 }
    | 4 => s.setTor c { x with os := v, ocnt := s.osLoad c }
    | _ => s.driveGroup c true 32 v
  s1.torGo c

/-- ADD. -/
def torAdd (s : State) (c : Nat) (y : Bool) (imm : Nat) : State :=
  let x := s.torCh c
  let d := toBits 32 (signed 13 imm)
  let x1 := if y then { x with y := (x.y + d) % 2 ^ 32 } else { x with x := (x.x + d) % 2 ^ 32 }
  (s.setTor c x1).torGo c

/-- STAMP. -/
def torStamp (s : State) (c : Nat) (noWait : Bool) : State :=
  let x := s.torCh c
  let t := x.stampAt.getD s.tsw
  if s.rxqFull c then
    if noWait then (s.torMiss c Reg.TOR_CH_STAT_SEND_MISSED).torGo c
    else if s.torFld c Reg.TOR_CH_SHIFT_STRICT = 1 then s.torStarve c 4
    else (s.setTor c { x with stampAt := some t }).torStall c
  else (s.torReceive c (t / 16)).torGo c

/-- RAISE. (DEDUCED, log 64) -/
def torRaise (s : State) (c flag : Nat) : State :=
  let s1 := if s.torFld c Reg.TOR_CH_SIG_EN = 1 then s.taskFlag (s.torFld c Reg.TOR_CH_SIG_TASK) flag true else s
  s1.torGo c

/-- One instruction in one step; prev and pins are the 64 pin levels sampled in the step before and in this one. -/
def torOp (s : State) (c prev pins : Nat) : TorOp → State
  | .halt => (s.setTor c { s.torCh c with pc := s.torNextPc c }).torStopped c
  | .br k p t => s.torBr c k p t prev pins
  | .beat n => s.torBeat c n
  | .await_ l e p => s.torAwait c l e p prev pins
  | .take r n => s.torTake c r n pins
  | .emit d n => s.torEmit c d n
  | .send a b => s.torSend c a b
  | .fetch a b => s.torFetch c a b
  | .load d i => s.torLoad c d i
  | .copy d r o => s.torCopy c d r o pins
  | .add y i => s.torAdd c y i
  | .stamp b => s.torStamp c b
  | .raise f => s.torRaise c f
  | .nop => s.torGo c

/-- The next step of channel c, where the word at its PC has one of the opcodes named (R408, R412, R415): a STOPPED channel
executes nothing. -/
def torStep (s : State) (c prev pins : Nat) (opcodes : List Nat) : State :=
  let w := s.torWord c
  if ¬ s.tbu.running ∨ (s.torCh c).run = .stopped ∨ ¬ opcodes.contains (torOpcode w) then s
  else
    let s1 := s.advanceToTime (s.torNextStep c)
    let s2 := (s1.setTor c { s1.torCh c with lastStep := some s1.clk }).torForward c 9
    match torDecode w with
    | none => s2.torTrap c 1
    | some op => s2.torOp c prev pins op

/-! ### Starting and stopping (R419 to R421) -/

/-- A START with a PC reaches a channel (R420). (DEDUCED, log 63) -/
def torStart (s : State) (c pc : Nat) : State :=
  let x := s.torCh c
  if x.run = .stopped then
    let next := s.torNextStep c - s.tbu.time + s.clk
    s.setTor c { x with run := .running, pc := pc, cause := 0, tmAt := next }
  else (s.torCount c 0).torEvent c 1

/-- A STOP reaches a channel (R420): the step that begins at this instant is not one it was running for. -/
def torStop (s : State) (c : Nat) : State :=
  let x := s.torCh c
  if x.run = .stopped then s
  else
    let tm := if x.lastStep = some s.clk then s.tmAt c s.clk else if s.clk = 0 then x.tm else s.tmAt c (s.clk - 1)
    s.setTor c { x with run := .stopped, tm := tm, stampAt := none }

/-- The pending action of channel c that is applied first (R420): by step, trigger starts before posts, agent, order. -/
def torNext (s : State) (c : Nat) : Option Posted :=
  (s.posted.filter (fun q => q.unit == 27 + c)).foldl (fun (b : Option Posted) q => match b with
    | none => some q
    | some r =>
      let at_ (x : Posted) : Int := (s.distance (x.due / 128 * 128) + s.tbu.time + (639 - 40 * torPos c)) / 640
      let dq := at_ q
      let dr := at_ r
      if dq < dr ∨ dq = dr ∧ (q.agent < r.agent ∨ q.agent = r.agent ∧ q.seq < r.seq) then some q else some r) none

/-- The first pending action of channel c is performed, where it has the selector: at the channel's first step that begins at
or after its due tick (R419). -/
def torPerform (s : State) (c sel : Nat) : State :=
  match s.torNext c with
  | none => s
  | some q =>
    if q.sel ≠ sel ∨ ¬ s.tbu.running then s
    else
      let s1 := s.advanceToTsw (q.due / 128 * 128)
      let s2 := s1.advanceToTime (s1.torNextStep c)
      let s3 := ({ s2 with posted := s2.posted.filter (· != q) }).noteSlack q
      if sel = 1 then
        s3.torStart c (if q.agent = 0 then s3.torFld c Reg.TOR_CH_CTRL_START_PC else q.arg % 64)
      else s3.torStop c

/-- A write of TOR_CHc_CTRL by agent a (R419, R421). (DEDUCED, log 63) -/
def writeTorCtrl (s : State) (a c : Nat) (w : Word) : State :=
  let o := Reg.TOR_CH_CTRL (torUnit c) (torPos c)
  let x := s.torCh c
  let s1 := s.writeGeneric a o w
  let s2 :=
    if ¬ w.bit 2 ∧ ¬ w.bit 3 then s1
    else if x.run ≠ .stopped then s1.reject a o
    else
      let s2 := if w.bit 2 then s1.setTor c { s1.torCh c with is_ := 0, os := 0, icnt := 0, ocnt := 0 } else s1
      if w.bit 3 then s2.torClear c else s2
  let s3 := if w.bit 0 then s2.torStart c (w.field 9 4) else s2
  if w.bit 1 then s3.torStop c else s3

/-! ### Registers (R416, R417, R421, R422, R425) -/

/-- A write of TOR_CHc_CFG (R416, R425). -/
def writeTorCfg (s : State) (a c : Nat) (w : Word) : State :=
  let o := Reg.TOR_CH_CFG (torUnit c) (torPos c)
  let x := s.torCh c
  let old := s.reg o
  let idle := x.run == .stopped && x.txq.isEmpty && x.rxq.isEmpty
  let past := if 1023 < w.field 6 0 * 8 + w.field 12 7 then
      [Reg.TOR_CH_CFG_ORIGIN, Reg.TOR_CH_CFG_LEN] else []
  let barred := if !idle && w.field 32 13 != old.field 32 13 then
      [Reg.TOR_CH_CFG_QMODE, Reg.TOR_CH_CFG_RX_Q, Reg.TOR_CH_CFG_RX_FWD, Reg.TOR_CH_CFG_TX_Q, Reg.TOR_CH_CFG_TX_FWD] else []
  s.writeBut a o ((past ++ barred).map (fun r => r (torUnit c) (torPos c))) w

/-- A write of TOR_CHc_X, Y or TM (R421). -/
def writeTorReg (s : State) (a c o : Nat) (f : TorChannel → TorChannel) : State :=
  if (s.torCh c).run = .stopped then s.setTor c (f (s.torCh c)) else s.reject a o

/-- A write of TOR_CHc_TXQ (R417). -/
def writeTxq (s : State) (a c : Nat) (w : Word) : State :=
  let o := Reg.TOR_CH_TXQ (torUnit c) (torPos c)
  let x := s.torCh c
  if s.torFld c Reg.TOR_CH_CFG_TX_FWD = 1 then s.reject a o
  else if (torRoom (s.torFld c Reg.TOR_CH_CFG_QMODE)).1 ≤ x.txq.length then (s.torCount c 3).reject a o
  else s.setTor c { x with txq := x.txq ++ [w.field 31 0] }

/-- Whether a program word lies within the window of a channel of unit u that is not STOPPED (R422). -/
def progBusy (s : State) (u a : Nat) : List Nat :=
  (List.range 16).filter (fun j =>
    let c := torChan u j
    let first := s.torFld c Reg.TOR_CH_CFG_ORIGIN * 8
    (s.torCh c).run != .stopped && decide (first ≤ a ∧ a ≤ first + s.torFld c Reg.TOR_CH_CFG_LEN))

/-- A write of TOR_PDATA of unit u by an agent (R10, R422). -/
def writePdata (s : State) (a0 u : Nat) (w : Word) : State :=
  let a := s.fld (Reg.TOR_PADDR_ADDR u)
  match s.progBusy u a with
  | [] =>
    let s1 := { s with tor := { s.tor with prog := Tab.put 0 (1024 * u + a) (w.field 17 0) s.tor.prog } }
    s1.setFld (Reg.TOR_PADDR_ADDR u) (a + 1)
  | j :: _ => ((s.torCount (torChan u j) 1).torEvent (torChan u j) 2).reject a0 (Reg.TOR_PDATA u)

/-- A read of TOR_PDATA of unit u (R422). -/
def readPdata (s : State) (u : Nat) : Word × State :=
  let a := s.fld (Reg.TOR_PADDR_ADDR u)
  (Word.ofN (Tab.get 0 (1024 * u + a) s.tor.prog), s.setFld (Reg.TOR_PADDR_ADDR u) (a + 1))

/-- A read of TOR_CHc_RXQ (R417). -/
def readRxq (s : State) (c : Nat) : Word × State :=
  let x := s.torCh c
  match x.rxq with
  | [] => (0, s)
  | w :: rest => if x.pushing then (0, s) else (Word.ofN (2 ^ 35 + w), s.setTor c { x with rxq := rest })

/-- TOR_CHc_STAT (R425). -/
def torStat (s : State) (c : Nat) : Word :=
  let x := s.torCh c
  let st := match x.run with
    | .stopped => 0
    | .running => 1
    | .stalled => 2
  let low := st + 2 ^ 2 * x.pc + 2 ^ 8 * x.icnt + 2 ^ 14 * x.ocnt + 2 ^ 20 * x.txq.length + 2 ^ 24 * x.rxq.length
    + 2 ^ 28 * x.cause
  (s.reg (Reg.TOR_CH_STAT (torUnit c) (torPos c))).setField 30 0 low

/-- A write by agent a in a Tor unit at BAR0 offset o. -/
def torWrite (s : State) (a o : Nat) (w : Word) : State :=
  let u := (o - 0x320000) / 0x4000
  let r := (o - 0x320000) % 0x4000
  if r = 0x010 then s.writePdata a u w
  else if 0x800 ≤ r ∧ r < 0x1000 then
    let c := torChan u ((r - 0x800) / 0x80)
    match r % 0x80 with
    | 0x00 => s.writeTorCtrl a c w
    | 0x08 => s.writeTorCfg a c w
    | 0x38 => s.writeTorReg a c o (fun x => { x with x := w.field 31 0 })
    | 0x40 => s.writeTorReg a c o (fun x => { x with y := w.field 31 0 })
    | 0x48 => s.writeTxq a c w
    | 0x58 => s.writeTorReg a c o (fun x => { x with tm := w.field 31 0 })
    | _ => s.writeGeneric a o w
  else if 0x1000 ≤ r ∧ r < 0x1200 ∧ u ≠ 0 then s
  else s.writeGeneric a o w

/-- A read in a Tor unit at BAR0 offset o. -/
def torRead (s : State) (o : Nat) : Word × State :=
  let u := (o - 0x320000) / 0x4000
  let r := (o - 0x320000) % 0x4000
  if r = 0x010 then s.readPdata u
  else if 0x800 ≤ r ∧ r < 0x1000 then
    let c := torChan u ((r - 0x800) / 0x80)
    match r % 0x80 with
    | 0x28 => (s.torStat c, s)
    | 0x38 => (Word.ofN (s.torCh c).x, s)
    | 0x40 => (Word.ofN (s.torCh c).y, s)
    | 0x50 => s.readRxq c
    | 0x58 => (Word.ofN (s.tmAt c s.clk), s)
    | _ => s.readGeneric o
  else if 0x1000 ≤ r ∧ r < 0x1200 then
    if u ≠ 0 ∨ r % 8 ≠ 0 then (0, s)
    else
      let n := (r - 0x1000) / 8
      let (k, s1) := s.free
      let level := if s.tor.oe.testBit n then bit01 (s.tor.out.testBit n) else Config.observed k
      (((s.reg o).setField 9 9 level).setField 10 10 (bit01 (s.tor.oe.testBit n)), s1)
  else s.readGeneric o

end State

/-! ### The commands of the Tor units. The pin levels prev and pins are those of R409 at the ball 5 ns before the start of the
step before and of this step. -/

/-- TOR_HALT (R414). -/
def execTorHalt (c : Fin 64) (s : State) : Host.Outcome State Fault Refusal := live s (fun s => s.torStep c 0 0 [0])

/-- TOR_BR (R414). -/
def execTorBr (c : Fin 64) (prev pins : Nat) (s : State) : Host.Outcome State Fault Refusal :=
  live s (fun s => s.torStep c prev pins [1])

/-- TOR_BEAT (R414). -/
def execTorBeat (c : Fin 64) (s : State) : Host.Outcome State Fault Refusal := live s (fun s => s.torStep c 0 0 [2])

/-- TOR_AWAIT (R414): the step at or after dt sixteenths from now; in the steps before it a stalled AWAIT has not completed. -/
def execTorAwait (c : Fin 64) (dt prev pins : Nat) (s : State) : Host.Outcome State Fault Refusal :=
  live s (fun s => (s.elapse dt).torStep c prev pins [3])

/-- TOR_TAKE (R414). -/
def execTorTake (c : Fin 64) (pins : Nat) (s : State) : Host.Outcome State Fault Refusal :=
  live s (fun s => s.torStep c 0 pins [4])

/-- TOR_EMIT (R414). -/
def execTorEmit (c : Fin 64) (s : State) : Host.Outcome State Fault Refusal := live s (fun s => s.torStep c 0 0 [5])

/-- TOR_SEND (R414). -/
def execTorSend (c : Fin 64) (s : State) : Host.Outcome State Fault Refusal := live s (fun s => s.torStep c 0 0 [6])

/-- TOR_FETCH (R414). -/
def execTorFetch (c : Fin 64) (s : State) : Host.Outcome State Fault Refusal := live s (fun s => s.torStep c 0 0 [7])

/-- TOR_LOAD (R414). -/
def execTorLoad (c : Fin 64) (s : State) : Host.Outcome State Fault Refusal := live s (fun s => s.torStep c 0 0 [8])

/-- TOR_COPY (R414). -/
def execTorCopy (c : Fin 64) (pins : Nat) (s : State) : Host.Outcome State Fault Refusal :=
  live s (fun s => s.torStep c 0 pins [9])

/-- TOR_ADD (R414). -/
def execTorAdd (c : Fin 64) (s : State) : Host.Outcome State Fault Refusal := live s (fun s => s.torStep c 0 0 [10])

/-- TOR_STAMP (R414). -/
def execTorStamp (c : Fin 64) (s : State) : Host.Outcome State Fault Refusal := live s (fun s => s.torStep c 0 0 [11])

/-- TOR_RAISE (R414). -/
def execTorRaise (c : Fin 64) (s : State) : Host.Outcome State Fault Refusal := live s (fun s => s.torStep c 0 0 [12])

/-- TOR_NOP (R414), and a word of a reserved opcode, which traps (R415). -/
def execTorNop (c : Fin 64) (s : State) : Host.Outcome State Fault Refusal :=
  live s (fun s => s.torStep c 0 0 [13, 14, 15])

/-- TOR_START (R420): the pending action, or with an agent a write of CTRL.START by it with START_PC as it stands. -/
def execTorStart (c : Fin 64) (by_ : Option Nat) (s : State) : Host.Outcome State Fault Refusal :=
  live s (fun s => match by_ with
    | none => s.torPerform c 1
    | some a => s.writeTorCtrl a c ((s.reg (Reg.TOR_CH_CTRL (torUnit c) (torPos c))).setField 0 0 1))

/-- TOR_STOP (R420): the pending action, or with an agent a write of CTRL.STOP by it. -/
def execTorStop (c : Fin 64) (by_ : Option Nat) (s : State) : Host.Outcome State Fault Refusal :=
  live s (fun s => match by_ with
    | none => s.torPerform c 2
    | some a => s.writeTorCtrl a c ((s.reg (Reg.TOR_CH_CTRL (torUnit c) (torPos c))).setField 1 1 1))

/-- TOR_FLUSH (R421): a write of CTRL.FLUSH by agent a. -/
def execTorFlush (a : Nat) (c : Fin 64) (s : State) : Host.Outcome State Fault Refusal :=
  live s (fun s => s.writeTorCtrl a c ((s.reg (Reg.TOR_CH_CTRL (torUnit c) (torPos c))).setField 2 2 1))

/-- TOR_QCLR (R421): a write of CTRL.QCLR by agent a. -/
def execTorQclr (a : Nat) (c : Fin 64) (s : State) : Host.Outcome State Fault Refusal :=
  live s (fun s => s.writeTorCtrl a c ((s.reg (Reg.TOR_CH_CTRL (torUnit c) (torPos c))).setField 3 3 1))

/-- TOR_TXQ_WRITE (R417). -/
def execTorTxqWrite (a : Nat) (c : Fin 64) (w : Word) (s : State) : Host.Outcome State Fault Refusal :=
  live s (fun s => s.writeTxq a c w)

/-- TOR_RXQ_READ (R417). -/
def execTorRxqRead (a : Nat) (c : Fin 64) (s : State) : Host.Outcome State Fault Refusal :=
  live s (fun s => let (w, s1) := s.readRxq c; s1.emit (.read a w false))

/-- TOR_TX_FORWARD (R417): one word of TX_Q enters the transmit queue; an uncorrectable one is discarded and counted (R562). -/
def execTorTxForward (c : Fin 64) (s : State) : Host.Outcome State Fault Refusal :=
  live s (fun s =>
    let x := s.torCh c
    if s.torFld c Reg.TOR_CH_CFG_TX_FWD = 0 ∨ (torRoom (s.torFld c Reg.TOR_CH_CFG_QMODE)).1 ≤ x.txq.length then s
    else match s.popQueue (s.torFld c Reg.TOR_CH_CFG_TX_Q) with
      | none => s
      | some (w, bad, s1) => if bad then s1.torCount c 3 else s1.setTor c { x with txq := x.txq ++ [w] })

/-- TOR_PDATA_WRITE (R422). -/
def execTorPdataWrite (u : Fin 4) (x : AgentWord) (s : State) : Host.Outcome State Fault Refusal :=
  live s (fun s => s.writePdata x.agent u x.word)

/-- TOR_PDATA_READ (R422). -/
def execTorPdataRead (a : Nat) (u : Fin 4) (s : State) : Host.Outcome State Fault Refusal :=
  live s (fun s => let (w, s1) := s.readPdata u; s1.emit (.read a w false))

end Sys2Proof.Machine
end

