-- ==== Sys2Proof/Machine/Bus.lean ====
section
/-! DEFINITION. One read and one write of the BAR0 map that every agent's register-space access goes through, and the host's
half accesses and requests (spec/00_scope.md R6 to R13; spec/07_memory.md R188, R190, R192; spec/15_host_interface.md R427,
R428, R431). -/
namespace Sys2Proof.Machine

/-- The memory word a BAR0 offset reaches: controller and word of its array 0 (R431). -/
def windowAt (o : Nat) : Option (Nat × Nat) :=
  if 0x800000 ≤ o ∧ o < 0x880000 then some (2, (o - 0x800000) / 8)
  else if 0x1000000 ≤ o ∧ o < 0x2000000 then some (0, (o - 0x1000000) / 8)
  else if 0x2000000 ≤ o ∧ o < 0x2400000 then some (1, (o - 0x2000000) / 8)
  else if 0x2800000 ≤ o ∧ o < 0x3400000 then some (5 + (o - 0x2800000) / 0x40000, (o - 0x2800000) % 0x40000 / 8)
  else none

/-- The dword of the MSI-X table and PBA that a BAR0 offset reaches (R442). -/
def msixAt (o : Nat) : Option Nat := if 0x018000 ≤ o ∧ o < 0x020000 then some ((o - 0x018000) / 4) else none

/-- Whether a block refuses writes from Crag engines (R33, R220, R470, R499, R524, R559). -/
def refusesCrag (b : Block) : Bool := [Block.gctl, .strata, .memc, .fwc, .prc, .tmx].contains b

/-- Whether an agent is one of the hosts. -/
def isHost (a : Nat) : Bool := a == 51 || a == 52

namespace State

/-! ### Memory windows (R188, R190) -/

/-- Whether MEMC_HOST_CTRL closes a host path to a word of a controller's memory; mailbox words stay open (R190, R221). -/
def pathClosed (s : State) (a c x : Nat) : Bool :=
  a == 51 && (match c with
    | 0 => s.isSet Reg.MEMC_HOST_CTRL_CLOSE_PB
    | 1 => s.isSet Reg.MEMC_HOST_CTRL_CLOSE_TS
    | 2 => s.isSet Reg.MEMC_HOST_CTRL_CLOSE_SH && (mailboxOf x).isNone
    | _ => s.isSet Reg.MEMC_HOST_CTRL_CLOSE_ED)

/-- Why an access through a memory window is refused; 0 where it is not. (DEDUCED, log 22 and 29) -/
def windowReason (s : State) (a c x : Nat) (write : Bool) : Nat :=
  let (r, w) := memRights a c 0
  if s.pathClosed a c x then 2 else if ¬ (if write then w else r) then 1 else if s.poweredDown c then 3 else 0

/-- A read through a memory window: the word and what was found. -/
def windowRead (s : State) (a c x : Nat) : Word × Syndrome × State :=
  let reason := s.windowReason a c x false
  if reason ≠ 0 then (0, .clean, s.memRefuse c a reason) else s.memRead a c 0 x false

/-- A write through a memory window at BAR0 offset o; the words of a FULL mailbox are guarded (R169). -/
def windowWrite (s : State) (a c x o : Nat) (w : Word) : State :=
  let reason := s.windowReason a c x true
  if reason ≠ 0 then s.memReject c a reason o
  else if c = 2 ∧ s.mailGuard x then s.mbxReject ((mailboxOf x).getD 0) a 6 o
  else s.agentWrite a c x 15 w

/-! ### Registers -/

/-- A read of a register of block b: none where it stalls. -/
def blockRead (s : State) (b : Block) (a o : Nat) : Option Word × Syndrome × State :=
  let plain (r : Word × State) : Option Word × Syndrome × State := (some r.1, .clean, r.2)
  let marked (r : Word × Syndrome × State) : Option Word × Syndrome × State := (some r.1, r.2.1, r.2.2)
  match b with
  | .gctl => plain (s.gctlRead o)
  | .evc => plain (s.evcRead o)
  | .tbu => plain (s.tbuRead a o)
  | .strata => plain (s.strataRead o)
  | .talus => plain (s.talusRead o)
  | .col => let (w, s1) := s.colRead a o; (w, .clean, s1)
  | .memc => marked (s.memcRead a o)
  | .vault => marked (s.vaultRead a o)
  | .fwc => plain (s.fwcRead o)
  | .prc => plain (s.prcRead o)
  | .tmx => plain (s.tmxRead o)
  | .mac => plain (s.macRead o)
  | .swc => plain (s.swcRead o)
  | .sts => plain (s.readGeneric o)
  | .tal => plain (s.talRead o)
  | .rlc => plain (s.rlcRead o)
  | .can => plain (s.canRead a o)
  | .tor => plain (s.torRead o)
  | .hdma => plain (s.readGeneric o)
  | .ce => marked (s.ceRead a o)

/-- A write of a register of block b, the PROFILE register apart. -/
def blockWrite (s : State) (b : Block) (a o : Nat) (w : Word) : State :=
  match b with
  | .gctl => s.writeGeneric a o w
  | .evc => s.evcWrite a o w
  | .tbu => s.tbuWrite a o w
  | .strata => s.strataWrite a o w
  | .talus => s.talusWrite a o w
  | .col => s.colWrite a o w
  | .memc => s.memcWrite a o w
  | .vault => s.vaultWrite a o w
  | .fwc => s.fwcWrite a o w
  | .prc => s.prcWrite a o w
  | .tmx => s.tmxWrite a false o w
  | .mac => s.macWrite a o w
  | .swc => s.swcWrite a o w
  | .sts => s.stsWrite a o w
  | .tal => s.talWrite a o w
  | .rlc => s.rlcWrite a o w
  | .can => s.canWrite a o w
  | .tor => s.torWrite a o w
  | .hdma => s.hdmaWrite a o w
  | .ce => s.ceWrite a o w

/-- A write of the PROFILE register of an instance of a block, where the block takes the agent's writes (R11);
a CAN channel switches no profile while it is enabled (R406). (DEDUCED, log 32) -/
def profileBy (s : State) (a : Nat) (b : Block) (u : Nat) (w : Word) : State :=
  if b = .vault ∧ ¬ isSteward a then s.memReject 4 a 1 Reg.VAULT_PROFILE
  else if b = .can ∧ s.isSet (Reg.CAN_CTRL_EN u) then s.reject a (Reg.CAN_PROFILE u)
  else s.writeProfile a b u w

/-- A read of the BAR0 map by an agent at an octet offset that is a multiple of 8: the word, none where the read stalls;
and what was found. A reserved offset reads 0 (R10, R427). -/
def busRead (s : State) (a o : Nat) : Option Word × Syndrome × State :=
  match windowAt o, blockAt o with
  | some (c, x), _ => let (w, syn, s1) := s.windowRead a c x; (some w, syn, s1)
  | none, none => (some 0, .clean, s)
  | none, some b => if (msixAt o).isSome then (some 0, .clean, s) else s.blockRead b a o

/-- A write of the BAR0 map by an agent at an octet offset that is a multiple of 8 (R9 to R12, R34).
(DESIGN CHOICE, log 25) -/
def busWrite (s : State) (a o : Nat) (w : Word) : State :=
  match windowAt o, blockAt o with
  | some (c, x), _ => s.windowWrite a c x o w
  | none, none => s
  | none, some b =>
    if (msixAt o).isSome then s
    else if refusesCrag b ∧ isCrag a then (if (regDescAt o).isSome then s.reject a o else s)
    else if o = profileOff o then s.profileBy a b (b.within o).1 w
    else s.blockWrite b a o w

/-! ### 32-bit host accesses (R7) -/

/-- The half-access registers of a host. -/
def hostPort (s : State) (a : Nat) : HostPort := if a = 51 then s.localHost else s.remoteHost

/-- s with the half-access registers of a host replaced. -/
def setHostPort (s : State) (a : Nat) (p : HostPort) : State :=
  if a = 51 then { s with localHost := p } else { s with remoteHost := p }

/-- A read of the low half of the word at o: its value, whether the word is uncorrectable (R197), and the state with the latch
full. -/
def readLow (s : State) (a o : Nat) : Nat × Bool × State :=
  match msixAt o with
  | some d => (s.msixRead d, false, s)
  | none =>
    let (w, syn, s1) := s.busRead a o
    let x := w.getD 0
    (x.field 31 0, syn == .uncorrectable, s1.setHostPort a { s1.hostPort a with latch := some (x.field 35 32) })

/-- A read of the high half: the latch, or without one the live bits with no side effect of a read; whether the word read is
uncorrectable. (DEDUCED, log 67) -/
def readHigh (s : State) (a o : Nat) : Nat × Bool × State :=
  match msixAt (o + 4) with
  | some d => (s.msixRead d, false, s)
  | none =>
    match (s.hostPort a).latch with
    | some v => (v, false, s.setHostPort a { s.hostPort a with latch := none })
    | none =>
      let (w, syn, _) := s.busRead a o
      ((w.getD 0).field 35 32, syn == .uncorrectable, s)

/-- A write of the low half is staged. -/
def writeLow (s : State) (a o v : Nat) : State :=
  match msixAt o with
  | some d => s.msixWrite d (v % 2 ^ 32)
  | none => s.setHostPort a { s.hostPort a with staging := v % 2 ^ 32 }

/-- A write of the high half writes the whole word, and the staging register clears. -/
def writeHigh (s : State) (a o v : Nat) : State :=
  match msixAt (o + 4) with
  | some d => s.msixWrite d (v % 2 ^ 32)
  | none =>
    let w := Word.ofN (v % 16 * 2 ^ 32 + (s.hostPort a).staging)
    let s1 := s.busWrite a o w
    s1.setHostPort a { s1.hostPort a with staging := 0 }

/-! ### Host requests (R427, R428) -/

/-- Whether a host read obeys R427. -/
def readFits (q : HostRead) : Bool := q.off % 4 == 0 && q.len % 4 == 0 && decide (0 < q.len ∧ q.len ≤ 64) && q.allBytes

/-- Whether a host write obeys R427. -/
def writeFits (q : HostWrite) : Bool :=
  q.off % 4 == 0 && decide (0 < q.dwords.length ∧ q.dwords.length ≤ 16) && q.allBytes

/-- n dwords are read from octet offset o on, slot by slot. (DEDUCED, log 67) -/
def readDwords (a : Nat) : Nat → Nat → State → State
  | 0, _, s => s
  | 1, o, s =>
    if o % 8 = 0 then let (v, bad, s1) := s.readLow a o; s1.emit (.readHalf a v bad)
    else let (v, bad, s1) := s.readHigh a (o - 4); s1.emit (.readHalf a v bad)
  | n + 2, o, s =>
    if o % 8 = 4 then
      let (v, bad, s1) := s.readHigh a (o - 4)
      readDwords a (n + 1) (o + 4) (s1.emit (.readHalf a v bad))
    else
      match msixAt o with
      | some d => 
        readDwords a n (o + 8) ((s.emit (.readHalf a (s.msixRead d) false)).emit (.readHalf a (s.msixRead (d + 1)) false))
      | none =>
        let (w, syn, s1) := s.busRead a o
        let s2 := match w with
          | some x => s1.emit (.read a x (syn == .uncorrectable))
          | none => s1
        readDwords a n (o + 8) s2

/-- Dwords are written from octet offset o on, slot by slot. (DEDUCED, log 67) -/
def writeDwords (a : Nat) : List Nat → Nat → State → State
  | [], _, s => s
  | [v], o, s => if o % 8 = 0 then s.writeLow a o v else s.writeHigh a (o - 4) v
  | v :: u :: l, o, s =>
    if o % 8 = 4 then writeDwords a (u :: l) (o + 4) (s.writeHigh a (o - 4) v)
    else
      match msixAt o with
      | some d => writeDwords a l (o + 8) ((s.msixWrite d (v % 2 ^ 32)).msixWrite (d + 1) (u % 2 ^ 32))
      | none => writeDwords a l (o + 8) (s.busWrite a o (Word.ofN (v % 2 ^ 32 + u % 16 * 2 ^ 32)))

/-- A host read request to BAR0 (R427). (DEDUCED, log 67) -/
def hostRead (s : State) (a : Nat) (q : HostRead) : State :=
  if readFits q then readDwords a (q.len / 4) q.off s else (s.unsupportedRequest).emit (.unsupported a)

/-- A host write request to BAR0 (R427, R428). (DEDUCED, log 66 and 67) -/
def hostWrite (s : State) (a : Nat) (q : HostWrite) : State :=
  if q.poisoned then s.poisonedWrite
  else if ¬ writeFits q then s.unsupportedRequest
  else writeDwords a q.dwords q.off s

end State

/-! ### The commands of register access -/

/-- REGISTER_WRITE (R9, R10, R12, R34): a whole word at a BAR0 octet offset. -/
def execRegisterWrite (a : Nat) (o : Nat) (w : Word) (s : State) : Host.Outcome State Fault Refusal :=
  live s (fun s => s.busWrite a (o / 8 * 8) w)

/-- PROFILE_WRITE (R11): the PROFILE register of instance u of a block. -/
def execProfileWrite (a : Nat) (b : Block) (u : Nat) (w : Word) (s : State) : Host.Outcome State Fault Refusal :=
  live s (fun s =>
    let (base, stride, n) := b.place
    if n ≤ u then s
    else if refusesCrag b ∧ isCrag a then s.reject a (State.profileOff (base + stride * u))
    else s.profileBy a b u w)

/-- LOW_HALF_READ (R7). -/
def execLowHalfRead (a : Nat) (o : Nat) (s : State) : Host.Outcome State Fault Refusal :=
  live s (fun s => if isHost a then let (v, bad, s1) := s.readLow a (o / 8 * 8); s1.emit (.readHalf a v bad) else s)

/-- HIGH_HALF_READ (R7). -/
def execHighHalfRead (a : Nat) (o : Nat) (s : State) : Host.Outcome State Fault Refusal :=
  live s (fun s => if isHost a then let (v, bad, s1) := s.readHigh a (o / 8 * 8); s1.emit (.readHalf a v bad) else s)

/-- LOW_HALF_WRITE (R7). -/
def execLowHalfWrite (a : Nat) (o : Nat) (v : Nat) (s : State) : Host.Outcome State Fault Refusal :=
  live s (fun s => if isHost a then s.writeLow a (o / 8 * 8) v else s)

/-- HIGH_HALF_WRITE (R7). -/
def execHighHalfWrite (a : Nat) (o : Nat) (v : Nat) (s : State) : Host.Outcome State Fault Refusal :=
  live s (fun s => if isHost a then s.writeHigh a (o / 8 * 8) v else s)

/-- BAR0_READ (R427, R428). -/
def execBar0Read (a : Nat) (q : HostRead) (s : State) : Host.Outcome State Fault Refusal :=
  live s (fun s => if isHost a then s.hostRead a q else s)

/-- BAR0_WRITE (R427, R428, R192). -/
def execBar0Write (a : Nat) (q : HostWrite) (s : State) : Host.Outcome State Fault Refusal :=
  live s (fun s => if isHost a then s.hostWrite a q else s)

end Sys2Proof.Machine
end

