-- ==== Sys2Proof/Machine/Commit.lean ====
section
/-! DEFINITION. Commit units: the take-in of posted actions from commit queues and register writes, their judgement as on time
or late, steps of time over pending actions, and the coming into force of management changes (spec/01_architecture.md R16 to
R18, R24, R25, R561; spec/02_time_base.md R45; spec/03_crag_engines.md R87 to R90). -/
namespace Sys2Proof.Machine

/-- The commit unit of R33 that a target of R87 names; none where the target is reserved. -/
def unitOf (target : Nat) : Option Nat :=
  if target ≤ 0x11 then some target
  else if 0x20 ≤ target ∧ target ≤ 0x27 then some (18 + (target - 0x20))
  else if target = 0x30 then some 26
  else if 0x40 ≤ target ∧ target ≤ 0x7F then some (27 + (target - 0x40))
  else if target = 0x80 then some 91
  else if 0x90 ≤ target ∧ target ≤ 0x97 then some (92 + (target - 0x90))
  else none

/-- Whether the commit unit that target names defines a selector (R59, R138, R235, R358, R392, R419). -/
def selectorDefined (target sel : Nat) : Bool :=
  match unitOf target with
  | none => false
  | some k => sel == 1 || sel == 2 && (k == 26 || decide (27 ≤ k ∧ k ≤ 90) || decide (92 ≤ k ∧ k ≤ 99))

/-- Pending actions a commit unit holds at most (R59, R139, R237, R358, R392); the Tor units state no limit. -/
def unitRoom (k : Nat) : Option Nat :=
  if k ≤ 25 then some 8 else if k = 26 then some 64 else if k ≤ 90 then none else some 4

namespace State

/-- Whether commit unit k has room for one action more, those on their way to it counted. -/
def hasRoom (s : State) (k : Nat) : Bool :=
  match unitRoom k with
  | some n => decide ((s.posted ++ s.flight).countP (fun p => p.unit == k && (k < 18 || 25 < k || p.sel == 1)) < n)
  | none => true

/-- An action is dropped as late for a cause (R18, R45); a timed frame has its completion entry (R239), a timed CAN frame its
outcome record (R393). -/
def dropLate (s : State) (cause : Nat) (p : Posted) : State :=
  let s1 := s.lateFrom cause p.unit p.agent p.due
  if p.unit ≤ 17 then s1.doneEntry p.unit p.arg 7
  else if 92 ≤ p.unit ∧ p.unit ≤ 99 ∧ p.sel = 1 then s1.canLate (p.unit - 92) p.arg
  else s1

/-- The tick edges at which commit unit k takes in what arrives now, as instants of the elapsed clock: the next one and the one
after it. The slot unit's are edges of Ridgeline time (R43, R352). (DEDUCED, log 16) -/
def edgesOf (s : State) (k : Nat) : Nat × Nat :=
  if k = 91 ∧ s.rlHolds then s.rlEdges
  else
    let edge := s.clk + (s.boundaryAt - s.tbu.time)
    (edge, edge + 128)

/-- The tick edge at which an action that arrives now at unit k is taken in: the next one, or, where it arrives within the
500 ps before that edge, as the synchroniser decides, the one after it (R17, R561). (DEDUCED, log 16) -/
def takeInEdge (s : State) (k : Nat) : Nat × State :=
  let (edge, next) := s.edgesOf k
  if edge - s.clk ≤ 8 then
    let (n, s1) := s.free
    (if Config.syncLater n then next else edge, s1)
  else (edge, s)

/-- The tick that commit unit k judges an action at (R57, R89): the due tick, and on the trigger pins that of the drive
instant. (DESIGN CHOICE, log 7) -/
def judgedTick (s : State) (p : Posted) : Nat :=
  if 18 ≤ p.unit ∧ p.unit ≤ 25 then
    (((p.due : Int) - s.delay (Reg.TBU_TRG_DLY_DLY (p.unit - 18))) % 2 ^ 36).toNat / 128
  else p.due / 128

/-- The tick of a commit unit now, modulo 2^29: of Ridgeline time for the slot unit (R43, R358). -/
def unitTick (s : State) (k : Nat) : Nat := (if k = 91 then s.rtsw / 128 else s.tick) % 2 ^ 29

/-- Commit unit p.unit judges an action at the take-in edge (R17, R18, R89) and holds or drops it. (DEDUCED, log 16) -/
def judgeAction (s : State) (p : Posted) : State :=
  if p.unit = 91 ∧ ¬ s.rlHolds then s.blockSlot p 3
  else
    let d := (s.judgedTick p + 2 ^ 29 - s.unitTick p.unit) % 2 ^ 29
    if d < 2 ^ 28 then
      let q := { p with slack := d }
      if 18 ≤ p.unit ∧ p.unit ≤ 25 ∧ p.sel = 1 then s.takeInFire (p.unit - 18) q
      else { s with posted := s.posted ++ [q] }
    else s.dropLate 0 p

/-- An action arrives at its unit and is taken in at a tick edge. (DEDUCED, log 16) -/
def takeIn (s : State) (p : Posted) : State :=
  let (edge, s1) := s.takeInEdge p.unit
  (s1.advanceTo edge).judgeAction p

/-- The engines that wait with a post on the full commit queue of engine e go on: the entry enters (R88). -/
def releasePost (s : State) (e : Nat) : State :=
  let waits (x : Nat × Engine) : Bool := match x.2.stall with
    | some (.post q _) => q == e
    | _ => false
  match s.engines.filter waits with
  | [] => s
  | x :: xs =>
    match x.2.stall with
    | some (.post _ en) =>
      (x :: xs).foldl (fun s y => s.modEngine y.1 (fun g => { g with stall := none }))
        (s.modEngine e (fun g => { g with cq := g.cq ++ [en] }))
    | _ => s

/-- The entry at the head of an engine's commit queue is taken in by its unit, unless the unit has no room (R88) or the
entry's ticket is not at the head of its domain (R154). -/
def takeFromQueue (s : State) (e : Nat) : State :=
  match (s.engine e).cq with
  | [] => s
  | en :: rest =>
    let waits : Bool := match en.ticket with
      | some (d, t) => s.ticketWaits d t
      | none => false
    match unitOf en.target with
    | none => s
    | some k =>
      if waits ∨ ¬ s.hasRoom k then s
      else
        let p : Posted := { unit := k, sel := en.sel, arg := en.arg, due := en.due, agent := en.agent, seq := s.postSeq }
        let s1 := { s.modEngine e (fun g => { g with cq := rest }) with postSeq := s.postSeq + 1 }
        (s1.releasePost e).takeIn p

/-- The oldest action that register writes have posted to commit unit k is taken in (R561). -/
def takeFromFlight (s : State) (k : Nat) : State :=
  match s.flight.find? (fun p => p.unit == k) with
  | none => s
  | some p => ({ s with flight := s.flight.filter (· != p) }).takeIn p

/-! ### Steps of time over pending actions (R45) -/

/-- A step forward to full time new: every action due after the present and before new is late (R45). Ridgeline slots run on
Ridgeline time (R43) and are not concerned. (DEDUCED, log 17) -/
def skipTo (s : State) (new : Nat) : State :=
  let inSkip (t : Int) : Bool := decide ((s.tbu.time : Int) < t ∧ t < new)
  let gone (p : Posted) : Bool := p.unit != 91 && inSkip (s.dueInstant p)
  let lates := s.posted.filter gone
  let ints := s.tbu.internals.filter (fun x => inSkip x.boundary)
  let s1 := { s with
    posted := s.posted.filter (fun p => !gone p)
    tbu := { s.tbu with internals := s.tbu.internals.filter (fun x => !inSkip x.boundary) } }
  let s2 := lates.foldl (fun s p => s.dropLate 21 p) s1
  let s3 := ints.foldl skipInternal s2
  (List.range 8).foldl (fun s n => s.skipTrain n new) s3

/-- The pending step or set is applied (R45). (DESIGN CHOICE, log 21) -/
def applyChange (s : State) : State :=
  match s.tbu.change with
  | none => s
  | some c =>
    if ¬ s.tbu.running then s
    else
      let s1 := s.advanceToTime s.tbu.changeAt
      let new : Int := match c with
        | .step d => s1.tbu.time + d
        | .set t => t
      let s2 := ({ s1 with tbu := { s1.tbu with change := none } }).setFld Reg.TBU_STAT_STEP_PENDING 0
      if new < 0 ∨ (2 ^ 48 * Config.sec : Nat) ≤ new then s2.reject s.tbu.changeBy Reg.TBU_CTRL
      else
        let t := new.toNat
        let s3 := if s2.tbu.time < t then s2.skipTo t else s2
        let kept := s3.tbu.steps.filter (fun x => s3.clk ≤ x.1 + 2147 * Config.ms)
        let s4 := { s3 with
          tbu := { s3.tbu with time := t, steps := (s3.clk, new - s3.tbu.time) :: kept }
          talus := { s3.talus with windowAt := min s3.talus.windowAt t } }
        ((s4.noteUnsure.setFld Reg.TBU_STAT_TIME_SET 1).bump Reg.TBU_STAT_STEPS 1).raise 21

/-! ### Management changes (R24, R25) -/

/-- The register words of instance u of a data-plane block come into force for what the unit handles from now on: a frame or a
row in its hands keeps the settings it began under (R24), so the change takes effect at the unit's first handling boundary
(R25). (DESIGN CHOICE, log 21) -/
def applyUnit (s : State) (b : Block) (u : Nat) : State :=
  let (base, stride, n) := b.place
  if [Block.mac, .swc, .sts, .tal].contains b ∧ u < n then
    { s with act := Tab.replaceRange (base + stride * u) (base + stride * (u + 1)) s.regs s.act }
  else s

end State

/-! ### The commands of the commit units -/

/-- COMMIT_TAKE_IN (R17, R18, R88, R89, R561). (DEDUCED, log 16) -/
def execCommitTakeIn (src : CommitSource) (s : State) : Host.Outcome State Fault Refusal :=
  live s (fun s =>
    if ¬ s.tbu.running then s
    else match src with
      | .engine e => s.takeFromQueue e
      | .register k => s.takeFromFlight k)

/-- MGMT_CHANGE_APPLY (R24, R25). (DESIGN CHOICE, log 21) -/
def execMgmtChangeApply (b : Block) (u : Nat) (s : State) : Host.Outcome State Fault Refusal :=
  live s (fun s => s.applyUnit b u)

/-- TIME_STEP (R45). -/
def execTimeStep (s : State) : Host.Outcome State Fault Refusal := live s State.applyChange

end Sys2Proof.Machine
end

