-- ==== Sys2Proof/Machine/Flags.lean ====
section
/-! DEFINITION. The results and flags of the Crag instructions, as functions of their operands
(spec/04_crag_instructions.md R112 to R119). -/
namespace Sys2Proof.Machine

/-- The flags Z, N, C and V (R112). -/
structure Flags where
  z : Bool := false
  n : Bool := false
  c : Bool := false
  v : Bool := false
  deriving DecidableEq, Repr

/-- The signed value of a word (R112). -/
def sval (w : Word) : Int := signed 36 w.toNat

/-- Whether an exact signed result lies outside −2^35 to 2^35 − 1 (R113). -/
def overflows (x : Int) : Bool := decide (x < -(2 ^ 35) ∨ 2 ^ 35 - 1 < x)

/-- Flags with Z and N set from a result (R112). -/
def Flags.zn (f : Flags) (w : Word) : Flags := { f with z := w == 0, n := w.bit 35 }

/-! ### Addition, subtraction and logic (R113, R114) -/

/-- ADD and ADC: a + b + cin. -/
def addWords (a b : Word) (cin : Bool) (f : Flags) : Word × Flags :=
  let t := a.toNat + b.toNat + bit01 cin
  let w := Word.ofN t
  (w, { f.zn w with c := decide (2 ^ 36 ≤ t), v := overflows (sval a + sval b + bit01 cin) })

/-- SUB, SBC, CMP and NEG: a − b − bin; C is the borrow. -/
def subWords (a b : Word) (bin : Bool) (f : Flags) : Word × Flags :=
  let w := Word.ofN (a.toNat + 2 ^ 37 - b.toNat - bit01 bin)
  (w, { f.zn w with c := decide (a.toNat < b.toNat + bit01 bin), v := overflows (sval a - sval b - bit01 bin) })

/-- A result that sets Z and N alone: MOV, AND, OR, XOR, TST, NOT, REVN, BFX, BFI. -/
def znOnly (w : Word) (f : Flags) : Word × Flags := (w, f.zn w)

/-- REVN: nonets 0 and 3 exchange, nonets 1 and 2 exchange (R114). -/
def revNonets (w : Word) : Word :=
  (((w.setNonet 0 (w.nonet 3)).setNonet 1 (w.nonet 2)).setNonet 2 (w.nonet 1)).setNonet 3 (w.nonet 0)

/-! ### Shifts (R115) -/

/-- SHL by n. -/
def shlWord (a : Word) (n : Nat) (f : Flags) : Word × Flags :=
  if n = 0 then (a, f.zn a)
  else
    let w := Word.ofN (a.toNat * 2 ^ n)
    (w, { f.zn w with c := if n ≤ 36 then a.bit (36 - n) else false })

/-- SHR by n. -/
def shrWord (a : Word) (n : Nat) (f : Flags) : Word × Flags :=
  if n = 0 then (a, f.zn a)
  else
    let w := Word.ofN (a.toNat / 2 ^ n)
    (w, { f.zn w with c := if n ≤ 36 then a.bit (n - 1) else false })

/-- SAR by n. -/
def sarWord (a : Word) (n : Nat) (f : Flags) : Word × Flags :=
  if n = 0 then (a, f.zn a)
  else
    let w := Word.ofN (toBits 36 (sval a / 2 ^ n))
    (w, { f.zn w with c := if n ≤ 35 then a.bit (n - 1) else a.bit 35 })

/-- ROR by n mod 36. -/
def rorWord (a : Word) (n : Nat) (f : Flags) : Word × Flags :=
  let m := n % 36
  if m = 0 then (a, f.zn a)
  else
    let w := Word.ofN (a.toNat / 2 ^ m + a.toNat % 2 ^ m * 2 ^ (36 - m))
    (w, { f.zn w with c := w.bit 35 })

/-! ### Multiplication and division (R116, R117) -/

/-- MUL: the low half; V where the signed product does not fit. -/
def mulLow (a b : Word) (f : Flags) : Word × Flags :=
  let p := sval a * sval b
  let w := Word.ofN (toBits 36 p)
  (w, { f.zn w with v := overflows p })

/-- MULH: the high half of the signed product. -/
def mulHigh (a b : Word) (f : Flags) : Word × Flags :=
  let w := Word.ofN (toBits 36 (sval a * sval b / 2 ^ 36))
  (w, { f.zn w with v := false })

/-- MULHU: the high half of the unsigned product. -/
def mulHighU (a b : Word) (f : Flags) : Word × Flags :=
  let w := Word.ofN (a.toNat * b.toNat / 2 ^ 36)
  (w, { f.zn w with v := false })

/-- DIV: quotient truncated toward zero, and remainder. -/
def divS (a b : Word) (f : Flags) : Word × Word × Flags :=
  if b = 0 then (0, a, { f with z := true, n := false, v := true })
  else
    let q := Int.tdiv (sval a) (sval b)
    let w := Word.ofN (toBits 36 q)
    (w, Word.ofN (toBits 36 (sval a - q * sval b)), { f.zn w with v := overflows q })

/-- DIVU: unsigned quotient and remainder. -/
def divU (a b : Word) (f : Flags) : Word × Word × Flags :=
  if b = 0 then (0, a, { f with z := true, n := false, v := true })
  else
    let w := Word.ofN (a.toNat / b.toNat)
    (w, Word.ofN (a.toNat % b.toNat), { f.zn w with v := false })

/-! ### CRC steps (R118) -/

/-- Width and polynomial of a selection; none where it is reserved. -/
def crcPoly : Nat → Option (Nat × Nat)
  | 0 => some (16, 0x1021)
  | 1 => some (16, 0x3D65)
  | 2 => some (16, 0x8005)
  | 3 => some (24, 0x864CFB)
  | 4 => some (32, 0x04C11DB7)
  | 5 => some (32, 0x1EDC6F41)
  | _ => none

/-- The lowest n bits of x in reverse order. -/
def revBits (n x : Nat) : Nat :=
  (List.range n).foldl (fun r i => if x.testBit i then r + 2 ^ (n - 1 - i) else r) 0

/-- One step of a CRC in normal form: bit i of x comes in at the top. -/
def crcUp (w p x : Nat) (s i : Nat) : Nat :=
  let fb := s.testBit (w - 1) != x.testBit i
  let t := s * 2 % 2 ^ w
  if fb then t ^^^ p else t

/-- One step of a CRC in reflected form: bit i of x comes in at the bottom. -/
def crcDown (p x : Nat) (s i : Nat) : Nat :=
  let fb := s.testBit 0 != x.testBit i
  let t := s / 2
  if fb then t ^^^ p else t

/-- CRC wd, B: one octet. -/
def crcWord (a b : Word) (f : Flags) : Word × Flags :=
  match crcPoly (a.field 35 33) with
  | none => (a, { f with v := true })
  | some (w, p) =>
    let s := a.field (w - 1) 0
    let x := b.field 7 0
    let t := if a.bit 32 then [0, 1, 2, 3, 4, 5, 6, 7].foldl (crcDown (revBits w p) x) s
             else [7, 6, 5, 4, 3, 2, 1, 0].foldl (crcUp w p x) s
    (a.setField 31 0 t, { f with z := t == 0, n := false })

/-! ### Bit fields (R119) -/

/-- BFX: bits [p + w − 1 : p]. -/
def extractField (a : Word) (p w : Nat) : Word := Word.ofN (a.field (p + w - 1) p)

/-- BFI: bits [p + w − 1 : p] of old replaced by bits [w − 1 : 0] of new. -/
def insertField (old new : Word) (p w : Nat) : Word := old.setField (p + w - 1) p (new.field (w - 1) 0)

end Sys2Proof.Machine
end

