-- ==== Sys2Proof/Machine/CragIsa.lean ====
section
/-! DEFINITION. The Crag instruction words: formats, opcode map, encoder and decoder, and what a bundle's prefixes may be
(spec/04_crag_instructions.md R106 to R111, R119). -/
namespace Sys2Proof.Machine

/-- The format R instructions, in the order of R110. -/
inductive ROp where
  | mov | add | adc | sub
  | sbc | cmp | and | or
  | xor | tst | shl | shr
  | sar | ror | mul | mulh
  | mulhu | div | divu | crc
  | ld | st | ldn | stn
  | ldh | sth | bfx | bfi
  deriving DecidableEq, Repr

/-- Every format R instruction. -/
def ROp.all : List ROp :=
  [.mov, .add, .adc, .sub, .sbc, .cmp, .and, .or, .xor, .tst, .shl, .shr, .sar, .ror, .mul, .mulh,
   .mulhu, .div, .divu, .crc, .ld, .st, .ldn, .stn, .ldh, .sth, .bfx, .bfi]

/-- 4 × major + minor of a format R instruction (R110). -/
def ROp.code : ROp → Nat
  | .mov => 0x04 | .add => 0x05 | .adc => 0x06 | .sub => 0x07
  | .sbc => 0x08 | .cmp => 0x09 | .and => 0x0A | .or => 0x0B
  | .xor => 0x0C | .tst => 0x0D | .shl => 0x0E | .shr => 0x0F
  | .sar => 0x10 | .ror => 0x11 | .mul => 0x12 | .mulh => 0x13
  | .mulhu => 0x14 | .div => 0x15 | .divu => 0x16 | .crc => 0x17
  | .ld => 0x18 | .st => 0x19 | .ldn => 0x1A | .stn => 0x1B
  | .ldh => 0x1C | .sth => 0x1D | .bfx => 0x1E | .bfi => 0x1F

/-- How a format R instruction uses its immediate (R108). -/
inductive ImmUse where
  | signed | zero | offset | field
  deriving DecidableEq, Repr

/-- The rows of R108. -/
def ROp.immUse : ROp → ImmUse
  | .mov | .add | .adc | .sub | .sbc | .cmp | .mul | .mulh | .div => .signed
  | .and | .or | .xor | .tst | .mulhu | .divu | .shl | .shr | .sar | .ror | .crc => .zero
  | .ld | .st | .ldn | .stn | .ldh | .sth => .offset
  | .bfx | .bfi => .field

/-- A Crag instruction without its prefixes. -/
inductive CragOp where
  | nop | tdone | ret | ckpt
  | brk (c : Fin 16)
  | jmpr (r : Fin 16)
  | callr (r : Fin 16)
  | post (r : Fin 16)
  | push (r : Fin 16)
  | pop (r : Fin 16)
  | getf (r : Fin 16)
  | setf (r : Fin 16)
  | skCond (c : Fin 16)
  | skec (f : Fin 32)
  | skes (f : Fin 32)
  | neg (r : Fin 16)
  | not (r : Fin 16)
  | revn (r : Fin 16)
  | rr (op : ROp) (d s : Fin 16)
  | skbc (r : Fin 16) (b : Fin 64)
  | skbs (r : Fin 16) (b : Fin 64)
  | br (off : Fin 1024)
  | call (off : Fin 1024)
  deriving DecidableEq, Repr

/-- Whether the fields of an instruction are defined (R111, R123): condition 0xF and bit numbers 36 to 63 are not. -/
def CragOp.defined : CragOp → Bool
  | .skCond c => c.val < 15
  | .skbc _ b => b.val < 36
  | .skbs _ b => b.val < 36
  | _ => true

/-- The 14-bit word of an instruction (R110, R111). -/
def CragOp.word : CragOp → Nat
  | .nop => 0x0000
  | .tdone => 0x0010
  | .ret => 0x0020
  | .ckpt => 0x0030
  | .brk c => 0x0040 + c
  | .jmpr r => 0x0050 + r
  | .callr r => 0x0060 + r
  | .post r => 0x0070 + r
  | .push r => 0x0080 + r
  | .pop r => 0x0090 + r
  | .getf r => 0x00A0 + r
  | .setf r => 0x00B0 + r
  | .skCond c => 0x0100 + c
  | .skec f => 0x0200 + 8 * f
  | .skes f => 0x0204 + 8 * f
  | .neg r => 0x0300 + r
  | .not r => 0x0310 + r
  | .revn r => 0x0320 + r
  | .rr op d s => 256 * op.code + 16 * d + s
  | .skbc r b => 0x2000 + 64 * r + b
  | .skbs r b => 0x2400 + 64 * r + b
  | .br off => 0x2800 + off
  | .call off => 0x2C00 + off

/-- A number as a register. -/
def reg4 (n : Nat) : Fin 16 := Fin.ofNat 16 n

/-- The system control words, group 0b00 of major 0x0 (R111). -/
def decodeSystem (w : Nat) : Option CragOp :=
  match w / 16 with
  | 0x0 => if w % 16 = 0 then some .nop else none
  | 0x1 => if w % 16 = 0 then some .tdone else none
  | 0x2 => if w % 16 = 0 then some .ret else none
  | 0x3 => if w % 16 = 0 then some .ckpt else none
  | 0x4 => some (.brk (reg4 w))
  | 0x5 => some (.jmpr (reg4 w))
  | 0x6 => some (.callr (reg4 w))
  | 0x7 => some (.post (reg4 w))
  | 0x8 => some (.push (reg4 w))
  | 0x9 => some (.pop (reg4 w))
  | 0xA => some (.getf (reg4 w))
  | 0xB => some (.setf (reg4 w))
  | _ => none

/-- The words of major 0x0 (R111). -/
def decodeMajor0 (w : Nat) : Option CragOp :=
  match w / 256 with
  | 0 => decodeSystem w
  | 1 => if w < 0x010F then some (.skCond (reg4 w)) else none
  | 2 =>
    if w % 8 = 0 then some (.skec (Fin.ofNat 32 (w / 8)))
    else if w % 8 = 4 then some (.skes (Fin.ofNat 32 (w / 8)))
    else none
  | 3 =>
    match w / 16 with
    | 0x30 => some (.neg (reg4 w))
    | 0x31 => some (.not (reg4 w))
    | 0x32 => some (.revn (reg4 w))
    | _ => none
  | _ => none

/-- The instruction of a 14-bit word; none where the word is a LIT prefix or undefined (R110, R111). -/
def CragOp.decode (w : Nat) : Option CragOp :=
  match w / 1024 with
  | 0 => decodeMajor0 w
  | 0x8 => if w % 64 < 36 then some (.skbc (reg4 (w / 64)) (Fin.ofNat 64 w)) else none
  | 0x9 => if w % 64 < 36 then some (.skbs (reg4 (w / 64)) (Fin.ofNat 64 w)) else none
  | 0xA => some (.br (Fin.ofNat 1024 w))
  | 0xB => some (.call (Fin.ofNat 1024 w))
  | _ => (ROp.all.find? (fun op => op.code == w / 256)).map (fun op => .rr op (reg4 (w / 16)) (reg4 w))

/-- Whether a word is a LIT prefix (R106). -/
def isLit (w : Nat) : Bool := 0x3000 ≤ w && w ≤ 0x3FFF

/-- The word of a LIT prefix with a payload. -/
def litWord (p : Nat) : Nat := 0x3000 + p % 4096

/-- The immediate of a bundle (R108): the first prefix supplies the most significant 12 bits. -/
def immOf (lits : Lits) : Nat := lits.foldl (fun v p => v * 4096 + p % 4096) 0

/-- The immediate extended from its sign bit (R108). -/
def immSigned (lits : Lits) : Word := Word.ofN (toBits 36 (signed (12 * lits.length) (immOf lits)))

/-- Bit position and width that the prefix of BFX and BFI gives (R119). -/
def bfPlace (lits : Lits) : Nat × Nat := (immOf lits / 64 % 64, immOf lits % 64 + 1)

/-- Whether a bundle of at most three prefixes and an instruction is one the engine executes; any other traps ILLEGAL (R107,
R109, R111, R119). -/
def CragOp.legal (op : CragOp) (lits : Lits) : Bool :=
  match op with
  | .rr o _ s =>
    match o.immUse with
    | .signed | .zero => lits.isEmpty || s.val == 0
    | .offset => true
    | .field => lits.length == 1 && decide ((bfPlace lits).1 + (bfPlace lits).2 ≤ 36)
  | op => lits.isEmpty && op.defined

end Sys2Proof.Machine
end

