-- ==== Sys2Proof/Machine/CragRun.lean ====
section
/-! DEFINITION. The running of a Crag bundle: fetch and delimiting, the checks before its effect, loads and stores, posts, the
pair comparator with its logs, checkpoints and restarts, and what an instruction may do with the engine
(spec/03_crag_engines.md R69, R72, R77 to R80, R86 to R101; spec/04_crag_instructions.md R107 to R109, R120 to R128). -/
namespace Sys2Proof.Machine

/-- How the effect of a bundle ends: with the next bundle, a jump, a taken skip, a trap before any effect of the bundle (s
holds what a memory controller or a register has reported), or with the engine settled otherwise. -/
inductive Ended where
  | next (s : State)
  | jump (pc : Nat) (s : State)
  | skip (s : State)
  | trap (code addr : Nat) (s : State)
  | over (s : State)

/-- How an outward access ends: performed with the data returned, performed by a unit that lets the engine wait, or trapped. -/
inductive Performed where
  | done (w : Word) (s : State)
  | waits (s : State)
  | trap (code addr : Nat) (s : State)

/-- The same end of an access, with what state it leaves changed. -/
def Performed.onState (f : State → State) : Performed → Performed
  | .done w s => .done w (f s)
  | .waits s => .waits (f s)
  | .trap code addr s => .trap code addr (f s)

/-- The flags of an engine. -/
def Engine.fl (g : Engine) : Flags := { z := g.z, n := g.n, c := g.c, v := g.v }

/-- The engine with its flags replaced. -/
def Engine.setFl (g : Engine) (f : Flags) : Engine := { g with z := f.z, n := f.n, c := f.c, v := f.v }

/-- Operand B of a bundle (R108): window register s, or the immediate where there is a prefix. -/
def Engine.operandB (g : Engine) (o : ROp) (lits : Lits) (s : Nat) : Word :=
  if lits.isEmpty then g.w s
  else match o.immUse with
    | .signed => immSigned lits
    | _ => Word.ofN (immOf lits)

/-- The nonets a part of a word covers (R4, R120): bit k for nonet k. -/
def WordPart.mask : WordPart → Nat
  | .whole => 15
  | .nonet k => 2 ^ k
  | .half 0 => 3
  | .half _ => 12

/-- The low bits of a register laid out at the place of a part of a word (R120). -/
def WordPart.laid (p : WordPart) (w : Word) : Word :=
  match p with
  | .whole => w
  | .nonet k => (0 : Word).setNonet k (w.field 8 0)
  | .half 0 => (0 : Word).setField 35 18 (w.field 17 0)
  | .half _ => (0 : Word).setField 17 0 (w.field 17 0)

/-- The word address and part that LD and ST, LDN and STN, LDH and STH form from the sum (R120). -/
def addrOf (o : ROp) (sum : Nat) : Nat × WordPart :=
  match o with
  | .ldn | .stn => (sum % 2 ^ 26 / 4, .nonet (sum % 4))
  | .ldh | .sth => (sum % 2 ^ 25 / 2, .half (sum % 2))
  | _ => (sum % 2 ^ 24, .whole)

namespace State

/-! ### Fetch (R69, R107) -/

/-- A word of the active bank as a fetch reads it, and what the fetch finds. -/
def codeWord (s : State) (e a : Nat) : Nat × Syndrome :=
  let (d, syn) := decodeWord 14 (s.codeAt (engineCtrl e) ((s.engine e).bank + 1) (a % bankSize e))
  (d.field 13 0, syn)

/-- The bundle that begins at a word (R107): it ends after its first non-LIT word, or after a fourth LIT word. -/
def bundleAt (s : State) (e a : Nat) : Nat → List Nat
  | 0 => []
  | n + 1 =>
    let w := (s.codeWord e a).1
    if isLit w then w :: s.bundleAt e (a + 1) n else [w]

/-- The words of the bundle at an engine's PC. -/
def bundleHere (s : State) (e : Nat) : List Nat := s.bundleAt e (s.engine e).pc 4

/-- The bundle at the PC becomes the one that a trap would name (R91, R107). (DEDUCED, log 26) -/
def beginBundle (s : State) (e : Nat) : State :=
  let ws := s.bundleHere e
  s.modEngine e (fun g => { g with cur := (g.pc, ws.getLastD 0, ws.length - 1) })

/-- The n words from a on are fetched: single-bit errors are corrected and counted, other findings reported (R69, R195). -/
def fetchWords (s : State) (e a : Nat) : Nat → State
  | 0 => s
  | n + 1 =>
    let k := (s.engine e).bank + 1
    let (_, _, s1) := (s.noteRepair [e] (engineCtrl e) k (a % bankSize e)).readStored (e + 1) (engineCtrl e) k (a % bankSize e) false
    s1.fetchWords e (a + 1) n

/-- The trap that a fetch of n words from a on makes, with the address of the word (R69, R92). (DEDUCED, log 27) -/
def fetchTrap (s : State) (e a n : Nat) : Option (Nat × Nat) :=
  let at_ (syn : Syndrome) : Option Nat := (List.range n).find? (fun i => (s.codeWord e (a + i)).2 == syn)
  match at_ .uncorrectable, at_ .unwritten with
  | some i, _ => some (3, (a + i) % bankSize e)
  | none, some i => some (4, (a + i) % bankSize e)
  | none, none => none

/-! ### Counting -/

/-- An engine has executed a bundle (R92, R105). -/
def countBundle (s : State) (e : Nat) : State :=
  (s.bump (Reg.CE_BUNDLES_BUNDLES e) 1).modEngine e (fun g => { g with
    passBp := false, stepping := false
    run := g.run.map (fun r => { r with bundles := r.bundles + 1, done := r.done + 1 }) })

/-! ### Outward accesses (R72, R80, R95, R121, R169, R188) -/

/-- The trap that what a load found makes (R92, R197, R198). (DEDUCED, log 27) -/
def loadTrap (s : State) (e : Nat) (syn : Syndrome) : Option Nat :=
  match syn with
  | .uncorrectable => some 0x0E
  | .unwritten => if s.isSet (Reg.CE_TRAPCTL_UNINIT e) then some 0x0F else none
  | _ => none

/-- The memory word outside local data that a word address reaches, directly or through a window of register space. -/
def memoryOf (e a : Nat) : Option (Nat × Nat) :=
  match placeOf e a with
  | .memory c x => some (c, x)
  | .register o => windowAt o
  | _ => none

/-- A read outside local data is performed. A steward's vault or program word traps as a load of memory does (R197, R198).
(DEDUCED, log 29) -/
def makeRead (s : State) (e addr : Nat) : Performed :=
  let a := s.agentOf e
  match memoryOf e addr, placeOf e addr with
  | some (c, x), _ =>
    if ¬ (memRights a c 0).1 then .trap 0x0B addr s
    else if s.poweredDown c then .done 0 (s.memRefuse c a 3)
    else
      let (w, syn, s1) := (s.noteRepair (s.crew e) c 0 x).memRead a c 0 x false
      match s.loadTrap e syn with
      | some k => .trap k addr s1
      | none => .done w s1
  | none, .register o =>
    match s.busRead a o with
    | (some w, syn, s1) =>
      match s.loadTrap e syn with
      | some k => .trap k addr s1
      | none => .done w s1
    | (none, _, s1) => .waits s1
  | none, _ => .trap 0x0C addr s

/-- Whether a crew waits on a queue. -/
def waitsOnQueue (s : State) (es : List Nat) : Bool :=
  es.any (fun e => match (s.engine e).stall with
    | some (.push _) => true
    | some (.ordered _ _) => true
    | _ => false)

/-- A write outside local data is performed; mask 15 is a whole word. (DEDUCED, log 29) -/
def makeWrite (s : State) (e addr mask : Nat) (w : Word) : Performed :=
  let a := s.agentOf e
  match memoryOf e addr, placeOf e addr with
  | some (c, x), at_ =>
    if ¬ (memRights a c 0).2 ∨ c = 2 ∧ s.mailGuard x then .trap 0x0B addr s
    else if s.poweredDown c then
      match at_ with
      | .register o => .done 0 (s.memReject c a 3 o)
      | _ => .done 0 (s.memRefuse c a 3)
    else .done 0 ((s.noteRepair (s.crew e) c 0 x).agentWrite a c x mask w)
  | none, .register o =>
    let s1 := s.busWrite a o w
    if s1.waitsOnQueue (s.crew e) then .waits s1 else .done 0 s1
  | none, _ => .trap 0x0C addr s

/-- The engine whose commit queue takes the posts of engine e: in a paired task the first of the pair that takes part.
(DEDUCED, log 19) -/
def postingEngine (s : State) (e : Nat) : Nat := ((s.crew e).head?).getD e

/-- A post is performed: it enters the commit queue, or waits for room in it (R88). (DEDUCED, log 19) -/
def makePost (s : State) (e : Nat) (en : CqEntry) : Performed :=
  let q := s.postingEngine e
  if (s.engine q).cq.length < 16 then .done 0 (s.modEngine q (fun g => { g with cq := g.cq ++ [en] }))
  else .waits (s.stallAll (s.crew e) (.post q en))

/-- An outward access is performed once, for the engines that present it. -/
def perform (s : State) (e : Nat) (acc : PairAccess) : Performed :=
  let s0 := { s with acting := s.crew e }
  let done := match acc with
    | .read a => s0.makeRead e a
    | .write a w => s0.makeWrite e a 15 w
    | .narrow a mask w => s0.makeWrite e a mask w
    | .post en => s0.makePost e en
    | .ckpt | .done => .done 0 s0
  done.onState (fun s => { s with acting := [] })

/-! ### The pair comparator (R95 to R101) -/

/-- The task ends with PAIR_FAIL on both engines (R101). -/
def pairFail (s : State) (p : Nat) : State :=
  let e := ((s.pairCrew p).head?).getD (2 * p)
  (s.takeBack e).trap e 0x12 0

/-- Both engines stop for a restart from the last checkpoint, or the second one in a run ends the task (R97, R99, R101). -/
def stopForRestart (s : State) (p : Nat) : State :=
  let n := (s.pair p).withheld + 1
  if 2 ≤ n then s.pairFail p
  else
    let s1 := s.setPair p { s.pair p with
      presented := none, withheld := n, restarting := some s.clk, matched := 0, fresh := false }
    (s1.pairCrew p).foldl takeBack s1

/-- The comparator withholds an access (R97). (DEDUCED, log 28) -/
def withhold (s : State) (p : Nat) : State :=
  let s1 := (s.bumpSat (Reg.CE_PAIR_STAT_MISMATCH (2 * p)) 1).bumpSat (Reg.CE_PAIR_STAT_MISMATCH (2 * p + 1)) 1
  ((s1.raise 51).report (2 * p) 51 0 0 (2 * p + 1) (2 * p + 2)).stopForRestart p

/-- The word an access returned reaches every engine that takes part. -/
def deliverAll (s : State) (e : Nat) (w : Word) : State := (s.crew e).foldl (fun s x => s.complete x w) s

/-- A checkpoint of one engine (R98): the bundle it has begun is CKPT, without prefix. -/
def checkpointOne (s : State) (e : Nat) : State :=
  s.modEngine e (fun g =>
    let ws := (List.range 16).map g.w
    let base : Engine := { g with regs := [] }
    let cleared := (List.range 16).foldl (fun h i => h.setW i (ws.getD i 0)) base
    { cleared with
      undo := []
      ckpt := some {
        window := ws, flags := g.flags, dsp := g.dsp, pc := (g.cur.1 + 1) % bankSize e, wb := g.wb
        done := (g.run.map (·.done)).getD 0 + bit01 g.stall.isNone } })

/-- The checkpoint of a paired task (R98): a new run begins (R101). (DEDUCED, log 28) -/
def checkpoint (s : State) (e : Nat) : State :=
  let s1 := (s.crew e).foldl checkpointOne s
  s1.setPair (e / 2) { s1.pair (e / 2) with log := [], matched := 0, withheld := 0 }

/-- The comparator acts on an access that its engines agree on, or that one engine presents solo: against the replay log
while that lasts (R99), then by performing it once (R95). A log that is full traps PAIR_LOG before the access has an effect, unless
the access traps with a lower code (R92, R98). -/
def agreed (s : State) (e : Nat) (acc : PairAccess) : Ended :=
  let p := e / 2
  let q := { s.pair p with presented := none, fresh := false }
  let s0 := s.setPair p q
  match q.log[q.matched]? with
  | some (acc', w) =>
    if acc' = acc then .next ((s0.setPair p { q with matched := q.matched + 1 }).deliverAll e w)
    else .over (s0.withhold p)
  | none =>
    match acc with
    | .done => .over ((s0.countBundle e).endTask e)
    | .ckpt => .next ((s0.checkpoint e).deliverAll e 0)
    | _ =>
      let full := decide (128 ≤ q.log.length)
      match s0.perform e acc with
      | .done w s1 => if full then .trap 0x11 0 s0 else .next ((s1.logAccess p acc w).deliverAll e w)
      | .waits s1 => if full then .trap 0x11 0 s0 else .next (s1.logAccess p acc 0)
      | .trap k a s1 => .trap k a s1

/-- An engine of a paired task presents an access: the comparator waits for its partner, compares, and acts (R95, R97).
(DEDUCED, log 28) -/
def present (s : State) (e : Nat) (acc : PairAccess) : Ended :=
  let p := e / 2
  if s.partnerIn e then
    match (s.pair p).presented with
    | some (_, acc', _) => if acc' = acc then s.agreed e acc else .over (s.withhold p)
    | none =>
      .next (((s.setPair p { s.pair p with presented := some (e, acc, s.clk) }).noteStall e).modEngine e
        (fun g => { g with stall := some .partner }))
  else s.agreed e acc

/-- An engine makes an access that leaves it; a load delivers to dst. -/
def outward (s : State) (e : Nat) (acc : PairAccess) (dst : Option Dest) : Ended :=
  let s1 := s.modEngine e (fun g => { g with dst := dst })
  if s1.paired e then s1.present e acc
  else match s1.perform e acc with
    | .done w s2 => .next (s2.complete e w)
    | .waits s2 => .next s2
    | .trap k a s2 => .trap k a s2

/-! ### Loads and stores (R72, R80, R120, R121) -/

/-- A load by word address into window register d; f is what else changes in the engine. -/
def load (s : State) (e addr : Nat) (part : WordPart) (d : Nat) (f : Engine → Engine) : Ended :=
  if ¬ s.mpuPermits e addr false then .trap 0x0B addr s
  else match placeOf e addr with
    | .unmapped => .trap 0x0C addr s
    | .localData a =>
      let (w, syn, s1) := s.localRead e a
      match s.loadTrap e syn with
      | some k => .trap k addr s1
      | none => .next (s1.modEngine e (fun g => (f g).setW d (part.of w)))
    | _ =>
      let g := s.engine e
      (s.modEngine e f).outward e (.read addr) (some { reg := (g.wb + d % 16) % 256, part := part })

/-- A store of a part of a word by word address; w has the part in place; f is what else changes in the engine. -/
def store (s : State) (e addr : Nat) (part : WordPart) (w : Word) (f : Engine → Engine) : Ended :=
  if ¬ s.mpuPermits e addr true then .trap 0x0B addr s
  else match placeOf e addr, part with
    | .unmapped, _ => .trap 0x0C addr s
    | .localData a, .whole => if s.undoFull e [a] then .trap 0x11 0 s else .next ((s.localWrite e a w).modEngine e f)
    | .localData a, _ =>
      if s.undoFull e [a] then .trap 0x11 0 s else .next ((s.localNarrow e a part.mask w).modEngine e f)
    | .register _, .whole => (s.modEngine e f).outward e (.write addr w) none
    | .register _, _ => .trap 0x0C addr s
    | _, .whole => (s.modEngine e f).outward e (.write addr w) none
    | _, _ => (s.modEngine e f).outward e (.narrow addr part.mask w) none

/-! ### Calls and returns (R76 to R78, R125) -/

/-- Word of local data where a spilled group begins. -/
def spillAt (s : State) (e k : Nat) : Nat := s.fld (Reg.CE_SPILL_BASE_ADDR e) + 8 * k

/-- Whether a group lies outside the spill area, from CE_SPILL_BASE up to CE_SPILL_LIMIT (R77). -/
def spillBarred (s : State) (e k : Nat) : Bool := decide (s.fld (Reg.CE_SPILL_LIMIT_ADDR e) < s.spillAt e k + 7)

/-- The words of a group of physical registers are written to the spill area. -/
def spillGroup (s : State) (e k : Nat) : State :=
  let s1 := (List.range 8).foldl (fun s i =>
    s.localWrite e ((s.spillAt e k + i) % localSize e) (Tab.get 0 (8 * (k % 32) + i) (s.engine e).regs)) s
  s1.modEngine e (fun g => { g with spilled := k + 1 })

/-- A call: the return address is pushed, the window moves up, and a group is spilled where the window needs its place. The SPILL
trap records the address 0. (DEDUCED, log 27) -/
def callTo (s : State) (e target ret : Nat) : Ended :=
  let g := s.engine e
  let d := g.rstack.length + 1
  let push (s : State) : State := s.modEngine e (fun g => { g with rstack := ret :: g.rstack, wb := (g.wb + 8) % 256 })
  if 64 < d then .trap 0x06 0 s
  else if 31 ≤ d ∧ g.spilled < d - 30 then
    let k := g.spilled
    let as := (List.range 8).map (fun i => (s.spillAt e k + i) % localSize e)
    if s.spillBarred e k then .trap 0x08 0 s
    else if s.undoFull e as then .trap 0x11 0 s
    else .jump target (push (s.spillGroup e k))
  else .jump target (push s)

/-- The words of a spilled group are read back; the trap code of the first word that a load would trap on.
(DEDUCED, log 27) -/
def fillGroup (s : State) (e k : Nat) : Nat → Option (Nat × Nat) × State
  | 0 => (none, s.modEngine e (fun g => { g with spilled := k }))
  | n + 1 =>
    let i := 7 - n
    let a := (s.spillAt e k + i) % localSize e
    let (w, syn, s1) := s.localRead e a
    match s.loadTrap e syn with
    | some c => (some (c, a), s1)
    | none => (s1.modEngine e (fun g => { g with regs := Tab.put 0 (8 * (k % 32) + i) w g.regs })).fillGroup e k n

/-- A return: the return address is popped, the window moves down, and a group it needs is filled back, where the group lies
within the spill area (R77). (DEDUCED, log 27) -/
def retFrom (s : State) (e : Nat) : Ended :=
  let g := s.engine e
  match g.rstack with
  | [] => .trap 0x07 0 s
  | pc :: rest =>
    let pop (s : State) : State := s.modEngine e (fun g => { g with rstack := rest, wb := (g.wb + 248) % 256 })
    if rest.length < g.spilled then
      if s.spillBarred e (g.spilled - 1) then .trap 0x08 0 s
      else match s.fillGroup e (g.spilled - 1) 8 with
      | (none, s1) => .jump pc (pop s1)
      | (some (c, a), s1) => .trap c a s1
    else .jump pc (pop s)

/-! ### A bundle (R69, R86, R91, R92, R107 to R109) -/

/-- Whether an engine comes to a bundle: it holds a task, can execute, and is neither stopped nor waiting. -/
def comesToBundle (s : State) (e : Nat) : Bool :=
  let g := s.engine e
  s.enginePowered e && g.run.isSome && !g.trapped && g.stall.isNone && (!g.halted || g.stepping) && !g.flagged
    && !(s.paired e && (s.pair (e / 2)).restarting.isSome)

/-- Whether the bundle at the PC is the one that a SKIP of the pair lets the engine pass (R93). -/
def passesBundle (s : State) (e : Nat) : Bool :=
  (s.engine e).skipAt.isSome && (s.engine e).skipAt == (s.engine e).run.map (·.done)

/-- Whether an engine executes the bundle at its PC. -/
def canRun (s : State) (e : Nat) : Bool := s.comesToBundle e && !s.passesBundle e

/-- Whether the engine's task has executed as many bundles as it may (R92). -/
def budgetSpent (s : State) (e : Nat) : Bool :=
  let n := s.fld (Reg.CE_LIMITS_TASK_BUDGET e)
  n != 0 && decide (n ≤ ((s.engine e).run.map (·.bundles)).getD 0)

/-- The engine has executed a bundle and goes on at a program word. -/
def goTo (s : State) (e pc : Nat) : State :=
  (s.modEngine e (fun g => { g with pc := pc % bankSize e })).countBundle e

/-- The end of a bundle whose following word is nextPc. -/
def endBundle (e nextPc : Nat) : Ended → State
  | .next s => s.goTo e nextPc
  | .jump pc s => s.goTo e pc
  | .skip s => s.goTo e (nextPc + (s.bundleAt e nextPc 4).length)
  | .trap c a s => s.trap e c a
  | .over s => s

/-- What the bundle at the PC of engine e does, its words being those of the command: traps that come before the instruction,
then its effect. -/
def attempt (s : State) (e : Nat) (lits : Lits) (legal : Bool) (effect : State → Ended) : Ended :=
  let pc := (s.engine e).pc
  let n := lits.length + 1
  let s1 := (s.beginBundle e).fetchWords e pc n
  match s.fetchTrap e pc n with
  | some (c, a) => .trap c a s1
  | none => if legal then effect s1 else .trap 5 0 s1

/-- Whether an engine that its partner's trap has stopped stands at the bundle that trapped (R93). -/
def atPartnersTrap (s : State) (e : Nat) : Bool :=
  (s.engine e).pulled && (s.engine e).trapped
    && (s.engine e).run.map (·.done) == (s.engine (partnerOf e)).run.map (·.done)

/-- The bundle at the PC of an engine that does not execute it: a SKIP of the pair lets the engine pass it, or the engine, stopped
by its partner's trap at this bundle, meets a trap of its own there (R93). (DEDUCED, log 27) -/
def unexecuted (s : State) (e : Nat) (lits : Lits) (legal : Bool) (effect : State → Ended) : State :=
  if s.comesToBundle e then
    s.modEngine e (fun g => { g with pc := (g.pc + lits.length + 1) % bankSize e, skipAt := none })
  else if s.atPartnersTrap e then
    match (s.modEngine e (fun g => { g with trapped := false })).attempt e lits legal effect with
    | .trap c a _ => (s.beginBundle e).trapToo e c a
    | _ => s
  else s

/-- Engine e executes the bundle at its PC, where its words are those of the command. A breakpoint halts the engine instead
(R555), a spent budget traps it (R92). (DESIGN CHOICE, log 25; DEDUCED, log 26) -/
def bundle (s : State) (e : Nat) (lits : Lits) (word : Nat) (legal : Bool) (effect : State → Ended) : State :=
  if ¬ s.canRun e then
    if s.bundleHere e = lits.map litWord ++ [word] then s.unexecuted e lits legal effect else s
  else if s.breakHere e then s.breakpoint e
  else if s.budgetSpent e then (s.beginBundle e).trap e 2 0
  else if s.bundleHere e ≠ lits.map litWord ++ [word] then s
  else endBundle e ((s.engine e).pc + (lits.length + 1)) (s.attempt e lits legal effect)

/-- The bundle of an instruction. (DEDUCED, log 26) -/
def insn (s : State) (e : Nat) (lits : Lits) (op : CragOp) (effect : State → Ended) : State :=
  s.bundle e lits op.word (op.legal lits) effect

/-- An instruction that writes window register d and the flags from its operands wd and B (R112, R113). -/
def dataOp (s : State) (e : Nat) (lits : Lits) (o : ROp) (d r : Fin 16) (f : Word → Word → Flags → Word × Flags) : State :=
  s.insn e lits (.rr o d r) (fun s => .next (s.modEngine e (fun g =>
    let (w, fl) := f (g.w d) (g.operandB o lits r) g.fl
    (g.setW d w).setFl fl)))

/-- An instruction that sets the flags alone. -/
def flagOp (s : State) (e : Nat) (lits : Lits) (o : ROp) (d r : Fin 16) (f : Word → Word → Flags → Word × Flags) : State :=
  s.insn e lits (.rr o d r) (fun s => .next (s.modEngine e (fun g =>
    g.setFl (f (g.w d) (g.operandB o lits r) g.fl).2)))

/-- An instruction that writes a quotient to wd and a remainder to w(d + 1) (R117). -/
def divOp (s : State) (e : Nat) (lits : Lits) (o : ROp) (d r : Fin 16)
    (f : Word → Word → Flags → Word × Word × Flags) : State :=
  s.insn e lits (.rr o d r) (fun s =>
    let g := s.engine e
    let b := g.operandB o lits r
    let (q, m, fl) := f (g.w d) b g.fl
    if b = 0 ∧ s.isSet (Reg.CE_TRAPCTL_DIV_ZERO e) then .trap 0x10 0 s
    else .next (s.setEngine e (((g.setW d q).setW (d + 1) m).setFl fl)))

/-- A unary instruction on wr (R114). -/
def unaryOp (s : State) (e : Nat) (lits : Lits) (op : CragOp) (r : Fin 16) (f : Word → Flags → Word × Flags) : State :=
  s.insn e lits op (fun s => .next (s.modEngine e (fun g =>
    let (w, fl) := f (g.w r) g.fl
    (g.setW r w).setFl fl)))

/-- The sum that a load or store forms its address from (R108, R120). -/
def addressSum (s : State) (e : Nat) (lits : Lits) (r : Fin 16) : Nat :=
  ((s.engine e).w r).toNat + (if lits.isEmpty then 0 else (immSigned lits).toNat)

/-- A load instruction (R120, R121). -/
def loadOp (s : State) (e : Nat) (lits : Lits) (o : ROp) (d r : Fin 16) : State :=
  s.insn e lits (.rr o d r) (fun s =>
    let (a, part) := addrOf o (s.addressSum e lits r)
    s.load e a part d id)

/-- A store instruction (R120, R121). -/
def storeOp (s : State) (e : Nat) (lits : Lits) (o : ROp) (d r : Fin 16) : State :=
  s.insn e lits (.rr o d r) (fun s =>
    let (a, part) := addrOf o (s.addressSum e lits r)
    s.store e a part (part.laid ((s.engine e).w d)) id)

/-- A skip: the next bundle is squashed where the condition holds (R86, R122). (DEDUCED, log 26) -/
def skipOp (s : State) (e : Nat) (lits : Lits) (op : CragOp) (cond : Engine → Bool) : State :=
  s.insn e lits op (fun s => if cond (s.engine e) then .skip s else .next s)

end State

/-- The condition of SK.cond on the flags (R123). -/
def condHolds (c : Nat) (f : Flags) : Bool :=
  match c with
  | 0x0 => f.z
  | 0x1 => !f.z
  | 0x2 => f.n
  | 0x3 => !f.n
  | 0x4 => f.c
  | 0x5 => !f.c
  | 0x6 => f.v
  | 0x7 => !f.v
  | 0x8 => f.n != f.v
  | 0x9 => f.n == f.v
  | 0xA => f.z || f.n != f.v
  | 0xB => !f.z && f.n == f.v
  | 0xC => f.c || f.z
  | 0xD => !f.c && !f.z
  | 0xE => true
  | _ => false

end Sys2Proof.Machine
end

