-- ==== Sys2Proof/Machine/Crag.lean ====
section
/-! DEFINITION. The Crag instructions, and the events of engines and pairs that are no instruction
(spec/03_crag_engines.md R92, R96, R97, R99, R513; spec/04_crag_instructions.md R107, R113 to R127). -/
namespace Sys2Proof.Machine

/-! ### System instructions (R98, R125 to R128) -/

/-- NOP (R126). -/
def execNop (e : Fin 50) (lits : Lits) (s : State) : Host.Outcome State Fault Refusal :=
  live s (fun s => s.insn e lits .nop .next)

/-- TDONE (R126, R128). -/
def execTdone (e : Fin 50) (lits : Lits) (s : State) : Host.Outcome State Fault Refusal :=
  live s (fun s => s.insn e lits .tdone (fun s =>
    if s.paired e then s.present e .done else .over ((s.countBundle e).endTask e)))

/-- RET (R78, R125). -/
def execRet (e : Fin 50) (lits : Lits) (s : State) : Host.Outcome State Fault Refusal :=
  live s (fun s => s.insn e lits .ret (fun s => s.retFrom e))

/-- CKPT (R98, R126). -/
def execCkpt (e : Fin 50) (lits : Lits) (s : State) : Host.Outcome State Fault Refusal :=
  live s (fun s => s.insn e lits .ckpt (fun s =>
    if s.paired e ∧ (s.engine e).rstack.isEmpty then s.present e .ckpt else .next s))

/-- BREAK (R92, R126). -/
def execBrk (e : Fin 50) (lits : Lits) (c : Fin 16) (s : State) : Host.Outcome State Fault Refusal :=
  live s (fun s => s.insn e lits (.brk c) (fun s => .trap 0x13 0 s))

/-- JMPR (R125). -/
def execJmpr (e : Fin 50) (lits : Lits) (r : Fin 16) (s : State) : Host.Outcome State Fault Refusal :=
  live s (fun s => s.insn e lits (.jmpr r) (fun s => .jump (((s.engine e).w r).toNat % bankSize e) s))

/-- CALLR (R77, R78, R125). -/
def execCallr (e : Fin 50) (lits : Lits) (r : Fin 16) (s : State) : Host.Outcome State Fault Refusal :=
  live s (fun s => s.insn e lits (.callr r) (fun s =>
    s.callTo e (((s.engine e).w r).toNat % bankSize e) (((s.engine e).pc + 1) % bankSize e)))

/-- POST (R87, R88, R127). -/
def execPost (e : Fin 50) (lits : Lits) (r : Fin 16) (s : State) : Host.Outcome State Fault Refusal :=
  live s (fun s => s.insn e lits (.post r) (fun s =>
    let g := s.engine e
    let target := (g.w r).field 15 8
    let sel := (g.w r).field 7 0
    if ¬ selectorDefined target sel then .trap 0x0D 0 s
    else s.outward e (.post {
      target := target, sel := sel, due := (g.w (r + 1)).toNat, arg := (g.w (r + 2)).toNat
      ticket := g.run.bind (·.ticket), agent := s.agentOf e }) none))

/-- PUSH (R79, R126). The DSTACK_OVF trap records the address 0. (DEDUCED, log 27) -/
def execPush (e : Fin 50) (lits : Lits) (r : Fin 16) (s : State) : Host.Outcome State Fault Refusal :=
  live s (fun s => s.insn e lits (.push r) (fun s =>
    let g := s.engine e
    if s.fld (Reg.CE_DS_LIMIT_ADDR e) < g.dsp then .trap 0x09 0 s
    else s.store e g.dsp .whole (g.w r) (fun g => { g with dsp := g.dsp + 1 })))

/-- POP (R79, R126). The DSTACK_UNF trap records the address 0. (DEDUCED, log 27) -/
def execPop (e : Fin 50) (lits : Lits) (r : Fin 16) (s : State) : Host.Outcome State Fault Refusal :=
  live s (fun s => s.insn e lits (.pop r) (fun s =>
    let g := s.engine e
    let a := (g.dsp + 2 ^ 24 - 1) % 2 ^ 24
    if g.dsp = s.fld (Reg.CE_DS_BASE_ADDR e) then .trap 0x0A 0 s
    else s.load e a .whole r (fun g => { g with dsp := a })))

/-- GETF (R126). -/
def execGetf (e : Fin 50) (lits : Lits) (r : Fin 16) (s : State) : Host.Outcome State Fault Refusal :=
  live s (fun s => s.insn e lits (.getf r) (fun s => .next (s.modEngine e (fun g => g.setW r (Word.ofN g.flags)))))

/-- SETF (R126). -/
def execSetf (e : Fin 50) (lits : Lits) (r : Fin 16) (s : State) : Host.Outcome State Fault Refusal :=
  live s (fun s => s.insn e lits (.setf r) (fun s => .next (s.modEngine e (fun g => g.setFlags (g.w r).toNat))))

/-! ### Skips (R122 to R124) -/

/-- SK_COND (R123). -/
def execSkCond (e : Fin 50) (lits : Lits) (cond : Fin 16) (s : State) : Host.Outcome State Fault Refusal :=
  live s (fun s => s.skipOp e lits (.skCond cond) (fun g => condHolds cond g.fl))

/-- SKEC (R124). -/
def execSkec (e : Fin 50) (lits : Lits) (f : Fin 32) (s : State) : Host.Outcome State Fault Refusal :=
  live s (fun s => s.skipOp e lits (.skec f) (fun g => !g.snap.testBit f))

/-- SKES (R124). -/
def execSkes (e : Fin 50) (lits : Lits) (f : Fin 32) (s : State) : Host.Outcome State Fault Refusal :=
  live s (fun s => s.skipOp e lits (.skes f) (fun g => g.snap.testBit f))

/-- SKBC (R111, R124). -/
def execSkbc (e : Fin 50) (lits : Lits) (r : Fin 16) (b : Fin 64) (s : State) : Host.Outcome State Fault Refusal :=
  live s (fun s => s.skipOp e lits (.skbc r b) (fun g => !(g.w r).bit b))

/-- SKBS (R111, R124). -/
def execSkbs (e : Fin 50) (lits : Lits) (r : Fin 16) (b : Fin 64) (s : State) : Host.Outcome State Fault Refusal :=
  live s (fun s => s.skipOp e lits (.skbs r b) (fun g => (g.w r).bit b))

/-! ### Unary instructions (R114) -/

/-- NEG (R114). -/
def execNeg (e : Fin 50) (lits : Lits) (r : Fin 16) (s : State) : Host.Outcome State Fault Refusal :=
  live s (fun s => s.unaryOp e lits (.neg r) r (fun w => subWords 0 w false))

/-- NOT (R114). -/
def execNot (e : Fin 50) (lits : Lits) (r : Fin 16) (s : State) : Host.Outcome State Fault Refusal :=
  live s (fun s => s.unaryOp e lits (.not r) r (fun w => znOnly (~~~w)))

/-- REVN (R114). -/
def execRevn (e : Fin 50) (lits : Lits) (r : Fin 16) (s : State) : Host.Outcome State Fault Refusal :=
  live s (fun s => s.unaryOp e lits (.revn r) r (fun w => znOnly (revNonets w)))

/-! ### Arithmetic and logic (R113, R115 to R118) -/

/-- MOV (R113). -/
def execMov (e : Fin 50) (lits : Lits) (d r : Fin 16) (s : State) : Host.Outcome State Fault Refusal :=
  live s (fun s => s.dataOp e lits .mov d r (fun _ b => znOnly b))

/-- ADD (R113). -/
def execAdd (e : Fin 50) (lits : Lits) (d r : Fin 16) (s : State) : Host.Outcome State Fault Refusal :=
  live s (fun s => s.dataOp e lits .add d r (fun a b => addWords a b false))

/-- ADC (R113). -/
def execAdc (e : Fin 50) (lits : Lits) (d r : Fin 16) (s : State) : Host.Outcome State Fault Refusal :=
  live s (fun s => s.dataOp e lits .adc d r (fun a b f => addWords a b f.c f))

/-- SUB (R113). -/
def execSub (e : Fin 50) (lits : Lits) (d r : Fin 16) (s : State) : Host.Outcome State Fault Refusal :=
  live s (fun s => s.dataOp e lits .sub d r (fun a b => subWords a b false))

/-- SBC (R113). -/
def execSbc (e : Fin 50) (lits : Lits) (d r : Fin 16) (s : State) : Host.Outcome State Fault Refusal :=
  live s (fun s => s.dataOp e lits .sbc d r (fun a b f => subWords a b f.c f))

/-- CMP (R113). -/
def execCmp (e : Fin 50) (lits : Lits) (d r : Fin 16) (s : State) : Host.Outcome State Fault Refusal :=
  live s (fun s => s.flagOp e lits .cmp d r (fun a b => subWords a b false))

/-- AND (R113). -/
def execAnd (e : Fin 50) (lits : Lits) (d r : Fin 16) (s : State) : Host.Outcome State Fault Refusal :=
  live s (fun s => s.dataOp e lits .and d r (fun a b => znOnly (a &&& b)))

/-- OR (R113). -/
def execOr (e : Fin 50) (lits : Lits) (d r : Fin 16) (s : State) : Host.Outcome State Fault Refusal :=
  live s (fun s => s.dataOp e lits .or d r (fun a b => znOnly (a ||| b)))

/-- XOR (R113). -/
def execXor (e : Fin 50) (lits : Lits) (d r : Fin 16) (s : State) : Host.Outcome State Fault Refusal :=
  live s (fun s => s.dataOp e lits .xor d r (fun a b => znOnly (a ^^^ b)))

/-- TST (R113). -/
def execTst (e : Fin 50) (lits : Lits) (d r : Fin 16) (s : State) : Host.Outcome State Fault Refusal :=
  live s (fun s => s.flagOp e lits .tst d r (fun a b => znOnly (a &&& b)))

/-- SHL (R115). -/
def execShl (e : Fin 50) (lits : Lits) (d r : Fin 16) (s : State) : Host.Outcome State Fault Refusal :=
  live s (fun s => s.dataOp e lits .shl d r (fun a b => shlWord a (b.field 5 0)))

/-- SHR (R115). -/
def execShr (e : Fin 50) (lits : Lits) (d r : Fin 16) (s : State) : Host.Outcome State Fault Refusal :=
  live s (fun s => s.dataOp e lits .shr d r (fun a b => shrWord a (b.field 5 0)))

/-- SAR (R115). -/
def execSar (e : Fin 50) (lits : Lits) (d r : Fin 16) (s : State) : Host.Outcome State Fault Refusal :=
  live s (fun s => s.dataOp e lits .sar d r (fun a b => sarWord a (b.field 5 0)))

/-- ROR (R115). -/
def execRor (e : Fin 50) (lits : Lits) (d r : Fin 16) (s : State) : Host.Outcome State Fault Refusal :=
  live s (fun s => s.dataOp e lits .ror d r (fun a b => rorWord a (b.field 5 0)))

/-- MUL (R116). -/
def execMul (e : Fin 50) (lits : Lits) (d r : Fin 16) (s : State) : Host.Outcome State Fault Refusal :=
  live s (fun s => s.dataOp e lits .mul d r mulLow)

/-- MULH (R116). -/
def execMulh (e : Fin 50) (lits : Lits) (d r : Fin 16) (s : State) : Host.Outcome State Fault Refusal :=
  live s (fun s => s.dataOp e lits .mulh d r mulHigh)

/-- MULHU (R116). -/
def execMulhu (e : Fin 50) (lits : Lits) (d r : Fin 16) (s : State) : Host.Outcome State Fault Refusal :=
  live s (fun s => s.dataOp e lits .mulhu d r mulHighU)

/-- DIV (R117). -/
def execDiv (e : Fin 50) (lits : Lits) (d r : Fin 16) (s : State) : Host.Outcome State Fault Refusal :=
  live s (fun s => s.divOp e lits .div d r divS)

/-- DIVU (R117). -/
def execDivu (e : Fin 50) (lits : Lits) (d r : Fin 16) (s : State) : Host.Outcome State Fault Refusal :=
  live s (fun s => s.divOp e lits .divu d r divU)

/-- CRC (R118). -/
def execCrc (e : Fin 50) (lits : Lits) (d r : Fin 16) (s : State) : Host.Outcome State Fault Refusal :=
  live s (fun s => s.dataOp e lits .crc d r crcWord)

/-! ### Bit fields (R119) -/

/-- BFX (R119). -/
def execBfx (e : Fin 50) (lits : Lits) (d r : Fin 16) (s : State) : Host.Outcome State Fault Refusal :=
  live s (fun s => s.insn e lits (.rr .bfx d r) (fun s => .next (s.modEngine e (fun g =>
    let w := extractField (g.w r) (bfPlace lits).1 (bfPlace lits).2
    (g.setW d w).setFl (g.fl.zn w)))))

/-- BFI (R119). -/
def execBfi (e : Fin 50) (lits : Lits) (d r : Fin 16) (s : State) : Host.Outcome State Fault Refusal :=
  live s (fun s => s.insn e lits (.rr .bfi d r) (fun s => .next (s.modEngine e (fun g =>
    let w := insertField (g.w d) (g.w r) (bfPlace lits).1 (bfPlace lits).2
    (g.setW d w).setFl (g.fl.zn w)))))

/-! ### Loads and stores (R120, R121) -/

/-- LD (R120, R121). -/
def execLd (e : Fin 50) (lits : Lits) (d r : Fin 16) (s : State) : Host.Outcome State Fault Refusal :=
  live s (fun s => s.loadOp e lits .ld d r)

/-- LDN (R120, R121). -/
def execLdn (e : Fin 50) (lits : Lits) (d r : Fin 16) (s : State) : Host.Outcome State Fault Refusal :=
  live s (fun s => s.loadOp e lits .ldn d r)

/-- LDH (R120, R121). -/
def execLdh (e : Fin 50) (lits : Lits) (d r : Fin 16) (s : State) : Host.Outcome State Fault Refusal :=
  live s (fun s => s.loadOp e lits .ldh d r)

/-- ST (R120, R121). -/
def execSt (e : Fin 50) (lits : Lits) (d r : Fin 16) (s : State) : Host.Outcome State Fault Refusal :=
  live s (fun s => s.storeOp e lits .st d r)

/-- STN (R120, R121). -/
def execStn (e : Fin 50) (lits : Lits) (d r : Fin 16) (s : State) : Host.Outcome State Fault Refusal :=
  live s (fun s => s.storeOp e lits .stn d r)

/-- STH (R120, R121). -/
def execSth (e : Fin 50) (lits : Lits) (d r : Fin 16) (s : State) : Host.Outcome State Fault Refusal :=
  live s (fun s => s.storeOp e lits .sth d r)

/-! ### Relative jumps (R125) -/

/-- The word that a signed 10-bit offset from word a names, in an engine's bank (R125). -/
def jumpTarget (e a : Nat) (off : Fin 1024) : Nat := (((a : Int) + signed 10 off) % (bankSize e : Nat)).toNat

/-- BR (R125). -/
def execBr (e : Fin 50) (lits : Lits) (off : Fin 1024) (s : State) : Host.Outcome State Fault Refusal :=
  live s (fun s => s.insn e lits (.br off) (fun s => .jump (jumpTarget e (s.engine e).pc off) s))

/-- CALL (R77, R78, R125). -/
def execCall (e : Fin 50) (lits : Lits) (off : Fin 1024) (s : State) : Host.Outcome State Fault Refusal :=
  live s (fun s => s.insn e lits (.call off) (fun s =>
    s.callTo e (jumpTarget e (s.engine e).pc off) (((s.engine e).pc + 1) % bankSize e)))

/-! ### Bundles that are no instruction, and the events of engines and pairs -/

/-- MALFORMED_BUNDLE (R107, R111): a bundle of four LIT words, or one whose instruction word w is undefined, traps ILLEGAL.
(DEDUCED, log 26) -/
def execMalformedBundle (e : Fin 50) (lits : Lits) (w : Nat) (s : State) : Host.Outcome State Fault Refusal :=
  live s (fun s =>
    if (CragOp.decode w).isSome ∨ isLit w ∧ lits.length ≠ 3 then s else s.bundle e lits w false .next)

/-- BUDGET (R92). (DEDUCED, log 26) -/
def execBudget (e : Fin 50) (s : State) : Host.Outcome State Fault Refusal :=
  live s (fun s => if s.canRun e ∧ s.budgetSpent e then (s.beginBundle e).trap e 2 0 else s)

/-- PAIR_TIMEOUT (R97, R105, R555): the partner of an engine that has presented an access presents none in time. -/
def execPairTimeout (p : Fin 24) (s : State) : Host.Outcome State Fault Refusal :=
  live s (fun s =>
    match (s.pair p).presented with
    | none => s
    | some (x, _, t) =>
      if ¬ s.partnerIn x ∨ s.isHalted (2 * p) ∨ s.isHalted (2 * p + 1) then s
      else (s.advanceTo (t + s.fld (Reg.CE_LIMITS_PAIR_TIMEOUT (2 * p)) * 250 * Config.ns)).withhold p)

namespace State

/-- An engine is restored from its checkpoint: local data from the undo log, newest entry first, then the saved state (R99). -/
def restoreEngine (s : State) (e : Nat) : State :=
  let g := s.engine e
  match g.ckpt with
  | none => s
  | some c =>
    let s1 := g.undo.foldl (fun s x => (s.dropSilt (engineCtrl e) x.1).setCode (engineCtrl e) 0 x.1 x.2) s
    s1.modEngine e (fun g =>
      let g1 : Engine := { g with
        regs := [], wb := c.wb, rstack := [], spilled := 0, dsp := c.dsp, pc := c.pc, undo := [], stall := none, dst := none
        skipAt := none, run := g.run.map (fun r => { r with done := c.done }) }
      ((List.range 16).foldl (fun h i => h.setW i (c.window.getD i 0)) g1).setFlags c.flags)

/-- The restoration of a pair completes, and it runs again against the replay log (R99); one that cannot restore its checkpoint
ends the task with PAIR_FAIL (R101). (DEDUCED, log 28) -/
def restartPair (s : State) (p : Nat) (restored : Bool) : State :=
  match (s.pair p).restarting with
  | none => s
  | some _ =>
    let s1 := if restored then (s.pairCrew p).foldl restoreEngine s else s
    let s2 := s1.setPair p { s1.pair p with restarting := none, matched := 0, presented := none }
    if restored then s2 else s2.pairFail p

/-- The flag of an engine counts in CE_PAIR_STAT, and RESIDUE_FAULT is raised (R96, R103). -/
def countFlag (s : State) (e : Nat) : State := (s.bumpSat (Reg.CE_PAIR_STAT_FLAGGED e) 1).raise 50

/-- The flag of an engine makes a report of its kind: RESIDUE_FAULT, or SOLO_RESTART where it ran solo (R96, R513). -/
def reportFlag (s : State) (e type : Nat) : State := s.report e type 0 0 (e + 1) 0

/-- An engine of a paired task whose partner takes part flags: it presents no access from now on, and the access its partner
waits with is performed alone (R96). (DEDUCED, log 28) -/
def flagPaired (s : State) (e : Nat) : State :=
  let p := e / 2
  let s1 := ((s.countFlag e).reportFlag e 50).modEngine e (fun g => { g with flagged := true, stall := none, dst := none })
  match (s1.pair p).presented with
  | some (x, acc, _) =>
    if x = e then s1.setPair p { s1.pair p with presented := none, fresh := true }
    else match s1.agreed x acc with
      | .next s2 | .over s2 | .skip s2 | .jump _ s2 => s2
      | .trap c a s2 => (s2.takeBack x).trap x c a
  | none => s1.setPair p { s1.pair p with fresh := true }

/-- An engine that takes part alone in a paired task flags: in the same access as its partner it is a withheld access of the
pair (R97), else the engine restarts alone (R513). (DEDUCED, log 28) -/
def flagSolo (s : State) (e : Nat) : State :=
  let p := e / 2
  let x := partnerOf e
  if (s.pair p).fresh ∧ s.paired x then
    let s1 := ((s.countFlag e).reportFlag e 50).modEngine x (fun g => { g with flagged := false })
    s1.withhold p
  else ((s.countFlag e).reportFlag e 261).stopForRestart p

/-- A failed self-check of an engine that holds a task (R96, R97, R513). An engine that waits takes back the bundle it waits
in. (DEDUCED, log 28) -/
def flag (s : State) (e : Nat) : State :=
  let g := s.engine e
  if g.run.isNone ∨ g.trapped ∨ g.flagged ∨ ¬ s.enginePowered e then s
  else if ¬ s.paired e then (((s.countFlag e).reportFlag e 50).takeBack e |>.beginBundle e).trap e 1 0
  else if s.partnerIn e then s.flagPaired e
  else s.flagSolo e

end State

/-- PAIR_RESTART (R99, R101). -/
def execPairRestart (r : Restoration) (s : State) : Host.Outcome State Fault Refusal :=
  live s (fun s => s.restartPair r.pair r.restored)

/-- RESIDUE_FAULT (R96). -/
def execResidueFault (e : Fin 50) (s : State) : Host.Outcome State Fault Refusal := live s (fun s => s.flag e)

end Sys2Proof.Machine
end

