-- ==== Sys2Proof/Machine/Remote.lean ====
section
/-! DEFINITION. Remote register access over Ridgeline: BAR2 at the root, and the records a target performs
(spec/12_ridgeline.md R373 to R379; spec/15_host_interface.md R432). -/
namespace Sys2Proof.Machine
namespace State

/-! ### At the root -/

/-- The accesses of n dwords read from an octet offset of a node's BAR0 on (R6, R7, R375). -/
def remoteReads (node : Nat) : Nat → Nat → List RlAccess
  | 0, _ => []
  | 1, o => [{ node := node, off := o / 8 * 8, size := if o % 8 = 0 then 1 else 2, data := none, far := false }]
  | n + 2, o =>
    if o % 8 = 4 then
      { node := node, off := o - 4, size := 2, data := none, far := false } :: remoteReads node (n + 1) (o + 4)
    else { node := node, off := o, size := 0, data := none, far := false } :: remoteReads node n (o + 8)

/-- The accesses of dwords written from an octet offset of a node's BAR0 on. -/
def remoteWrites (node : Nat) : List Nat → Nat → List RlAccess
  | [], _ => []
  | [v], o =>
    [{ node := node, off := o / 8 * 8, size := if o % 8 = 0 then 1 else 2, data := some (Word.ofN (v % 2 ^ 32))
       far := false }]
  | v :: u :: l, o =>
    if o % 8 = 4 then
      { node := node, off := o - 4, size := 2, data := some (Word.ofN (v % 2 ^ 32)), far := false }
        :: remoteWrites node (u :: l) (o + 4)
    else
      { node := node, off := o, size := 0, data := some (Word.ofN (v % 2 ^ 32 + u % 16 * 2 ^ 32)), far := false }
        :: remoteWrites node l (o + 8)

/-- A BAR2 access of the local host (R373, R375, R378, R427, R432): its own node's window locally, as agent 51. -/
def remoteAccess (s : State) (x : RemoteRequest) : State :=
  match x with
  | .read q =>
    if ¬ readFits q then s.unsupportedRequest.emit (.unsupported 51)
    else if q.off / 0x100000 % 64 = s.rlNode then readDwords 51 (q.len / 4) (q.off % 0x100000) s
    else (remoteReads (q.off / 0x100000 % 64) (q.len / 4) (q.off % 0x100000)).foldl rlEnqueue s
  | .write q =>
    if q.poisoned then s.poisonedWrite
    else if ¬ writeFits q then s.unsupportedRequest
    else if q.off / 0x100000 % 64 = s.rlNode then writeDwords 51 q.dwords (q.off % 0x100000) s
    else (remoteWrites (q.off / 0x100000 % 64) q.dwords (q.off % 0x100000)).foldl rlEnqueue s

/-! ### At the target (R376), as agent 52 -/

/-- A reply joins those of the next RS frame. -/
def reply (s : State) (x : RlRecord) : State := s.modRl (fun r => { r with replies := r.replies ++ [x] })

/-- n words are read from an offset on, or all at it. A READ_DATA record has no place for the uncorrectable mark of R197: the high
nibble of a word's first octet is 0 (R374). (DEDUCED, log 67) -/
def recordRead (fixed : Bool) : Nat → Nat → State → List Word × State
  | 0, _, s => ([], s)
  | n + 1, o, s =>
    let (w, _, s1) := s.busRead 52 o
    let (ws, s2) := recordRead fixed n (if fixed then o else o + 8) s1
    (w.getD 0 :: ws, s2)

/-- Words are written from an offset on, or all at it. -/
def recordWrite (fixed : Bool) : List Word → Nat → State → State
  | [], _, s => s
  | w :: ws, o, s => recordWrite fixed ws (if fixed then o else o + 8) (s.busWrite 52 o w)

/-- A target answers FAIL with REFUSED and performs nothing (R373). -/
def refuseRecord (s : State) (off tag : Nat) : State := s.reply (.fail s.rlNode 3 off tag)

/-- A READ or READ_FIXED record is performed (R374, R376). -/
def performRead (s : State) (fixed : Bool) (size count off tag : Nat) : State :=
  if ¬ s.isSet Reg.RLC_CFG_REMOTE_EN then s.refuseRecord off tag
  else
    let (ws, s1) := match size with
      | 1 => let (v, _, s1) := s.readLow 52 off; ([Word.ofN v], s1)
      | 2 => let (v, _, s1) := s.readHigh 52 off; ([Word.ofN v], s1)
      | _ => recordRead fixed count off s
    (s1.rlCount 14).reply (.readData s.rlNode size ws.length off tag ws)

/-- A WRITE or WRITE_FIXED record is performed (R374, R376). -/
def performWrite (s : State) (fixed : Bool) (size off tag : Nat) (words : List Word) : State :=
  if ¬ s.isSet Reg.RLC_CFG_REMOTE_EN then s.refuseRecord off tag
  else
    let s1 := match size with
      | 1 => s.writeLow 52 off ((words.getD 0 0).field 31 0)
      | 2 => s.writeHigh 52 off ((words.getD 0 0).field 31 0)
      | _ => recordWrite fixed words off s
    s1.rlCount 14

end State

/-- REMOTE_ACCESS (R373, R375, R378, R432). -/
def execRemoteAccess (x : RemoteRequest) (s : State) : Host.Outcome State Fault Refusal :=
  live s (fun s => s.remoteAccess x)

/-- READ_RECORD (R376): the record at the head of those accepted. -/
def execReadRecord (s : State) : Host.Outcome State Fault Refusal :=
  live s (fun s => match s.rl.records with
    | .read false n size count off tag :: _ =>
      if n = s.rlNode then s.popRecord.performRead false size count off tag else s.popRecord
    | _ => s)

/-- READ_FIXED (R376): the record at the head of those accepted. -/
def execReadFixed (s : State) : Host.Outcome State Fault Refusal :=
  live s (fun s => match s.rl.records with
    | .read true n size count off tag :: _ =>
      if n = s.rlNode then s.popRecord.performRead true size count off tag else s.popRecord
    | _ => s)

/-- WRITE_RECORD (R376): the record at the head of those accepted. -/
def execWriteRecord (s : State) : Host.Outcome State Fault Refusal :=
  live s (fun s => match s.rl.records with
    | .write false n size off tag ws :: _ =>
      if n = s.rlNode then s.popRecord.performWrite false size off tag ws else s.popRecord
    | _ => s)

/-- WRITE_FIXED (R376): the record at the head of those accepted. -/
def execWriteFixed (s : State) : Host.Outcome State Fault Refusal :=
  live s (fun s => match s.rl.records with
    | .write true n size off tag ws :: _ =>
      if n = s.rlNode then s.popRecord.performWrite true size off tag ws else s.popRecord
    | _ => s)

end Sys2Proof.Machine
end

