-- ==== Sys2Proof/Machine/Dispatch.lean ====
section
/-! DEFINITION. One arm per command: a direct call of its meaning. -/
namespace Sys2Proof.Machine

def exec (i : Instr) (s : State) : Host.Outcome State Fault Refusal :=
  match i with
  | .registerWrite a o w => Sys2Proof.Machine.execRegisterWrite a o w s
  | .profileWrite a b u w => Sys2Proof.Machine.execProfileWrite a b u w s
  | .lowHalfRead a o => Sys2Proof.Machine.execLowHalfRead a o s
  | .highHalfRead a o => Sys2Proof.Machine.execHighHalfRead a o s
  | .lowHalfWrite a o v => Sys2Proof.Machine.execLowHalfWrite a o v s
  | .highHalfWrite a o v => Sys2Proof.Machine.execHighHalfWrite a o v s
  | .gctlRejectRead a => Sys2Proof.Machine.execGctlRejectRead a s
  | .commitTakeIn src => Sys2Proof.Machine.execCommitTakeIn src s
  | .mgmtChangeApply b u => Sys2Proof.Machine.execMgmtChangeApply b u s
  | .telemetryRefresh fab core => Sys2Proof.Machine.execTelemetryRefresh fab core s
  | .supplyMeasure m => Sys2Proof.Machine.execSupplyMeasure m s
  | .oscLoss ix => Sys2Proof.Machine.execOscLoss ix s
  | .oscFreqWindow ix ppm => Sys2Proof.Machine.execOscFreqWindow ix ppm s
  | .oscSwitch => Sys2Proof.Machine.execOscSwitch s
  | .oscQualified ix => Sys2Proof.Machine.execOscQualified ix s
  | .pllFirstLock => Sys2Proof.Machine.execPllFirstLock s
  | .pllUnlock => Sys2Proof.Machine.execPllUnlock s
  | .pllRelock => Sys2Proof.Machine.execPllRelock s
  | .pllRelockTimeout => Sys2Proof.Machine.execPllRelockTimeout s
  | .secondMark => Sys2Proof.Machine.execSecondMark s
  | .rateApply => Sys2Proof.Machine.execRateApply s
  | .stepGo a => Sys2Proof.Machine.execStepGo a s
  | .setGo a => Sys2Proof.Machine.execSetGo a s
  | .timeStep => Sys2Proof.Machine.execTimeStep s
  | .snapshotRead a => Sys2Proof.Machine.execSnapshotRead a s
  | .nowTswRead a => Sys2Proof.Machine.execNowTswRead a s
  | .capture n dt rising short => Sys2Proof.Machine.execCapture n dt rising short s
  | .capPop a n => Sys2Proof.Machine.execCapPop a n s
  | .capLostRead a n => Sys2Proof.Machine.execCapLostRead a n s
  | .oscStatRead a => Sys2Proof.Machine.execOscStatRead a s
  | .trgAtWrite a n w => Sys2Proof.Machine.execTrgAtWrite a n w s
  | .fire n => Sys2Proof.Machine.execFire n s
  | .trainStart n => Sys2Proof.Machine.execTrainStart n s
  | .trainEdge n => Sys2Proof.Machine.execTrainEdge n s
  | .trainStop n => Sys2Proof.Machine.execTrainStop n s
  | .triggerInternal n => Sys2Proof.Machine.execTriggerInternal n s
  | .ppsIn p dt rising => Sys2Proof.Machine.execPpsIn p dt rising s
  | .ppsMiss p => Sys2Proof.Machine.execPpsMiss p s
  | .ppsOut p => Sys2Proof.Machine.execPpsOut p s
  | .calGo a => Sys2Proof.Machine.execCalGo a s
  | .calAuto tj => Sys2Proof.Machine.execCalAuto tj s
  | .calDone worst => Sys2Proof.Machine.execCalDone worst s
  | .ploadWrite a e w => Sys2Proof.Machine.execPloadWrite a e w s
  | .ploadRead a e => Sys2Proof.Machine.execPloadRead a e s
  | .bankSwitch e => Sys2Proof.Machine.execBankSwitch e s
  | .nop e lits => Sys2Proof.Machine.execNop e lits s
  | .tdone e lits => Sys2Proof.Machine.execTdone e lits s
  | .ret e lits => Sys2Proof.Machine.execRet e lits s
  | .ckpt e lits => Sys2Proof.Machine.execCkpt e lits s
  | .brk e lits c => Sys2Proof.Machine.execBrk e lits c s
  | .jmpr e lits r => Sys2Proof.Machine.execJmpr e lits r s
  | .callr e lits r => Sys2Proof.Machine.execCallr e lits r s
  | .post e lits r => Sys2Proof.Machine.execPost e lits r s
  | .push e lits r => Sys2Proof.Machine.execPush e lits r s
  | .pop e lits r => Sys2Proof.Machine.execPop e lits r s
  | .getf e lits r => Sys2Proof.Machine.execGetf e lits r s
  | .setf e lits r => Sys2Proof.Machine.execSetf e lits r s
  | .skCond e lits cond => Sys2Proof.Machine.execSkCond e lits cond s
  | .skec e lits f => Sys2Proof.Machine.execSkec e lits f s
  | .skes e lits f => Sys2Proof.Machine.execSkes e lits f s
  | .neg e lits r => Sys2Proof.Machine.execNeg e lits r s
  | .not e lits r => Sys2Proof.Machine.execNot e lits r s
  | .revn e lits r => Sys2Proof.Machine.execRevn e lits r s
  | .mov e lits d r => Sys2Proof.Machine.execMov e lits d r s
  | .add e lits d r => Sys2Proof.Machine.execAdd e lits d r s
  | .adc e lits d r => Sys2Proof.Machine.execAdc e lits d r s
  | .sub e lits d r => Sys2Proof.Machine.execSub e lits d r s
  | .sbc e lits d r => Sys2Proof.Machine.execSbc e lits d r s
  | .cmp e lits d r => Sys2Proof.Machine.execCmp e lits d r s
  | .and e lits d r => Sys2Proof.Machine.execAnd e lits d r s
  | .or e lits d r => Sys2Proof.Machine.execOr e lits d r s
  | .xor e lits d r => Sys2Proof.Machine.execXor e lits d r s
  | .tst e lits d r => Sys2Proof.Machine.execTst e lits d r s
  | .shl e lits d r => Sys2Proof.Machine.execShl e lits d r s
  | .shr e lits d r => Sys2Proof.Machine.execShr e lits d r s
  | .sar e lits d r => Sys2Proof.Machine.execSar e lits d r s
  | .ror e lits d r => Sys2Proof.Machine.execRor e lits d r s
  | .mul e lits d r => Sys2Proof.Machine.execMul e lits d r s
  | .mulh e lits d r => Sys2Proof.Machine.execMulh e lits d r s
  | .mulhu e lits d r => Sys2Proof.Machine.execMulhu e lits d r s
  | .div e lits d r => Sys2Proof.Machine.execDiv e lits d r s
  | .divu e lits d r => Sys2Proof.Machine.execDivu e lits d r s
  | .crc e lits d r => Sys2Proof.Machine.execCrc e lits d r s
  | .ld e lits d r => Sys2Proof.Machine.execLd e lits d r s
  | .st e lits d r => Sys2Proof.Machine.execSt e lits d r s
  | .ldn e lits d r => Sys2Proof.Machine.execLdn e lits d r s
  | .stn e lits d r => Sys2Proof.Machine.execStn e lits d r s
  | .ldh e lits d r => Sys2Proof.Machine.execLdh e lits d r s
  | .sth e lits d r => Sys2Proof.Machine.execSth e lits d r s
  | .bfx e lits d r => Sys2Proof.Machine.execBfx e lits d r s
  | .bfi e lits d r => Sys2Proof.Machine.execBfi e lits d r s
  | .skbc e lits r b => Sys2Proof.Machine.execSkbc e lits r b s
  | .skbs e lits r b => Sys2Proof.Machine.execSkbs e lits r b s
  | .br e lits off => Sys2Proof.Machine.execBr e lits off s
  | .call e lits off => Sys2Proof.Machine.execCall e lits off s
  | .malformedBundle e lits w => Sys2Proof.Machine.execMalformedBundle e lits w s
  | .budget e => Sys2Proof.Machine.execBudget e s
  | .pairTimeout p => Sys2Proof.Machine.execPairTimeout p s
  | .pairRestart r => Sys2Proof.Machine.execPairRestart r s
  | .residueFault e => Sys2Proof.Machine.execResidueFault e s
  | .trapResume a e => Sys2Proof.Machine.execTrapResume a e s
  | .trapSkip a e => Sys2Proof.Machine.execTrapSkip a e s
  | .trapAbort a e => Sys2Proof.Machine.execTrapAbort a e s
  | .engineRetired e => Sys2Proof.Machine.execEngineRetired e s
  | .slackMinRead a e => Sys2Proof.Machine.execSlackMinRead a e s
  | .slackHistRead a e b => Sys2Proof.Machine.execSlackHistRead a e b s
  | .tcfgWrite a t w => Sys2Proof.Machine.execTcfgWrite a t w s
  | .qcfgWrite a q w => Sys2Proof.Machine.execQcfgWrite a q w s
  | .signal a w => Sys2Proof.Machine.execSignal a w s
  | .setFlag => Sys2Proof.Machine.execSetFlag s
  | .clearFlag => Sys2Proof.Machine.execClearFlag s
  | .dispatch c => Sys2Proof.Machine.execDispatch c s
  | .pairHold c => Sys2Proof.Machine.execPairHold c s
  | .queuePush a q w => Sys2Proof.Machine.execQueuePush a q w s
  | .queuePushComplete q => Sys2Proof.Machine.execQueuePushComplete q s
  | .queueStall q => Sys2Proof.Machine.execQueueStall q s
  | .queuePop a q => Sys2Proof.Machine.execQueuePop a q s
  | .orderedPush a q w => Sys2Proof.Machine.execOrderedPush a q w s
  | .drel a => Sys2Proof.Machine.execDrel a s
  | .domainStall d => Sys2Proof.Machine.execDomainStall d s
  | .histRead a b => Sys2Proof.Machine.execHistRead a b s
  | .qstatRead a q => Sys2Proof.Machine.execQstatRead a q s
  | .busyWindow => Sys2Proof.Machine.execBusyWindow s
  | .busyRead a e => Sys2Proof.Machine.execBusyRead a e s
  | .mbxCfgWrite a m send w => Sys2Proof.Machine.execMbxCfgWrite a m send w s
  | .ring a w => Sys2Proof.Machine.execRing a w s
  | .take a w => Sys2Proof.Machine.execTake a w s
  | .flush a w => Sys2Proof.Machine.execFlush a w s
  | .mbxWaitRead a m => Sys2Proof.Machine.execMbxWaitRead a m s
  | .waitCancel a w => Sys2Proof.Machine.execWaitCancel a w s
  | .mbxWaitLong a => Sys2Proof.Machine.execMbxWaitLong a s
  | .cycleScan => Sys2Proof.Machine.execCycleScan s
  | .lockRead a m => Sys2Proof.Machine.execLockRead a m s
  | .lockRelease a m w => Sys2Proof.Machine.execLockRelease a m w s
  | .colRecordRead a ix => Sys2Proof.Machine.execColRecordRead a ix s
  | .bar0Read a q => Sys2Proof.Machine.execBar0Read a q s
  | .bar0Write a q => Sys2Proof.Machine.execBar0Write a q s
  | .indRead a => Sys2Proof.Machine.execIndRead a s
  | .indWrite a w => Sys2Proof.Machine.execIndWrite a w s
  | .scrub c k => Sys2Proof.Machine.execScrub c k s
  | .siltTimeout c => Sys2Proof.Machine.execSiltTimeout c s
  | .memcFlush a => Sys2Proof.Machine.execMemcFlush a s
  | .checkerSelfTest c found => Sys2Proof.Machine.execCheckerSelfTest c found s
  | .marchGo a w => Sys2Proof.Machine.execMarchGo a w s
  | .marchDone c k r => Sys2Proof.Machine.execMarchDone c k r s
  | .repairGo a w => Sys2Proof.Machine.execRepairGo a w s
  | .repairDone => Sys2Proof.Machine.execRepairDone s
  | .memcLastRead a c => Sys2Proof.Machine.execMemcLastRead a c s
  | .memcRefuseRead a => Sys2Proof.Machine.execMemcRefuseRead a s
  | .vaultRead a => Sys2Proof.Machine.execVaultRead a s
  | .vaultWrite a w => Sys2Proof.Machine.execVaultWrite a w s
  | .keyload a w => Sys2Proof.Machine.execKeyload a w s
  | .vaultWipe a w => Sys2Proof.Machine.execVaultWipe a w s
  | .vaultWiped => Sys2Proof.Machine.execVaultWiped s
  | .rxFrame p f => Sys2Proof.Machine.execRxFrame p f s
  | .pauseRx p quanta an => Sys2Proof.Machine.execPauseRx p quanta an s
  | .pfcRx p classes quanta => Sys2Proof.Machine.execPfcRx p classes quanta s
  | .pauseEnd p c => Sys2Proof.Machine.execPauseEnd p c s
  | .downReq p seq peer => Sys2Proof.Machine.execDownReq p seq peer s
  | .downAck p seq => Sys2Proof.Machine.execDownAck p seq s
  | .downNak p seq => Sys2Proof.Machine.execDownNak p seq s
  | .upReq p seq => Sys2Proof.Machine.execUpReq p seq s
  | .upAck p seq => Sys2Proof.Machine.execUpAck p seq s
  | .linkLoss p => Sys2Proof.Machine.execLinkLoss p s
  | .linkReturn p phy => Sys2Proof.Machine.execLinkReturn p phy s
  | .qualExpiry p => Sys2Proof.Machine.execQualExpiry p s
  | .holdDownExpiry p => Sys2Proof.Machine.execHoldDownExpiry p s
  | .modeChange a p w => Sys2Proof.Machine.execModeChange a p w s
  | .restart p => Sys2Proof.Machine.execRestart p s
  | .unsuppress p => Sys2Proof.Machine.execUnsuppress p s
  | .flapClassify p => Sys2Proof.Machine.execFlapClassify p s
  | .flapQuietExpiry p => Sys2Proof.Machine.execFlapQuietExpiry p s
  | .txSend a p w => Sys2Proof.Machine.execTxSend a p w s
  | .sendTimed p => Sys2Proof.Machine.execSendTimed p s
  | .txFrameStart p carrier => Sys2Proof.Machine.execTxFrameStart p carrier s
  | .txFrameEnd p => Sys2Proof.Machine.execTxFrameEnd p s
  | .preemptVerify p answered => Sys2Proof.Machine.execPreemptVerify p answered s
  | .collision p dt => Sys2Proof.Machine.execCollision p dt s
  | .backoffExpiry p => Sys2Proof.Machine.execBackoffExpiry p s
  | .plcaTransmitOpportunity p => Sys2Proof.Machine.execPlcaTransmitOpportunity p s
  | .lpiEnter p => Sys2Proof.Machine.execLpiEnter p s
  | .lpiWake p => Sys2Proof.Machine.execLpiWake p s
  | .stepWindow p => Sys2Proof.Machine.execStepWindow p s
  | .stepReqTimeout p => Sys2Proof.Machine.execStepReqTimeout p s
  | .stepSwitch p => Sys2Proof.Machine.execStepSwitch p s
  | .stepChange p => Sys2Proof.Machine.execStepChange p s
  | .stepFail p => Sys2Proof.Machine.execStepFail p s
  | .macPlugRead a p => Sys2Proof.Machine.execMacPlugRead a p s
  | .txtsPop a p => Sys2Proof.Machine.execTxtsPop a p s
  | .txtsLostRead a p => Sys2Proof.Machine.execTxtsLostRead a p s
  | .cellForm p dt back octets => Sys2Proof.Machine.execCellForm p dt back octets s
  | .fabricSlot stage => Sys2Proof.Machine.execFabricSlot stage s
  | .cellArrive f => Sys2Proof.Machine.execCellArrive f s
  | .cellLost e ix => Sys2Proof.Machine.execCellLost e ix s
  | .fabricFault link n lost => Sys2Proof.Machine.execFabricFault link n lost s
  | .eligibility p => Sys2Proof.Machine.execEligibility p s
  | .fdbAge => Sys2Proof.Machine.execFdbAge s
  | .aged p => Sys2Proof.Machine.execAged p s
  | .dupForget r => Sys2Proof.Machine.execDupForget r s
  | .gateChange a p => Sys2Proof.Machine.execGateChange a p s
  | .gateCancel p => Sys2Proof.Machine.execGateCancel p s
  | .gateSwitch p => Sys2Proof.Machine.execGateSwitch p s
  | .gateEntry p => Sys2Proof.Machine.execGateEntry p s
  | .txqEntry => Sys2Proof.Machine.execTxqEntry s
  | .fdbLookup => Sys2Proof.Machine.execFdbLookup s
  | .fdbInsert => Sys2Proof.Machine.execFdbInsert s
  | .fdbDelete => Sys2Proof.Machine.execFdbDelete s
  | .fdbReadIndex ix => Sys2Proof.Machine.execFdbReadIndex ix s
  | .flushDyn => Sys2Proof.Machine.execFlushDyn s
  | .vlanRead a v => Sys2Proof.Machine.execVlanRead a v s
  | .vlanWrite a v => Sys2Proof.Machine.execVlanWrite a v s
  | .qciRead a meter ix => Sys2Proof.Machine.execQciRead a meter ix s
  | .qciWrite a meter ix => Sys2Proof.Machine.execQciWrite a meter ix s
  | .cellStatRead a => Sys2Proof.Machine.execCellStatRead a s
  | .stsFrame => Sys2Proof.Machine.execStsFrame s
  | .authVerdict u index flags v flagsAgain x => Sys2Proof.Machine.execAuthVerdict u index flags v flagsAgain x s
  | .stsFree a index => Sys2Proof.Machine.execStsFree a index s
  | .subRead a table ix => Sys2Proof.Machine.execSubRead a table ix s
  | .subWrite a table ix => Sys2Proof.Machine.execSubWrite a table ix s
  | .subWriteAt a table ix => Sys2Proof.Machine.execSubWriteAt a table ix s
  | .writeAtApply => Sys2Proof.Machine.execWriteAtApply s
  | .contribution a w => Sys2Proof.Machine.execContribution a w s
  | .groupEnable a g w => Sys2Proof.Machine.execGroupEnable a g w s
  | .groupDisable a g w => Sys2Proof.Machine.execGroupDisable a g w s
  | .rowRelease g => Sys2Proof.Machine.execRowRelease g s
  | .rfree a off => Sys2Proof.Machine.execRfree a off s
  | .badinfoRead a => Sys2Proof.Machine.execBadinfoRead a s
  | .rlEnable a => Sys2Proof.Machine.execRlEnable a s
  | .rlDisable a => Sys2Proof.Machine.execRlDisable a s
  | .listenTimeout => Sys2Proof.Machine.execListenTimeout s
  | .rlFrameRx chB code dt back octets => Sys2Proof.Machine.execRlFrameRx chB code dt back octets s
  | .slotEnd slot => Sys2Proof.Machine.execSlotEnd slot s
  | .cycleStart => Sys2Proof.Machine.execCycleStart s
  | .nitStart => Sys2Proof.Machine.execNitStart s
  | .sendSlot slot => Sys2Proof.Machine.execSendSlot slot s
  | .spareClaim => Sys2Proof.Machine.execSpareClaim s
  | .spareBackoffEnd => Sys2Proof.Machine.execSpareBackoffEnd s
  | .spareRelease a => Sys2Proof.Machine.execSpareRelease a s
  | .spareIdleExpiry ix => Sys2Proof.Machine.execSpareIdleExpiry ix s
  | .remoteAccess x => Sys2Proof.Machine.execRemoteAccess x s
  | .rqSlot => Sys2Proof.Machine.execRqSlot s
  | .wrSlot => Sys2Proof.Machine.execWrSlot s
  | .rsSlot => Sys2Proof.Machine.execRsSlot s
  | .readRecord => Sys2Proof.Machine.execReadRecord s
  | .readFixed => Sys2Proof.Machine.execReadFixed s
  | .writeRecord => Sys2Proof.Machine.execWriteRecord s
  | .writeFixed => Sys2Proof.Machine.execWriteFixed s
  | .grant => Sys2Proof.Machine.execGrant s
  | .readData => Sys2Proof.Machine.execReadData s
  | .failRecord => Sys2Proof.Machine.execFailRecord s
  | .eventRecord => Sys2Proof.Machine.execEventRecord s
  | .endRecord => Sys2Proof.Machine.execEndRecord s
  | .remoteReadTimeout => Sys2Proof.Machine.execRemoteReadTimeout s
  | .farRead a node => Sys2Proof.Machine.execFarRead a node s
  | .farWrite a node => Sys2Proof.Machine.execFarWrite a node s
  | .rootLoss => Sys2Proof.Machine.execRootLoss s
  | .rqBackoffEnd => Sys2Proof.Machine.execRqBackoffEnd s
  | .rlcFailRead a => Sys2Proof.Machine.execRlcFailRead a s
  | .slotcntRead a slot => Sys2Proof.Machine.execSlotcntRead a slot s
  | .canEnable a c => Sys2Proof.Machine.execCanEnable a c s
  | .canDisable a c busy => Sys2Proof.Machine.execCanDisable a c busy s
  | .integrationDone c dt => Sys2Proof.Machine.execIntegrationDone c dt s
  | .txPush a c => Sys2Proof.Machine.execTxPush a c s
  | .txPrio a c => Sys2Proof.Machine.execTxPrio a c s
  | .sendAt c => Sys2Proof.Machine.execSendAt c s
  | .cancelAt c => Sys2Proof.Machine.execCancelAt c s
  | .windowClose c => Sys2Proof.Machine.execWindowClose c s
  | .sofOpportunity c => Sys2Proof.Machine.execSofOpportunity c s
  | .canTxEnd c r dt => Sys2Proof.Machine.execCanTxEnd c r dt s
  | .txCancel a c source tag => Sys2Proof.Machine.execTxCancel a c source tag s
  | .txrecPop a c => Sys2Proof.Machine.execTxrecPop a c s
  | .canRxFrame c f => Sys2Proof.Machine.execCanRxFrame c f s
  | .rxWord0Read a c => Sys2Proof.Machine.execRxWord0Read a c s
  | .rxWord19Read a c => Sys2Proof.Machine.execRxWord19Read a c s
  | .rxForce a c n => Sys2Proof.Machine.execRxForce a c n s
  | .boRecover a c => Sys2Proof.Machine.execBoRecover a c s
  | .busOffRecovered c dt => Sys2Proof.Machine.execBusOffRecovered c dt s
  | .errinfoRead a c => Sys2Proof.Machine.execErrinfoRead a c s
  | .torHalt c => Sys2Proof.Machine.execTorHalt c s
  | .torBr c prev pins => Sys2Proof.Machine.execTorBr c prev pins s
  | .torBeat c => Sys2Proof.Machine.execTorBeat c s
  | .torAwait c dt prev pins => Sys2Proof.Machine.execTorAwait c dt prev pins s
  | .torTake c pins => Sys2Proof.Machine.execTorTake c pins s
  | .torEmit c => Sys2Proof.Machine.execTorEmit c s
  | .torSend c => Sys2Proof.Machine.execTorSend c s
  | .torFetch c => Sys2Proof.Machine.execTorFetch c s
  | .torLoad c => Sys2Proof.Machine.execTorLoad c s
  | .torCopy c pins => Sys2Proof.Machine.execTorCopy c pins s
  | .torAdd c => Sys2Proof.Machine.execTorAdd c s
  | .torStamp c => Sys2Proof.Machine.execTorStamp c s
  | .torRaise c => Sys2Proof.Machine.execTorRaise c s
  | .torNop c => Sys2Proof.Machine.execTorNop c s
  | .torStart c by_ => Sys2Proof.Machine.execTorStart c by_ s
  | .torStop c by_ => Sys2Proof.Machine.execTorStop c by_ s
  | .torFlush a c => Sys2Proof.Machine.execTorFlush a c s
  | .torQclr a c => Sys2Proof.Machine.execTorQclr a c s
  | .torTxqWrite a c w => Sys2Proof.Machine.execTorTxqWrite a c w s
  | .torRxqRead a c => Sys2Proof.Machine.execTorRxqRead a c s
  | .torTxForward c => Sys2Proof.Machine.execTorTxForward c s
  | .torPdataWrite u x => Sys2Proof.Machine.execTorPdataWrite u x s
  | .torPdataRead a u => Sys2Proof.Machine.execTorPdataRead a u s
  | .pcieReset kind => Sys2Proof.Machine.execPcieReset kind s
  | .ringTailWrite a d r tail => Sys2Proof.Machine.execRingTailWrite a d r tail s
  | .descFetch d r desc => Sys2Proof.Machine.execDescFetch d r desc s
  | .rxEntryMove r => Sys2Proof.Machine.execRxEntryMove r s
  | .txDescMove r data => Sys2Proof.Machine.execTxDescMove r data s
  | .dmaReadTimeout d r data => Sys2Proof.Machine.execDmaReadTimeout d r data s
  | .ringWatchdog d r => Sys2Proof.Machine.execRingWatchdog d r s
  | .ringDisable a d r => Sys2Proof.Machine.execRingDisable a d r s
  | .ringEnable a d r => Sys2Proof.Machine.execRingEnable a d r s
  | .txfree a ix => Sys2Proof.Machine.execTxfree a ix s
  | .coalTimeout d r => Sys2Proof.Machine.execCoalTimeout d r s
  | .swset a ix => Sys2Proof.Machine.execSwset a ix s
  | .evcStatClear a k w => Sys2Proof.Machine.execEvcStatClear a k w s
  | .vholdExpiry v => Sys2Proof.Machine.execVholdExpiry v s
  | .errlogRead a => Sys2Proof.Machine.execErrlogRead a s
  | .porAssert aonLost => Sys2Proof.Machine.execPorAssert aonLost s
  | .porRelease x => Sys2Proof.Machine.execPorRelease x s
  | .sysResetPin => Sys2Proof.Machine.execSysResetPin s
  | .warmRst a key => Sys2Proof.Machine.execWarmRst a key s
  | .bootMarchDone => Sys2Proof.Machine.execBootMarchDone s
  | .loaderDone => Sys2Proof.Machine.execLoaderDone s
  | .dpReady a => Sys2Proof.Machine.execDpReady a s
  | .kick a ix => Sys2Proof.Machine.execKick a ix s
  | .wdogTimeout ix => Sys2Proof.Machine.execWdogTimeout ix s
  | .clusterSleepCmd a c => Sys2Proof.Machine.execClusterSleepCmd a c s
  | .clusterIdle c => Sys2Proof.Machine.execClusterIdle c s
  | .drainDone c => Sys2Proof.Machine.execDrainDone c s
  | .isolate c => Sys2Proof.Machine.execIsolate c s
  | .clusterSleep c => Sys2Proof.Machine.execClusterSleep c s
  | .clusterWakeCmd a c => Sys2Proof.Machine.execClusterWakeCmd a c s
  | .clusterWake c fails => Sys2Proof.Machine.execClusterWake c fails s
  | .rstcauseRead a => Sys2Proof.Machine.execRstcauseRead a s
  | .xferBegin a k => Sys2Proof.Machine.execXferBegin a k s
  | .eraseDone ok => Sys2Proof.Machine.execEraseDone ok s
  | .xferAbort a k => Sys2Proof.Machine.execXferAbort a k s
  | .piece a w => Sys2Proof.Machine.execPiece a w s
  | .pieceDone => Sys2Proof.Machine.execPieceDone s
  | .pendingCheck => Sys2Proof.Machine.execPendingCheck s
  | .stage a k => Sys2Proof.Machine.execStage a k s
  | .unstage a k => Sys2Proof.Machine.execUnstage a k s
  | .bootNext a k => Sys2Proof.Machine.execBootNext a k s
  | .commit a k => Sys2Proof.Machine.execCommit a k s
  | .handover a => Sys2Proof.Machine.execHandover a s
  | .actRevert a => Sys2Proof.Machine.execActRevert a s
  | .activateGo a => Sys2Proof.Machine.execActivateGo a s
  | .activateGroup g => Sys2Proof.Machine.execActivateGroup g s
  | .migrated a => Sys2Proof.Machine.execMigrated a s
  | .migFail a => Sys2Proof.Machine.execMigFail a s
  | .cfgLoad a b shelf any => Sys2Proof.Machine.execCfgLoad a b shelf any s
  | .cfgWrite a shelf => Sys2Proof.Machine.execCfgWrite a shelf s
  | .cfgErase a => Sys2Proof.Machine.execCfgErase a s
  | .cfgSwitch a => Sys2Proof.Machine.execCfgSwitch a s
  | .cfgRevert a => Sys2Proof.Machine.execCfgRevert a s
  | .cfgOpDone => Sys2Proof.Machine.execCfgOpDone s
  | .lcProvision a key => Sys2Proof.Machine.execLcProvision a key s
  | .lcField a key => Sys2Proof.Machine.execLcField a key s
  | .lcReturn a key shelf => Sys2Proof.Machine.execLcReturn a key shelf s
  | .lcScrapped a key => Sys2Proof.Machine.execLcScrapped a key s
  | .fuseKey a key shelf slot => Sys2Proof.Machine.execFuseKey a key shelf slot s
  | .revokeKey a key slot => Sys2Proof.Machine.execRevokeKey a key slot s
  | .lcStatRead a => Sys2Proof.Machine.execLcStatRead a s
  | .tamper k => Sys2Proof.Machine.execTamper k s
  | .stateSectorRotate => Sys2Proof.Machine.execStateSectorRotate s
  | .strataRecordWrite => Sys2Proof.Machine.execStrataRecordWrite s
  | .strataTailWrite a w => Sys2Proof.Machine.execStrataTailWrite a w s
  | .rearm a => Sys2Proof.Machine.execRearm a s
  | .strataLastRead a n => Sys2Proof.Machine.execStrataLastRead a n s
  | .strataWstatRead a => Sys2Proof.Machine.execStrataWstatRead a s
  | .strataLostRead a k => Sys2Proof.Machine.execStrataLostRead a k s
  | .copyFault u f => Sys2Proof.Machine.execCopyFault u f s
  | .copyTestDone u pass => Sys2Proof.Machine.execCopyTestDone u pass s
  | .dbgHalt a e => Sys2Proof.Machine.execDbgHalt a e s
  | .dbgResume a e => Sys2Proof.Machine.execDbgResume a e s
  | .dbgStep a e => Sys2Proof.Machine.execDbgStep a e s
  | .readReg a e idx => Sys2Proof.Machine.execReadReg a e idx s
  | .writeReg a e idx => Sys2Proof.Machine.execWriteReg a e idx s
  | .setBp a e idx => Sys2Proof.Machine.execSetBp a e idx s
  | .clrBp a e idx => Sys2Proof.Machine.execClrBp a e idx s
  | .dbgRelease a jtag => Sys2Proof.Machine.execDbgRelease a jtag s
  | .breakpoint e => Sys2Proof.Machine.execBreakpoint e s
  | .testLogicReset => Sys2Proof.Machine.execTestLogicReset s
  | .jtagUpdateIr code => Sys2Proof.Machine.execJtagUpdateIr code s
  | .tmxAccess v => Sys2Proof.Machine.execTmxAccess v s
  | .bistLogic a c => Sys2Proof.Machine.execBistLogic a c s
  | .bistLogicDone fails => Sys2Proof.Machine.execBistLogicDone fails s
  | .bistPrbs a lane loop => Sys2Proof.Machine.execBistPrbs a lane loop s
  | .prbsStop a errors => Sys2Proof.Machine.execPrbsStop a errors s
  | .prbsErrRead a errors => Sys2Proof.Machine.execPrbsErrRead a errors s
  | .firstStart => Sys2Proof.Machine.execFirstStart s
  | .receiveError c e fdf dt => Sys2Proof.Machine.execReceiveError c e fdf dt s
  | .beacon p seen => Sys2Proof.Machine.execBeacon p seen s
  | .peerLpi p idle => Sys2Proof.Machine.execPeerLpi p idle s
  | .extestUpdateDr upd => Sys2Proof.Machine.execExtestUpdateDr upd s
  | .perstnHigh => Sys2Proof.Machine.execPerstnHigh s

end Sys2Proof.Machine
end

