-- ==== Sys2Proof/WellFormed.lean ====
section
/-! DEFINITION. What operands a command may carry: numbers within the width that the spec gives them. -/
namespace Sys2Proof
open Sys2Proof.Machine

/-- Agent numbers (spec/00_scope.md R13): 1 to 60. -/
def agentOk (a : Nat) : Bool := decide (1 ≤ a ∧ a ≤ 60)

/-- A BAR0 octet offset of a word (R6, R9). -/
def offsetOk (o : Nat) : Bool := decide (o < 2 ^ 26) && o % 8 == 0

/-- A value that fits in a word. -/
def wordOk (v : Nat) : Bool := decide (v < 2 ^ 36)

/-- The prefixes of a bundle (spec/04_crag_instructions.md R107): at most three, of 12 bits. -/
def litsOk (lits : Lits) : Bool := decide (lits.length ≤ 3) && lits.all (fun p => p < 4096)

/-- A list of octets. -/
def octetsOk (l : List Nat) : Bool := l.all (fun b => b < 256)

/-- The data of a DMA read, if it returns any. -/
def readOk : Option (List Nat) → Bool
  | some l => octetsOk l
  | none => true

/-- The agent that posts or writes, if the action is not posted. -/
def byOk : Option Nat → Bool
  | some a => agentOk a
  | none => true

/-- A received frame: octets, SMD and fragment count among them. -/
def Machine.RxFrame.ok (f : RxFrame) : Bool := octetsOk f.octets && octetsOk [f.smd, f.fragCount]

/-- A CAN frame: identifier, DLC and data within their widths, a base identifier in bits [28:18] (spec/13_can_fd.md R390,
R400). -/
def Machine.CanFrame.ok (f : CanFrame) : Bool :=
  decide (f.ident < 2 ^ 29 ∧ (f.ext ∨ f.ident % 2 ^ 18 = 0)) && decide (f.dlc < 16) && decide (f.data.length ≤ 64) && octetsOk f.data

/-- A host write: an offset in the 64 Mbyte of BAR0, and dwords. -/
def Machine.HostWrite.ok (q : HostWrite) : Bool := decide (q.off < 2 ^ 26) && q.dwords.all (fun d => d < 2 ^ 32)

/-- A BAR2 request of the local host. -/
def Machine.RemoteRequest.ok : RemoteRequest → Bool
  | .read q => decide (q.off < 2 ^ 26)
  | .write q => decide (q.off < 2 ^ 26) && q.dwords.all (fun d => d < 2 ^ 32)

/-- What a march found: rows of banks. -/
def Machine.MarchResult.ok (r : MarchResult) : Bool := r.rows.all (fun x => x.1 < 16) && r.spares.all (fun b => b.1 < 16)

/-- Whether a command's operands lie within the ranges that the spec gives them. (DESIGN CHOICE, log 71) -/
def Instr.wf : Instr → Bool
  | .registerWrite a o _ => agentOk a && offsetOk o
  | .profileWrite a b u _ => agentOk a && u < b.place.2.2
  | .lowHalfRead a o => agentOk a && offsetOk o
  | .highHalfRead a o => agentOk a && offsetOk o
  | .lowHalfWrite a o v => agentOk a && offsetOk o && v < 2 ^ 32
  | .highHalfWrite a o v => agentOk a && offsetOk o && v < 2 ^ 32
  | .gctlRejectRead a => agentOk a
  | .commitTakeIn _ => true
  | .mgmtChangeApply b u => u < b.place.2.2
  | .telemetryRefresh _ _ => true
  | .supplyMeasure m => m.tj < 2 ^ 12
  | .oscLoss _ => true
  | .oscFreqWindow _ _ => true
  | .oscSwitch => true
  | .oscQualified _ => true
  | .pllFirstLock => true
  | .pllUnlock => true
  | .pllRelock => true
  | .pllRelockTimeout => true
  | .secondMark => true
  | .rateApply => true
  | .stepGo a => agentOk a
  | .setGo a => agentOk a
  | .timeStep => true
  | .snapshotRead a => agentOk a
  | .nowTswRead a => agentOk a
  | .capture _ _ _ _ => true
  | .capPop a _ => agentOk a
  | .capLostRead a _ => agentOk a
  | .oscStatRead a => agentOk a
  | .trgAtWrite a _ _ => agentOk a
  | .fire _ => true
  | .trainStart _ => true
  | .trainEdge _ => true
  | .trainStop _ => true
  | .triggerInternal _ => true
  | .ppsIn _ _ _ => true
  | .ppsMiss _ => true
  | .ppsOut _ => true
  | .calGo a => agentOk a
  | .calAuto tj => tj < 2 ^ 12
  | .calDone _ => true
  | .ploadWrite a _ _ => agentOk a
  | .ploadRead a _ => agentOk a
  | .bankSwitch _ => true
  | .nop _ lits => litsOk lits
  | .tdone _ lits => litsOk lits
  | .ret _ lits => litsOk lits
  | .ckpt _ lits => litsOk lits
  | .brk _ lits _ => litsOk lits
  | .jmpr _ lits _ => litsOk lits
  | .callr _ lits _ => litsOk lits
  | .post _ lits _ => litsOk lits
  | .push _ lits _ => litsOk lits
  | .pop _ lits _ => litsOk lits
  | .getf _ lits _ => litsOk lits
  | .setf _ lits _ => litsOk lits
  | .skCond _ lits _ => litsOk lits
  | .skec _ lits _ => litsOk lits
  | .skes _ lits _ => litsOk lits
  | .neg _ lits _ => litsOk lits
  | .not _ lits _ => litsOk lits
  | .revn _ lits _ => litsOk lits
  | .mov _ lits _ _ => litsOk lits
  | .add _ lits _ _ => litsOk lits
  | .adc _ lits _ _ => litsOk lits
  | .sub _ lits _ _ => litsOk lits
  | .sbc _ lits _ _ => litsOk lits
  | .cmp _ lits _ _ => litsOk lits
  | .and _ lits _ _ => litsOk lits
  | .or _ lits _ _ => litsOk lits
  | .xor _ lits _ _ => litsOk lits
  | .tst _ lits _ _ => litsOk lits
  | .shl _ lits _ _ => litsOk lits
  | .shr _ lits _ _ => litsOk lits
  | .sar _ lits _ _ => litsOk lits
  | .ror _ lits _ _ => litsOk lits
  | .mul _ lits _ _ => litsOk lits
  | .mulh _ lits _ _ => litsOk lits
  | .mulhu _ lits _ _ => litsOk lits
  | .div _ lits _ _ => litsOk lits
  | .divu _ lits _ _ => litsOk lits
  | .crc _ lits _ _ => litsOk lits
  | .ld _ lits _ _ => litsOk lits
  | .st _ lits _ _ => litsOk lits
  | .ldn _ lits _ _ => litsOk lits
  | .stn _ lits _ _ => litsOk lits
  | .ldh _ lits _ _ => litsOk lits
  | .sth _ lits _ _ => litsOk lits
  | .bfx _ lits _ _ => litsOk lits
  | .bfi _ lits _ _ => litsOk lits
  | .skbc _ lits _ _ => litsOk lits
  | .skbs _ lits _ _ => litsOk lits
  | .br _ lits _ => litsOk lits
  | .call _ lits _ => litsOk lits
  | .malformedBundle _ lits w => litsOk lits && ((CragOp.decode w).isNone && w < 2 ^ 14)
  | .budget _ => true
  | .pairTimeout _ => true
  | .pairRestart _ => true
  | .residueFault _ => true
  | .trapResume a _ => agentOk a
  | .trapSkip a _ => agentOk a
  | .trapAbort a _ => agentOk a
  | .engineRetired _ => true
  | .slackMinRead a _ => agentOk a
  | .slackHistRead a _ _ => agentOk a
  | .tcfgWrite a _ _ => agentOk a
  | .qcfgWrite a _ _ => agentOk a
  | .signal a _ => agentOk a
  | .setFlag => true
  | .clearFlag => true
  | .dispatch _ => true
  | .pairHold _ => true
  | .queuePush a _ _ => agentOk a
  | .queuePushComplete _ => true
  | .queueStall _ => true
  | .queuePop a _ => agentOk a
  | .orderedPush a _ _ => agentOk a
  | .drel a => agentOk a
  | .domainStall _ => true
  | .histRead a _ => agentOk a
  | .qstatRead a _ => agentOk a
  | .busyWindow => true
  | .busyRead a _ => agentOk a
  | .mbxCfgWrite a _ _ _ => agentOk a
  | .ring a _ => agentOk a
  | .take a _ => agentOk a
  | .flush a _ => agentOk a
  | .mbxWaitRead a _ => agentOk a
  | .waitCancel a _ => agentOk a
  | .mbxWaitLong a => agentOk a
  | .cycleScan => true
  | .lockRead a _ => agentOk a
  | .lockRelease a _ _ => agentOk a
  | .colRecordRead a _ => agentOk a
  | .bar0Read a q => agentOk a && q.off < 2 ^ 26
  | .bar0Write a q => agentOk a && q.ok
  | .indRead a => agentOk a
  | .indWrite a _ => agentOk a
  | .scrub _ _ => true
  | .siltTimeout _ => true
  | .memcFlush a => agentOk a
  | .checkerSelfTest _ _ => true
  | .marchGo a _ => agentOk a
  | .marchDone _ _ r => r.ok
  | .repairGo a _ => agentOk a
  | .repairDone => true
  | .memcLastRead a _ => agentOk a
  | .memcRefuseRead a => agentOk a
  | .vaultRead a => agentOk a
  | .vaultWrite a _ => agentOk a
  | .keyload a _ => agentOk a
  | .vaultWipe a _ => agentOk a
  | .vaultWiped => true
  | .rxFrame _ f => f.ok
  | .pauseRx _ quanta _ => quanta < 2 ^ 16
  | .pfcRx _ classes quanta => classes < 2 ^ 8 && quanta.length == 8 && quanta.all (fun q => q < 2 ^ 16)
  | .pauseEnd _ _ => true
  | .downReq _ seq peer => seq < 2 ^ 8 && peer < 2 ^ 2
  | .downAck _ seq => seq < 2 ^ 8
  | .downNak _ seq => seq < 2 ^ 8
  | .upReq _ seq => seq < 2 ^ 8
  | .upAck _ seq => seq < 2 ^ 8
  | .linkLoss _ => true
  | .linkReturn _ _ => true
  | .qualExpiry _ => true
  | .holdDownExpiry _ => true
  | .modeChange a _ _ => agentOk a
  | .restart _ => true
  | .unsuppress _ => true
  | .flapClassify _ => true
  | .flapQuietExpiry _ => true
  | .txSend a _ _ => agentOk a
  | .sendTimed _ => true
  | .txFrameStart _ _ => true
  | .txFrameEnd _ => true
  | .preemptVerify _ _ => true
  | .collision _ _ => true
  | .backoffExpiry _ => true
  | .plcaTransmitOpportunity _ => true
  | .lpiEnter _ => true
  | .lpiWake _ => true
  | .stepWindow _ => true
  | .stepReqTimeout _ => true
  | .stepSwitch _ => true
  | .stepChange _ => true
  | .stepFail _ => true
  | .macPlugRead a _ => agentOk a
  | .txtsPop a _ => agentOk a
  | .txtsLostRead a _ => agentOk a
  | .cellForm _ _ _ octets => octetsOk octets
  | .fabricSlot _ => true
  | .cellArrive _ => true
  | .cellLost _ _ => true
  | .fabricFault _ _ _ => true
  | .eligibility _ => true
  | .fdbAge => true
  | .aged _ => true
  | .dupForget _ => true
  | .gateChange a _ => agentOk a
  | .gateCancel _ => true
  | .gateSwitch _ => true
  | .gateEntry _ => true
  | .txqEntry => true
  | .fdbLookup => true
  | .fdbInsert => true
  | .fdbDelete => true
  | .fdbReadIndex _ => true
  | .flushDyn => true
  | .vlanRead a _ => agentOk a
  | .vlanWrite a _ => agentOk a
  | .qciRead a _ _ => agentOk a
  | .qciWrite a _ _ => agentOk a
  | .cellStatRead a => agentOk a
  | .stsFrame => true
  | .authVerdict u index _ v _ x => index < 2 ^ 17 && u != v && v != x
  | .stsFree a index => agentOk a && index < 2 ^ 17
  | .subRead a _ _ => agentOk a
  | .subWrite a _ _ => agentOk a
  | .subWriteAt a _ _ => agentOk a
  | .writeAtApply => true
  | .contribution a _ => agentOk a
  | .groupEnable a _ _ => agentOk a
  | .groupDisable a _ _ => agentOk a
  | .rowRelease _ => true
  | .rfree a off => agentOk a && off < 2 ^ 19
  | .badinfoRead a => agentOk a
  | .rlEnable a => agentOk a
  | .rlDisable a => agentOk a
  | .listenTimeout => true
  | .rlFrameRx _ _ _ _ octets => octetsOk octets
  | .slotEnd _ => true
  | .cycleStart => true
  | .nitStart => true
  | .sendSlot _ => true
  | .spareClaim => true
  | .spareBackoffEnd => true
  | .spareRelease a => agentOk a
  | .spareIdleExpiry _ => true
  | .remoteAccess x => x.ok
  | .rqSlot => true
  | .wrSlot => true
  | .rsSlot => true
  | .readRecord => true
  | .readFixed => true
  | .writeRecord => true
  | .writeFixed => true
  | .grant => true
  | .readData => true
  | .failRecord => true
  | .eventRecord => true
  | .endRecord => true
  | .remoteReadTimeout => true
  | .farRead a _ => agentOk a
  | .farWrite a _ => agentOk a
  | .rootLoss => true
  | .rqBackoffEnd => true
  | .rlcFailRead a => agentOk a
  | .slotcntRead a _ => agentOk a
  | .canEnable a _ => agentOk a
  | .canDisable a _ _ => agentOk a
  | .integrationDone _ _ => true
  | .txPush a _ => agentOk a
  | .txPrio a _ => agentOk a
  | .sendAt _ => true
  | .cancelAt _ => true
  | .windowClose _ => true
  | .sofOpportunity _ => true
  | .canTxEnd _ _ _ => true
  | .txCancel a _ _ tag => agentOk a && tag < 2 ^ 16
  | .txrecPop a _ => agentOk a
  | .canRxFrame _ f => f.ok
  | .rxWord0Read a _ => agentOk a
  | .rxWord19Read a _ => agentOk a
  | .rxForce a _ _ => agentOk a
  | .boRecover a _ => agentOk a
  | .busOffRecovered _ _ => true
  | .errinfoRead a _ => agentOk a
  | .torHalt _ => true
  | .torBr _ prev pins => prev < 2 ^ 64 && pins < 2 ^ 64
  | .torBeat _ => true
  | .torAwait _ _ prev pins => prev < 2 ^ 64 && pins < 2 ^ 64
  | .torTake _ pins => pins < 2 ^ 64
  | .torEmit _ => true
  | .torSend _ => true
  | .torFetch _ => true
  | .torLoad _ => true
  | .torCopy _ pins => pins < 2 ^ 64
  | .torAdd _ => true
  | .torStamp _ => true
  | .torRaise _ => true
  | .torNop _ => true
  | .torStart _ by_ => byOk by_
  | .torStop _ by_ => byOk by_
  | .torFlush a _ => agentOk a
  | .torQclr a _ => agentOk a
  | .torTxqWrite a _ _ => agentOk a
  | .torRxqRead a _ => agentOk a
  | .torTxForward _ => true
  | .torPdataWrite _ _ => true
  | .torPdataRead a _ => agentOk a
  | .pcieReset _ => true
  | .ringTailWrite a _ _ tail => agentOk a && tail < 2 ^ 16
  | .descFetch _ _ desc => readOk desc
  | .rxEntryMove _ => true
  | .txDescMove _ data => readOk data
  | .dmaReadTimeout _ _ _ => true
  | .ringWatchdog _ _ => true
  | .ringDisable a _ _ => agentOk a
  | .ringEnable a _ _ => agentOk a
  | .txfree a _ => agentOk a
  | .coalTimeout _ _ => true
  | .swset a _ => agentOk a
  | .evcStatClear a _ _ => agentOk a
  | .vholdExpiry _ => true
  | .errlogRead a => agentOk a
  | .porAssert _ => true
  | .porRelease x => x.rid < 64 && x.vddio.length == 8
  | .sysResetPin => true
  | .warmRst a key => agentOk a && wordOk key
  | .bootMarchDone => true
  | .loaderDone => true
  | .dpReady a => agentOk a
  | .kick a _ => agentOk a
  | .wdogTimeout _ => true
  | .clusterSleepCmd a _ => agentOk a
  | .clusterIdle _ => true
  | .drainDone _ => true
  | .isolate _ => true
  | .clusterSleep _ => true
  | .clusterWakeCmd a _ => agentOk a
  | .clusterWake _ _ => true
  | .rstcauseRead a => agentOk a
  | .xferBegin a _ => agentOk a
  | .eraseDone _ => true
  | .xferAbort a _ => agentOk a
  | .piece a _ => agentOk a
  | .pieceDone => true
  | .pendingCheck => true
  | .stage a _ => agentOk a
  | .unstage a _ => agentOk a
  | .bootNext a _ => agentOk a
  | .commit a _ => agentOk a
  | .handover a => agentOk a
  | .actRevert a => agentOk a
  | .activateGo a => agentOk a
  | .activateGroup _ => true
  | .migrated a => agentOk a
  | .migFail a => agentOk a
  | .cfgLoad a _ _ _ => agentOk a
  | .cfgWrite a _ => agentOk a
  | .cfgErase a => agentOk a
  | .cfgSwitch a => agentOk a
  | .cfgRevert a => agentOk a
  | .cfgOpDone => true
  | .lcProvision a key => agentOk a && wordOk key
  | .lcField a key => agentOk a && wordOk key
  | .lcReturn a key _ => agentOk a && wordOk key
  | .lcScrapped a key => agentOk a && wordOk key
  | .fuseKey a key _ _ => agentOk a && wordOk key
  | .revokeKey a key _ => agentOk a && wordOk key
  | .lcStatRead a => agentOk a
  | .tamper _ => true
  | .stateSectorRotate => true
  | .strataRecordWrite => true
  | .strataTailWrite a _ => agentOk a
  | .rearm a => agentOk a
  | .strataLastRead a _ => agentOk a
  | .strataWstatRead a => agentOk a
  | .strataLostRead a _ => agentOk a
  | .copyFault _ _ => true
  | .copyTestDone _ _ => true
  | .dbgHalt a _ => agentOk a
  | .dbgResume a _ => agentOk a
  | .dbgStep a _ => agentOk a
  | .readReg a _ _ => agentOk a
  | .writeReg a _ _ => agentOk a
  | .setBp a _ _ => agentOk a
  | .clrBp a _ _ => agentOk a
  | .dbgRelease a _ => agentOk a
  | .breakpoint _ => true
  | .testLogicReset => true
  | .jtagUpdateIr _ => true
  | .tmxAccess v => v < 2 ^ 53
  | .bistLogic a _ => agentOk a
  | .bistLogicDone _ => true
  | .bistPrbs a _ _ => agentOk a
  | .prbsStop a _ => agentOk a
  | .prbsErrRead a _ => agentOk a
  | .firstStart => true
  | .receiveError _ _ _ _ => true
  | .beacon _ _ => true
  | .peerLpi _ _ => true
  | .extestUpdateDr _ => true
  | .perstnHigh => true

end Sys2Proof
end

