-- ==== Sys2Proof/Safety.lean ====
section
/-! DEFINITION. What counts as a sound state and as a run that meets the conditions of the timing guarantee
(spec/01_architecture.md R19; spec/07_memory.md R193 to R198). -/
namespace Sys2Proof.Machine

/-- The canonical form of the stored words: keys strictly rising, and none that holds the unwritten word of R194. -/
def Memory.wf (m : Tab CodeWord) : Bool := Tab.wf (fun _ => {}) m

/-- The canonical form of register words: offsets strictly rising, and none that holds its reset word. -/
def regsWf (t : Tab Word) : Bool := Tab.wf resetWord t

/-- The canonical form of the words kept once per agent. -/
def agentRegsWf (t : Tab Word) : Bool := Tab.wf (fun _ => 0) t

/-- A state whose tables are canonical, so that equal contents are equal data. -/
def State.canonical (s : State) : Bool :=
  Memory.wf s.mem && regsWf s.regs && regsWf s.act && agentRegsWf s.agentRegs

/-- Condition 1 of R19 has held so far: no commit unit has dropped a late action. -/
def State.timely (s : State) : Bool := (List.range 101).all (fun k => s.fld (Reg.GCTL_LATE_UNIT_COUNT k) == 0)

/-- The state area of the flash is sound: its sectors are canonical, and every record's sequence number lies below the next one,
so that the last record written for a key is the one in force (R475). -/
def Flash.wf (f : Flash) : Prop := Tab.wf (fun _ => []) f.sectors = true ∧ ∀ x ∈ f.records, x.1 < f.seq

/-- Every waiting command carries operands within their ranges. -/
def State.queueWf (s : State) : Bool := s.pending.all Instr.wf

/-- A command changes the state only as far as it is not held in power-on reset (R450). -/
def State.running (s : State) : Bool := !s.held

/-- Engine e stands at a bundle it can execute: it holds a task and is neither stopped nor waiting, no breakpoint is armed
there, its budget is not spent, the words at its PC are the prefixes and then the instruction's word, their fetch makes no
trap, and the bundle is one the engine executes (R69, R92, R107 to R109). -/
def State.atBundle (s : State) (e : Nat) (lits : Lits) (op : CragOp) : Bool :=
  s.canRun e && !s.breakHere e && !s.budgetSpent e && decide (s.bundleHere e = lits.map litWord ++ [op.word])
    && (s.fetchTrap e (s.engine e).pc (lits.length + 1)).isNone && op.legal lits

/-- The state in which the effect of the bundle at an engine's PC begins: its words have been fetched (R69). -/
def State.fetched (s : State) (e : Nat) (lits : Lits) : State :=
  (s.beginBundle e).fetchWords e (s.engine e).pc (lits.length + 1)

/-- The state after a bundle of engine e whose effect leaves t: the bundle is counted and the PC stands behind its words. -/
def State.stepped (s : State) (e : Nat) (lits : Lits) (t : State) : State :=
  t.goTo e ((s.engine e).pc + (lits.length + 1))

/-- Every word of the bundle at an engine's PC reads back without any finding (R194), and no row of its bank is under repair
(R83, R212). -/
def State.cleanBundle (s : State) (e : Nat) (lits : Lits) : Bool :=
  let k := (s.engine e).bank + 1
  (List.range (lits.length + 1)).all (fun i =>
    (s.codeWord e ((s.engine e).pc + i)).2 == .clean
      && !s.memc.repairing.any (fun r => r.ctrl == engineCtrl e && r.array == k
        && r.bank == (rowOf (engineCtrl e) k (((s.engine e).pc + i) % bankSize e)).bank))

/-- Tor channel c executes an instruction in its next step, and none of its receive words waits to be forwarded (R408, R415,
R417). -/
def State.torReady (s : State) (c : Nat) (op : TorOp) : Bool :=
  s.tbu.running && (s.torCh c).run != .stopped && decide (torDecode (s.torWord c) = some op) && !(s.torCh c).pushing
    && s.torFld c Reg.TOR_CH_CFG_RX_FWD == 0

/-- The state at the start of Tor channel c's next step (R407). -/
def State.torAtStep (s : State) (c : Nat) : State := s.advanceToTime (s.torNextStep c)

/-- Whether a channel goes on after a completed instruction at an offset (R414). -/
def TorChannel.goesOn (x : TorChannel) (pc : Nat) : Bool := x.run == .running && x.pc == pc

end Sys2Proof.Machine
end

