-- ==== Sys2Proof/Certificates/Slice0/Obligations.lean ====
section
/-! DEFINITION. The statements about the model, one `Obligations.<Name>` each: what reset leaves, what a step does, the rules of
the shared operations, and for every command where it completes and what the next state holds. A docstring names the rules of
spec/ that the statement follows; a clause that rests on a choice of the model names the log entry. -/
open Sys2Proof Sys2Proof.Machine

/-- The command at the front of the queue is the one a step runs, on the state with the rest of the queue. On an empty queue the
model's own rule holds (log 2, DESIGN CHOICE): one tick of 8 ns passes, the pulses that end in it end, and nothing else changes. -/
def Obligations.StepRunsTheCommandInFront : Prop :=
  (∀ (s : State) (c : Instr) (rest : List Instr), s.pending = c :: rest → step s = exec c { s with pending := rest })
  ∧ (∀ s : State, s.pending = [] →
    ∃ t, step s = .next t ∧ t.clk = s.clk + 128 ∧ (s.tbu.running = true → t.tbu.time = s.tbu.time + 128)
      ∧ (s.tbu.running = false → t.tbu.time = s.tbu.time) ∧ (∀ o, t.reg o = s.reg o) ∧ t.mem = s.mem
      ∧ ((∀ n e, (s.trg n).pulseEnd = some e → s.clk + 128 < e) → t.outs = s.outs)
      ∧ t.engines = s.engines ∧ t.talus = s.talus ∧ t.posted = s.posted ∧ t.flight = s.flight ∧ t.macs = s.macs
      ∧ t.massif = s.massif ∧ t.rl = s.rl ∧ t.cans = s.cans ∧ t.tor = s.tor ∧ t.pending = [])

/-- The invariant of the model's tables: every step that answers a next state keeps memory, the register words, the words in force
and the words kept once per agent in their canonical form, and takes from the queue only the command that it runs. That the
form holds after reset is part of `ResetLeavesTheTabledWords`. -/
def Obligations.EveryStepKeepsTheCanonicalForm : Prop :=
  ∀ s t : State, s.canonical = true → step s = .next t → t.canonical = true ∧ t.pending = s.pending.tail

/-- While power-on reset holds the device, every command changes nothing but those whose sources are alive then: the
supplies and PORn, PERSTn, and the tamper sources on VDD_AON (R450). And no command ends a run: every one answers a next state
in every state. -/
def Obligations.HeldDeviceChangesNothing : Prop :=
  (∀ (s : State) (c : Instr), s.held = true → (∀ b, c ≠ .porAssert b) → (∀ x, c ≠ .porRelease x) → (∀ k, c ≠ .tamper k) →
    c ≠ .perstnHigh → c ≠ .pcieReset 3 → exec c s = .next s)
  ∧ (∀ (s : State) (c : Instr), ∃ t, exec c s = .next t)

/-- What reset leaves: the reset words the spec tables give, the clock at rest, nothing posted and nothing waiting. -/
def Obligations.ResetLeavesTheTabledWords : Prop :=
  (∀ o, State.reset.reg o = resetWord o) ∧ State.reset.canonical = true
  ∧ State.reset.reg Reg.GCTL_PROFILE = 1 ∧ State.reset.fld Reg.GCTL_CTRL_TELEM_MS = 64 ∧ State.reset.reg Reg.GCTL_REJECT = 0
  ∧ (∀ k : Fin 101, State.reset.fld (Reg.GCTL_LATE_UNIT_COUNT k) = 0)
  ∧ State.reset.reg Reg.TBU_STAT = 0 ∧ State.reset.reg Reg.TBU_CAL_CTRL = 0x142A
  ∧ (∀ n : Fin 8, State.reset.reg (Reg.TBU_CAP_CTRL n) = 2)
  ∧ (∀ e : Fin 50, State.reset.fld (Reg.CE_SLACK_MIN_MIN e) = 0xFFFFF)
  ∧ State.reset.pending = [] ∧ State.reset.posted = [] ∧ State.reset.flight = [] ∧ State.reset.held = false
  ∧ State.reset.tbu.running = false ∧ State.reset.mem = []

/-- R7: 32-bit host accesses. To a slot outside the MSI-X table the low half fills the latch and the staging register, and the
high half takes them; a dword of the MSI-X table (R442) is read and written as it stands, with neither. -/
def Obligations.HostHalfAccessesUseLatchAndStaging : Prop :=
  ∀ (s : State) (a o : Nat), s.held = false → (a = 51 ∨ a = 52) → o % 8 = 0 →
    let r := s.busRead a o
    let w := r.1.getD 0
    let bad := r.2.1 == .uncorrectable
    (msixAt o = none →
      (∃ t, exec (.lowHalfRead a o) s = .next t ∧ t.outs = .readHalf a (w.field 31 0) bad :: r.2.2.outs
        ∧ (t.hostPort a).latch = some (w.field 35 32) ∧ (t.hostPort a).staging = (r.2.2.hostPort a).staging
        ∧ t.regs = r.2.2.regs ∧ t.mem = r.2.2.mem)
      ∧ (∀ v, ∃ t, exec (.lowHalfWrite a o v) s = .next t ∧ (t.hostPort a).staging = v % 2 ^ 32
        ∧ (t.hostPort a).latch = (s.hostPort a).latch ∧ t.regs = s.regs ∧ t.mem = s.mem
        ∧ (∀ b, (b = 51 ∨ b = 52) → b ≠ a → t.hostPort b = s.hostPort b)))
    ∧ (msixAt (o + 4) = none →
      (∀ v, (s.hostPort a).latch = some v →
        ∃ t, exec (.highHalfRead a o) s = .next t ∧ t.outs = .readHalf a v false :: s.outs ∧ (t.hostPort a).latch = none
          ∧ t.regs = s.regs ∧ t.mem = s.mem)
      ∧ ((s.hostPort a).latch = none → exec (.highHalfRead a o) s = .next (s.emit (.readHalf a (w.field 35 32) bad)))
      ∧ (∀ v, let u := s.busWrite a o (Word.ofN (v % 16 * 2 ^ 32 + (s.hostPort a).staging))
        exec (.highHalfWrite a o v) s = .next (u.setHostPort a { u.hostPort a with staging := 0 })))
    ∧ (∀ d, msixAt o = some d →
      exec (.lowHalfRead a o) s = .next (s.emit (.readHalf a (s.msixRead d) false))
      ∧ (∀ v, exec (.lowHalfWrite a o v) s = .next (s.msixWrite d (v % 2 ^ 32))))
    ∧ (∀ d, msixAt (o + 4) = some d →
      exec (.highHalfRead a o) s = .next (s.emit (.readHalf a (s.msixRead d) false))
      ∧ (∀ v, exec (.highHalfWrite a o v) s = .next (s.msixWrite d (v % 2 ^ 32))))

/-- Whole-word writes, PROFILE writes and whole-slot host requests. -/
def Obligations.WholeWordAccessesReachTheirRegister : Prop :=
  ∀ (s : State) (a o : Nat) (w : Word), s.held = false → o % 8 = 0 →
    (windowAt o = none → blockAt o = some .gctl → o ≠ Reg.GCTL_PROFILE → isCrag a = false →
      exec (.registerWrite a o w) s = .next (s.writeGeneric a o w))
    ∧ (∀ b, windowAt o = none → msixAt o = none → blockAt o = some b → refusesCrag b = true → isCrag a = true →
      (regDescAt o).isSome = true → exec (.registerWrite a o w) s = .next (s.reject a o))
    ∧ (windowAt o = none → blockAt o = none → exec (.registerWrite a o w) s = .next s)
    ∧ (∀ (b : Block) (u : Nat), u < b.place.2.2 → (refusesCrag b && isCrag a) = false → b ≠ .vault →
      (b = .can → s.isSet (Reg.CAN_CTRL_EN u) = false) →
      (s.written (State.profileOff (b.place.1 + b.place.2.1 * u)) w).2 = false →
      exec (.profileWrite a b u w) s
        = .next ((s.writeGeneric a (State.profileOff (b.place.1 + b.place.2.1 * u)) w).loadProfile b u (w.field 7 0)))
    ∧ (∀ u, u < Block.can.place.2.2 → s.isSet (Reg.CAN_CTRL_EN u) = true →
      exec (.profileWrite a .can u w) s = .next (s.reject a (Reg.CAN_PROFILE u)))
    ∧ (∀ w' bad s1, (a = 51 ∨ a = 52) → msixAt o = none → s.busRead a o = (some w', bad, s1) →
      exec (.bar0Read a { off := o, len := 8, allBytes := true }) s = .next (s1.emit (.read a w' (bad == .uncorrectable))))
    ∧ (∀ v u, (a = 51 ∨ a = 52) → msixAt o = none →
      exec (.bar0Write a { off := o, dwords := [v, u], allBytes := true, poisoned := false }) s
        = .next (s.busWrite a o (Word.ofN (v % 2 ^ 32 + u % 16 * 2 ^ 32))))

/-- R9, R10 and R12 for every register that has no rule of its own: what a write of w leaves in each field. -/
def Obligations.GenericWriteObeysAccessCodesAndLevels : Prop :=
  ∀ (s : State) (a o : Nat) (w : Word) (d : RegDesc), regDescAt o = some d →
    ∀ f, f ∈ d.fields →
      let t := s.writeGeneric a o w
      let old := (s.reg o).field f.hi f.lo
      let new := (t.reg o).field f.hi f.lo
      let v := w.field f.hi f.lo
      let ok := f.legal.ok (f.hi + 1 - f.lo) v
      o ≠ Reg.GCTL_REJECT → o / 0x10000 ≠ 1 → o / 0x10000 ≠ 4 → o / 0x10000 ≠ 9 →
        (f.acc = .rw → (f.expert = false ∨ s.expert o = true) → ok = true → new = v)
        ∧ (f.acc = .rw → (f.expert = true ∧ s.expert o = false ∨ ok = false) → new = old)
        ∧ (f.acc = .w1c → new = old - (old &&& v))
        ∧ (f.acc = .ro → new = old) ∧ (f.acc = .rc → new = old)
        ∧ ((f.acc = .rw ∧ (f.expert = false ∨ s.expert o = true) ∨ f.acc = .wo) → ok = false →
            t.eventStat 0 = true ∧ t.fld Reg.GCTL_REJECT_VALID = 1 ∧ t.fld Reg.GCTL_REJECT_AGENT = a % 64
              ∧ t.fld Reg.GCTL_REJECT_WORD = o / 8 % 2 ^ 23)

/-- R18 items 2 to 4 and R33: what dropping an action as late leaves behind. -/
def Obligations.LateActionIsCountedRaisedAndReported : Prop :=
  ∀ (s : State) (k a due : Nat), k < 101 → a < 64 →
    let t := s.late k a due
    t.fld (Reg.GCTL_LATE_UNIT_COUNT k) = (s.fld (Reg.GCTL_LATE_UNIT_COUNT k) + 1) % 2 ^ 36
    ∧ (51 ≤ a → a ≤ 60 →
        t.fld (Reg.GCTL_LATE_AGENT_COUNT (a - 51)) = (s.fld (Reg.GCTL_LATE_AGENT_COUNT (a - 51)) + 1) % 2 ^ 36)
    ∧ (∀ j, j < 101 → j ≠ k → t.fld (Reg.GCTL_LATE_UNIT_COUNT j) = s.fld (Reg.GCTL_LATE_UNIT_COUNT j))
    ∧ (t.strata.intake.any (fun r => r.source == State.unitSource k && r.type == 48) = true ∨ 16 ≤ t.strata.intake.length)
    ∧ t.eventStat 48 = true
    ∧ t.mem = s.mem ∧ t.posted = s.posted ∧ t.engines = s.engines

/-- Take-in, management changes and telemetry. -/
def Obligations.CommitAndGlobalControlCommands : Prop :=
  ∀ s : State, s.held = false →
    (∀ a, exec (.gctlRejectRead a) s
      = .next ((s.readGeneric Reg.GCTL_REJECT).2.emit (.read a (s.readGeneric Reg.GCTL_REJECT).1 false)))
    ∧ (∀ (p : Posted) (k : Fin 101), s.tbu.running = true → s.flight = [p] → p.unit = k → k.val ≠ 91 →
        ¬ (18 ≤ k.val ∧ k.val ≤ 25) → 8 < s.boundaryAt - s.tbu.time →
        let d := (p.due / 128 + 2 ^ 29 - s.boundaryAt / 128 % 2 ^ 29) % 2 ^ 29
        let s1 := ({ s with flight := [] }).advanceToTime s.boundaryAt
        (d < 2 ^ 28 → exec (.commitTakeIn (.register k)) s = .next { s1 with posted := s1.posted ++ [{ p with slack := d }] })
        ∧ (2 ^ 28 ≤ d → ¬ (k.val ≤ 17) → ¬ (92 ≤ k.val ∧ k.val ≤ 99 ∧ p.sel = 1) →
            exec (.commitTakeIn (.register k)) s = .next (s1.late k p.agent p.due)))
    ∧ (∀ (b : Block) (u : Nat), b ∈ [Block.mac, .swc, .sts, .tal] → u < b.place.2.2 →
        ∃ t, exec (.mgmtChangeApply b u) s = .next t
          ∧ (∀ o, b.place.1 + b.place.2.1 * u ≤ o → o < b.place.1 + b.place.2.1 * (u + 1) → t.actReg o = s.reg o)
          ∧ (∀ o, ¬ (b.place.1 + b.place.2.1 * u ≤ o ∧ o < b.place.1 + b.place.2.1 * (u + 1)) → t.actReg o = s.actReg o)
          ∧ t.regs = s.regs ∧ t.mem = s.mem ∧ t.outs = s.outs)
    ∧ (∀ fab core, exec (.telemetryRefresh fab core) s = .next (s.refresh fab core)
        ∧ (s.refresh fab core).fld Reg.GCTL_TELEM_FAB_RATE = fab % 2 ^ 12
        ∧ (s.refresh fab core).fld Reg.GCTL_TELEM_CORE_RATE = core % 2 ^ 12
        ∧ (s.refresh fab core).eventStat 3 = true)
    ∧ (∀ m : Supplies, s.prc.alarmed = [] → (∀ k, k < 4 → m.breach k = false) →
        signed 12 (m.tj % 2 ^ 12) ≤ tjLimit s.fuses.grade →
        let t := s.advanceTo (s.prc.measuredAt + 16000000)
        exec (.supplyMeasure m) s = .next { t with prc := { t.prc with measured := m, measuredAt := t.clk } })
    ∧ (∀ m : Supplies, s.prc.alarmed = [] → (∀ k, k < 4 → m.breach k = false) →
        tjLimit s.fuses.grade < signed 12 (m.tj % 2 ^ 12) →
        ∃ t, exec (.supplyMeasure m) s = .next t ∧ t.fld Reg.GCTL_STATUS_TEMP = 1 ∧ t.eventStat 2 = true)

/-- Oscillator inputs and the PLL (R37 to R42). -/
def Obligations.OscillatorAndPllCommands : Prop :=
  ∀ s : State, s.held = false →
    (∀ i : Fin 2, s.osc i ≠ .bad → s.tbu.running = true → s.fld Reg.TBU_OSC_STAT_ACTIVE = i →
        s.osc (1 - i) = .qualified →
      ∃ t, exec (.oscLoss i) s = .next t ∧ t.osc i = .bad ∧ t.tbu.switching = some (1 - i.val)
        ∧ t.fld Reg.TBU_OSC_STAT_ACTIVE = i ∧ t.tbu.time = s.tbu.time ∧ t.clk = s.clk)
    ∧ (∀ i : Fin 2, s.osc i ≠ .bad → s.tbu.running = true → s.osc (1 - i) = .bad → s.isSet Reg.TBU_STAT_HOLDOVER = false →
      ∃ t, exec (.oscLoss i) s = .next t ∧ t.osc i = .bad ∧ t.isSet Reg.TBU_STAT_HOLDOVER = true
        ∧ t.eventStat 19 = true ∧ t.tbu.time = s.tbu.time)
    ∧ (∀ i : Fin 2, s.osc i ≠ .bad → s.osc (1 - i) = .settling →
      ∃ t, exec (.oscLoss i) s = .next t ∧ t.osc i = .bad ∧ t.eventStat 16 = true
        ∧ t.isSet Reg.TBU_STAT_HOLDOVER = s.isSet Reg.TBU_STAT_HOLDOVER ∧ t.tbu.time = s.tbu.time)
    ∧ (∀ (i : Fin 2) ppm, s.fld Reg.TBU_OSC_CTRL_TOL < ppm → exec (.oscFreqWindow i ppm) s = exec (.oscLoss i) s)
    ∧ (∀ (i : Fin 2) ppm, ppm ≤ s.fld Reg.TBU_OSC_CTRL_TOL →
      (∀ x, s.goodSince i = some x → exec (.oscFreqWindow i ppm) s = .next s)
      ∧ (s.goodSince i = none → exec (.oscFreqWindow i ppm) s = .next (s.setGoodSince i (some (s.clk - 1600000)))))
    ∧ (∀ i : Fin 2, s.tbu.switching = some i.val →
      ∃ t, exec .oscSwitch s = .next t ∧ t.fld Reg.TBU_OSC_STAT_ACTIVE = i
        ∧ t.fld Reg.TBU_OSC_STAT_SWITCHES = min Reg.TBU_OSC_STAT_SWITCHES.top (s.fld Reg.TBU_OSC_STAT_SWITCHES + 1)
        ∧ t.tbu.switching = none ∧ t.eventStat 17 = true ∧ t.tbu.time = s.tbu.time)
    ∧ (∀ (i : Fin 2) (x : Nat), s.osc i ≠ .qualified → s.goodSince i = some x →
      ∃ t, exec (.oscQualified i) s = .next t ∧ t.osc i = .qualified ∧ t.isSet Reg.TBU_STAT_HOLDOVER = false
        ∧ t.clk = max s.clk (x + s.fld Reg.TBU_OSC_CTRL_QUAL * 160000000) ∧ t.eventStat 18 = true
        ∧ (s.isSet Reg.TBU_STAT_HOLDOVER = true → t.fld Reg.TBU_OSC_STAT_ACTIVE = i)
        ∧ (s.isSet Reg.TBU_STAT_HOLDOVER = false → t.fld Reg.TBU_OSC_STAT_ACTIVE = s.fld Reg.TBU_OSC_STAT_ACTIVE))
    ∧ (s.tbu.running = false → s.osc (s.fld Reg.TBU_OSC_CTRL_PREFER) = .qualified →
      ∃ t, exec .pllFirstLock s = .next t ∧ t.tbu.running = true ∧ t.tbu.time = 0
        ∧ t.fld Reg.TBU_OSC_STAT_ACTIVE = s.fld Reg.TBU_OSC_CTRL_PREFER ∧ t.isSet Reg.TBU_STAT_PLL_LOCK = true
        ∧ t.fld Reg.TBU_STAT_TIME_SET = s.fld Reg.TBU_STAT_TIME_SET)
    ∧ (s.isSet Reg.TBU_STAT_PLL_LOCK = true → s.isSet Reg.TBU_STAT_HOLDOVER = false →
      ∃ t, exec .pllUnlock s = .next t ∧ t.isSet Reg.TBU_STAT_PLL_LOCK = false ∧ t.isSet Reg.TBU_STAT_PLL_HOLD = true
        ∧ t.tbu.time = s.tbu.time ∧ t.posted = s.posted)
    ∧ (s.isSet Reg.TBU_STAT_PLL_HOLD = true → s.tbu.pllFailed = false →
      exec .pllRelock s = .next ((s.setFld Reg.TBU_STAT_PLL_LOCK 1).setFld Reg.TBU_STAT_PLL_HOLD 0)
      ∧ ∃ t, exec .pllRelockTimeout s = .next t ∧ t.tbu.pllFailed = true
        ∧ t.clk = max s.clk (s.tbu.unlockAt + 200 * 16000) ∧ t.isSet Reg.TBU_STAT_PLL_HOLD = true)

/-- R47, whole: the mark of the next whole second not yet marked. -/
def Obligations.SecondMarkIsWrittenAtEveryWholeSecond : Prop :=
  ∀ (s : State) (n : Nat), s.held = false → s.tbu.running = true → s.tbu.time ≤ n * 16000000000 →
    n * 16000000000 < s.tbu.time + 16000000000 →
    s.fld Reg.TBU_MARK_SECH_SEC * 2 ^ 32 + s.fld Reg.TBU_MARK_SECL_SEC ≠ n →
    ∃ t, exec .secondMark s = .next t ∧ t.tbu.time = n * 16000000000 ∧ t.tbu.time % 128 = 0
      ∧ t.tsw = n * 1000000000 * 16 % 2 ^ 36
      ∧ t.fld Reg.TBU_MARK_SECH_SEC = n / 2 ^ 32 % 2 ^ 16 ∧ t.fld Reg.TBU_MARK_SECL_SEC = n % 2 ^ 32

/-- Rate, steps and reads of full time (R44 to R46). -/
def Obligations.FullTimeCommands : Prop :=
  ∀ s : State, s.held = false →
    (s.tbu.running = true →
      ∃ t, exec .rateApply s = .next t ∧ t.tbu.time = (s.tbu.time / 128 + 1) * 128
        ∧ t.tbu.rate = s.fld Reg.TBU_RATE_RATE ∧ t.regs = s.regs)
    ∧ (∀ a, s.isSet Reg.TBU_STAT_STEP_PENDING = false →
      (∃ t, exec (.stepGo a) s = .next t ∧ t.isSet Reg.TBU_STAT_STEP_PENDING = true
        ∧ t.tbu.change = some (.step (signed 36 (s.fld Reg.TBU_STEP_STEP)))
        ∧ t.tbu.changeAt = (s.tbu.time / 128 + 1) * 128 ∧ t.tbu.changeBy = a ∧ t.tbu.time = s.tbu.time)
      ∧ ∃ t, exec (.setGo a) s = .next t ∧ t.isSet Reg.TBU_STAT_STEP_PENDING = true
        ∧ t.tbu.change = some (.set ((s.fld Reg.TBU_SET_SECH_SEC * 2 ^ 32 + s.fld Reg.TBU_SET_SECL_SEC) * 16000000000
            + s.fld Reg.TBU_SET_NS_NS * 16 + s.fld Reg.TBU_SET_NS_SUB))
        ∧ t.tbu.changeAt = (s.tbu.time / 128 + 1) * 128 ∧ t.tbu.time = s.tbu.time)
    ∧ (∀ a, s.isSet Reg.TBU_STAT_STEP_PENDING = true →
      exec (.stepGo a) s = .next (s.reject a Reg.TBU_CTRL) ∧ exec (.setGo a) s = .next (s.reject a Reg.TBU_CTRL))
    ∧ (∀ d : Int, d ≤ 0 → s.tbu.change = some (.step d) → s.tbu.running = true → s.tbu.time ≤ s.tbu.changeAt →
        0 ≤ (s.tbu.changeAt : Int) + d → (s.tbu.changeAt : Int) + d < 2 ^ 48 * 16000000000 →
        ∃ t, exec .timeStep s = .next t ∧ (t.tbu.time : Int) = s.tbu.changeAt + d ∧ t.isSet Reg.TBU_STAT_TIME_SET = true
          ∧ t.fld Reg.TBU_STAT_STEPS = (s.fld Reg.TBU_STAT_STEPS + 1) % 2 ^ 8
          ∧ t.isSet Reg.TBU_STAT_STEP_PENDING = false ∧ t.eventStat 21 = true ∧ t.posted = s.posted ∧ t.tbu.change = none)
    ∧ (∀ d : Int, s.tbu.change = some (.step d) → s.tbu.running = true → s.tbu.time ≤ s.tbu.changeAt →
        (s.tbu.changeAt : Int) + d < 0 →
        ∃ t, exec .timeStep s = .next t ∧ t.tbu.time = s.tbu.changeAt ∧ t.isSet Reg.TBU_STAT_STEP_PENDING = false
          ∧ t.fld Reg.TBU_STAT_STEPS = s.fld Reg.TBU_STAT_STEPS ∧ t.eventStat 0 = true ∧ t.posted = s.posted)
    ∧ (∀ a, ∃ t, exec (.snapshotRead a) s = .next t
        ∧ t.outs = .read a (Word.ofN (s.tbu.time / 128 * 128 / 16000000000 / 2 ^ 32 % 2 ^ 16)) false :: s.outs
        ∧ t.agentReg a Reg.TBU_SNAP_SECL = Word.ofN (s.tbu.time / 128 * 128 / 16000000000 % 2 ^ 32)
        ∧ t.agentReg a Reg.TBU_SNAP_NS = Word.ofN (s.tbu.time / 128 * 128 % 16000000000)
        ∧ (∀ b o, b ≠ a → b < 64 → a < 64 → o < 2 ^ 26 → t.agentReg b o = s.agentReg b o) ∧ t.regs = s.regs)
    ∧ (∀ a, exec (.nowTswRead a) s = .next (s.emit (.read a (Word.ofN (s.tbu.time / 128 * 128)) false)))

/-- Captures, pulses per second and calibration (R52 to R55, R61 to R63, R66). -/
def Obligations.CapturePulseAndCalibrationCommands : Prop :=
  ∀ s : State, s.held = false →
    (∀ (n : Fin 8) dt rising, s.isSet (Reg.TBU_CAP_CTRL_EN n) = true →
        State.senseSelected (s.fld (Reg.TBU_CAP_CTRL_EDGE n)) rising = true → (s.cap n).last = none →
        (s.cap n).fifo.length < 16 → s.isSet (Reg.TBU_CAP_CTRL_TALUS_EN n) = false → s.tbu.running = true →
        ∃ t, exec (.capture n dt rising false) s = .next t
          ∧ (t.cap n).fifo = (s.cap n).fifo
              ++ [((((s.tbu.time + s.untilPll dt : Nat) : Int) - signed 16 (s.fld (Reg.TBU_CAP_DLY_DLY n))) % 2 ^ 36 |>.toNat, rising)]
          ∧ t.eventStat (32 + n) = true ∧ (∀ m : Fin 8, m ≠ n → t.cap m = s.cap m))
    ∧ (∀ a (n : Fin 8) x r rest, (s.cap n).fifo = (x, r) :: rest →
        ∃ t, exec (.capPop a n) s = .next t ∧ (t.cap n).fifo = rest ∧ t.outs = .read a (Word.ofN x) false :: s.outs)
    ∧ (∀ a (n : Fin 8), (s.cap n).fifo = [] → exec (.capPop a n) s = .next (s.emit (.read a 0 false)))
    ∧ (∀ a (n : Fin 8), exec (.capLostRead a n) s
        = .next ((s.readGeneric (Reg.TBU_CAP_LOST n)).2.emit (.read a (s.readGeneric (Reg.TBU_CAP_LOST n)).1 false)))
    ∧ (∀ a, exec (.oscStatRead a) s
        = .next ((s.readGeneric Reg.TBU_OSC_STAT).2.emit (.read a (s.readGeneric Reg.TBU_OSC_STAT).1 false)))
    ∧ (∀ (p : Fin 2) dt rising, s.isSet (Reg.TBU_PPSI_CTRL_EN p) = true →
        rising ≠ s.isSet (Reg.TBU_PPSI_CTRL_EDGE p) →
        ∃ t, exec (.ppsIn p dt rising) s = .next t ∧ t.isSet (Reg.TBU_PPSI_STAT_VALID p) = true
          ∧ t.eventStat (24 + p) = true ∧ Tab.get none p t.tbu.ppsLast = some (s.clk + s.untilPll dt))
    ∧ (∀ (p : Fin 2) c, Tab.get none p s.tbu.ppsLast = some c → s.isSet (Reg.TBU_PPSI_CTRL_EN p) = true →
        ∃ t, exec (.ppsMiss p) s = .next t ∧ t.isSet (Reg.TBU_PPSI_STAT_MISSED p) = true ∧ t.eventStat 26 = true
          ∧ (s.tbu.running = false → t.clk = max s.clk (c + 1100000000 * 16))
          ∧ (s.tbu.running = true → s.clk ≤ c + 1100000000 * 16 → c + 1100000000 * 16 < t.clk
              ∧ t.clk ≤ c + 1100000000 * 16 + 128 ∧ t.tbu.time % 128 = 0) ∧ Tab.get none p t.tbu.ppsLast = none)
    ∧ (∀ (p : Fin 2) (sec : Nat), s.tbu.running = true → s.isSet (Reg.TBU_PPSO_CTRL_EN p) = true →
        s.isSet Reg.TBU_STAT_TIME_SET = true → 0 < s.fld (Reg.TBU_PPSO_CTRL_WIDTH p) → s.fld (Reg.TBU_PPSO_DLY_DLY p) = 0 →
        Tab.get none p s.tbu.ppsOutLast = none → s.tmx.ext = false → s.tmx.ballsFrom ≤ s.clk →
        (∀ m, (s.trg m).pulseEnd = none) → s.tbu.time ≤ sec * 16000000000 → sec * 16000000000 < s.tbu.time + 16000000000 →
        ∃ t, exec (.ppsOut p) s = .next t ∧ t.tbu.time = sec * 16000000000
          ∧ t.outs = .pin 1 p (s.isSet (Reg.TBU_PPSO_CTRL_POL p))
                ((sec * 16000000000 + s.fld (Reg.TBU_PPSO_CTRL_WIDTH p) * 16000) % 2 ^ 36)
              :: .pin 1 p (!s.isSet (Reg.TBU_PPSO_CTRL_POL p)) (sec * 16000000000 % 2 ^ 36) :: s.outs ∧ t.regs = s.regs)
    ∧ (∀ a, s.isSet Reg.TBU_CAL_STAT_BUSY = false →
        ∃ t, exec (.calGo a) s = .next t ∧ t.isSet Reg.TBU_CAL_STAT_BUSY = true ∧ t.tbu.calStart = some s.clk
          ∧ t.tbu.calTemp = s.prc.measured.tj % 2 ^ 12)
    ∧ (∀ tj, s.tbu.calLast = none → s.isSet Reg.TBU_CAL_STAT_BUSY = false →
        ∃ t, exec (.calAuto tj) s = .next t ∧ t.isSet Reg.TBU_CAL_STAT_BUSY = true ∧ t.tbu.calTemp = tj % 2 ^ 12)
    ∧ (∀ worst, s.isSet Reg.TBU_CAL_STAT_BUSY = true →
        ∃ t, exec (.calDone worst) s = .next t ∧ t.isSet Reg.TBU_CAL_STAT_BUSY = false
          ∧ (worst ≤ 40 → t.isSet Reg.TBU_STAT_CAL_VALID = true ∧ t.eventStat 22 = true)
          ∧ (40 < worst → t.isSet Reg.TBU_STAT_CAL_VALID = s.isSet Reg.TBU_STAT_CAL_VALID ∧ t.eventStat 23 = true))

/-- Trigger pins (R56 to R60). -/
def Obligations.TriggerCommands : Prop :=
  ∀ (s : State) (n : Fin 8), s.held = false →
    (∀ a w, s.fld (Reg.TBU_TRG_CTRL_MODE n) ≠ 1 → s.trgPending n < 8 →
        exec (.trgAtWrite a n w) s = .next (s.post (18 + n) 1 0 w.toNat a))
    ∧ (∀ a w, s.fld (Reg.TBU_TRG_CTRL_MODE n) ≠ 1 → 8 ≤ s.trgPending n →
        exec (.trgAtWrite a n w) s = .next (s.trgConflict 1 w.toNat a 0))
    ∧ (∀ a w, s.fld (Reg.TBU_TRG_CTRL_MODE n) = 1 → s.fld (Reg.TBU_TRG_PERI_PERI n) < 256 →
        exec (.trgAtWrite a n w) s = .next (s.reject a (Reg.TBU_TRG_AT n)))
    ∧ (∀ a w, s.fld (Reg.TBU_TRG_CTRL_MODE n) = 1 → 256 ≤ s.fld (Reg.TBU_TRG_PERI_PERI n) →
        let period := s.fld (Reg.TBU_TRG_PERI_PERI n) * 2 ^ 32 + s.fld (Reg.TBU_TRG_PERF_PERF n)
        let width := s.fld (Reg.TBU_TRG_WIDTH_WIDTH n)
        (width + 32) * 2 ^ 32 ≤ period →
        ∃ t, exec (.trgAtWrite a n w) s = .next t ∧ t.flight.length = s.flight.length + 1
          ∧ (∃ p, p ∈ t.flight ∧ p.unit = 18 + n ∧ p.sel = 2 ∧ p.due = w.toNat ∧ p.agent = a ∧ p.seq = s.postSeq)
          ∧ (t.trg n).starts = (s.trg n).starts ++ [{ seq := s.postSeq, period := period, width := width }])
    ∧ (∀ p, s.trgNext n 1 = some p →
        ∃ t, exec (.fire n) s = .next t ∧ p ∉ t.posted ∧ t.eventStat (40 + n) = true
          ∧ t.fld (Reg.TBU_TRG_CNT_CNT n) = (s.fld (Reg.TBU_TRG_CNT_CNT n) + 1) % 2 ^ 36 ∧ t.mem = s.mem)
    ∧ (∀ p y, s.trgNext n 2 = some p → (s.trg n).starts.find? (fun y => y.seq == p.seq) = some y →
        ∃ t x, exec (.trainStart n) s = .next t ∧ (t.trg n).train = some x ∧ x.anchor = (s.fullTime p.due).toNat
          ∧ x.period = y.period ∧ x.width = y.width ∧ x.agent = p.agent ∧ x.nextK = 0 ∧ p ∉ t.posted)
    ∧ (∀ x e d, s.trainNext n = some (x, e, d) →
        ∃ t, exec (.trainEdge n) s = .next t ∧ (t.trg n).train = some { x with nextK := x.nextK + 1 }
          ∧ t.fld (Reg.TBU_TRG_CNT_CNT n) = (s.fld (Reg.TBU_TRG_CNT_CNT n) + 1) % 2 ^ 36)
    ∧ (∀ x b, (s.trg n).train = some x → x.stopAt = some b →
        ∃ t, exec (.trainStop n) s = .next t ∧ (t.trg n).train = none ∧ t.regs = s.regs
          ∧ t.tbu.time = max s.tbu.time b ∧ ((∀ m, (s.trg m).pulseEnd = none) → t.outs = s.outs))
    ∧ (∀ x, s.tbu.internals.find? (fun x => x.pin == n.val) = some x →
        ∃ t, exec (.triggerInternal n) s = .next t ∧ (∀ y ∈ t.tbu.internals, y.pin = n → y.boundary ≠ x.boundary)
          ∧ (s.isSet (Reg.TBU_TRG_CTRL_TOR_EN n) = true → ∃ q ∈ t.posted,
              q.unit = 27 + s.fld (Reg.TBU_TRG_CTRL_TOR_CH n) ∧ q.sel = 1 ∧ q.due = x.boundary % 2 ^ 36))

/-- A fetch that finds nothing wrong changes nothing but the record of the bundle begun (R69, R194). -/
def Obligations.CleanFetchChangesNothing : Prop :=
  ∀ (s : State) (e : Nat) (lits : Lits), s.cleanBundle e lits = true →
    s.fetched e lits = s.beginBundle e ∧ s.fetchTrap e (s.engine e).pc (lits.length + 1) = none

/-- The results and flags of addition and subtraction, for every pair of words and every flag in (R112, R113). -/
def Obligations.AdditiveResultsAndFlags : Prop :=
  ∀ (a b : Word) (f : Flags) (x : Bool),
    (let r := addWords a b x f
     r.1 = a + b + BitVec.ofNat 36 (bit01 x)
      ∧ (r.2.c = true ↔ 2 ^ 36 ≤ a.toNat + b.toNat + bit01 x)
      ∧ (r.2.v = true ↔ sval r.1 ≠ sval a + sval b + bit01 x)
      ∧ (r.2.z = true ↔ r.1 = 0) ∧ (r.2.n = true ↔ sval r.1 < 0))
    ∧ (let r := subWords a b x f
       r.1 = a - b - BitVec.ofNat 36 (bit01 x)
        ∧ (r.2.c = true ↔ a.toNat < b.toNat + bit01 x)
        ∧ (r.2.v = true ↔ sval r.1 ≠ sval a - sval b - bit01 x)
        ∧ (r.2.z = true ↔ r.1 = 0) ∧ (r.2.n = true ↔ sval r.1 < 0))

/-- Shifts, products, quotients and nonet reversal (R114 to R117). -/
def Obligations.ShiftMultiplyAndDivideResults : Prop :=
  ∀ (a b : Word) (f : Flags),
    (∀ n, n < 64 → ((shlWord a n f).1 = a <<< n ∧ (shrWord a n f).1 = a >>> n ∧ (sarWord a n f).1 = a.sshiftRight n
        ∧ (rorWord a n f).1 = a.rotateRight n
        ∧ (shlWord a n f).2.v = f.v ∧ (shrWord a n f).2.v = f.v ∧ (sarWord a n f).2.v = f.v ∧ (rorWord a n f).2.v = f.v))
    ∧ (shlWord a 0 f).2.c = f.c ∧ (∀ n, 0 < n → n ≤ 36 → (shlWord a n f).2.c = a.getLsbD (36 - n))
    ∧ (∀ n, 36 < n → (shlWord a n f).2.c = false)
    ∧ (mulLow a b f).1 = a * b ∧ ((mulLow a b f).2.v = true ↔ sval (mulLow a b f).1 ≠ sval a * sval b)
    ∧ ((mulHighU a b f).1.toNat = a.toNat * b.toNat / 2 ^ 36 ∧ (mulHighU a b f).2.v = false)
    ∧ (b ≠ 0 → (divU a b f).1.toNat = a.toNat / b.toNat ∧ (divU a b f).2.1.toNat = a.toNat % b.toNat)
    ∧ (b ≠ 0 → ¬ (sval a = -(2 ^ 35) ∧ sval b = -1) →
        sval (divS a b f).1 = Int.tdiv (sval a) (sval b) ∧ sval (divS a b f).2.1 = Int.tmod (sval a) (sval b)
          ∧ (divS a b f).2.2.v = false)
    ∧ (divS a 0 f).1 = 0 ∧ (divS a 0 f).2.1 = a ∧ (divS a 0 f).2.2.z = true ∧ (divS a 0 f).2.2.v = true
    ∧ (divS a 0 f).2.2.c = f.c
    ∧ revNonets (revNonets a) = a ∧ (∀ k, k < 4 → (revNonets a).nonet k = a.nonet (3 - k))

/-- R106, R110, R111: every defined Crag instruction has a 14-bit word that is no LIT prefix and decodes to that instruction,
with every operand at every value; and a word decodes to no instruction whose fields are undefined. -/
def Obligations.CragDecodeOfWordIsTheInstruction : Prop :=
  (∀ op : CragOp, op.defined = true → op.word < 2 ^ 14 ∧ isLit op.word = false ∧ CragOp.decode op.word = some op)
  ∧ (∀ w op, w < 2 ^ 14 → CragOp.decode w = some op → op.defined = true ∧ op.word = w)

/-- The instructions that write one window register or the flags alone, for both kinds of operand B (R108, R112 to R119). -/
def Obligations.CragDataInstructionsComplete : Prop :=
  ∀ (s : State) (e : Fin 50) (lits : Lits) (d r : Fin 16), s.held = false →
    let done (t : Engine → Engine) : Host.Outcome State Fault Refusal :=
      .next (s.stepped e lits ((s.fetched e lits).modEngine e t))
    let here (o : ROp) : Prop := s.atBundle e lits (.rr o d r) = true
    let rule (o : ROp) (f : Word → Word → Flags → Word × Flags) (g : Engine) : Engine :=
      (g.setW d (f (g.w d) (g.operandB o lits r) g.fl).1).setFl (f (g.w d) (g.operandB o lits r) g.fl).2
    (here .mov → exec (.mov e lits d r) s = done (rule .mov (fun _ b => znOnly b)))
    ∧ (here .add → exec (.add e lits d r) s = done (rule .add (fun a b => addWords a b false)))
    ∧ (here .adc → exec (.adc e lits d r) s = done (rule .adc (fun a b f => addWords a b f.c f)))
    ∧ (here .sub → exec (.sub e lits d r) s = done (rule .sub (fun a b => subWords a b false)))
    ∧ (here .sbc → exec (.sbc e lits d r) s = done (rule .sbc (fun a b f => subWords a b f.c f)))
    ∧ (here .and → exec (.and e lits d r) s = done (rule .and (fun a b => znOnly (a &&& b))))
    ∧ (here .or → exec (.or e lits d r) s = done (rule .or (fun a b => znOnly (a ||| b))))
    ∧ (here .xor → exec (.xor e lits d r) s = done (rule .xor (fun a b => znOnly (a ^^^ b))))
    ∧ (here .shl → exec (.shl e lits d r) s = done (rule .shl (fun a b => shlWord a (b.field 5 0))))
    ∧ (here .shr → exec (.shr e lits d r) s = done (rule .shr (fun a b => shrWord a (b.field 5 0))))
    ∧ (here .sar → exec (.sar e lits d r) s = done (rule .sar (fun a b => sarWord a (b.field 5 0))))
    ∧ (here .ror → exec (.ror e lits d r) s = done (rule .ror (fun a b => rorWord a (b.field 5 0))))
    ∧ (here .mul → exec (.mul e lits d r) s = done (rule .mul mulLow))
    ∧ (here .mulh → exec (.mulh e lits d r) s = done (rule .mulh mulHigh))
    ∧ (here .mulhu → exec (.mulhu e lits d r) s = done (rule .mulhu mulHighU))
    ∧ (here .crc → exec (.crc e lits d r) s = done (rule .crc crcWord))
    ∧ (here .cmp → exec (.cmp e lits d r) s
        = done (fun g => g.setFl (subWords (g.w d) (g.operandB .cmp lits r) false g.fl).2))
    ∧ (here .tst → exec (.tst e lits d r) s
        = done (fun g => g.setFl (g.fl.zn (g.w d &&& g.operandB .tst lits r))))
    ∧ (here .bfx → exec (.bfx e lits d r) s
        = done (fun g => (g.setW d (extractField (g.w r) (bfPlace lits).1 (bfPlace lits).2)).setFl
            (g.fl.zn (extractField (g.w r) (bfPlace lits).1 (bfPlace lits).2))))
    ∧ (here .bfi → exec (.bfi e lits d r) s
        = done (fun g => (g.setW d (insertField (g.w d) (g.w r) (bfPlace lits).1 (bfPlace lits).2)).setFl
            (g.fl.zn (insertField (g.w d) (g.w r) (bfPlace lits).1 (bfPlace lits).2))))

/-- Division, the unary instructions, the flags and the stepping instructions (R114, R117, R122 to R126). -/
def Obligations.CragDivisionUnaryAndSkipInstructionsComplete : Prop :=
  ∀ (s : State) (e : Fin 50) (lits : Lits) (d r : Fin 16), s.held = false →
    let f0 := s.fetched e lits
    let done (t : Engine → Engine) : Host.Outcome State Fault Refusal := .next (s.stepped e lits (f0.modEngine e t))
    let quot (f : Word → Word → Flags → Word × Word × Flags) (o : ROp) (g : Engine) : Engine :=
      (((g.setW d (f (g.w d) (g.operandB o lits r) g.fl).1).setW (d + 1) (f (g.w d) (g.operandB o lits r) g.fl).2.1)).setFl
        (f (g.w d) (g.operandB o lits r) g.fl).2.2
    let skips (c : Bool) : Host.Outcome State Fault Refusal :=
      .next (f0.goTo e ((s.engine e).pc + 1 + (if c then (f0.bundleAt e ((s.engine e).pc + 1) 4).length else 0)))
    (s.atBundle e lits (.rr .div d r) = true →
        ((f0.engine e).operandB .div lits r ≠ 0 ∨ f0.isSet (Reg.CE_TRAPCTL_DIV_ZERO e) = false) →
        exec (.div e lits d r) s = done (quot divS .div))
    ∧ (s.atBundle e lits (.rr .divu d r) = true →
        ((f0.engine e).operandB .divu lits r ≠ 0 ∨ f0.isSet (Reg.CE_TRAPCTL_DIV_ZERO e) = false) →
        exec (.divu e lits d r) s = done (quot divU .divu))
    ∧ (s.atBundle e lits (.neg r) = true →
        exec (.neg e lits r) s
          = done (fun g => (g.setW r (subWords 0 (g.w r) false g.fl).1).setFl (subWords 0 (g.w r) false g.fl).2))
    ∧ (s.atBundle e lits (.not r) = true →
        exec (.not e lits r) s = done (fun g => (g.setW r (~~~(g.w r))).setFl (g.fl.zn (~~~(g.w r)))))
    ∧ (s.atBundle e lits (.revn r) = true →
        exec (.revn e lits r) s = done (fun g => (g.setW r (revNonets (g.w r))).setFl (g.fl.zn (revNonets (g.w r)))))
    ∧ (s.atBundle e lits (.getf r) = true →
        exec (.getf e lits r) s = done (fun g => g.setW r (Word.ofN g.flags)))
    ∧ (s.atBundle e lits (.setf r) = true →
        exec (.setf e lits r) s = done (fun g => { g with
          z := (g.w r).toNat.testBit 3, n := (g.w r).toNat.testBit 2, c := (g.w r).toNat.testBit 1
          v := (g.w r).toNat.testBit 0 }))
    ∧ (∀ c : Fin 16, s.atBundle e lits (.skCond c) = true →
        exec (.skCond e lits c) s = skips (condHolds c (f0.engine e).fl))
    ∧ (∀ n : Fin 32, s.atBundle e lits (.skec n) = true →
        exec (.skec e lits n) s = skips (!(f0.engine e).snap.testBit n))
    ∧ (∀ n : Fin 32, s.atBundle e lits (.skes n) = true →
        exec (.skes e lits n) s = skips ((f0.engine e).snap.testBit n))
    ∧ (∀ b : Fin 64, s.atBundle e lits (.skbc r b) = true →
        exec (.skbc e lits r b) s = skips (!((f0.engine e).w r).bit b))
    ∧ (∀ b : Fin 64, s.atBundle e lits (.skbs r b) = true →
        exec (.skbs e lits r b) s = skips (((f0.engine e).w r).bit b))
    ∧ (s.atBundle e lits .nop = true → exec (.nop e lits) s = .next (f0.goTo e ((s.engine e).pc + 1)))

/-- Jumps, calls, returns, stacks, posts and the ends of tasks (R77 to R79, R87, R98, R125 to R128). -/
def Obligations.CragControlInstructionsComplete : Prop :=
  ∀ (s : State) (e : Fin 50) (r : Fin 16), s.held = false →
    let f0 := s.fetched e []
    let g := f0.engine e
    let called (pc : Nat) : Host.Outcome State Fault Refusal :=
      .next ((f0.modEngine e (fun g => { g with
        rstack := (g.pc + 1) % bankSize e :: g.rstack, wb := (g.wb + 8) % 256 })).goTo e pc)
    let pr := f0.pair (e / 2)
    let agreed (acc : PairAccess) : Prop := f0.paired e = true ∧ pr.log[pr.matched]? = none
      ∧ (f0.partnerIn e = false ∨ ∃ x c, pr.presented = some (x, acc, c))
    let met := f0.setPair (e / 2) { pr with presented := none, fresh := false }
    let entry : CqEntry := { target := (g.w r).field 15 8, sel := (g.w r).field 7 0, due := (g.w (r + 1)).toNat
                             arg := (g.w (r + 2)).toNat, ticket := g.run.bind (·.ticket), agent := f0.agentOf e }
    (s.atBundle e [] (.jmpr r) = true → exec (.jmpr e [] r) s = .next (f0.goTo e ((g.w r).toNat % bankSize e)))
    ∧ (∀ off : Fin 1024, s.atBundle e [] (.br off) = true →
        exec (.br e [] off) s = .next (f0.goTo e (jumpTarget e g.pc off)))
    ∧ (∀ off : Fin 1024, s.atBundle e [] (.call off) = true → g.rstack.length < 30 →
        exec (.call e [] off) s = called (jumpTarget e g.pc off))
    ∧ (s.atBundle e [] (.callr r) = true → g.rstack.length < 30 →
        exec (.callr e [] r) s = called ((g.w r).toNat % bankSize e))
    ∧ (∀ pc rest, s.atBundle e [] .ret = true → g.rstack = pc :: rest → g.spilled ≤ rest.length →
        exec (.ret e []) s
          = .next ((f0.modEngine e (fun g => { g with rstack := rest, wb := (g.wb + 248) % 256 })).goTo e pc))
    ∧ (∀ a, s.atBundle e [] (.push r) = true → g.dsp ≤ f0.fld (Reg.CE_DS_LIMIT_ADDR e) →
        f0.mpuPermits e g.dsp true = true → placeOf e g.dsp = .localData a → f0.undoFull e [a] = false →
        exec (.push e [] r) s = .next (s.stepped e []
          ((f0.localWrite e a (g.w r)).modEngine e (fun g => { g with dsp := g.dsp + 1 }))))
    ∧ (∀ a w syn s1, s.atBundle e [] (.pop r) = true → g.dsp ≠ f0.fld (Reg.CE_DS_BASE_ADDR e) →
        f0.mpuPermits e ((g.dsp + 2 ^ 24 - 1) % 2 ^ 24) false = true →
        placeOf e ((g.dsp + 2 ^ 24 - 1) % 2 ^ 24) = .localData a → f0.localRead e a = (w, syn, s1) →
        f0.loadTrap e syn = none →
        exec (.pop e [] r) s = .next (s.stepped e []
          (s1.modEngine e (fun h => ({ h with dsp := (g.dsp + 2 ^ 24 - 1) % 2 ^ 24 }).setW r w))))
    ∧ (s.atBundle e [] (.post r) = true → selectorDefined ((g.w r).field 15 8) ((g.w r).field 7 0) = true →
        f0.paired e = false → g.cq.length < 16 →
        ∃ t, exec (.post e [] r) s = .next t ∧ (t.engine e).cq = g.cq ++ [entry]
          ∧ (t.engine e).pc = ((s.engine e).pc + 1) % bankSize e ∧ (t.engine e).regs = g.regs ∧ t.mem = f0.mem)
    ∧ (s.atBundle e [] (.post r) = true → selectorDefined ((g.w r).field 15 8) ((g.w r).field 7 0) = true →
        agreed (.post entry) → pr.log.length < 128 → (f0.engine (f0.postingEngine e)).cq.length < 16 →
        ∃ t, exec (.post e [] r) s = .next t
          ∧ (t.engine (f0.postingEngine e)).cq = (f0.engine (f0.postingEngine e)).cq ++ [entry]
          ∧ (t.engine e).pc = ((s.engine e).pc + 1) % bankSize e ∧ t.mem = f0.mem)
    ∧ (s.atBundle e [] .tdone = true → f0.paired e = false →
        exec (.tdone e []) s = .next ((f0.countBundle e).endTask e))
    ∧ (s.atBundle e [] .tdone = true → agreed .done → exec (.tdone e []) s = .next ((met.countBundle e).endTask e))
    ∧ (s.atBundle e [] .ckpt = true → (f0.paired e = false ∨ g.rstack ≠ []) →
        exec (.ckpt e []) s = .next (f0.goTo e ((s.engine e).pc + 1)))
    ∧ (s.atBundle e [] .ckpt = true → g.rstack = [] → agreed .ckpt →
        exec (.ckpt e []) s = .next (((met.checkpoint e).deliverAll e 0).goTo e ((s.engine e).pc + 1))
        ∧ ∃ c, (((met.checkpoint e).deliverAll e 0).engine e).ckpt = some c
          ∧ c.window = (List.range 16).map g.w ∧ c.flags = g.flags ∧ c.dsp = g.dsp)
    ∧ (∀ c : Fin 16, s.atBundle e [] (.brk c) = true → exec (.brk e [] c) s = .next (f0.trap e 0x13 0))

/-- Loads and stores of local data, whole, by nonet and by half (R120, R121). -/
def Obligations.CragLocalLoadsAndStoresComplete : Prop :=
  ∀ (s : State) (e : Fin 50) (lits : Lits) (d r : Fin 16), s.held = false →
    let f0 := s.fetched e lits
    let sum := f0.addressSum e lits r
    let load (c : Instr) (o : ROp) (addr : Nat) (part : WordPart) : Prop :=
      ∀ a w syn s1, s.atBundle e lits (.rr o d r) = true → f0.mpuPermits e addr false = true →
        placeOf e addr = .localData a → f0.localRead e a = (w, syn, s1) → f0.loadTrap e syn = none →
        exec c s = .next (s.stepped e lits (s1.modEngine e (fun g => g.setW d (part.of w))))
    let store (c : Instr) (o : ROp) (addr : Nat) (f : State → Nat → State) : Prop :=
      ∀ a, s.atBundle e lits (.rr o d r) = true → f0.mpuPermits e addr true = true → placeOf e addr = .localData a →
        f0.undoFull e [a] = false → exec c s = .next (s.stepped e lits (f f0 a))
    let w := (f0.engine e).w d
    load (.ld e lits d r) .ld (sum % 2 ^ 24) .whole
    ∧ load (.ldn e lits d r) .ldn (sum % 2 ^ 26 / 4) (.nonet (sum % 4))
    ∧ load (.ldh e lits d r) .ldh (sum % 2 ^ 25 / 2) (.half (sum % 2))
    ∧ store (.st e lits d r) .st (sum % 2 ^ 24) (fun t a => (t.localWrite e a w).modEngine e id)
    ∧ store (.stn e lits d r) .stn (sum % 2 ^ 26 / 4)
        (fun t a => (t.localNarrow e a (2 ^ (sum % 4)) ((0 : Word).setNonet (sum % 4) (w.field 8 0))).modEngine e id)
    ∧ store (.sth e lits d r) .sth (sum % 2 ^ 25 / 2)
        (fun t a => (t.localNarrow e a (if sum % 2 = 0 then 3 else 12)
          (if sum % 2 = 0 then (0 : Word).setField 35 18 (w.field 17 0)
           else (0 : Word).setField 17 0 (w.field 17 0))).modEngine e id)

/-- Frame of the data, flag, unary and skip instructions whose words are fetched clean: every memory word, every other engine,
every register word but the engine's count of bundles, and every window register but the destination stay as they were. -/
def Obligations.CragRegisterInstructionsFrame : Prop :=
  ∀ (s t : State) (e : Fin 50) (lits : Lits) (d r : Fin 16) (c : Instr), s.held = false → s.cleanBundle e lits = true →
    (∃ o, s.atBundle e lits (.rr o d r) = true
      ∧ c ∈ [Instr.mov e lits d r, .add e lits d r, .adc e lits d r, .sub e lits d r, .sbc e lits d r, .cmp e lits d r,
             .and e lits d r, .or e lits d r, .xor e lits d r, .tst e lits d r, .shl e lits d r, .shr e lits d r,
             .sar e lits d r, .ror e lits d r, .mul e lits d r, .mulh e lits d r, .mulhu e lits d r, .crc e lits d r,
             .bfx e lits d r, .bfi e lits d r]) →
    exec c s = .next t →
    t.mem = s.mem ∧ t.outs = s.outs ∧ t.tbu = s.tbu ∧ t.talus = s.talus
      ∧ (∀ x, x ≠ e.val → t.engine x = s.engine x)
      ∧ (∀ o, o ≠ Reg.CE_BUNDLES e → t.reg o = s.reg o)
      ∧ (t.engine e).wb = (s.engine e).wb ∧ (t.engine e).rstack = (s.engine e).rstack
      ∧ (t.engine e).dsp = (s.engine e).dsp ∧ (t.engine e).cq = (s.engine e).cq
      ∧ (∀ j : Fin 16, j ≠ d → (t.engine e).w j = (s.engine e).w j)

/-- Program loading, traps, retirement and the events of engines and pairs (R70, R71, R92, R93, R96, R97, R99, R105, R107,
R512). -/
def Obligations.EngineEventCommands : Prop :=
  ∀ (s : State) (a : Nat) (e : Fin 50), s.held = false →
    (∀ w, State.ploadAgent a = true → s.ploadOff e = false →
        (s.fld (Reg.CE_PLOAD_ADDR_BANK e) ≠ (s.engine e).bank ∨ s.engineState e ∈ [2, 4, 5]) →
        exec (.ploadWrite a e w) s = .next ((s.memWrite (engineCtrl e) (s.fld (Reg.CE_PLOAD_ADDR_BANK e) + 1)
          (s.fld (Reg.CE_PLOAD_ADDR_ADDR e) % bankSize e) (Word.ofN (w.field 13 0))).ploadAdvance e))
    ∧ (∀ w, State.ploadAgent a = true → s.fld (Reg.CE_PLOAD_ADDR_BANK e) = (s.engine e).bank → s.engineState e ∉ [2, 4, 5] →
        s.ploadOff e = false → exec (.ploadWrite a e w) s = .next (s.reject a (Reg.CE_PLOAD_DATA e)))
    ∧ (∀ w syn s1, State.ploadAgent a = true → s.ploadOff e = false → s.memRead a (engineCtrl e) (s.fld (Reg.CE_PLOAD_ADDR_BANK e) + 1)
          (s.fld (Reg.CE_PLOAD_ADDR_ADDR e) % bankSize e) false = (w, syn, s1) →
        exec (.ploadRead a e) s
          = .next ((s1.ploadAdvance e).emit (.read a (Word.ofN (w.field 13 0)) (syn == .uncorrectable))))
    ∧ (e.val < 48 → s.fld (Reg.CE_CTRL_BANK e) ≠ (s.engine e).bank → (s.engine e).run = none → (s.engine e).cq = [] →
        s.fwc.restart = none →
        ∃ t, exec (.bankSwitch e) s = .next t ∧ (t.engine e).bank = s.fld (Reg.CE_CTRL_BANK e))
    ∧ (∀ lits w, CragOp.decode w = none → (isLit w = false ∨ lits.length = 3) → s.canRun e = true →
        s.breakHere e = false → s.budgetSpent e = false → s.bundleHere e = lits.map litWord ++ [w] →
        s.fetchTrap e (s.engine e).pc (lits.length + 1) = none →
        exec (.malformedBundle e lits w) s = .next ((s.fetched e lits).trap e 5 0))
    ∧ (s.canRun e = true → s.budgetSpent e = true → exec (.budget e) s = .next ((s.beginBundle e).trap e 2 0))
    ∧ (∀ (p : Fin 24) x acc c, (s.pair p).presented = some (x, acc, c) → s.partnerIn x = true → s.isHalted (2 * p) = false →
        s.isHalted (2 * p + 1) = false →
        exec (.pairTimeout p) s = .next ((s.advanceTo
          (c + s.fld (Reg.CE_LIMITS_PAIR_TIMEOUT (2 * p)) * 250 * 16)).withhold p))
    ∧ (∀ (p : Fin 24) c, (s.pair p).restarting = some c →
        (∃ t, exec (.pairRestart { pair := p, restored := true }) s = .next t ∧ (t.pair p).restarting = none
          ∧ (t.pair p).matched = 0 ∧ (t.pair p).presented = none ∧ (t.pair p).log = (s.pair p).log)
        ∧ exec (.pairRestart { pair := p, restored := false }) s = .next ((s.setPair p { s.pair p with
            restarting := none, matched := 0, presented := none }).pairFail p))
    ∧ (∀ k, (s.engine e).run = some k → k.paired = false → (s.engine e).trapped = false → (s.engine e).flagged = false →
        s.engineOn e = true → (s.engine e).stall = none →
        exec (.residueFault e) s = .next (((((s.bumpSat (Reg.CE_PAIR_STAT_FLAGGED e) 1).raise 50).report e 50 0 0 (e + 1) 0).beginBundle e).trap e 1 0))
    ∧ ((s.engine e).trapped = true → s.paired e = false → s.fld (Reg.CE_TRAP_CAUSE_CAUSE e) ≠ 0x12 →
        (exec (.trapResume a e) s = .next ((s.goOn e (s.engine e).pc true).clearCause e))
        ∧ ((s.engine e).pulled = false →
            ∃ t, exec (.trapSkip a e) s = .next t
              ∧ (t.engine e).pc = ((s.engine e).pc + (s.fld (Reg.CE_TRAP_PC_LITS e) + 1)) % bankSize e
              ∧ (t.engine e).trapped = false ∧ (t.engine e).run = (s.engine e).run
              ∧ t.fld (Reg.CE_TRAP_CAUSE_CAUSE e) = 0 ∧ t.mem = s.mem ∧ ∀ x, x ≠ e.val → t.engine x = s.engine x))
    ∧ ((s.engine e).trapped = true → s.paired e = false → exec (.trapAbort a e) s = .next ((s.endTask e).clearCause e))
    ∧ ((s.engine e).trapped = false → exec (.trapResume a e) s = .next (s.reject a (Reg.CE_RESUME e)))
    ∧ (∀ x : Fin 48, s.isSet (Reg.CE_CTRL_RETIRE x) = true → (s.engine x).run = none → (s.engine x).retired = false →
        exec (.engineRetired x) s
          = .next (((s.modEngine x (fun g => { g with retired := true })).raise 52).judgeAllStranded))
    ∧ (∃ t, exec (.slackMinRead a e) s = .next t ∧ t.reg (Reg.CE_SLACK_MIN e) = 0xFFFFF
        ∧ t.outs = .read a (s.reg (Reg.CE_SLACK_MIN e)) false :: s.outs
        ∧ (∀ o, o ≠ Reg.CE_SLACK_MIN e → t.reg o = s.reg o))
    ∧ (∀ b : Fin 8, exec (.slackHistRead a e b) s = .next ((s.readGeneric (Reg.CE_SLACK_HIST e b)).2.emit
        (.read a (s.readGeneric (Reg.CE_SLACK_HIST e b)).1 false)))

/-- Task descriptors, signals, timed task events, dispatch and the domains' and windows' own events (R131 to R160). -/
def Obligations.TalusTaskCommands : Prop :=
  ∀ s : State, s.held = false →
    (∀ a (t : Fin 1024) w, s.taskBusy t = false → (w.bit 28 = true → s.secondFeeder t = false) →
        (w.field 19 16 < 12 ∧ w.field 15 0 < 16384 ∧ w.field 26 24 < 5
          ∨ w.field 19 16 = 12 ∧ w.field 23 23 = 0 ∧ w.field 26 24 = 0) →
        ∃ u, exec (.tcfgWrite a t w) s = .next u ∧ u.fld (Reg.TALUS_TCFG_ENTRY t) = w.field 15 0
          ∧ u.fld (Reg.TALUS_TCFG_CLUSTER t) = w.field 19 16 ∧ u.fld (Reg.TALUS_TCFG_PRIO t) = w.field 22 20
          ∧ u.fld (Reg.TALUS_TCFG_PAIRED t) = w.field 23 23 ∧ u.fld (Reg.TALUS_TCFG_BIND t) = w.field 26 24
          ∧ u.fld (Reg.TALUS_TCFG_ALL t) = w.field 27 27 ∧ u.fld (Reg.TALUS_TCFG_EN t) = w.field 28 28
          ∧ u.fld (Reg.TALUS_TCFG_INST t) = w.field 30 29)
    ∧ (∀ a (t : Fin 1024) w, w.bit 28 = true → s.isSet (Reg.TALUS_TCFG_EN t) = false → s.secondFeeder t = true →
        ∃ u, exec (.tcfgWrite a t w) s = .next u ∧ u.fld (Reg.TALUS_TCFG_EN t) = 0 ∧ u.eventStat 0 = true)
    ∧ (∀ a (t : Fin 1024) w, s.taskBusy t = true →
        (w.bit 28 = true → s.isSet (Reg.TALUS_TCFG_EN t) = false → s.secondFeeder t = false) →
        ∃ u, exec (.tcfgWrite a t w) s = .next u ∧ u.fld (Reg.TALUS_TCFG_EN t) = w.field 28 28
          ∧ u.fld (Reg.TALUS_TCFG_ENTRY t) = s.fld (Reg.TALUS_TCFG_ENTRY t)
          ∧ u.fld (Reg.TALUS_TCFG_CLUSTER t) = s.fld (Reg.TALUS_TCFG_CLUSTER t)
          ∧ u.fld (Reg.TALUS_TCFG_INST t) = s.fld (Reg.TALUS_TCFG_INST t))
    ∧ (∀ a (q : Fin 256) w, s.fld (Reg.TALUS_QCFG_EN q) = 0 → s.queueCount q = 0 → 2 ≤ w.field 17 14 → w.field 17 14 ≤ 12 →
        w.field 13 0 % 2 ^ w.field 17 14 = 0 → w.field 13 0 + 2 ^ w.field 17 14 ≤ 16384 →
        w.field 31 19 ≤ 2 ^ w.field 17 14 →
        let clash (p : Nat) : Prop := p ≠ q.val ∧ s.isSet (Reg.TALUS_QCFG_EN p) = true
          ∧ State.areasOverlap (w.field 13 0) (2 ^ w.field 17 14) (s.fld (Reg.TALUS_QCFG_BASE p)) (s.queueSize p) = true
        ∃ u, exec (.qcfgWrite a q w) s = .next u ∧ u.fld (Reg.TALUS_QCFG_BASE q) = w.field 13 0
          ∧ u.fld (Reg.TALUS_QCFG_SIZE q) = w.field 17 14 ∧ u.fld (Reg.TALUS_QCFG_HIGH q) = w.field 31 19 ∧ u.mem = s.mem
          ∧ ((∀ p, p < 256 → ¬ clash p) → u.fld (Reg.TALUS_QCFG_EN q) = w.field 18 18)
          ∧ (w.bit 18 = true → (∃ p, p < 256 ∧ clash p) → u.fld (Reg.TALUS_QCFG_EN q) = 0 ∧ u.eventStat 0 = true))
    ∧ (∀ a (q : Fin 256) w, s.fld (Reg.TALUS_QCFG_EN q) = 1 → w.bit 18 = false →
        ∃ u, exec (.qcfgWrite a q w) s = .next u ∧ u.fld (Reg.TALUS_QCFG_BASE q) = s.fld (Reg.TALUS_QCFG_BASE q)
          ∧ u.fld (Reg.TALUS_QCFG_SIZE q) = s.fld (Reg.TALUS_QCFG_SIZE q) ∧ u.fld (Reg.TALUS_QCFG_EN q) = 0)
    ∧ (∀ a w, s.isSet (Reg.TALUS_TLINK_QFED (w.field 9 0)) = true →
        s.fld (Reg.TALUS_TLINK_QFLAG (w.field 9 0)) = w.field 14 10 →
        ∃ u, exec (.signal a w) s = .next u
          ∧ (∀ t : Fin 1024, u.reg (Reg.TALUS_TEVT t) = s.reg (Reg.TALUS_TEVT t)) ∧ u.mem = s.mem)
    ∧ (∀ a w, (s.isSet (Reg.TALUS_TLINK_QFED (w.field 9 0)) = false
          ∨ s.fld (Reg.TALUS_TLINK_QFLAG (w.field 9 0)) ≠ w.field 14 10) →
        ∃ u, exec (.signal a w) s = .next u
          ∧ u.reg (Reg.TALUS_TEVT (w.field 9 0))
              = (s.reg (Reg.TALUS_TEVT (w.field 9 0))).setField (w.field 14 10) (w.field 14 10) (w.field 15 15)
          ∧ (∀ t : Fin 1024, t.val ≠ w.field 9 0 → u.reg (Reg.TALUS_TEVT t) = s.reg (Reg.TALUS_TEVT t)) ∧ u.mem = s.mem)
    ∧ (∀ p, s.earliest 26 = some p → p.sel = 1 → s.distance p.due + s.tbu.time ≥ 0 →
        ∃ u, exec .setFlag s = .next u ∧ (∀ x ∈ u.posted, x.unit = 26 → x.due / 128 ≠ p.due % 2 ^ 36 / 128)
          ∧ u.mem = s.mem
          ∧ (s.posted.filter (fun x => x.unit == 26) = [p] → p.due < 2 ^ 36 → s.tbu.internals = [] →
              s.isSet Reg.EVC_CTRL_STW_EN = false → s.isSet (Reg.TALUS_TLINK_QFED (p.arg % 2 ^ 10)) = false →
              (u.reg (Reg.TALUS_TEVT (p.arg % 2 ^ 10))).field (p.arg / 2 ^ 10 % 2 ^ 5) (p.arg / 2 ^ 10 % 2 ^ 5) = 1))
    ∧ (∀ p, s.earliest 26 = some p → p.sel = 2 → s.distance p.due + s.tbu.time ≥ 0 →
        ∃ u, exec .clearFlag s = .next u ∧ (∀ x ∈ u.posted, x.unit = 26 → x.due / 128 ≠ p.due % 2 ^ 36 / 128)
          ∧ u.mem = s.mem
          ∧ (s.posted.filter (fun x => x.unit == 26) = [p] → p.due < 2 ^ 36 → s.tbu.internals = [] →
              s.isSet Reg.EVC_CTRL_STW_EN = false → s.isSet (Reg.TALUS_TLINK_QFED (p.arg % 2 ^ 10)) = false →
              (u.reg (Reg.TALUS_TEVT (p.arg % 2 ^ 10))).field (p.arg / 2 ^ 10 % 2 ^ 5) (p.arg / 2 ^ 10 % 2 ^ 5) = 0))
    ∧ (∀ (c : Fin 13) t es, (s.scanOrder c).find? (fun t => (s.placement c t).isSome) = some t →
        s.placement c t = some es →
        ∃ u, exec (.dispatch c) s = .next u
          ∧ (∀ e ∈ es, (∃ r, (u.engine e).run = some r ∧ r.task = t ∧ r.paired = s.isSet (Reg.TALUS_TCFG_PAIRED t))
              ∧ (u.engine e).pc = s.fld (Reg.TALUS_TCFG_ENTRY t) % bankSize e
              ∧ Tab.get 0 2 (u.engine e).regs = s.reg (Reg.TALUS_TARG t))
          ∧ u.fld (Reg.TALUS_TSTAT_RUNNING t) = (s.fld (Reg.TALUS_TSTAT_RUNNING t) + 1) % 8)
    ∧ (∀ (c : Fin 12) t since p, s.reservation c = none → s.nextHeld c = some (t, since) → s.reservedPair c t = some p →
        ∃ u, exec (.pairHold c) s = .next u ∧ Tab.get none c u.talus.reserved = some (t, p)
          ∧ u.clk = max s.clk (since + s.fld Reg.TALUS_LIMITS_PAIR_HOLD * 4000) ∧ u.regs = s.regs)
    ∧ (∀ a d k, s.ticketOf a = some (d, k) → exec (.drel a) s = .next (s.completeTicket d k))
    ∧ (∀ a, s.ticketOf a = none → exec (.drel a) s = .next (s.reject a Reg.TALUS_DREL))
    ∧ (∀ (d : Fin 512) h rest, (s.domain d).tickets = h :: rest → (s.domain d).warned = false →
        ∃ u, exec (.domainStall d) s = .next u ∧ u.eventStat 57 = true
          ∧ u.domain d = { s.domain d with warned := true }
          ∧ u.clk = max s.clk ((s.domain d).headSince + s.fld Reg.TALUS_LIMITS_DOM_WARN * 16000))
    ∧ (s.tbu.running = true →
        ∃ u, exec .busyWindow s = .next u ∧ (∀ e : Fin 50, Tab.get 0 e u.talus.busy = 0)
          ∧ (∀ e : Fin 50, (s.engine e).run = none → Tab.get 0 e s.talus.busyMark = 0 →
              u.fld (Reg.TALUS_BUSY_LAST e) = min 1024 (Tab.get 0 e s.talus.busy * 1024 / 16000000))
          ∧ (s.talus.windowAt / 16000000 + 1) * 16000000 ≤ u.talus.windowAt ∧ u.mem = s.mem)

/-- Pushes, pops and the reading of the queues' observation registers (R149 to R151, R154, R158 to R163); that MAX starts again
from the entries held is the model's reading of R158 (log 49). -/
def Obligations.HardwareQueueCommands : Prop :=
  ∀ (s : State) (q : Fin 256), s.held = false →
    (∀ a w, s.isSet (Reg.TALUS_QCFG_EN q) = true → s.queueCount q < s.queueSize q → (s.queue q).waiting = [] →
        exec (.queuePush a q w) s = .next (s.enqueue q (w.field 31 0))
        ∧ ∃ u, exec (.queuePush a q w) s = .next u ∧ (u.queue q).stamps = (s.queue q).stamps ++ [s.clk / 128]
          ∧ (∀ p : Fin 256, p ≠ q → u.queue p = s.queue p))
    ∧ (∀ a w, s.isSet (Reg.TALUS_QCFG_EN q) = false →
        exec (.queuePush a q w) s = .next (s.reject a (Reg.TALUS_QDATA q)))
    ∧ (∀ a w, s.isSet (Reg.TALUS_QCFG_EN q) = true →
        (s.queueSize q ≤ s.queueCount q ∨ (s.queue q).waiting ≠ []) →
        ∃ u, exec (.queuePush a q w) s = .next u ∧ u.mem = s.mem
          ∧ (∀ o, (∀ e, o ≠ Reg.CE_STALLS e) → u.reg o = s.reg o)
          ∧ (∀ e ∈ s.actors a, (u.engine e).stall = some (.push q))
          ∧ u.queue q = { s.queue q with waiting := (s.queue q).waiting
              ++ [{ agent := a, entry := w.field 31 0, by_ := s.actors a, since := s.clk }] })
    ∧ (∀ p rest d, (s.queue q).waiting = p :: rest → s.queueCount q < s.queueSize q → p.dom = some d →
        let s1 := s.setQueue q { s.queue q with waiting := rest }
        let s2 := if rest.any (·.warned) then s1 else s1.setFld (Reg.TALUS_QSTAT_STALLED q) 0
        exec (.queuePushComplete q) s = .next (((s2.enqueue q p.entry).pushDone p.by_ q).resumeSweep d))
    ∧ (∀ p rest, (s.queue q).waiting = p :: rest → s.queueCount q < s.queueSize q → p.dom = none →
        ∃ u, exec (.queuePushComplete q) s = .next u ∧ (u.queue q).waiting = rest
          ∧ (u.queue q).stamps = (s.queue q).stamps ++ [s.clk / 128])
    ∧ (∀ p rest, (s.queue q).waiting = p :: rest → p.warned = false →
        ∃ u, exec (.queueStall q) s = .next u ∧ u.isSet (Reg.TALUS_QSTAT_STALLED q) = true ∧ u.eventStat 56 = true
          ∧ u.clk = max s.clk (p.since + s.fld Reg.TALUS_LIMITS_PUSH_WARN * 16000)
          ∧ (u.queue q).stamps = (s.queue q).stamps ∧ (u.queue q).waiting.length = (s.queue q).waiting.length)
    ∧ (∀ a, (s.queue q).stamps = [] → exec (.queuePop a q) s = .next (s.emit (.read a 0 false)))
    ∧ (∀ a t rest, s.isSet (Reg.TALUS_QCFG_EN q) = true → (s.queue q).stamps = t :: rest →
        ∃ u v, exec (.queuePop a q) s = .next u ∧ (u.queue q).stamps = rest ∧ u.outs = .read a v false :: (s.popWord q).2.outs
          ∧ v.bit 35 = true ∧ v.field 33 32 = 0 ∧ (u.queue q).waiting = (s.queue q).waiting)
    ∧ (∀ a w, s.ticketOf a = none → exec (.orderedPush a q w) s = .next (s.push a q (w.field 31 0) (Reg.TALUS_QORD q)))
    ∧ (∀ a w d k x, s.ticketOf a = some (d, k) → s.ticketWaits d k = true →
        (s.domain d).tickets.find? (fun x => x.number == k) = some x → x.held.length < 16 →
        ∃ u, exec (.orderedPush a q w) s = .next u ∧ u.mem = s.mem ∧ u.queue q = s.queue q
          ∧ (u.domain d).tickets = (s.domain d).tickets.map (fun x =>
              if x.number = k then { x with held := x.held ++ [(q.val, w.field 31 0, a)] } else x))
    ∧ (∀ a (b : Fin 8), ∃ u, exec (.histRead a b) s = .next u
        ∧ Tab.get 0 b (u.queue (s.fld Reg.TALUS_HIST_SEL_QUEUE)).bins = 0
        ∧ u.outs = .read a (Word.ofN (Tab.get 0 b (s.queue (s.fld Reg.TALUS_HIST_SEL_QUEUE)).bins)) false :: s.outs
        ∧ u.mem = s.mem)
    ∧ (∀ a, ∃ u v, exec (.qstatRead a q) s = .next u ∧ u.outs = .read a v false :: s.outs
        ∧ v.field 12 0 = s.queueCount q % 2 ^ 13 ∧ v.field 25 13 = s.fld (Reg.TALUS_QSTAT_MAX q)
        ∧ u.fld (Reg.TALUS_QSTAT_MAX q) = s.queueCount q % 2 ^ 13 ∧ u.talus = s.talus)
    ∧ (∀ a (e : Fin 50), ∃ u v, exec (.busyRead a e) s = .next u ∧ u.outs = .read a v false :: s.outs
        ∧ v.field 10 0 = s.fld (Reg.TALUS_BUSY_LAST e) ∧ v.field 21 11 = s.fld (Reg.TALUS_BUSY_PEAK e)
        ∧ u.fld (Reg.TALUS_BUSY_PEAK e) = 0 ∧ u.fld (Reg.TALUS_BUSY_LAST e) = s.fld (Reg.TALUS_BUSY_LAST e))

/-- R150: an entry pushed to an empty enabled queue is the entry that the next pop returns, with bit 35 set and, no flip mask
being armed, without the mark of R562. -/
def Obligations.PopReturnsTheEntryPushed : Prop :=
  ∀ (s : State) (q : Fin 256) (a b : Nat) (w : Word), s.held = false → s.isSet (Reg.TALUS_QCFG_EN q) = true →
    (s.queue q).stamps = [] → (s.queue q).waiting = [] → s.isSet Reg.MEMC_FLIP_CTRL_ARM = false →
    ∃ u v, exec (.queuePush a q w) s = .next u ∧ exec (.queuePop b q) u = .next v
      ∧ v.outs = .read b (Word.ofN (w.field 31 0 + 2 ^ 35)) false :: u.outs ∧ (v.queue q).stamps = []

/-- Mailboxes: configuration, ring, take and flush (R166 to R173). -/
def Obligations.MailboxCommands : Prop :=
  ∀ s : State, s.held = false →
    (∀ a (m : Fin 128) w, s.isSet (Reg.COL_MBX_CFG_EN m) = false → s.mbxFull m = false →
        (w.field 2 1 = 3 → w.field 12 9 = 0 ∧ 1 ≤ w.field 8 3 ∧ w.field 8 3 ≤ 60) →
        ∃ t, exec (.mbxCfgWrite a m false w) s = .next t ∧ t.fld (Reg.COL_MBX_CFG_EN m) = w.field 0 0
          ∧ (w.field 34 1 ≠ (s.reg (Reg.COL_MBX_CFG m)).field 34 1 → t.reg (Reg.COL_MBX_CFG m) = Word.ofN (w.field 34 0)))
    ∧ (∀ a (m : Fin 128) w, w.field 34 1 = (s.reg (Reg.COL_MBX_CFG m)).field 34 1 →
        exec (.mbxCfgWrite a m false w) s = .next (s.setFld (Reg.COL_MBX_CFG_EN m) (w.field 0 0)))
    ∧ (∀ a (m : Fin 128) w, (s.isSet (Reg.COL_MBX_CFG_EN m) = true ∨ s.mbxFull m = true) → w.field 34 1 ≠ (s.reg (Reg.COL_MBX_CFG m)).field 34 1 →
        exec (.mbxCfgWrite a m false w) s = .next (s.reject a (Reg.COL_MBX_CFG m)))
    ∧ (∀ a (m : Fin 128) w, s.isSet (Reg.COL_MBX_CFG_EN m) = false → s.mbxFull m = false → w.field 5 0 ≤ 60 →
        w.field 35 6 = 0 → ∃ t, exec (.mbxCfgWrite a m true w) s = .next t ∧ t.fld (Reg.COL_MBX_SEND_SENDER m) = w.field 5 0)
    ∧ (∀ a w, s.isSet (Reg.COL_MBX_CFG_EN (w.field 6 0)) = true → s.mbxFull (w.field 6 0) = false →
        (s.fld (Reg.COL_MBX_SEND_SENDER (w.field 6 0)) = 0 ∨ s.fld (Reg.COL_MBX_SEND_SENDER (w.field 6 0)) = a) → a < 64 →
        ∃ t, exec (.ring a w) s = .next t ∧ t.mbxFull (w.field 6 0) = true
          ∧ t.fld (Reg.COL_MBX_STAT_SENDER (w.field 6 0)) = a
          ∧ t.fld (Reg.COL_MBX_STAT_SEQ (w.field 6 0)) = (s.fld (Reg.COL_MBX_STAT_SEQ (w.field 6 0)) + 1) % 2 ^ 16
          ∧ t.fld (Reg.COL_MBX_STAT_FLUSHED (w.field 6 0)) = 0 ∧ t.mem = s.mem
          ∧ (s.fld (Reg.COL_MBX_CFG_RX_KIND (w.field 6 0)) = 1 → t.eventStat 64 = true
              ∧ (t.reg (Reg.COL_PEND_LH (w.field 6 0 / 32))).bit (w.field 6 0 % 32) = true))
    ∧ (∀ a w, s.mbxFull (w.field 6 0) = true →
        (s.isSet (Reg.COL_MBX_CFG_EN (w.field 6 0)) = true → exec (.ring a w) s = .next (s.mbxReject (w.field 6 0) a 2 Reg.COL_RING))
        ∧ (s.isReceiver a (w.field 6 0) = true →
            ∃ t, exec (.take a w) s = .next t ∧ t.mbxFull (w.field 6 0) = false ∧ t.mem = s.mem
              ∧ (t.reg (Reg.COL_PEND_LH (w.field 6 0 / 32))).bit (w.field 6 0 % 32) = false
              ∧ (∀ x ∈ t.col.waits, x.mbx ≠ w.field 6 0)
              ∧ (s.fld (Reg.COL_MBX_CFG_TX_KIND (w.field 6 0)) = 1 → t.eventStat 65 = true))
        ∧ (s.isReceiver a (w.field 6 0) = false → exec (.take a w) s = .next (s.mbxReject (w.field 6 0) a 5 Reg.COL_TAKE))
        ∧ (49 ≤ a → a ≤ 51 →
            ∃ t, exec (.flush a w) s = .next t ∧ t.mbxFull (w.field 6 0) = false ∧ t.mem = s.mem
              ∧ t.isSet (Reg.COL_MBX_STAT_FLUSHED (w.field 6 0)) = true))
    ∧ (∀ a w, (a < 49 ∨ 51 < a) → exec (.flush a w) s = .next (s.mbxReject (w.field 6 0) a 7 Reg.COL_FLUSH))
    ∧ (∀ a w, s.mbxFull (w.field 6 0) = false →
        exec (.take a w) s = .next (s.mbxReject (w.field 6 0) a 4 Reg.COL_TAKE)
        ∧ (49 ≤ a → a ≤ 51 → exec (.flush a w) s = .next s))

/-- Waits, the detector of mutual waits, locks and the records of Col (R174 to R184). -/
def Obligations.WaitAndLockCommands : Prop :=
  ∀ s : State, s.held = false →
    (∀ a (m : Fin 128), s.mbxFull m = false →
        ∃ t, exec (.mbxWaitRead a m) s = .next t ∧ t.outs = .read a (Word.ofN (2 ^ 35)) false :: s.outs
          ∧ t.col = s.col ∧ t.regs = s.regs ∧ t.mem = s.mem ∧ t.engines = s.engines)
    ∧ (∀ a (m : Fin 128), s.mbxFull m = true → 51 ≤ a → a ≤ 52 →
        exec (.mbxWaitRead a m) s = .next (s.emit (.read a 0 false)))
    ∧ (∀ a (m : Fin 128), s.mbxFull m = true → 1 ≤ a → a ≤ 50 →
        ∃ t, exec (.mbxWaitRead a m) s = .next t
          ∧ t.col.waits = s.col.waits ++ [{ agent := a, mbx := m, by_ := s.actors a, since := s.clk }] ∧ t.outs = s.outs
          ∧ (∀ e ∈ s.actors a, (t.engine e).stall = some .answer)
          ∧ (∀ o, (∀ e, o ≠ Reg.CE_STALLS e) → t.reg o = s.reg o))
    ∧ (∀ a w, 49 ≤ a → a ≤ 51 → s.col.waits.any (fun x => x.agent == w.field 5 0) = true →
        ∃ t, exec (.waitCancel a w) s = .next t ∧ (∀ x ∈ t.col.waits, x.agent ≠ w.field 5 0)
          ∧ (∀ x ∈ s.col.waits, x.agent ≠ w.field 5 0 → x ∈ t.col.waits) ∧ t.regs = s.regs)
    ∧ (∀ a w, s.col.waits.any (fun x => x.agent == w.field 5 0) = false → exec (.waitCancel a w) s = .next s)
    ∧ (∀ a x, s.col.waits.find? (fun x => x.agent == a && !x.warned) = some x →
        ∃ t, exec (.mbxWaitLong a) s = .next t ∧ t.eventStat 68 = true
          ∧ t.reg Reg.COL_WAITINFO = Word.ofN (2 ^ 35 + 2 ^ 14 * (a % 64) + x.mbx)
          ∧ t.clk = max s.clk (x.since + s.fld Reg.COL_LIMITS_WAIT_WARN * 16000)
          ∧ t.col.waits.length = s.col.waits.length)
    ∧ (s.tbu.running = true →
        let b := s.tbu.time / 128 * 128
        let c := if b % 512000 = 0 ∧ s.col.scanAt ≠ some b then b else (b / 512000 + 1) * 512000
        ∃ t, exec .cycleScan s = .next t ∧ t.tbu.time = c + 128 ∧ t.col.scanAt = some c ∧ t.col.waits = s.col.waits
          ∧ t.col.found = s.mbxCycles
          ∧ (∀ c ∈ s.mbxCycles, c ∈ s.col.found → c ∉ s.col.reported → t.eventStat 66 = true ∧ c ∈ t.col.reported))
    ∧ (∀ a (m : Fin 128), s.fld (Reg.COL_MBX_LOCK_OWNER m) = 0 → a < 64 →
        ∃ t, exec (.lockRead a m) s = .next t ∧ t.outs = .read a 0 false :: s.outs ∧ t.fld (Reg.COL_MBX_LOCK_OWNER m) = a
          ∧ (∀ k : Fin 128, k ≠ m → t.fld (Reg.COL_MBX_LOCK_OWNER k) = s.fld (Reg.COL_MBX_LOCK_OWNER k)))
    ∧ (∀ a (m : Fin 128), s.fld (Reg.COL_MBX_LOCK_OWNER m) ≠ 0 →
        exec (.lockRead a m) s = .next (s.emit (.read a (Word.ofN (s.fld (Reg.COL_MBX_LOCK_OWNER m))) false)))
    ∧ (∀ a (m : Fin 128) w, w.field 5 0 = 0 → s.fld (Reg.COL_MBX_LOCK_OWNER m) = a → a ≠ 0 →
        exec (.lockRelease a m w) s = .next (s.setFld (Reg.COL_MBX_LOCK_OWNER m) 0))
    ∧ (∀ a (m : Fin 128) w, w.field 5 0 = 0 → s.fld (Reg.COL_MBX_LOCK_OWNER m) ≠ a → 49 ≤ a → a ≤ 50 →
        s.fld (Reg.COL_MBX_LOCK_OWNER m) ≠ 0 →
        ∃ t, exec (.lockRelease a m w) s = .next t ∧ t.fld (Reg.COL_MBX_LOCK_OWNER m) = 0 ∧ t.eventStat 69 = true)
    ∧ (∀ a (m : Fin 128) w, w.field 5 0 = 0 → s.fld (Reg.COL_MBX_LOCK_OWNER m) ≠ a → a ≠ 49 → a ≠ 50 →
        exec (.lockRelease a m w) s = .next (s.raise 69))
    ∧ (∀ a (m : Fin 128) w, w.field 5 0 = 0 → s.fld (Reg.COL_MBX_LOCK_OWNER m) = 0 →
        exec (.lockRelease a m w) s = .next (s.raise 69))
    ∧ (∀ a (m : Fin 128) w, w.field 5 0 ≠ 0 → exec (.lockRelease a m w) s = .next (s.reject a (Reg.COL_MBX_LOCK m)))
    ∧ (∀ a (i : Fin 3), ∃ t v, exec (.colRecordRead a i) s = .next t ∧ t.outs = .read a v false :: s.outs
        ∧ v.field 28 0 = (s.reg (Reg.COL_CYCLE + 8 * i)).field 28 0 ∧ v.bit 35 = (s.reg (Reg.COL_CYCLE + 8 * i)).bit 35
        ∧ (t.reg (Reg.COL_CYCLE + 8 * i)).bit 35 = false ∧ t.mem = s.mem ∧ t.col = s.col)

/-- Indirect access, the scrubber, merge buffers, self-tests, marches and repairs (R191 to R213, R221). -/
def Obligations.MemoryControllerCommands : Prop :=
  ∀ s : State, s.held = false →
    (∀ a c k x d, s.indTarget a = (c, k, x) → 51 ≤ a → a ≤ 52 → s.indReason a false = 0 → s.siltAt c x = none →
        decodeWord (arrayWidth k) (s.codeAt c k x) = (d, .clean) →
        ∃ t, exec (.indRead a) s = .next t ∧ t.outs = .read a d false :: s.outs ∧ t.mem = s.mem ∧ t.regs = s.regs
          ∧ (t.agentReg a Reg.MEMC_IND_ADDR).field 20 0 = (x + 1) % 2 ^ 21
          ∧ t.agentReg a Reg.MEMC_IND_CHK = Word.ofN (s.codeAt c k x).k.toNat)
    ∧ (∀ a c k x w, s.indTarget a = (c, k, x) → 51 ≤ a → a ≤ 52 → s.indReason a true = 0 →
        (c = 2 → s.mailGuard x = false ∧ ∀ y ∈ s.memc.shelf, y.at_ ≠ s.clk) → s.isSet Reg.MEMC_FLIP_CTRL_ARM = false →
        ∃ t, exec (.indWrite a w) s = .next t
          ∧ t.codeAt c k x = encodeWord (arrayWidth k) (Word.ofN (w.field (arrayWidth k - 1) 0))
          ∧ (∀ key, key ≠ memKey c k x → Tab.get {} key t.mem = Tab.get {} key s.mem) ∧ t.regs = s.regs
          ∧ (t.agentReg a Reg.MEMC_IND_ADDR).field 20 0 = (x + 1) % 2 ^ 21)
    ∧ (∀ a w, 51 ≤ a → a ≤ 52 → s.indReason a true ≠ 0 →
        exec (.indWrite a w) s = .next (s.memReject (s.indTarget a).1 a (s.indReason a true) Reg.MEMC_IND_DATA))
    ∧ (∀ (c : Fin 55) (k : Fin 3) x d, arraySize c k ≠ 0 → s.fld Reg.MEMC_LIMITS_SCRUB_H ≠ 0 →
        Tab.get 0 (4 * c + k) s.memc.scrubAt = x → s.siltAt c x = none →
        (decodeWord (arrayWidth k) (s.codeAt c k x) = (d, .clean) →
          ∃ t, exec (.scrub c k) s = .next t ∧ t.mem = s.mem
            ∧ Tab.get 0 (4 * c + k) t.memc.scrubAt = (x + 1) % arraySize c k ∧ t.regs = s.regs)
        ∧ (decodeWord (arrayWidth k) (s.codeAt c k x) = (d, .corrected) →
          ∃ t, exec (.scrub c k) s = .next t ∧ t.codeAt c k x = encodeWord (arrayWidth k) d ∧ t.eventStat 72 = true
            ∧ (∀ key, key ≠ memKey c k x → Tab.get {} key t.mem = Tab.get {} key s.mem))
        ∧ (decodeWord (arrayWidth k) (s.codeAt c k x) = (d, .uncorrectable) →
          ∃ t, exec (.scrub c k) s = .next t ∧ t.mem = s.mem ∧ t.eventStat 73 = true))
    ∧ (∀ (c : Fin 55) x d, s.memc.silt.filter (fun x => x.ctrl == c.val) = [x] → s.isSet Reg.MEMC_FLIP_CTRL_ARM = false →
        decodeWord 36 (s.codeAt c 0 x.addr) = (d, .clean) → x.mask ≠ 15 →
        ∃ t, exec (.siltTimeout c) s = .next t ∧ t.clk = max s.clk (x.last + 64 * 16)
          ∧ t.codeAt c 0 x.addr = encodeWord 36 (mergeNonets x.mask x.data d)
          ∧ t.memc.silt.filter (fun x => x.ctrl == c.val) = [] ∧ t.regs = s.regs)
    ∧ (∀ a, isCrag a = false → ∃ t, exec (.memcFlush a) s = .next t ∧ t.memc.silt = [])
    ∧ (∀ c : Fin 55, s.memc.testing.contains c.val = true →
        (∃ t, exec (.checkerSelfTest c testExpected) s = .next t ∧ c.val ∈ t.memc.passed ∧ c.val ∉ t.memc.failed
          ∧ c.val ∉ t.memc.testing ∧ t.mem = s.mem ∧ t.regs = s.regs)
        ∧ ∀ found, found ≠ testExpected → ∃ t, exec (.checkerSelfTest c found) s = .next t ∧ c.val ∈ t.memc.failed ∧ c.val ∉ t.memc.passed
          ∧ t.eventStat 81 = true ∧ (5 ≤ c.val → c.val ≤ 52 → t.isSet (Reg.CE_CTRL_RETIRE (c - 5)) = true))
    ∧ (∀ a w, isCrag a = false → w.bit 0 = true →
        (w.bit 1 = true ∨ w.field 8 3 ≠ 4 ∧ (w.field 10 9 = 0 → w.field 8 3 ≠ 53 + s.fld Reg.TALUS_CTRL_ACTIVE_SE)
          ∧ (w.field 8 3 = 3 → ∀ q, q < 256 → s.isSet (Reg.TALUS_QCFG_EN q) = false)) → w.field 8 3 < 55 → w.field 10 9 < 3 →
        arraySize (w.field 8 3) (w.field 10 9) ≠ 0 →
        s.memc.marches.any (fun m => m.ctrl == w.field 8 3 && m.array == w.field 10 9) = false →
        ∃ t, exec (.marchGo a w) s = .next t ∧ t.isSet Reg.MEMC_MARCH_STAT_BUSY = true ∧ t.mem = s.mem
          ∧ (w.bit 2 = true → w.field 8 3 ∈ t.memc.testing)
          ∧ t.memc.marches = s.memc.marches
              ++ [{ ctrl := w.field 8 3, array := w.field 10 9, preserve := w.bit 1, asked := true }])
    ∧ (∀ a w, w.bit 0 = true → w.bit 1 = false → w.field 8 3 = 4 →
        exec (.marchGo a w) s = .next (s.reject a Reg.MEMC_MARCH_CTRL))
    ∧ (∀ (c : Fin 55) (k : Fin 3) m, s.memc.marches.find? (fun m => m.ctrl == c.val && m.array == k.val) = some m →
        s.memc.testing.contains c.val = false →
        ∃ t, exec (.marchDone c k { rows := [], spares := [] }) s = .next t ∧ m ∉ t.memc.marches ∧ t.eventStat 79 = true
          ∧ (m.preserve = true → t.mem = s.mem)
          ∧ (m.preserve = false → ∀ x, x < arraySize c k → t.codeAt c k x = {}))
    ∧ (∀ a w, isCrag a = false → w.bit 0 = true → w.field 6 1 < 55 → w.field 8 7 < 3 →
        w.field 12 9 < arrayBanks (w.field 6 1) (w.field 8 7) →
        w.field 23 13 < arraySize (w.field 6 1) (w.field 8 7) / arrayBanks (w.field 6 1) (w.field 8 7) / 64 →
        s.freeSpares { ctrl := w.field 6 1, array := w.field 8 7, bank := w.field 12 9, row := w.field 23 13 } ≠ 0 →
        { ctrl := w.field 6 1, array := w.field 8 7, bank := w.field 12 9, row := w.field 23 13 } ∉ s.memc.repairing →
        ∃ t, exec (.repairGo a w) s = .next t ∧ t.mem = s.mem ∧ t.regs = s.regs
          ∧ t.memc.repairing = s.memc.repairing
              ++ [{ ctrl := w.field 6 1, array := w.field 8 7, bank := w.field 12 9, row := w.field 23 13 }])
    ∧ (∀ r rest, s.memc.repairing = r :: rest →
        ∃ t, exec .repairDone s = .next t ∧ t.memc.repairing = rest ∧ t.memc.soft = s.memc.soft ++ [r]
          ∧ t.eventStat 77 = true)
    ∧ (∀ a (c : Fin 55), ∃ t v, exec (.memcLastRead a c) s = .next t ∧ t.outs = .read a v false :: s.outs
        ∧ v.bit 35 = (s.reg (Reg.MEMC_LAST c)).bit 35 ∧ (t.reg (Reg.MEMC_LAST c)).bit 35 = false ∧ t.mem = s.mem)
    ∧ (∀ a, ∃ t v, exec (.memcRefuseRead a) s = .next t ∧ t.outs = .read a v false :: s.outs
        ∧ v.bit 35 = (s.reg Reg.MEMC_REFUSE).bit 35 ∧ (t.reg Reg.MEMC_REFUSE).bit 35 = false ∧ t.mem = s.mem)

/-- The vault (R216 to R218). The wipe finishes before an access that finds it in progress. -/
def Obligations.VaultCommands : Prop :=
  ∀ (s : State) (a x : Nat), s.held = false → s.fld Reg.VAULT_ADDR_ADDR = x →
    (s.vaultReason a = 0 → s.memc.wiping = none → s.memc.sealed.contains x = false →
      (∀ d, s.siltAt 4 x = none → decodeWord 36 (s.codeAt 4 0 x) = (d, .clean) →
        ∃ t, exec (.vaultRead a) s = .next t ∧ t.outs = .read a d false :: s.outs ∧ t.mem = s.mem
          ∧ t.fld Reg.VAULT_ADDR_ADDR = (x + 1) % 2 ^ 13)
      ∧ (∀ w, s.isSet Reg.MEMC_FLIP_CTRL_ARM = false →
        ∃ t, exec (.vaultWrite a w) s = .next t ∧ t.codeAt 4 0 x = encodeWord 36 w
          ∧ t.fld Reg.VAULT_ADDR_ADDR = (x + 1) % 2 ^ 13 ∧ (s.isSet Reg.VAULT_ADDR_SEAL = true → x ∈ t.memc.sealed)
          ∧ (∀ key, key ≠ memKey 4 0 x → Tab.get {} key t.mem = Tab.get {} key s.mem)))
    ∧ (s.vaultReason a = 0 → s.memc.wiping = none → s.memc.sealed.contains x = true →
      exec (.vaultRead a) s = .next ((s.memRefuse 4 a 4).emit (.read a 0 false))
      ∧ ∀ w, exec (.vaultWrite a w) s = .next (s.memReject 4 a 4 Reg.VAULT_DATA))
    ∧ (s.vaultReason a ≠ 0 → ∀ w, exec (.vaultWrite a w) s = .next (s.memReject 4 a (s.vaultReason a) Reg.VAULT_DATA)
        ∧ exec (.keyload a w) s = .next (s.memReject 4 a (s.vaultReason a) Reg.VAULT_KEYLOAD)
        ∧ exec (.vaultWipe a w) s = .next (s.memReject 4 a (s.vaultReason a) Reg.VAULT_CTRL))
    ∧ (∀ w, s.vaultReason a = 0 → s.memc.wiping = none → w.field 12 0 + (w.field 16 13 + 1) ≤ 8192 →
      ∃ t, exec (.keyload a w) s = .next t ∧ t.isSet (Reg.STS_KSLOT_LOADED (w.field 24 17)) = true
        ∧ (Tab.get [] (w.field 24 17) t.memc.keySlots).length = w.field 16 13 + 1
        ∧ t.memc.sealed = s.memc.sealed)
    ∧ (∀ w, s.vaultReason a = 0 → w.bit 0 = true → s.memc.wiping = none →
      ∃ t, exec (.vaultWipe a w) s = .next t ∧ t.memc.wiping = some s.clk ∧ t.isSet Reg.VAULT_STAT_WIPING = true
        ∧ t.mem = s.mem)
    ∧ (∀ c, s.memc.wiping = some c →
      ∃ t, exec .vaultWiped s = .next t ∧ t.memc.wiping = none ∧ t.memc.sealed = [] ∧ t.memc.keySlots = []
        ∧ t.isSet Reg.VAULT_STAT_WIPING = false ∧ t.eventStat 83 = true ∧ ∀ y, y < 8192 → t.codeAt 4 0 y = {})

/-- R193 to R195: what was written is read back; a word with one bit in error, of its data or of its check bits, is read back
corrected; one with two bits in error is found uncorrectable; and the unwritten word reads as unwritten. n is 36 in a data
array and 14 in a program array. -/
def Obligations.CodeCorrectsSingleAndDetectsDoubleErrors : Prop :=
  ∀ (n : Nat) (d : Word), n = 36 ∨ n = 14 → d.toNat < 2 ^ n →
    decodeWord n (encodeWord n d) = (d, .clean)
    ∧ (∀ i, i < n → decodeWord n { d := d ^^^ Word.ofN (2 ^ i), k := checkBits n d } = (d, .corrected))
    ∧ (∀ j, j < 7 → decodeWord n { d := d, k := checkBits n d ^^^ BitVec.ofNat 7 (2 ^ j) } = (d, .corrected))
    ∧ (∀ i j, i < j → j < n →
        (decodeWord n { d := d ^^^ Word.ofN (2 ^ i) ^^^ Word.ofN (2 ^ j), k := checkBits n d }).2 = .uncorrectable)
    ∧ (∀ i j, i < n → j < 7 →
        (decodeWord n { d := d ^^^ Word.ofN (2 ^ i), k := checkBits n d ^^^ BitVec.ofNat 7 (2 ^ j) }).2 = .uncorrectable)
    ∧ (∀ i j, i < j → j < 7 →
        (decodeWord n { d := d, k := checkBits n d ^^^ BitVec.ofNat 7 (2 ^ i) ^^^ BitVec.ofNat 7 (2 ^ j) }).2
          = .uncorrectable)
    ∧ decodeWord n {} = (0, .unwritten)

/-- R202, R203 and the canonical form: a write of a whole word stores that word and no other, and every memory operation keeps
the canonical form of memory and of the registers. -/
def Obligations.MemoryOperationsStoreOneWordAndKeepTheForm : Prop :=
  ∀ (s : State) (c k a : Nat) (w : Word), s.isSet Reg.MEMC_FLIP_CTRL_ARM = false →
    (s.memWrite c k a w).codeAt c k a = encodeWord (arrayWidth k) (Word.ofN (w.field (arrayWidth k - 1) 0))
    ∧ (∀ key, key ≠ memKey c k a → Tab.get {} key (s.memWrite c k a w).mem = Tab.get {} key s.mem)
    ∧ (s.canonical = true → (s.memWrite c k a w).canonical = true
        ∧ (∀ agent m, (s.memNarrow agent c a m w).canonical = true)
        ∧ (∀ agent q, (s.memRead agent c k a q).2.2.canonical = true)
        ∧ (s.clearArray c k).canonical = true)

/-- Received frames, flow control and the registers that reading clears (R226, R230, R232 to R234, R261, R276). -/
def Obligations.MacReceptionAndFlowCommands : Prop :=
  ∀ (s : State) (p : Fin 18), s.held = false →
    (∀ f : RxFrame, (s.mac p).receiving = none → f.smd = 0xD5 →
        (f.octets.length < 64 →
          ∃ t, exec (.rxFrame p f) s = .next t ∧ t.massif = s.massif
            ∧ t.fld (Reg.MAC_CNT_COUNT p 3) = (s.fld (Reg.MAC_CNT_COUNT p 3) + bit01 f.codeErr) % 2 ^ 36
            ∧ t.fld (Reg.MAC_CNT_COUNT p 4) = (s.fld (Reg.MAC_CNT_COUNT p 4) + 1) % 2 ^ 36
            ∧ t.fld (Reg.MAC_CNT_COUNT p 0) = s.fld (Reg.MAC_CNT_COUNT p 0))
        ∧ (64 ≤ f.octets.length → s.inForce (Reg.MAC_CFG_MAX_LEN p) < f.octets.length →
          ∃ t, exec (.rxFrame p f) s = .next t ∧ t.massif = s.massif
            ∧ t.fld (Reg.MAC_CNT_COUNT p 5) = (s.fld (Reg.MAC_CNT_COUNT p 5) + 1) % 2 ^ 36)
        ∧ (64 ≤ f.octets.length → f.octets.length ≤ s.inForce (Reg.MAC_CFG_MAX_LEN p) →
          (let v := s.elapse f.dt
           let u := v.tmuxPulse 6 p (v.tswAt ((v.clk : Int) - f.back)) 8
           exec (.rxFrame p f) s = .next
             ((u.codeError p f.codeErr).rxAccepted p none f.octets (u.clkIn p f.back) f.codeErr f.an))
          ∧ (s.linkOpen p = false →
            ∃ t, exec (.rxFrame p f) s = .next t ∧ t.massif = s.massif ∧ t.mem = s.mem
              ∧ t.fld (Reg.MAC_CNT_COUNT p 0) = (s.fld (Reg.MAC_CNT_COUNT p 0) + 1) % 2 ^ 36
              ∧ t.fld (Reg.MAC_CNT_COUNT p 1) = (s.fld (Reg.MAC_CNT_COUNT p 1) + f.octets.length) % 2 ^ 36)))
    ∧ (∀ f : RxFrame, f.smd ≠ 0xD5 → f.smd ≠ 0x07 → f.smd ≠ 0x19 → f.smd ∉ smdStart → f.smd ∉ smdNext →
        ∃ t, exec (.rxFrame p f) s = .next t ∧ t.massif = s.massif ∧ (t.mac p).assembly = (s.mac p).assembly
          ∧ t.fld (Reg.MAC_CNT_COUNT p 10) = (s.fld (Reg.MAC_CNT_COUNT p 10) + 1) % 2 ^ 36)
    ∧ (∀ (f : RxFrame) k, p.val < 16 → smdStart.idxOf? f.smd = some k → (s.mac p).assembly = none →
        f.octets.drop (f.octets.length - 4) = mcrcOf (f.octets.take (f.octets.length - 4)) →
        ∃ t x, exec (.rxFrame p f) s = .next t ∧ t.massif = s.massif ∧ (t.mac p).assembly = some x
          ∧ x.octets = f.octets.take (f.octets.length - 4) ∧ x.count = k ∧ x.next = 0)
    ∧ (∀ quanta an, s.inForce (Reg.MAC_CFG_RX_PAUSE p) = 1 → s.inForce (Reg.MAC_CFG_PFC_EN p) = 0 →
        (s.inForce (Reg.MAC_MODE_AN p) = 0 ∨ an = true) →
        ∃ t, exec (.pauseRx p quanta an) s = .next t ∧ t.isSet (Reg.MAC_STAT_PAUSED p) = (quanta != 0)
          ∧ (t.mac p).pauseUntil = s.lineOf (s.tbu.time / 128 * 128 : Nat) + quanta * 64 * octetTime (s.rateOf p)
          ∧ t.fld (Reg.MAC_CNT_COUNT p 6) = (s.fld (Reg.MAC_CNT_COUNT p 6) + 1) % 2 ^ 36)
    ∧ (∀ quanta an, s.inForce (Reg.MAC_CFG_PFC_EN p) = 1 →
        exec (.pauseRx p quanta an) s = .next (s.macCount p 7 1))
    ∧ (∀ classes quanta (c : Fin 8), s.inForce (Reg.MAC_CFG_PFC_EN p) = 1 → classes.testBit c = true →
        ∃ t, exec (.pfcRx p classes quanta) s = .next t
          ∧ Tab.get 0 c (t.mac p).pfcUntil = s.pauseEnd p (quanta.getD c 0)
          ∧ (t.reg (Reg.MAC_STAT p)).bit (10 + c) = (quanta.getD c 0 != 0))
    ∧ (s.isSet (Reg.MAC_STAT_PAUSED p) = true →
        ∃ t, exec (.pauseEnd p 8) s = .next t ∧ t.isSet (Reg.MAC_STAT_PAUSED p) = false
          ∧ (s.mac p).pauseUntil ≤ t.lineNow ∧ s.clk ≤ t.clk)
    ∧ (∀ c : Fin 9, c.val < 8 → (s.reg (Reg.MAC_STAT p)).bit (10 + c) = true →
        ∃ t, exec (.pauseEnd p c) s = .next t ∧ (t.reg (Reg.MAC_STAT p)).bit (10 + c) = false
          ∧ Tab.get 0 c (s.mac p).pfcUntil ≤ t.lineNow ∧ s.clk ≤ t.clk)
    ∧ (∀ a w,
        ∃ t, exec (.txSend a p w) s = .next t ∧ (t.mac p).ctrls = (s.mac p).ctrls
          ++ [if s.inForce (Reg.MAC_CFG_PFC_EN p) = 1 then .pfc (w.field 23 16) (w.field 15 0) else .pause (w.field 15 0)])
    ∧ (∀ a, ∃ t v, exec (.macPlugRead a p) s = .next t ∧ t.outs = .read a v false :: s.outs
        ∧ v.field 11 0 = (s.reg (Reg.MAC_PLUG p)).field 11 0 ∧ t.fld (Reg.MAC_PLUG_UPS p) = 0
        ∧ t.fld (Reg.MAC_PLUG_DOWNS p) = 0 ∧ t.fld (Reg.MAC_PLUG_BOUNCES p) = 0)
    ∧ (∀ a x rest, (s.mac p).stamps = x :: rest →
        ∃ t, exec (.txtsPop a p) s = .next t ∧ t.outs = .read a (Word.ofN x.tsw) false :: s.outs
          ∧ (t.mac p).stamps = rest ∧ t.regs = s.regs)
    ∧ (∀ a, (s.mac p).stamps = [] → exec (.txtsPop a p) s = .next (s.emit (.read a 0 false)))
    ∧ (∀ a, ∃ t v, exec (.txtsLostRead a p) s = .next t ∧ t.outs = .read a v false :: s.outs
        ∧ v.field 15 0 = (s.reg (Reg.MAC_TS_TXLOST p)).field 15 0 ∧ t.fld (Reg.MAC_TS_TXLOST_LOST p) = 0)

/-- The table of R229 and the classes of R231: a loss, a return, the two timers, restart, suppression and its end. -/
def Obligations.DeclaredLinkStateFollowsItsTable : Prop :=
  ∀ (s : State) (p : Fin 18), s.held = false →
    (s.softLink p = false → (s.mac p).present = true →
      (s.link p = 1 → ∃ t, exec (.linkLoss p) s = .next t ∧ t.link p = 0
          ∧ t.fld (Reg.MAC_PLUG_BOUNCES p) = min (Reg.MAC_PLUG_BOUNCES p).top (s.fld (Reg.MAC_PLUG_BOUNCES p) + 1))
      ∧ (s.link p = 2 → s.inForce (Reg.MAC_LINK_HOLD_DOWN p) = 0 →
          ∃ t, exec (.linkLoss p) s = .next t ∧ t.link p = 0 ∧ t.eventStat 88 = true
            ∧ t.fld (Reg.MAC_PLUG_DOWNS p) = min (Reg.MAC_PLUG_DOWNS p).top (s.fld (Reg.MAC_PLUG_DOWNS p) + 1))
      ∧ (s.link p = 2 → s.inForce (Reg.MAC_LINK_HOLD_DOWN p) ≠ 0 →
          ∃ t, exec (.linkLoss p) s = .next t ∧ t.link p = 3
            ∧ (t.mac p).timer = some (s.clk + s.inForce (Reg.MAC_LINK_HOLD_DOWN p) * 1600000)
            ∧ t.fld (Reg.MAC_PLUG_DOWNS p) = s.fld (Reg.MAC_PLUG_DOWNS p)))
    ∧ (∀ phy, s.softLink p = false → (s.mac p).present = false →
      (s.link p = 0 → s.inForce (Reg.MAC_MODE_MODE p) ≠ 0 →
          ∃ t, exec (.linkReturn p phy) s = .next t ∧ t.link p = 1
            ∧ (t.mac p).timer = some (s.clk + s.inForce (Reg.MAC_LINK_QUAL_UP p) * 16000000))
      ∧ (s.link p = 3 → ∃ t, exec (.linkReturn p phy) s = .next t ∧ t.link p = 2 ∧ (t.mac p).timer = none
          ∧ t.fld (Reg.MAC_PLUG_BOUNCES p) = min (Reg.MAC_PLUG_BOUNCES p).top (s.fld (Reg.MAC_PLUG_BOUNCES p) + 1)))
    ∧ (∀ c, (s.mac p).timer = some c →
      (s.link p = 1 → ∃ t, exec (.qualExpiry p) s = .next t ∧ t.link p = 2 ∧ c ≤ t.clk ∧ t.clk ≤ max s.clk (c + 128)
          ∧ t.eventStat 88 = true ∧ t.fld (Reg.MAC_PLUG_UPS p) = min (Reg.MAC_PLUG_UPS p).top (s.fld (Reg.MAC_PLUG_UPS p) + 1))
      ∧ (s.link p = 3 → ∃ t, exec (.holdDownExpiry p) s = .next t ∧ t.link p = 0 ∧ c ≤ t.clk ∧ t.clk ≤ max s.clk (c + 128)
          ∧ t.eventStat 88 = true))
    ∧ (2 ≤ s.link p → s.link p ≤ 3 → p.val < 16 →
        ∃ t, exec (.restart p) s = .next t ∧ t.link p = 0 ∧ t.eventStat 88 = true ∧ (t.mac p).carrier = false)
    ∧ (∀ a w, modeAccepted p (w.field 2 0) = false →
        ∃ t, exec (.modeChange a p w) s = .next t ∧ t.fld (Reg.MAC_MODE_MODE p) = s.fld (Reg.MAC_MODE_MODE p)
          ∧ t.eventStat 0 = true)
    ∧ (∀ a, p.val < 12 → s.fld (Reg.MAC_MODE_MODE p) = 0 → s.link p = 0 → s.isSet (Reg.MAC_CFG_TIMED p) = false →
        ∃ t, exec (.modeChange a p 3) s = .next t ∧ t.fld (Reg.MAC_MODE_MODE p) = 3
          ∧ t.inForce (Reg.MAC_MODE_MODE p) = 3 ∧ t.rateOf p = 3)
    ∧ (s.link p = 4 → ∃ t, exec (.unsuppress p) s = .next t ∧ t.link p = (if (s.mac p).present then 1 else 0)
        ∧ t.fld (Reg.MAC_STAT_CLASS p) = 0 ∧ (t.mac p).downs = [] ∧ (t.mac p).bounces = [])
    ∧ (s.link p = 4 → (s.mac p).present = true →
        ∃ t, exec (.flapQuietExpiry p) s = .next t ∧ t.link p = 1 ∧ t.fld (Reg.MAC_STAT_CLASS p) = 0
          ∧ (s.mac p).quietFrom + s.inForce (Reg.MAC_FLAP_FLAP_QUIET p) * 16000000000 ≤ t.clk)
    ∧ (s.tbu.running = true → s.link p ≠ 4 → s.tbu.time % 16000000000 = 0 →
        s.inForce (Reg.MAC_FLAP_FLAP_N p) ≤ (s.inWindow p (s.mac p).downs).length → s.fld (Reg.MAC_STAT_CLASS p) ≠ 2 →
        ∃ t, exec (.flapClassify p) s = .next t ∧ t.eventStat 89 = true
          ∧ (s.inForce (Reg.MAC_FLAP_SUPPRESS p) = 1 → t.link p = 4 ∧ t.fld (Reg.MAC_STAT_CLASS p) = 3)
          ∧ (s.inForce (Reg.MAC_FLAP_SUPPRESS p) = 0 → t.link p = s.link p ∧ t.fld (Reg.MAC_STAT_CLASS p) = 2))

/-- Timed and untimed transmission, preemption's verification, half duplex, PLCA and low-power idle (R235 to R245). -/
def Obligations.MacTransmissionCommands : Prop :=
  ∀ (s : State) (p : Fin 18), s.held = false →
    (∀ q, s.nextTimed p = some q → (s.mac p).sending = none → s.linkOpen p = true →
        s.pausedAt p 7 (s.timedStart p q) = false → (s.mac p).timedEnd ≤ s.timedStart p q →
        (s.mac p).free ≤ s.timedStart p q → 0 < q.arg / 2 ^ 21 % 2 ^ 14 →
        q.arg / 2 ^ 21 % 2 ^ 14 + 4 ≤ s.inForce (Reg.MAC_CFG_MAX_LEN p) → s.inForce (Reg.MAC_CFG_TIMED p) ≠ 0 →
        ∃ t g, exec (.sendTimed p) s = .next t ∧ (t.mac p).sending = some g ∧ g.start = s.timedStart p q
          ∧ q ∉ t.posted ∧ t.fld (Reg.MAC_CNT_COUNT p 17) = s.fld (Reg.MAC_CNT_COUNT p 17))
    ∧ (∀ q, s.nextTimed p = some q → (s.mac p).sending = none → s.linkOpen p = false →
        ∃ t, exec (.sendTimed p) s = .next t ∧ (t.mac p).sending = none ∧ q ∉ t.posted ∧ t.eventStat 90 = true
          ∧ t.fld (Reg.MAC_CNT_COUNT p 17) = (s.fld (Reg.MAC_CNT_COUNT p 17) + 1) % 2 ^ 36)
    ∧ (∀ k rest, s.linkOpen p = true → (s.mac p).sending = none → (s.mac p).backoff = none →
        s.isSet (Reg.MAC_STAT_LPI_TX p) = false → (s.mac p).locking = none → s.isSet (Reg.MAC_STAT_HALF p) = false →
        (s.mac p).retry = none → (s.mac p).ctrls = k :: rest → (s.mac p).pauseUntil = 0 → s.nextTimed p = none →
        ∃ t g, exec (.txFrameStart p false) s = .next t ∧ (t.mac p).sending = some g ∧ g.kind = .control k
          ∧ g.start = s.startAt p (max s.lineNow (s.mac p).free) ∧ (t.mac p).ctrls = rest ∧ t.regs = s.regs)
    ∧ (∀ c y f cut span l, s.linkOpen p = true → (s.mac p).sending = none → (s.mac p).backoff = none →
        s.isSet (Reg.MAC_STAT_LPI_TX p) = false → (s.mac p).locking = none → s.isSet (Reg.MAC_STAT_HALF p) = false →
        (s.mac p).retry = none → (s.mac p).ctrls = [] → (s.mac p).remainder = none →
        s.heads p = (c, y) :: l → s.frameAt y.frame = some f →
        let x := s.startAt p (max s.lineNow (s.mac p).free)
        s.pausedAt p y.cls x = false → s.mayStart p y.cls (s.copyLength p y) x = some cut →
        s.tcBars p y f (s.clkOut p x) = (false, false, span) →
        ∃ t g, exec (.txFrameStart p false) s = .next t ∧ (t.mac p).sending = some g ∧ g.kind = .copy c ∧ g.start = x
          ∧ g.cut = cut ∧ g.cls = y.cls ∧ t.regs = s.regs)
    ∧ (∀ g k, (s.mac p).sending = some g → g.kind = .control k → g.cut = none → k ≠ .verify →
        ∃ t, exec (.txFrameEnd p) s = .next t ∧ (t.mac p).sending = none
          ∧ (t.mac p).free = g.start + (8 + 64 + 12) * octetTime (s.rateOf p)
          ∧ t.fld (Reg.MAC_CNT_COUNT p 11) = (s.fld (Reg.MAC_CNT_COUNT p 11) + 1) % 2 ^ 36
          ∧ t.fld (Reg.MAC_CNT_COUNT p 12) = (s.fld (Reg.MAC_CNT_COUNT p 12) + 64) % 2 ^ 36
          ∧ t.fld (Reg.MAC_CNT_COUNT p 13) = (s.fld (Reg.MAC_CNT_COUNT p 13) + 1) % 2 ^ 36)
    ∧ (∀ g n, (s.mac p).sending = some g → g.cut = some n →
        ∃ t, exec (.txFrameEnd p) s = .next t ∧ (t.mac p).sending = none
          ∧ (t.mac p).remainder = some { g with sent := g.sent + n, cut := none }
          ∧ t.fld (Reg.MAC_CNT_COUNT p 15) = (s.fld (Reg.MAC_CNT_COUNT p 15) + 1) % 2 ^ 36)
    ∧ (∀ g octets one, (s.mac p).sending = some g → g.kind = .timed octets one → g.cut = none → g.bad = false →
        ∃ t, exec (.txFrameEnd p) s = .next t ∧ (t.mac p).sending = none
          ∧ (t.mac p).timedEnd = g.start + (8 + (octets.length + 4) + 12) * octetTime (s.rateOf p)
          ∧ t.fld (Reg.MAC_CNT_COUNT p 11) = (s.fld (Reg.MAC_CNT_COUNT p 11) + 1) % 2 ^ 36
          ∧ t.fld (Reg.MAC_CNT_COUNT p 16) = (s.fld (Reg.MAC_CNT_COUNT p 16) + 1) % 2 ^ 36)
    ∧ (∀ g c x f, (s.mac p).sending = some g → g.kind = .copy c → g.cut = none → s.copyAt c = some x →
        s.frameAt x.frame = some f → f.complete.isSome = true → (List.range x.cells).all x.got.contains = true →
        x.missed = false → x.lost = false → f.bad = false →
        ∃ t, exec (.txFrameEnd p) s = .next t ∧ (t.mac p).sending = none ∧ t.copyAt c = none
          ∧ t.fld (Reg.MAC_CNT_COUNT p 11) = (s.fld (Reg.MAC_CNT_COUNT p 11) + 1) % 2 ^ 36
          ∧ t.fld (Reg.SWC_PCNT_COUNT p 10) = (s.fld (Reg.SWC_PCNT_COUNT p 10) + 1) % 2 ^ 36)
    ∧ (s.linkOpen p = true → s.inForce (Reg.MAC_PREEMPT_VERIFY_DIS p) ≠ 1 →
        (∀ b, s.fld (Reg.MAC_PREEMPT_STATUS p) = 1 →
          ∃ t, exec (.preemptVerify p b) s = .next t ∧ t.fld (Reg.MAC_PREEMPT_STATUS p) = 2
            ∧ (t.mac p).ctrls = (s.mac p).ctrls ++ [.verify])
        ∧ (s.fld (Reg.MAC_PREEMPT_STATUS p) = 2 →
          ∃ t, exec (.preemptVerify p true) s = .next t ∧ t.fld (Reg.MAC_PREEMPT_STATUS p) = 3 ∧ t.eventStat 91 = true)
        ∧ (s.fld (Reg.MAC_PREEMPT_STATUS p) = 2 → (s.mac p).verifies < 3 →
          ∃ t, exec (.preemptVerify p false) s = .next t ∧ t.fld (Reg.MAC_PREEMPT_STATUS p) = 2
            ∧ (t.mac p).ctrls = (s.mac p).ctrls ++ [.verify] ∧ (t.mac p).verifies = (s.mac p).verifies + 1
            ∧ (s.mac p).verifyAt + s.inForce (Reg.MAC_PREEMPT_VERIFY_TIME p) * 16000000 ≤ t.clk)
        ∧ (s.fld (Reg.MAC_PREEMPT_STATUS p) = 2 → 3 ≤ (s.mac p).verifies →
          ∃ t, exec (.preemptVerify p false) s = .next t ∧ t.fld (Reg.MAC_PREEMPT_STATUS p) = 4 ∧ t.eventStat 91 = true))
    ∧ (∀ g dt, s.isSet (Reg.MAC_STAT_HALF p) = true → (s.mac p).sending = some g →
        ∃ t, exec (.collision p dt) s = .next t ∧ (t.mac p).sending = none ∧ (t.mac p).ctrls = (s.mac p).ctrls
          ∧ t.fld (Reg.MAC_CNT_COUNT p 19) = (s.fld (Reg.MAC_CNT_COUNT p 19) + 1) % 2 ^ 36
          ∧ ((s.elapse dt).lineNow ≤ g.start + 64 * octetTime (s.rateOf p) → (s.mac p).attempts < 15 →
              (t.mac p).retry = some (g.kind, g.cls) ∧ (t.mac p).backoff.isSome = true
                ∧ (t.mac p).attempts = (s.mac p).attempts + 1)
          ∧ ((s.elapse dt).lineNow ≤ g.start + 64 * octetTime (s.rateOf p) → 15 ≤ (s.mac p).attempts →
              t.fld (Reg.MAC_CNT_COUNT p 21) = (s.fld (Reg.MAC_CNT_COUNT p 21) + 1) % 2 ^ 36)
          ∧ (g.start + 64 * octetTime (s.rateOf p) < (s.elapse dt).lineNow →
              t.fld (Reg.MAC_CNT_COUNT p 20) = (s.fld (Reg.MAC_CNT_COUNT p 20) + 1) % 2 ^ 36))
    ∧ (∀ x, (s.mac p).backoff = some x →
        exec (.backoffExpiry p) s
          = .next (((s.advanceToLine x).modMac p (fun m => { m with backoff := none })).frameBoundary p false))
    ∧ (∀ x, (s.mac p).backoff = some x → s.linkOpen p = true → (s.mac p).sending = none →
        s.isSet (Reg.MAC_STAT_LPI_TX p) = true →
        ∃ t, exec (.backoffExpiry p) s = .next t ∧ (t.mac p).backoff = none ∧ x ≤ t.lineNow)
    ∧ (s.inForce (Reg.MAC_PLCA_EN p) ≠ 0 → s.plcaMode p = true →
        (∃ t, exec (.beacon p true) s = .next t ∧ t.isSet (Reg.MAC_STAT_PLCA_OK p) = true)
        ∧ (∃ t, exec (.beacon p false) s = .next t ∧ t.isSet (Reg.MAC_STAT_PLCA_OK p) = false)
        ∧ (s.isSet (Reg.MAC_STAT_PLCA_OK p) = true → s.linkOpen p = true → (s.mac p).sending = none →
            s.isSet (Reg.MAC_STAT_LPI_TX p) = true →
            ∃ t, exec (.plcaTransmitOpportunity p) s = .next t
              ∧ (t.mac p).opportunity = 1 + s.inForce (Reg.MAC_PLCA_BURST_CNT p))
        ∧ (s.isSet (Reg.MAC_STAT_PLCA_OK p) = true →
            let u := s.advanceToLine (s.opportunityDue p)
            exec (.plcaTransmitOpportunity p) s = .next ((u.modMac p (fun m => { m with
              opportunity := 1 + s.inForce (Reg.MAC_PLCA_BURST_CNT p)
              opportunityEnd := u.lineNow + s.toTime p })).frameBoundary p false)))
    ∧ (s.inForce (Reg.MAC_LPI_EN p) ≠ 0 → s.lpiMode p = true → s.linkOpen p = true →
        exec (.peerLpi p false) s = .next (s.setFld (Reg.MAC_STAT_LPI_RX p) 0) ∧
        (s.egressEmpty p = true → s.isSet (Reg.MAC_STAT_LPI_TX p) = false →
          ∃ t, exec (.lpiEnter p) s = .next t ∧ t.isSet (Reg.MAC_STAT_LPI_TX p) = true
            ∧ t.fld (Reg.MAC_CNT_COUNT p 23) = (s.fld (Reg.MAC_CNT_COUNT p 23) + 1) % 2 ^ 36)
        ∧ (s.isSet (Reg.MAC_STAT_LPI_RX p) = false →
          ∃ t, exec (.peerLpi p true) s = .next t ∧ t.isSet (Reg.MAC_STAT_LPI_RX p) = true
            ∧ t.fld (Reg.MAC_CNT_COUNT p 24) = (s.fld (Reg.MAC_CNT_COUNT p 24) + 1) % 2 ^ 36))
    ∧ (s.isSet (Reg.MAC_STAT_LPI_TX p) = true → s.egressEmpty p = false →
        ∃ t, exec (.lpiWake p) s = .next t ∧ t.isSet (Reg.MAC_STAT_LPI_TX p) = false
          ∧ s.lineNow + 5 * s.inForce (Reg.MAC_LPI_WAKE p) * 16000 ≤ (t.mac p).free)

/-- Automatic rate step-down (R247 to R249). -/
def Obligations.RateStepCommands : Prop :=
  ∀ (s : State) (p : Fin 18), s.held = false →
    (∀ seq peer, (s.mac p).request = none →
        ∃ t, exec (.downReq p seq peer) s = .next t ∧ (t.mac p).ctrls = (s.mac p).ctrls
            ++ [.saddle (if s.inForce (Reg.MAC_STEP_EN p) = 1 ∧ s.inForce (Reg.MAC_CFG_TIMED p) = 0 ∧ s.rateOf p = 4
                ∧ s.inForce (Reg.MAC_STEP_HOLD p) ≤ (s.mac p).quietWindows then 2 else 3) seq]
          ∧ t.fld (Reg.MAC_CNT_COUNT p 6) = (s.fld (Reg.MAC_CNT_COUNT p 6) + 1) % 2 ^ 36)
    ∧ (∀ r seq peer, (s.mac p).request = some r →
        (r.up = true → ∃ t, exec (.downReq p seq peer) s = .next t ∧ (t.mac p).ctrls = (s.mac p).ctrls ++ [.saddle 3 seq]
          ∧ (t.mac p).request = some r)
        ∧ (r.up = false → s.macAddr0 p < peer → exec (.downReq p seq peer) s = .next (s.macCount p 6 1))
        ∧ (r.up = false → peer ≤ s.macAddr0 p →
          ∃ t k, exec (.downReq p seq peer) s = .next t ∧ (t.mac p).ctrls = (s.mac p).ctrls ++ [.saddle k seq]
            ∧ (k = 2 ∨ k = 3) ∧ (t.mac p).request = none))
    ∧ (∀ r, (s.mac p).request = some r → r.up = false →
        (∃ t, exec (.downAck p r.seq) s = .next t ∧ (t.mac p).request = none
          ∧ (t.mac p).switchAt = some (false, s.lineNow + 5 * 8 * 16000))
        ∧ ∃ t, exec (.downNak p r.seq) s = .next t ∧ (t.mac p).request = none ∧ (t.mac p).switchAt = (s.mac p).switchAt)
    ∧ (∀ seq, ∃ t, exec (.upReq p seq) s = .next t ∧ (t.mac p).ctrls = (s.mac p).ctrls ++ [.saddle 5 seq]
        ∧ ∀ r, (t.mac p).request = some r → r.up = true)
    ∧ (∀ r, (s.mac p).request = some r → r.up = true →
        ∃ t, exec (.upAck p r.seq) s = .next t ∧ (t.mac p).request = none
          ∧ (t.mac p).switchAt = some (true, s.lineNow + 5 * 8 * 16000))
    ∧ (s.tbu.running = true → s.inForce (Reg.MAC_STEP_EN p) = 0 → s.isSet (Reg.MAC_STAT_STEPPED p) = false →
        ∃ t, exec (.stepWindow p) s = .next t ∧ (t.mac p).windowOctets = 0 ∧ t.tbu.time % 16000000 = 0
          ∧ (t.mac p).quietWindows = (if (s.mac p).windowOctets < 3125 * s.inForce (Reg.MAC_STEP_LOW p)
              then (s.mac p).quietWindows + 1 else 0) ∧ t.regs = s.regs)
    ∧ (s.tbu.running = true → (s.mac p).request = none → (s.mac p).switchAt = none → (s.mac p).locking = none →
        (s.inForce (Reg.MAC_STEP_EN p) = 1 → s.rateOf p = 4 → s.inForce (Reg.MAC_STEP_HOLD p) ≤ (s.mac p).quietWindows + 1 →
          (s.mac p).windowOctets < 3125 * s.inForce (Reg.MAC_STEP_LOW p) → s.fld (Reg.MAC_STAT_STEP_PEER p) ≠ 2 →
          ∃ t, exec (.stepWindow p) s = .next t ∧ (t.mac p).ctrls = (s.mac p).ctrls ++ [.saddle 1 (s.mac p).stepSeq]
            ∧ (t.mac p).request = some { up := false, seq := (s.mac p).stepSeq, at_ := none })
        ∧ (s.isSet (Reg.MAC_STAT_STEPPED p) = true → s.rateOf p ≠ 4 →
          3125 * s.inForce (Reg.MAC_STEP_HIGH p) < (s.mac p).windowOctets →
          ∃ t, exec (.stepWindow p) s = .next t ∧ (t.mac p).ctrls = (s.mac p).ctrls ++ [.saddle 4 (s.mac p).stepSeq]
            ∧ (t.mac p).request = some { up := true, seq := (s.mac p).stepSeq, at_ := none }))
    ∧ (∀ r x, (s.mac p).request = some r → r.at_ = some x →
        ∃ t, exec (.stepReqTimeout p) s = .next t ∧ (t.mac p).request = none
          ∧ (t.mac p).unanswered = (s.mac p).unanswered + 1 ∧ x + 16000000 ≤ t.clk
          ∧ (2 ≤ (s.mac p).unanswered → t.fld (Reg.MAC_STAT_STEP_PEER p) = 2))
    ∧ (∀ up x, (s.mac p).switchAt = some (up, x) → (s.mac p).sending = none →
        ∃ t, exec (.stepSwitch p) s = .next t ∧ t.rateOf p = (if up then 4 else 3) ∧ x ≤ t.lineNow
          ∧ t.isSet (Reg.MAC_STAT_STEPPED p) = (!up) ∧ (t.mac p).switchAt = none
          ∧ (t.mac p).locking = some (up, t.lineNow) ∧ t.link p = s.link p)
    ∧ (∀ up x, (s.mac p).locking = some (up, x) →
        (∃ t, exec (.stepChange p) s = .next t ∧ (t.mac p).locking = none ∧ t.eventStat 92 = true
          ∧ t.fld (Reg.MAC_CNT_COUNT p (if up then 26 else 25)) = (s.fld (Reg.MAC_CNT_COUNT p (if up then 26 else 25)) + 1) % 2 ^ 36)
        ∧ ∃ t, exec (.stepFail p) s = .next t ∧ (t.mac p).locking = none ∧ t.rateOf p = (if up then 3 else 4)
          ∧ t.isSet (Reg.MAC_STEP_EN p) = false ∧ t.eventStat 93 = true ∧ t.link p = s.link p)

/-- Cells, the fabric, resequencers, eligibility, ageing and gates (R278 to R302, R307, R311). -/
def Obligations.FabricAndForwardingCommands : Prop :=
  ∀ s : State, s.held = false →
    (∀ (p : Fin 18) dt back octets, octets.length = 64 → s.linkOpen p = true → (s.mac p).receiving = none →
        State.macEnds octets = false → s.frameAt s.massif.nextFrame = none →
        let u := s.elapse dt
        ∃ t r k f, exec (.cellForm p dt back octets) s = .next t ∧ (t.mac p).receiving = some r ∧ r.octets = octets
          ∧ r.frame = some k ∧ t.frameAt k = some f ∧ f.octets = octets ∧ f.tsw = u.tswAt (u.clkIn p back))
    ∧ (∀ (p : Fin 18) dt back octets r, octets.length = 64 → s.linkOpen p = true → (s.mac p).receiving = some r →
        ∃ t q, exec (.cellForm p dt back octets) s = .next t ∧ (t.mac p).receiving = some q
          ∧ q.octets = r.octets ++ octets ∧ q.frame = r.frame)
    ∧ (∀ (p : Fin 18) dt back octets, octets.length ≠ 64 ∨ s.linkOpen p = false →
        exec (.cellForm p dt back octets) s = .next (s.elapse dt))
    ∧ (∃ t, exec (.fabricSlot 0) s = .next t ∧ t.massif.slot1 = (s.massif.slot1 + 1) % 32
        ∧ t.massif.slot2 = s.massif.slot2 ∧ t.massif.outputs = s.massif.outputs ∧ t.regs = s.regs)
    ∧ (∃ t, exec (.fabricSlot 1) s = .next t ∧ t.massif.slot2 = (s.massif.slot2 + 1) % 32
        ∧ t.massif.slot1 = s.massif.slot1 ∧ t.massif.inputs = s.massif.inputs ∧ t.regs = s.regs)
    ∧ (∀ (f : Fin 32) c rest, Tab.get [] f s.massif.outputs = c :: rest →
        0 < (c.seq + 2 ^ 16 - Tab.get 0 (32 * c.ingress + c.egress) s.massif.seqExpect) % 2 ^ 16 →
        (c.seq + 2 ^ 16 - Tab.get 0 (32 * c.ingress + c.egress) s.massif.seqExpect) % 2 ^ 16 < 2 ^ 15 →
        ∃ t, exec (.cellArrive f) s = .next t ∧ Tab.get [] f t.massif.outputs = rest
          ∧ t.massif.held = s.massif.held ++ [{ cell := c, since := s.clk }] ∧ t.regs = s.regs)
    ∧ (∀ (f : Fin 32) c rest, Tab.get [] f s.massif.outputs = c :: rest → s.massif.held = [] → s.copyAt c.copy = none →
        c.seq = Tab.get 0 (32 * c.ingress + c.egress) s.massif.seqExpect → c.seq < 2 ^ 16 →
        ∃ t, exec (.cellArrive f) s = .next t ∧ Tab.get [] f t.massif.outputs = rest ∧ c ∉ t.massif.flying
          ∧ Tab.get 0 (32 * c.ingress + c.egress) t.massif.seqExpect = (c.seq + 1) % 2 ^ 16)
    ∧ (∀ (e i : Fin 20) h, s.massif.held.find? (fun h => h.cell.ingress == i.val && h.cell.egress == e.val) = some h →
        ∃ t, exec (.cellLost e i) s = .next t ∧ t.eventStat 104 = true ∧ h.since + 32000 ≤ t.clk)
    ∧ (∀ (n : Fin 32) lost, (∀ link, link ≠ FabricLink.mid → n.val < 31 → s.isSet Reg.SWC_FAB_SPARE_USED = false →
          31 ∉ s.massif.faulty → 31 ∉ s.massif.faultyOut →
          ∃ t, exec (.fabricFault link n lost) s = .next t ∧ t.isSet Reg.SWC_FAB_SPARE_USED = true
            ∧ t.fld Reg.SWC_FAB_SPARE_SUBST = n ∧ t.eventStat 105 = true)
        ∧ (∃ t, exec (.fabricFault .input n lost) s = .next t ∧ n.val ∈ t.massif.faulty ∧ t.eventStat 105 = true)
        ∧ (∃ t, exec (.fabricFault .output n lost) s = .next t ∧ n.val ∈ t.massif.faultyOut ∧ t.eventStat 105 = true)
        ∧ ∃ t, exec (.fabricFault .mid n lost) s = .next t ∧ (t.fld Reg.SWC_FAB_STAT_MIDS).testBit n = false
          ∧ t.eventStat 105 = true ∧ ∀ m : Fin 32, m ≠ n →
            (t.fld Reg.SWC_FAB_STAT_MIDS).testBit m = (s.fld Reg.SWC_FAB_STAT_MIDS).testBit m)
    ∧ (∀ (p : Fin 18) c x f, s.nextEligible p = some (c, x) → s.copyAt c = some x → s.frameAt x.frame = some f →
        f.ingress ≤ 17 → f.bad = false → x.lost = false → x.got.contains 0 = true → s.tbu.running = true →
        ∃ t y, exec (.eligibility p) s = .next t ∧ t.copyAt c = some y ∧ y.stage = .queued
          ∧ x.elig.getD 0 * 128 ≤ t.tbu.time)
    ∧ (s.tbu.running = true →
        ∃ t, exec .fdbAge s = .next t ∧ t.tbu.time % 16000000000 = 0 ∧ s.tbu.time ≤ t.tbu.time
          ∧ (∀ k e, (k, e) ∈ s.massif.fdb → e.static = true → (∀ f, (k, f) ∈ s.massif.fdb → f = e) →
              Tab.get {} k t.massif.fdb = Tab.get {} k s.massif.fdb)
          ∧ (∀ k e, (k, e) ∈ s.massif.fdb → e.static = false →
              e.learned + s.inForce Reg.SWC_LIMITS_AGE * 16000000000 ≤ s.clk → (Tab.get {} k t.massif.fdb).valid = false))
    ∧ (∀ (p : Fin 18) c x, s.massif.copies.filter (fun e => e.2.egress == p.val && e.2.stage == .queued) = [(c, x)] →
        s.tbu.running = true →
        ∃ t, exec (.aged p) s = .next t ∧ t.copyAt c = none
          ∧ x.elig.getD 0 * 128 + s.inForce Reg.SWC_LIMITS_MAX_WAIT * 16000000 ≤ t.tbu.time
          ∧ t.fld (Reg.SWC_PCNT_COUNT p 13) = (s.fld (Reg.SWC_PCNT_COUNT p 13) + 1) % 2 ^ 36)
    ∧ (∀ (r : Fin 2) (b : Nat) (e : DupEntry), b < 2048 → s.massif.dups = [(2048 * r.val + b, [e])] →
        ∃ t, exec (.dupForget r) s = .next t ∧ t.dupsAt r b = []
          ∧ t.clk = max s.clk (e.at_ + s.inForce Reg.SWC_LIMITS_FORGET * 16000000)
          ∧ t.fld (Reg.SWC_RPCNT_COUNT r (if e.byB then 5 else 4))
              = (s.fld (Reg.SWC_RPCNT_COUNT r (if e.byB then 5 else 4)) + 1) % 2 ^ 36)
    ∧ (∀ a (p : Fin 18) base es, s.isSet (Reg.SWC_GCTL_PENDING p) = false →
        s.boundaryOf (s.fld (Reg.SWC_GBASE_BASE p)) / 128 = base →
        s.gateEntries p (1 - s.fld (Reg.SWC_GCTL_OPER p)) (s.fld (Reg.SWC_GCTL_LEN p) + 1) = es →
        ((s.tick : Int) < base → State.cycleTime es ≤ 2 ^ 28 →
          ∃ t, exec (.gateChange a p) s = .next t ∧ t.isSet (Reg.SWC_GCTL_PENDING p) = true
            ∧ Tab.get {} p t.massif.gatePending = { len := s.fld (Reg.SWC_GCTL_LEN p) + 1, base := base }
            ∧ t.massif.gateOper = s.massif.gateOper)
        ∧ (base ≤ (s.tick : Int) → ∃ t, exec (.gateChange a p) s = .next t ∧ t.isSet (Reg.SWC_GSTAT_GATE_ERR p) = true
            ∧ t.eventStat 110 = true ∧ t.isSet (Reg.SWC_GCTL_PENDING p) = false ∧ t.massif = s.massif)
        ∧ (2 ^ 28 < State.cycleTime es → ∃ t, exec (.gateChange a p) s = .next t
            ∧ t.isSet (Reg.SWC_GSTAT_GATE_ERR p) = true ∧ t.eventStat 110 = true ∧ t.massif = s.massif))
    ∧ (∀ a (p : Fin 18), s.isSet (Reg.SWC_GCTL_PENDING p) = true →
        exec (.gateChange a p) s = .next (s.reject a (Reg.SWC_GCTL p)))
    ∧ (∀ p : Fin 18, s.isSet (Reg.SWC_GCTL_PENDING p) = true →
        (∃ t, exec (.gateCancel p) s = .next t ∧ t.isSet (Reg.SWC_GCTL_PENDING p) = false
          ∧ t.massif.gateOper = s.massif.gateOper)
        ∧ (s.fld (Reg.SWC_GCTL_OPER p) = 0 → s.tbu.running = true →
          ∃ t, exec (.gateSwitch p) s = .next t ∧ t.isSet (Reg.SWC_GCTL_PENDING p) = false
            ∧ t.fld (Reg.SWC_GCTL_OPER p) = 1 ∧ t.gateList p = Tab.get {} p s.massif.gatePending
            ∧ (Tab.get ({} : GateList) p s.massif.gatePending).base * 128 ≤ t.tbu.time))
    ∧ (∀ p : Fin 18, s.gated p = true → s.tbu.running = true → s.tbu.time % 128 = 0 →
        ∃ t, exec (.gateEntry p) s = .next t ∧ t.fld (Reg.SWC_GSTAT_GATES p) = t.gates p t.tick % 256
          ∧ s.tbu.time ≤ t.tbu.time)
    ∧ (∀ entry bad u, s.inForce Reg.SWC_CTRL_TXQ_EN ≠ 0 → s.popQueue (s.inForce Reg.SWC_CTRL_TXQ) = some (entry, bad, u) →
        exec .txqEntry s = .next (if bad then u.swCount 19 2 else u.takeDescriptor (entry % 2 ^ 21)))

/-- The commands of the forwarding database, the VLAN table, the filters and the meters (R294, R295, R303, R305, R315). -/
def Obligations.SwitchTableCommands : Prop :=
  ∀ s : State, s.held = false →
    (∀ vid addr k, s.fdbKey = (addr, vid) → State.fdbFind s.massif.fdb vid addr = some k → k < 16384 →
        (∃ t, exec .fdbLookup s = .next t ∧ t.fld Reg.SWC_FDB_CMD_INDEX = k ∧ t.isSet Reg.SWC_FDB_CMD_FOUND = true
          ∧ t.isSet Reg.SWC_FDB_CMD_FULL = false ∧ t.isSet Reg.SWC_FDB_DATA_VALID = true
          ∧ t.fld Reg.SWC_FDB_DATA_DEST = (Tab.get {} k s.massif.fdb).dest % 2 ^ 22 ∧ t.massif = s.massif)
        ∧ ∃ t, exec .fdbDelete s = .next t ∧ Tab.get {} k t.massif.fdb = {} ∧ t.isSet Reg.SWC_FDB_CMD_FOUND = true
          ∧ ∀ j, j ≠ k → Tab.get {} j t.massif.fdb = Tab.get {} j s.massif.fdb)
    ∧ (∀ vid addr k, s.fdbKey = (addr, vid) → State.fdbFind s.massif.fdb vid addr = some k → k < 16384 →
        ∃ t, exec .fdbInsert s = .next t ∧ t.fld Reg.SWC_FDB_CMD_INDEX = k ∧ t.isSet Reg.SWC_FDB_CMD_FULL = false
          ∧ Tab.get {} k t.massif.fdb = { valid := true, vid := vid, addr := addr, static := true
                                          drop := s.isSet Reg.SWC_FDB_DATA_DROP, dest := s.fld Reg.SWC_FDB_DATA_DEST })
    ∧ (∀ vid addr, s.fdbKey = (addr, vid) → State.fdbFind s.massif.fdb vid addr = none →
        (∃ t, exec .fdbLookup s = .next t ∧ t.isSet Reg.SWC_FDB_CMD_FOUND = false ∧ t.massif = s.massif)
        ∧ (∀ k, s.fdbRoom vid addr = some k → k < 16384 →
          ∃ t, exec .fdbInsert s = .next t ∧ t.fld Reg.SWC_FDB_CMD_INDEX = k ∧ t.isSet Reg.SWC_FDB_CMD_FULL = false
            ∧ Tab.get {} k t.massif.fdb = { valid := true, vid := vid, addr := addr, static := true
                                            drop := s.isSet Reg.SWC_FDB_DATA_DROP, dest := s.fld Reg.SWC_FDB_DATA_DEST }
            ∧ ∀ j, j ≠ k → Tab.get {} j t.massif.fdb = Tab.get {} j s.massif.fdb)
        ∧ (s.fdbRoom vid addr = none →
          ∃ t, exec .fdbInsert s = .next t ∧ t.isSet Reg.SWC_FDB_CMD_FULL = true ∧ t.massif = s.massif))
    ∧ (∀ i : Fin 16384, ∃ t, exec (.fdbReadIndex i) s = .next t
        ∧ t.isSet Reg.SWC_FDB_CMD_FOUND = (Tab.get ({} : FdbEntry) i s.massif.fdb).valid
        ∧ t.fld Reg.SWC_FDB_KEY0_ADDR_LO = (Tab.get ({} : FdbEntry) i s.massif.fdb).addr % 2 ^ 32
        ∧ t.fld Reg.SWC_FDB_DATA_DEST = (Tab.get ({} : FdbEntry) i s.massif.fdb).dest % 2 ^ 22 ∧ t.massif = s.massif)
    ∧ (∃ t, exec .flushDyn s = .next t ∧ (∀ k e, (k, e) ∈ s.massif.fdb → e.static = false → Tab.get {} k t.massif.fdb = {})
        ∧ (∀ k, (∀ e, (k, e) ∈ s.massif.fdb → e.static = true) → Tab.get {} k t.massif.fdb = Tab.get {} k s.massif.fdb)
        ∧ t.regs = s.regs)
    ∧ (∀ a (v : Fin 4096), 1 ≤ v.val → v.val ≤ 4094 →
        (∃ t, exec (.vlanRead a v) s = .next t ∧ t.reg Reg.SWC_VLAN_DATA0 = s.vlan 0 v
          ∧ t.reg Reg.SWC_VLAN_DATA1 = s.vlan 1 v ∧ t.massif = s.massif)
        ∧ ∃ t, exec (.vlanWrite a v) s = .next t ∧ t.vlan 0 v = s.reg Reg.SWC_VLAN_DATA0
          ∧ t.vlan 1 v = s.reg Reg.SWC_VLAN_DATA1 ∧ t.regs = s.regs
          ∧ ∀ u : Fin 4096, u ≠ v → t.vlan 0 u = s.vlan 0 u ∧ t.vlan 1 u = s.vlan 1 u)
    ∧ (∀ a (i : Fin 1024),
        (∃ t, exec (.qciRead a false i) s = .next t ∧ t.reg Reg.SWC_QCI_DATA0 = s.filterWord i 0
          ∧ t.reg Reg.SWC_QCI_DATA1 = s.filterWord i 1 ∧ t.reg Reg.SWC_QCI_DATA2 = s.filterWord i 2 ∧ t.massif = s.massif)
        ∧ (∃ t, exec (.qciWrite a false i) s = .next t ∧ t.filterWord i 0 = s.reg Reg.SWC_QCI_DATA0
              ∧ t.filterWord i 1 = s.reg Reg.SWC_QCI_DATA1 ∧ t.regs = s.regs
              ∧ (t.filterWord i 2).field 32 0 = (s.reg Reg.SWC_QCI_DATA2).field 32 0
              ∧ ((s.filterWord i 2).bit 33 = false → (t.filterWord i 2).bit 33 = false))
        ∧ (i.val ≤ 255 → ∃ t, exec (.qciRead a true i) s = .next t
            ∧ t.reg Reg.SWC_QCI_DATA0 = Tab.get 0 (2 * i) s.massif.meters
            ∧ t.reg Reg.SWC_QCI_DATA1 = Tab.get 0 (2 * i + 1) s.massif.meters ∧ t.massif = s.massif)
        ∧ (i.val ≤ 255 → ∃ t, exec (.qciWrite a true i) s = .next t
            ∧ Tab.get 0 (2 * i) t.massif.meters = Word.ofN ((s.reg Reg.SWC_QCI_DATA0).field 17 0)
            ∧ Tab.get 0 (2 * i + 1) t.massif.meters = Word.ofN ((s.reg Reg.SWC_QCI_DATA1).field 23 0)
            ∧ Tab.get (0, 0) i t.massif.deficits = (0, 0))
        ∧ (256 ≤ i.val → exec (.qciWrite a true i) s = .next (s.reject a Reg.SWC_QCI_CMD)))
    ∧ (∀ a, ∃ t v, exec (.cellStatRead a) s = .next t ∧ t.outs = .read a v false :: s.outs
        ∧ v.field 15 0 = s.fld Reg.SWC_CELL_STAT_LOST ∧ v.field 31 16 = s.fld Reg.SWC_CELL_STAT_LATE_CELL
        ∧ t.fld Reg.SWC_CELL_STAT_LOST = 0 ∧ t.fld Reg.SWC_CELL_STAT_LATE_CELL = 0)

/-- Frames at the engine port, authentication and subscription entries (R317 to R325). -/
def Obligations.StreamServicesCommands : Prop :=
  ∀ s : State, s.held = false →
    (∀ d rest, s.massif.toSts = d :: rest →
        (∃ t, exec .stsFrame s = .next t ∧ t.massif.toSts = rest
          ∧ t.fld (Reg.STS_CNT_COUNT 0) = (s.fld (Reg.STS_CNT_COUNT 0) + 1) % 2 ^ 36)
        ∧ (s.inForce Reg.STS_CTRL_EN = 0 → s.sts.work = [] → s.sts.blocked = none →
          ∃ t, exec .stsFrame s = .next t ∧ t.massif.toSts = rest ∧ t.sts.work = [] ∧ t.mem = s.mem
            ∧ t.fld (Reg.STS_CNT_COUNT 0) = (s.fld (Reg.STS_CNT_COUNT 0) + 1) % 2 ^ 36
            ∧ t.fld (Reg.STS_CNT_COUNT 4) = (s.fld (Reg.STS_CNT_COUNT 4) + 1) % 2 ^ 36
            ∧ t.fld (Reg.STS_CNT_COUNT 10) = (s.fld (Reg.STS_CNT_COUNT 10) + 1) % 2 ^ 36)
        ∧ (∀ octets tsw vid s1 k i e,
          ((s.modMassif (fun x => { x with toSts := rest })).stsCount 0).storedFrame d.base = (octets, tsw, vid, s1) →
          s.inForce Reg.STS_CTRL_EN ≠ 0 → s1.stsKey octets = some k →
          ((s1.subCandidates k.table).filter (fun j =>
            State.subMatches (s1.subFor (4096 * k.table + j) (s1.boundaryOf tsw / 128)) k vid)).min? = some i →
          s1.subFor (4096 * k.table + i) (s1.boundaryOf tsw / 128) = e → s1.sts.blocked = none →
          (∀ w ws, s1.sts.work = w :: ws → w.verifying = true →
            ∃ t x, exec .stsFrame s = .next t ∧ t.sts.work = w :: ws ++ [x] ∧ x.index = d.base / 16 ∧ x.table = k.table
              ∧ x.sub = i ∧ x.queue = e.d2.field 21 14 ∧ x.verifying = (k.table != 2 && e.d3.field 8 7 != 0)
              ∧ t.fld (Reg.STS_CNT_COUNT (1 + k.table)) = (s1.fld (Reg.STS_CNT_COUNT (1 + k.table)) + 1) % 2 ^ 36)
          ∧ (s1.sts.work = [] → (k.table = 2 ∨ e.d3.field 8 7 = 0) →
            ∃ t, exec .stsFrame s = .next t ∧ t.sts.work = [] ∧ t.sts.held = s1.sts.held ++ [d.base / 16])))
    ∧ (∀ (u : Fin 4) index flags (v : Fin 4) again (x : Fin 4),
        (s.sts.work.find? (fun w => w.verifying && w.index == index) = none →
          exec (.authVerdict u index flags v again x) s = .next s)
        ∧ (∀ w, s.sts.work.find? (fun w => w.verifying && w.index == index) = some w →
          (∀ k, flags = false → s.tagUnit u none = some k →
            exec (.authVerdict u index flags v again x) s = .next (s.applyVerdict w (s.verdict w))
            ∧ (∃ t, exec (.authVerdict u index flags v again x) s = .next t
              ∧ t.fld (Reg.STS_CNT_COUNT (s.verdict w)) = (s.fld (Reg.STS_CNT_COUNT (s.verdict w)) + 1) % 2 ^ 36
              ∧ (s.verdict w ≠ 5 → t.eventStat 112 = true))
            ∧ (s.verdict w = 6 → w.d3.field 8 7 = 2 → s.sts.work = [w] → s.sts.blocked = none →
              ∃ t, exec (.authVerdict u index flags v again x) s = .next t ∧ t.sts.work = []
                ∧ t.sts.held = s.sts.held ∧ t.eventStat 112 = true
                ∧ t.fld (Reg.STS_CNT_COUNT 6) = (s.fld (Reg.STS_CNT_COUNT 6) + 1) % 2 ^ 36)
            ∧ (s.verdict w = 5 → s.sts.work = [w] → s.sts.blocked = none →
              ∃ t, exec (.authVerdict u index flags v again x) s = .next t ∧ t.sts.work = []
                ∧ t.sts.held = s.sts.held ++ [w.index]))
          ∧ (∀ k s1 j, flags = true → s.tagUnit u none = some k → s.report (0xA5 + k) 260 0 w.index 0 0 = s1 →
            s1.tagUnit v (some k) = some j →
            j ≠ k
            ∧ (again = false →
              exec (.authVerdict u index flags v again x) s = .next (s1.applyVerdict w (s1.verdict w)))
            ∧ (∀ s2 i, again = true → s1.report (0xA5 + j) 260 0 w.index 0 0 = s2 → s2.tagUnit x (some j) = some i →
              exec (.authVerdict u index flags v again x) s = .next (s2.applyVerdict w (s2.verdict w))))
          ∧ (s.tagUnit u none = none → exec (.authVerdict u index flags v again x) s = .next s)))
    ∧ (∀ a index, index < 2 ^ 17 → s.sts.held.contains index = true →
        ∃ t, exec (.stsFree a index) s = .next t ∧ t.sts.held.contains index = false
          ∧ (∀ h ∈ t.massif.areas, h.1 ≠ 16 * index) ∧ t.mem = s.mem)
    ∧ (∀ a index, index < 2 ^ 17 → s.sts.held.contains index = false →
        exec (.stsFree a index) s = .next (s.reject a Reg.STS_FREE))
    ∧ (∀ a (table : Fin 4) (i : Fin 4096) e, table.val < 3 → i.val < subTableSize table →
        Tab.get {} (4096 * table + i) s.sts.subs = e →
        (∃ t, exec (.subRead a table i) s = .next t ∧ t.reg Reg.STS_SUB_DATA0 = e.d0 ∧ t.reg Reg.STS_SUB_DATA1 = e.d1
          ∧ t.reg Reg.STS_SUB_DATA2 = e.d2 ∧ t.reg Reg.STS_SUB_DATA3 = e.d3 ∧ t.sts = s.sts)
        ∧ (∀ udpBad authBad, s.isSet Reg.STS_SUB_CMD_PENDING = false →
          (table.val == 2 && !(s.reg Reg.STS_SUB_DATA2).bit 13) = udpBad →
          (table.val == 2 && (s.reg Reg.STS_SUB_DATA3).field 8 7 != 0) = authBad →
          (∃ t, exec (.subWrite a table i) s = .next t
            ∧ Tab.get {} (4096 * table + i) t.sts.subs = { e with
                d0 := s.reg Reg.STS_SUB_DATA0, d1 := s.reg Reg.STS_SUB_DATA1
                d2 := (if udpBad then (s.reg Reg.STS_SUB_DATA2).setField 13 13 (e.d2.field 13 13)
                  else s.reg Reg.STS_SUB_DATA2)
                d3 := (if authBad then (s.reg Reg.STS_SUB_DATA3).setField 8 7 (e.d3.field 8 7)
                  else s.reg Reg.STS_SUB_DATA3) }
            ∧ (∀ k, k ≠ 4096 * table.val + i → Tab.get {} k t.sts.subs = Tab.get {} k s.sts.subs)
            ∧ (udpBad = false → authBad = false → t.regs = s.regs)
            ∧ (udpBad = true ∨ authBad = true → t.eventStat 0 = true))
          ∧ ((s.tick : Int) < s.boundaryOf (s.fld Reg.STS_SUB_AT_AT) / 128 →
            ∃ t p, exec (.subWriteAt a table i) s = .next t ∧ t.isSet Reg.STS_SUB_CMD_PENDING = true
              ∧ t.sts.pending = some p ∧ p.key = 4096 * table + i
              ∧ p.tick = s.boundaryOf (s.fld Reg.STS_SUB_AT_AT) / 128 ∧ t.sts.subs = s.sts.subs)
          ∧ (s.boundaryOf (s.fld Reg.STS_SUB_AT_AT) / 128 ≤ s.tick →
            exec (.subWriteAt a table i) s = .next (s.reject a Reg.STS_SUB_CMD)))
        ∧ (s.isSet Reg.STS_SUB_CMD_PENDING = true →
          exec (.subWrite a table i) s = .next (s.reject a Reg.STS_SUB_CMD)
          ∧ exec (.subWriteAt a table i) s = .next (s.reject a Reg.STS_SUB_CMD)))
    ∧ (∀ p, s.sts.pending = some p → s.tbu.running = true →
        ∃ t, exec .writeAtApply s = .next t ∧ t.sts.pending = none ∧ t.isSet Reg.STS_SUB_CMD_PENDING = false
          ∧ (p.tick * 128).toNat ≤ t.tbu.time ∧ (Tab.get ({} : SubEntry) p.key t.sts.subs).d2 = p.entry.d2
          ∧ (Tab.get ({} : SubEntry) p.key t.sts.subs).matched = (Tab.get ({} : SubEntry) p.key s.sts.subs).matched)

/-- Contributions, groups and rows of the Terrace aligner (R328 to R341, R346). -/
def Obligations.TerraceCommands : Prop :=
  ∀ s : State, s.held = false →
    (∀ a w, s.isSet (Reg.TAL_SCFG_EN (w.field 9 0)) = false →
        ∃ t, exec (.contribution a w) s = .next t ∧ t.eventStat 118 = true ∧ t.tal = s.tal ∧ t.mem = s.mem
          ∧ t.reg Reg.TAL_BADINFO = Word.ofN (w.field 9 0 + 2 ^ 10 * (a % 64) + 2 ^ 16 * 1 + 2 ^ 35)
          ∧ t.fld (Reg.TAL_CNT_COUNT 3) = (s.fld (Reg.TAL_CNT_COUNT 3) + 1) % 2 ^ 36)
    ∧ (∀ a w i g, w.field 9 0 = i → s.isSet (Reg.TAL_SCFG_EN i) = true → s.fld (Reg.TAL_SCFG_GROUP i) = g →
        w.field 25 10 < s.fld (Reg.TAL_SRATE_RATE i) → (s.group g).active = true →
        (∃ t, exec (.contribution a w) s = .next t ∧ (∀ k < 11, t.agentReg a (Reg.TAL_SUB_TSW + 8 * k) = 0)
          ∧ t.fld (Reg.TAL_CNT_COUNT 0) = (s.fld (Reg.TAL_CNT_COUNT 0) + 1) % 2 ^ 36
          ∧ t.fld (Reg.TAL_SSTAT_SMPCNT i) = w.field 25 10 % 2 ^ 16
          ∧ t.isSet (Reg.TAL_SSTAT_ATIMED i)
              = !(if s.isSet (Reg.TAL_SCFG_SYNC_REQ i) then w.field 33 26 == 2 else w.field 33 26 != 0))
        ∧ (∀ r n nom, (s.group g).missed = [] → (s.stream i).held = [] →
          s.boundaryOf (s.agentReg a Reg.TAL_SUB_TSW).toNat = r →
          State.numberOf (s.fld (Reg.TAL_SRATE_RATE i)) r (w.field 25 10) = (n, nom) →
          (w.field 33 26 = 2 →
            ∃ t x, exec (.contribution a w) s = .next t ∧ (t.stream i).held = [(s.historySlot i n, x)] ∧ x.n = n
              ∧ x.u = nom - s.inForce (Reg.TAL_SDLY_DELAY i) ∧ x.arrival = false ∧ x.invalid = w.bit 34)
          ∧ (w.field 33 26 = 0 →
            ∃ t x, exec (.contribution a w) s = .next t ∧ (t.stream i).held = [(s.historySlot i n, x)] ∧ x.n = n
              ∧ x.u = r - s.inForce (Reg.TAL_SDLY_DELAY i) - s.inForce (Reg.TAL_SADLY_ARR_DLY i) ∧ x.arrival = true)))
    ∧ (∀ a (g : Fin 64) w s1, (s.group g).active = false →
        s.writeGeneric a (Reg.TAL_GCFG g) (w.setField 0 0 0) = s1 →
        (s1.enableOk g = true →
          ∃ t, exec (.groupEnable a g w) s = .next t ∧ (t.group g).active = true ∧ t.isSet (Reg.TAL_GCFG_EN g) = true
            ∧ t.fld (Reg.TAL_GSTAT_LOOKAHEAD g) = s1.lookAhead g % 2 ^ 30 ∧ (t.group g).busy = (s.group g).busy
            ∧ t.mem = s.mem
            ∧ (t.group g).first = instantFrom (gridRate (s1.fld (Reg.TAL_GCFG_RATE g)))
                (s.boundaryOf (s.fld (Reg.TAL_GSTART_START g))))
        ∧ (s1.enableOk g = false → exec (.groupEnable a g w) s = .next (s.reject a (Reg.TAL_GCFG g)))
        ∧ ∃ t, exec (.groupDisable a g w) s = .next t ∧ t.isSet (Reg.TAL_GCFG_EN g) = false ∧ t.tal = s.tal)
    ∧ (∀ a (g : Fin 64) w limit, (s.group g).active = true → s.isSet (Reg.TAL_GCFG_EN g) = true →
        w.field 3 1 = (s.reg (Reg.TAL_GCFG g)).field 3 1 → w.field 20 5 = (s.reg (Reg.TAL_GCFG g)).field 20 5 →
        (if w.bit 4 then s.boundaryOf (s.fld (Reg.TAL_GSTART_START g)) else ((s.tick + 1) * 128 : Nat)) = limit →
        ((s.nextRow g : Int) < limit →
          ∃ t, exec (.groupDisable a g w) s = .next t ∧ t.isSet (Reg.TAL_GCFG_EN g) = false ∧ (t.group g).active = true
            ∧ (t.group g).stop = some limit)
        ∧ (limit ≤ (s.nextRow g : Int) →
          ∃ t, exec (.groupDisable a g w) s = .next t ∧ t.isSet (Reg.TAL_GCFG_EN g) = false ∧ (t.group g).active = false))
    ∧ (∀ a (g : Fin 64) w, (s.group g).active = true →
        (w.field 3 1 ≠ (s.reg (Reg.TAL_GCFG g)).field 3 1 ∨ w.field 20 5 ≠ (s.reg (Reg.TAL_GCFG g)).field 20 5) →
        exec (.groupDisable a g w) s = .next (s.reject a (Reg.TAL_GCFG g)))
    ∧ (∀ g : Fin 64, (s.group g).active = true → s.tbu.running = true →
        (State.stepSkipped (s.releaseAt g) s.tbu.steps s.tbu.time s.clk = false →
          ∃ t, exec (.rowRelease g) s = .next t ∧ (t.group g).next = (s.group g).next + 1
            ∧ (s.releaseAt g).toNat ≤ t.tbu.time)
        ∧ (State.stepSkipped (s.releaseAt g) s.tbu.steps s.tbu.time s.clk = true →
          ∃ t, exec (.rowRelease g) s = .next t ∧ (t.group g).next = (s.group g).next + 1 ∧ t.eventStat 48 = true
            ∧ t.fld (Reg.GCTL_LATE_UNIT_COUNT 100) = (s.fld (Reg.GCTL_LATE_UNIT_COUNT 100) + 1) % 2 ^ 36)
        ∧ (∀ b, (s.group g).stop = none → s.groupStreams g = [] →
          State.stepSkipped (s.releaseAt g) s.tbu.steps s.tbu.time s.clk = false →
          ((s.group g).next - (s.group g).first) % max 1 (s.fld (Reg.TAL_GROWS_NROWS g)) = b →
          (b ∉ (s.group g).busy →
            ∃ t, exec (.rowRelease g) s = .next t ∧ (t.group g).busy = b :: (s.group g).busy
              ∧ t.fld (Reg.TAL_CNT_COUNT 6) = (s.fld (Reg.TAL_CNT_COUNT 6) + 1) % 2 ^ 36)
          ∧ (b ∈ (s.group g).busy →
            ∃ t, exec (.rowRelease g) s = .next t ∧ (t.group g).busy = (s.group g).busy ∧ t.mem = s.mem
              ∧ t.eventStat 117 = true
              ∧ t.fld (Reg.TAL_CNT_COUNT 8) = (s.fld (Reg.TAL_CNT_COUNT 8) + 1) % 2 ^ 36)))
    ∧ (∀ a off, off < 2 ^ 19 →
        (∀ o gr b, s.tal.delivered.find? (fun x => x.1 == off) = some (o, gr, b) →
          ∃ t, exec (.rfree a off) s = .next t ∧ (∀ x ∈ t.tal.delivered, x.1 ≠ off) ∧ b ∉ (t.group gr).busy
            ∧ t.regs = s.regs ∧ t.mem = s.mem)
        ∧ (s.tal.delivered.find? (fun x => x.1 == off) = none →
          exec (.rfree a off) s = .next (s.reject a Reg.TAL_RFREE)))
    ∧ (∀ a, ∃ t v, exec (.badinfoRead a) s = .next t ∧ t.outs = .read a v false :: s.outs
        ∧ v.field 18 0 = (s.reg Reg.TAL_BADINFO).field 18 0 ∧ v.bit 35 = (s.reg Reg.TAL_BADINFO).bit 35
        ∧ (t.reg Reg.TAL_BADINFO).bit 35 = false ∧ t.tal = s.tal)


/-- The controller's states, frames, cycle and static slots (R350 to R368). -/
def Obligations.RidgelineStateAndSlotCommands : Prop :=
  ∀ s : State, s.held = false →
    (∀ a, s.rlState = 0 →
        ∃ t, exec (.rlEnable a) s = .next t ∧ t.rlState = 1 ∧ t.isSet Reg.RLC_CTRL_EN = true
          ∧ t.rl.listenFrom = s.tbu.pll ∧ t.eventStat 128 = true ∧ t.mem = s.mem)
    ∧ (∀ a, s.rlState ≠ 0 → ∃ t, exec (.rlEnable a) s = .next t ∧ t.rlState = s.rlState ∧ t.isSet Reg.RLC_CTRL_EN = true)
    ∧ (∀ a, s.rlState ≠ 0 →
        ∃ t, exec (.rlDisable a) s = .next t ∧ t.rlState = 0 ∧ t.isSet Reg.RLC_CTRL_EN = false
          ∧ t.isSet Reg.RLC_ROOT_IS_ROOT = false ∧ (∀ q ∈ t.posted, q.unit ≠ 91) ∧ t.eventStat 128 = true)
    ∧ (∀ at_, s.rlState = 1 → max s.tbu.pll (s.rl.listenFrom + 4000000 + (s.straps.rid % 64 + 1) * 40960) = at_ →
        (s.isSet Reg.RLC_CFG_COLDSTART = false →
          ∃ t, exec .listenTimeout s = .next t ∧ t.rlState = 1 ∧ t.rl.listenFrom = at_ ∧ (s.clockAt at_).toNat ≤ t.clk)
        ∧ (s.isSet Reg.RLC_CFG_COLDSTART = true →
          ∃ t, exec .listenTimeout s = .next t ∧ t.rlState = 2 ∧ t.rlCycle = 0 ∧ t.eventStat 128 = true
            ∧ t.rl.start = ((at_ : Int) - 40960 * (s.straps.rid % 64 : Nat)) * 256
            ∧ (s.clockAt at_).toNat ≤ t.clk))
    ∧ (s.rlState ≠ 1 → exec .listenTimeout s = .next s)
    ∧ (∀ chB dt back octets, s.rlState ≠ 0 → s.rlState ≠ 5 →
        ∃ t, exec (.rlFrameRx chB false dt back octets) s = .next t
          ∧ t.fld (Reg.RLC_CNT_COUNT (2 + bit01 chB)) = (s.fld (Reg.RLC_CNT_COUNT (2 + bit01 chB)) + 1) % 2 ^ 36)
    ∧ (∀ chB dt back octets h, s.rlState = 1 → octets.length = 87 → RlHeader.ofNat (beAt octets 0 4) = h →
        beAt octets 84 3 = crc24 (octets.take 84) → h.slot ≤ 63 → h.sender = h.slot → h.sender ≠ s.straps.rid % 64 →
        h.sync = true →
        ∃ t, exec (.rlFrameRx chB true dt back octets) s = .next t ∧ t.rlState = 3
          ∧ t.rlCycle = beAt octets 20 4 % 2 ^ 32
          ∧ t.rl.start = (((s.elapse dt).tbu.pll : Int) - back
              - (40960 * h.slot + 2080 + s.rlDelay h.sender chB : Nat)) * 256
          ∧ t.eventStat 128 = true)
    ∧ (∀ chB dt (back : Nat) octets u h pos want w, s.elapse dt = u → s.rlHolds = true → octets.length = 87 →
        RlHeader.ofNat (beAt octets 0 4) = h → beAt octets 84 3 = crc24 (octets.take 84) → h.slot ≤ 79 →
        u.rlPosAt ((u.tbu.pll : Int) - back) = pos → slotAt pos = some h.slot → h.cycle = u.rlCycle % 64 →
        h.reserved = 0 → u.rlSenderOk h = true → ((slotStart h.slot + 2080 + u.rlDelay h.sender chB : Nat) : Int) = want →
        (16 * u.fld Reg.RLC_SYNC_WINDOW : Nat) = w → (want - w) / 128 ≤ pos / 128 → pos / 128 ≤ (want + w) / 128 →
        h.sender ≠ s.straps.rid % 64 →
        ∃ t f, exec (.rlFrameRx chB true dt back octets) s = .next t
          ∧ (if chB then t.rl.rxB else t.rl.rxA) = some f ∧ f.octets = (octets.take 84).drop 4 ∧ f.sender = h.sender
          ∧ t.fld (Reg.RLC_CNT_COUNT (bit01 chB)) = (u.fld (Reg.RLC_CNT_COUNT (bit01 chB)) + 1) % 2 ^ 36)
    ∧ (∀ (slot : Fin 80) x y, s.rlHolds = true → s.rl.rxA = x → s.rl.rxB = y →
        ∃ t, exec (.slotEnd slot) s = .next t
          ∧ (∀ w < 24, t.reg (Reg.RLC_RXBUF (2 * slot + s.rlCycle % 2) w) = (State.rxWords x y).getD w 0)
          ∧ t.fld (Reg.RLC_SLOTCNT_ONE_CH slot) = (if x.isSome = y.isSome then s.fld (Reg.RLC_SLOTCNT_ONE_CH slot)
              else min (2 ^ 18 - 1) (s.fld (Reg.RLC_SLOTCNT_ONE_CH slot) + 1))
          ∧ t.fld (Reg.RLC_SLOTCNT_MISSED slot) = (if x.isNone && y.isNone
              then min (2 ^ 18 - 1) (s.fld (Reg.RLC_SLOTCNT_MISSED slot) + 1)
              else s.fld (Reg.RLC_SLOTCNT_MISSED slot)))
    ∧ (∀ slot : Fin 80, s.rlHolds = true → s.rl.rxA = none → s.rl.rxB = none →
        ∃ t, exec (.slotEnd slot) s = .next t ∧ t.reg (Reg.RLC_RXBUF (2 * slot + s.rlCycle % 2) 0) = 0
          ∧ t.reg (Reg.RLC_RXBUF (2 * slot + s.rlCycle % 2) 22) = 0
          ∧ t.fld (Reg.RLC_SLOTCNT_MISSED slot) = min (2 ^ 18 - 1) (s.fld (Reg.RLC_SLOTCNT_MISSED slot) + 1)
          ∧ t.fld (Reg.RLC_SLOTCNT_ONE_CH slot) = s.fld (Reg.RLC_SLOTCNT_ONE_CH slot))
    ∧ (∀ (slot : Fin 80) x, s.rlHolds = true → s.rl.rxA = some x → s.rl.rxB = none →
        ∃ t, exec (.slotEnd slot) s = .next t
          ∧ t.reg (Reg.RLC_RXBUF (2 * slot + s.rlCycle % 2) 0) = State.rxHead x true false false
          ∧ t.reg (Reg.RLC_RXBUF (2 * slot + s.rlCycle % 2) 1) = Word.ofN x.rtsw
          ∧ t.reg (Reg.RLC_RXBUF (2 * slot + s.rlCycle % 2) 2) = Word.ofN x.tsw
          ∧ t.fld (Reg.RLC_SLOTCNT_ONE_CH slot) = min (2 ^ 18 - 1) (s.fld (Reg.RLC_SLOTCNT_ONE_CH slot) + 1)
          ∧ t.fld (Reg.RLC_SLOTCNT_MISSED slot) = s.fld (Reg.RLC_SLOTCNT_MISSED slot))
    ∧ (s.rlHolds = true →
        ∃ t, exec .cycleStart s = .next t ∧ t.rlCycle = (s.rlCycle + 1) % 2 ^ 32 ∧ t.reg Reg.RLC_CYC_TSW = Word.ofN t.tsw
          ∧ t.rl.start = s.rl.start + s.rlSpan + 256 * s.rl.nit ∧ (s.rl.activate = true → t.rlState = 4))
    ∧ (s.rlHolds = true → s.rl.fresh = true →
        ∃ t, exec .nitStart s = .next t ∧ t.fld Reg.RLC_CORR_O = 0 ∧ t.rlState = s.rlState)
    ∧ (s.rlHolds = true → s.rl.fresh = false →
        ∃ t, exec .nitStart s = .next t
          ∧ t.fld Reg.RLC_CORR_O = toBits 16 (midpoint (s.cycleValues.map (·.2)))
          ∧ t.fld Reg.RLC_STAT_SYNC_SEEN = s.cycleValues.length
          ∧ (s.rlState = 4 → 48 * s.fld Reg.RLC_SYNC_PREC < (midpoint (s.cycleValues.map (·.2))).natAbs →
              t.rlState = 1 ∧ t.eventStat 129 = true
                ∧ t.fld (Reg.RLC_CNT_COUNT 9) = (s.fld (Reg.RLC_CNT_COUNT 9) + 1) % 2 ^ 36))
    ∧ (∀ slot : Fin 80, s.rlHolds = true → s.fld Reg.RLC_SPARE_SSTATE = 0 → s.guardOpen = true → s.tmx.ext = false →
        s.tmx.ballsFrom ≤ s.clk → s.isSet Reg.RLC_CFG_CH_A_EN = true → (∀ q ∈ s.posted, q.unit ≠ 91) →
        s.syncSlot slot = true →
        ∃ t, exec (.sendSlot slot) s = .next t ∧ t.rl.sending = some slot.val ∧ t.posted = s.posted
          ∧ t.outs.head? = some (.rl slot (rlOctets (s.rlHeader slot 0 true true) (s.syncPayload (List.replicate 80 0))) true
              (s.isSet Reg.RLC_CFG_CH_B_EN)))
    ∧ (∀ (slot : Fin 80) q, s.rlHolds = true → s.fld Reg.RLC_SPARE_SSTATE = 0 → s.posted = [q] → q.unit = 91 →
        (s.rlAdvance (slotStart slot)).rlDistance q.due ≤ 0 →
        ((s.rlAdvance (slotStart slot)).slotCause q = none → s.guardOpen = true →
          ∃ t, exec (.sendSlot slot) s = .next t ∧ t.posted = [] ∧ t.rl.sending = some (State.slotOf q))
        ∧ (∀ c, (s.rlAdvance (slotStart slot)).slotCause q = some c →
          ∃ t, exec (.sendSlot slot) s = .next t ∧ t.posted = [] ∧ t.eventStat 131 = true
            ∧ t.fld (Reg.RLC_CNT_COUNT 12) = (s.fld (Reg.RLC_CNT_COUNT 12) + 1) % 2 ^ 36))

/-- Spare slots and the active root (R370, R371, R380, R384). That the back-offs last whole cycles is the model's reading
(log 30). -/
def Obligations.RidgelineSpareAndRootCommands : Prop :=
  ∀ s : State, s.held = false →
    (∀ i, s.rlState = 4 → s.isSet Reg.RLC_CTRL_SPARE_WANT = true → s.fld Reg.RLC_SPARE_SSTATE = 0 →
        (List.range 16).find? (fun i => s.mapOctet (64 + i) < 128) = some i →
        ∃ t, exec .spareClaim s = .next t ∧ t.fld Reg.RLC_SPARE_OWNED = 64 + i ∧ t.fld Reg.RLC_SPARE_SSTATE = 1
          ∧ t.eventStat 133 = true ∧ t.mem = s.mem)
    ∧ ((s.rlState ≠ 4 ∨ s.isSet Reg.RLC_CTRL_SPARE_WANT = false ∨ s.fld Reg.RLC_SPARE_SSTATE ≠ 0
          ∨ ∀ i < 16, 128 ≤ s.mapOctet (64 + i)) → exec .spareClaim s = .next s)
    ∧ (s.fld Reg.RLC_SPARE_SSTATE = 3 → s.rl.backoff = 0 →
        (s.isSet Reg.RLC_CTRL_SPARE_WANT = false →
          ∃ t, exec .spareBackoffEnd s = .next t ∧ t.fld Reg.RLC_SPARE_SSTATE = 0 ∧ t.eventStat 133 = true)
        ∧ (∀ i, s.isSet Reg.RLC_CTRL_SPARE_WANT = true →
          (List.range 16).find? (fun i => s.mapOctet (64 + i) < 128) = some i →
          ∃ t, exec .spareBackoffEnd s = .next t ∧ t.fld Reg.RLC_SPARE_SSTATE = 1
            ∧ t.fld Reg.RLC_SPARE_OWNED = 64 + i ∧ t.eventStat 133 = true))
    ∧ (∀ a, s.rlState = 4 → s.isSet Reg.RLC_CTRL_EN = true → s.fld Reg.RLC_SPARE_SSTATE = 2 →
        ∃ t, exec (.spareRelease a) s = .next t ∧ t.rl.release = true ∧ t.rlState = 4
          ∧ t.fld Reg.RLC_SPARE_SSTATE = 2)
    ∧ (∀ a, s.rlState ≠ 0 → s.isSet Reg.RLC_CTRL_EN = true → s.fld Reg.RLC_SPARE_SSTATE ≠ 2 →
        ∃ t, exec (.spareRelease a) s = .next t ∧ t.rl = s.rl ∧ t.rlState = s.rlState)
    ∧ (∀ i : Fin 16, s.isSet Reg.RLC_CFG_SYNC_NODE = true → s.rlSends = true → 128 ≤ s.mapOctet (64 + i) →
        s.fld Reg.RLC_SYNC_SPARE_IDLE ≤ Tab.get 0 (64 + i) s.rl.idle →
        ∃ t, exec (.spareIdleExpiry i) s = .next t ∧ t.rl.mapNext = s.rl.mapNext ++ [(64 + i.val, 0)] ∧ t.regs = s.regs)
    ∧ (s.rlSends = true → s.fld Reg.RLC_ROOT_ROLE = 2 → s.fld Reg.RLC_SYNC_ROOT_LOSS ≤ s.rl.rqSilence →
        ∃ t, exec .rootLoss s = .next t ∧ t.isSet Reg.RLC_ROOT_IS_ROOT = true ∧ t.rl.tookOver = true
          ∧ (s.isSet Reg.RLC_ROOT_IS_ROOT = false → s.rl.root ≠ some s.rlNode → t.eventStat 134 = true))
    ∧ (s.rl.rqBackoff = some 0 →
        ∃ t, exec .rqBackoffEnd s = .next t ∧ t.rl.rqBackoff = none
          ∧ t.rl.tookOver = (s.rl.tookOver && !s.rl.rqHeard))
    ∧ (∀ a, ∃ t v, exec (.rlcFailRead a) s = .next t ∧ t.outs = .read a v false :: s.outs
        ∧ v.field 31 0 = (s.reg Reg.RLC_FAIL).field 31 0 ∧ v.bit 35 = (s.reg Reg.RLC_FAIL).bit 35
        ∧ (t.reg Reg.RLC_FAIL).bit 35 = false ∧ (t.reg Reg.RLC_FAIL).field 31 0 = 0)
    ∧ (∀ a (slot : Fin 80), ∃ t, exec (.slotcntRead a slot) s = .next t ∧ t.reg (Reg.RLC_SLOTCNT slot) = 0
        ∧ t.outs = .read a (s.reg (Reg.RLC_SLOTCNT slot)) false :: s.outs)

/-- Host access over the dynamic segment: the root's queue and frames, a target's records, and the answers (R373 to R379). -/
def Obligations.RidgelineHostAccessCommands : Prop :=
  ∀ s : State, s.held = false →
    (∀ q : HostRead, State.readFits q = true → q.len = 8 → q.off % 8 = 0 → q.off / 0x100000 % 64 ≠ s.rlNode →
        (s.isSet Reg.RLC_ROOT_IS_ROOT = true → s.rlSends = true →
          ∃ t, exec (.remoteAccess (.read q)) s = .next t ∧ t.regs = s.regs
            ∧ t.rl.queue = s.rl.queue ++ [{ node := q.off / 0x100000 % 64, off := q.off % 0x100000, size := 0
                                            data := none, far := false }])
        ∧ (s.isSet Reg.RLC_ROOT_IS_ROOT = false →
          ∃ t, exec (.remoteAccess (.read q)) s = .next t ∧ t.eventStat 135 = true
            ∧ t.reg Reg.RLC_FAIL = Word.ofN (2 ^ 35 + 2 ^ 29 * 1 + 2 ^ 6 * (q.off % 0x100000 / 8)
                + q.off / 0x100000 % 64)
            ∧ t.fld (Reg.RLC_CNT_COUNT 15) = (s.fld (Reg.RLC_CNT_COUNT 15) + 1) % 2 ^ 36))
    ∧ (∀ q : HostRead,
        (State.readFits q = false → exec (.remoteAccess (.read q)) s = .next (s.unsupportedRequest.emit (.unsupported 51)))
        ∧ (State.readFits q = true → q.off / 0x100000 % 64 = s.rlNode →
          exec (.remoteAccess (.read q)) s = .next (State.readDwords 51 (q.len / 4) (q.off % 0x100000) s))
        ∧ (∀ xs, State.readFits q = true → q.off / 0x100000 % 64 ≠ s.rlNode →
          State.remoteReads (q.off / 0x100000 % 64) (q.len / 4) (q.off % 0x100000) = xs →
          (s.isSet Reg.RLC_ROOT_IS_ROOT = true → s.rlSends = true →
            ∃ t, exec (.remoteAccess (.read q)) s = .next t ∧ t.regs = s.regs ∧ t.rl.queue = s.rl.queue ++ xs)
          ∧ (s.isSet Reg.RLC_ROOT_IS_ROOT = false →
            ∃ t, exec (.remoteAccess (.read q)) s = .next t ∧ t.rl.queue = s.rl.queue
              ∧ t.fld (Reg.RLC_CNT_COUNT 15) = (s.fld (Reg.RLC_CNT_COUNT 15) + xs.length) % 2 ^ 36)))
    ∧ (∀ q : HostWrite,
        (q.poisoned = true → exec (.remoteAccess (.write q)) s = .next s.poisonedWrite)
        ∧ (q.poisoned = false → State.writeFits q = false →
          exec (.remoteAccess (.write q)) s = .next s.unsupportedRequest)
        ∧ (q.poisoned = false → State.writeFits q = true → q.off / 0x100000 % 64 = s.rlNode →
          exec (.remoteAccess (.write q)) s = .next (State.writeDwords 51 q.dwords (q.off % 0x100000) s))
        ∧ (∀ xs, q.poisoned = false → State.writeFits q = true → q.off / 0x100000 % 64 ≠ s.rlNode →
          State.remoteWrites (q.off / 0x100000 % 64) q.dwords (q.off % 0x100000) = xs →
          (s.isSet Reg.RLC_ROOT_IS_ROOT = true → s.rlSends = true →
            ∃ t, exec (.remoteAccess (.write q)) s = .next t ∧ t.regs = s.regs ∧ t.rl.queue = s.rl.queue ++ xs)
          ∧ (s.isSet Reg.RLC_ROOT_IS_ROOT = false →
            ∃ t, exec (.remoteAccess (.write q)) s = .next t ∧ t.rl.queue = s.rl.queue
              ∧ t.fld (Reg.RLC_CNT_COUNT 15) = (s.fld (Reg.RLC_CNT_COUNT 15) + xs.length) % 2 ^ 36)))
    ∧ (s.rlHolds = true → s.isSet Reg.RLC_ROOT_IS_ROOT = true → s.guardOpen = true →
        (s.rl.rqBackoff = none → s.rl.queue = [] →
          ∃ t, exec .rqSlot s = .next t ∧ t.rl.sending = some 80 ∧ t.rl.rqSent = true ∧ t.rl.turn = s.rl.turn + 1
            ∧ t.regs = s.regs ∧ t.rl.waiting = s.rl.waiting)
        ∧ (∀ x, s.rl.rqBackoff = none → s.rl.queue = [x] → x.data = none → x.count = 1 →
          ∃ t, exec .rqSlot s = .next t ∧ t.rl.sending = some 80 ∧ t.rl.queue = []
            ∧ t.rl.waiting = s.rl.waiting ++ [{ x with tag := s.rl.nextTag % 256 }])
        ∧ (s.rl.rqBackoff = none →
          ∃ t, exec .rqSlot s = .next t ∧ t.rl.sending = some 80 ∧ t.rl.rqSent = true
            ∧ t.rl.waiting = s.rl.waiting ++ State.tagged s.rl.nextTag s.chooseReads ∧ t.regs = s.regs)
        ∧ (∀ x w, s.rl.queue = [x] → x.data = some w →
          ∃ t, exec .wrSlot s = .next t ∧ t.rl.sending = some 81 ∧ t.rl.queue = []
            ∧ (x.far = true → t.isSet Reg.RLC_FAR_CMD_BUSY = false ∧ t.isSet Reg.RLC_FAR_CMD_FAILED = false))
        ∧ ((∀ x ∈ s.rl.queue, x.data = none) → ∃ t, exec .wrSlot s = .next t ∧ t.rl = s.rl ∧ t.regs = s.regs))
    ∧ (s.rlSends = true → s.rl.grant = some s.rlNode → s.guardOpen = true →
        ∃ t, exec .rsSlot s = .next t ∧ t.rl.sending = some 82 ∧ t.hostIf.remotePending = false ∧ t.regs = s.regs)
    ∧ (∀ fixed off tag rest, s.rl.records = .read fixed s.rlNode 0 1 off tag :: rest →
        (s.isSet Reg.RLC_CFG_REMOTE_EN = false →
          ∃ t, exec (if fixed then .readFixed else .readRecord) s = .next t ∧ t.rl.records = rest
            ∧ t.rl.replies = s.rl.replies ++ [.fail s.rlNode 3 off tag] ∧ t.regs = s.regs ∧ t.mem = s.mem)
        ∧ (∀ w ok t, s.isSet Reg.RLC_CFG_REMOTE_EN = true → s.popRecord.busRead 52 off = (w, ok, t) →
          exec (if fixed then .readFixed else .readRecord) s
            = .next ((t.rlCount 14).reply (.readData s.rlNode 0 1 off tag [w.getD 0]))))
    ∧ (∀ fixed size count off tag rest, s.rl.records = .read fixed s.rlNode size count off tag :: rest →
        s.isSet Reg.RLC_CFG_REMOTE_EN = true →
        ∃ t ws, exec (if fixed then .readFixed else .readRecord) s = .next t ∧ t.rl.records = rest
          ∧ t.rl.replies = s.rl.replies ++ [.readData s.rlNode size ws.length off tag ws]
          ∧ ws.length = (if size = 1 ∨ size = 2 then 1 else count)
          ∧ (∀ w p u, size = 1 → s.popRecord.readLow 52 off = (w, p, u) → ws = [Word.ofN w])
          ∧ (∀ w p u, size = 2 → s.popRecord.readHigh 52 off = (w, p, u) → ws = [Word.ofN w])
          ∧ (size = 0 → ws = (State.recordRead fixed count off s.popRecord).1))
    ∧ (∀ fixed node size count off tag rest, s.rl.records = .read fixed node size count off tag :: rest → node ≠ s.rlNode →
        exec (if fixed then .readFixed else .readRecord) s = .next s.popRecord)
    ∧ (∀ fixed off tag w rest, s.rl.records = .write fixed s.rlNode 0 off tag [w] :: rest →
        (s.isSet Reg.RLC_CFG_REMOTE_EN = false →
          ∃ t, exec (if fixed then .writeFixed else .writeRecord) s = .next t ∧ t.rl.records = rest
            ∧ t.rl.replies = s.rl.replies ++ [.fail s.rlNode 3 off tag] ∧ t.regs = s.regs ∧ t.mem = s.mem)
        ∧ (s.isSet Reg.RLC_CFG_REMOTE_EN = true →
          exec (if fixed then .writeFixed else .writeRecord) s = .next ((s.popRecord.busWrite 52 off w).rlCount 14)))
    ∧ (∀ fixed size off tag ws rest, s.rl.records = .write fixed s.rlNode size off tag ws :: rest →
        s.isSet Reg.RLC_CFG_REMOTE_EN = true →
        (size = 0 → exec (if fixed then .writeFixed else .writeRecord) s
          = .next ((State.recordWrite fixed ws off s.popRecord).rlCount 14))
        ∧ (size = 1 → exec (if fixed then .writeFixed else .writeRecord) s
          = .next ((s.popRecord.writeLow 52 off ((ws.getD 0 0).field 31 0)).rlCount 14))
        ∧ (size = 2 → exec (if fixed then .writeFixed else .writeRecord) s
          = .next ((s.popRecord.writeHigh 52 off ((ws.getD 0 0).field 31 0)).rlCount 14)))
    ∧ (∀ fixed node size off tag ws rest, s.rl.records = .write fixed node size off tag ws :: rest → node ≠ s.rlNode →
        exec (if fixed then .writeFixed else .writeRecord) s = .next s.popRecord)
    ∧ (∀ n rest, s.rl.records = .grant n :: rest →
        ∃ t, exec .grant s = .next t ∧ t.rl.grant = n ∧ t.rl.records = rest ∧ t.regs = s.regs)
    ∧ (∀ x off tag w rest, s.rl.records = .readData x.node 0 1 off tag [w] :: rest → s.rl.waiting = [x] → x.tag = tag →
        ∃ t, exec .readData s = .next t ∧ t.rl.waiting = [] ∧ t.rl.records = rest
          ∧ (x.far = false → t.outs = .read 51 w false :: s.outs)
          ∧ (x.far = true → t.reg Reg.RLC_FAR_DATA = w ∧ t.isSet Reg.RLC_FAR_CMD_BUSY = false
              ∧ t.isSet Reg.RLC_FAR_CMD_FAILED = false))
    ∧ (∀ x size count off tag ws rest, s.rl.records = .readData x.node size count off tag ws :: rest →
        s.rl.waiting = [x] → x.tag = tag →
        ∃ t, exec .readData s = .next t ∧ t.rl.waiting = [] ∧ t.rl.records = rest
          ∧ (x.far = false → size = 0 → t.outs = (ws.map (fun w => Out.read 51 w false)).reverse ++ s.outs)
          ∧ (x.far = false → size ≠ 0 → t.outs = .readHalf 51 ((ws.getD 0 0).toNat % 2 ^ 32) false :: s.outs))
    ∧ (∀ x reason off rest, s.rl.records = .fail x.node reason off x.tag :: rest → s.rl.waiting = [x] →
        ∃ t, exec .failRecord s = .next t ∧ t.rl.records = rest ∧ t.rl.waiting = [] ∧ t.eventStat 135 = true
          ∧ t.fld (Reg.RLC_CNT_COUNT 15) = (s.fld (Reg.RLC_CNT_COUNT 15) + 1) % 2 ^ 36
          ∧ (x.far = true → t.isSet Reg.RLC_FAR_CMD_BUSY = false ∧ t.isSet Reg.RLC_FAR_CMD_FAILED = true))
    ∧ (∀ node reason off tag rest, s.rl.records = .fail node reason off tag :: rest → s.rl.waiting = [] →
        ∃ t, exec .failRecord s = .next t ∧ t.rl.records = rest ∧ t.eventStat 135 = true
          ∧ t.reg Reg.RLC_FAIL = Word.ofN (2 ^ 35 + 2 ^ 29 * (reason % 8) + 2 ^ 6 * (off / 8 % 2 ^ 23) + node % 64)
          ∧ t.fld (Reg.RLC_CNT_COUNT 15) = (s.fld (Reg.RLC_CNT_COUNT 15) + 1) % 2 ^ 36)
    ∧ (∀ n rest, n < 64 → s.rl.records = .event n :: rest →
        ∃ t, exec .eventRecord s = .next t ∧ t.rl.records = rest ∧ (t.reg (Reg.RLC_REVT (n / 32))).bit (n % 32) = true
          ∧ t.eventStat 136 = true)
    ∧ (∀ rest, s.rl.records = .done :: rest →
        ∃ t, exec .endRecord s = .next t ∧ t.rl.records = rest ∧ t.regs = s.regs)
    ∧ (∀ x rest, s.rl.waiting = x :: rest →
        ∃ t, exec .remoteReadTimeout s = .next t ∧ t.rl.waiting = rest ∧ t.eventStat 135 = true
          ∧ t.reg Reg.RLC_FAIL = Word.ofN (2 ^ 35 + 2 ^ 29 * 2 + 2 ^ 6 * (x.off / 8 % 2 ^ 23) + x.node % 64)
          ∧ t.fld (Reg.RLC_CNT_COUNT 15) = (s.fld (Reg.RLC_CNT_COUNT 15) + 1) % 2 ^ 36)
    ∧ (∀ a (node : Fin 64), s.isSet Reg.RLC_FAR_CMD_BUSY = false → s.isSet Reg.RLC_ROOT_IS_ROOT = true →
        s.rlSends = true →
        (∃ t, exec (.farRead a node) s = .next t ∧ t.isSet Reg.RLC_FAR_CMD_BUSY = true
          ∧ t.isSet Reg.RLC_FAR_CMD_FAILED = false
          ∧ t.rl.queue = s.rl.queue ++ [{ node := node, off := s.fld Reg.RLC_FAR_ADDR_ADDR, size := 0, data := none
                                          far := true }])
        ∧ (∃ t, exec (.farWrite a node) s = .next t ∧ t.isSet Reg.RLC_FAR_CMD_BUSY = true
          ∧ t.isSet Reg.RLC_FAR_CMD_FAILED = false
          ∧ t.rl.queue = s.rl.queue ++ [{ node := node, off := s.fld Reg.RLC_FAR_ADDR_ADDR, size := 0
                                          data := some (s.reg Reg.RLC_FAR_DATA), far := true }]))
    ∧ (∀ a (node : Fin 64), s.isSet Reg.RLC_FAR_CMD_BUSY = false → s.isSet Reg.RLC_ROOT_IS_ROOT = false →
        (∃ t, exec (.farRead a node) s = .next t ∧ t.isSet Reg.RLC_FAR_CMD_BUSY = false
          ∧ t.isSet Reg.RLC_FAR_CMD_FAILED = true ∧ t.eventStat 135 = true ∧ t.rl = s.rl)
        ∧ (∃ t, exec (.farWrite a node) s = .next t ∧ t.isSet Reg.RLC_FAR_CMD_BUSY = false
          ∧ t.isSet Reg.RLC_FAR_CMD_FAILED = true ∧ t.eventStat 135 = true ∧ t.rl = s.rl))
    ∧ (∀ a (node : Fin 64), s.isSet Reg.RLC_FAR_CMD_BUSY = true →
        exec (.farRead a node) s = .next (s.reject a Reg.RLC_FAR_CMD)
        ∧ exec (.farWrite a node) s = .next (s.reject a Reg.RLC_FAR_CMD))

/-- The procedure of R363 keeps the correction within the range of the correct values: where no more values than it discards
at each end lie outside a range, its result lies in the range (R363, R366). -/
def Obligations.MidpointIgnoresFaultyValues : Prop :=
  ∀ (xs : List Int) (lo hi : Int), xs ≠ [] →
    (xs.filter (fun x => decide (x < lo ∨ hi < x))).length
      ≤ (if xs.length ≤ 2 then 0 else if xs.length ≤ 7 then 1 else 2) →
    lo ≤ midpoint xs ∧ midpoint xs ≤ hi


/-- The CAN channels' modes, transmit entries, timed frames and outcomes (R387, R390 to R397, R402). -/
def Obligations.CanTransmissionCommands : Prop :=
  ∀ (s : State) (c : Fin 8), s.held = false →
    (∀ a, s.isSet (Reg.CAN_CTRL_EN c) = false → s.canState c = 0 →
        ∃ t, exec (.canEnable a c) s = .next t ∧ t.canState c = 1 ∧ t.isSet (Reg.CAN_CTRL_EN c) = true
          ∧ t.eventStat 144 = true ∧ (t.reg (Reg.CAN_EVTSTAT c)).bit 0 = true ∧ t.mem = s.mem)
    ∧ (∀ a, (s.isSet (Reg.CAN_CTRL_EN c) = true ∨ s.canState c ≠ 0) → s.canState c ≠ 4 →
        ∃ t, exec (.canEnable a c) s = .next t ∧ t.isSet (Reg.CAN_CTRL_EN c) = true ∧ t.canState c = s.canState c
          ∧ (s.isSet (Reg.CAN_CTRL_EN c) = false → (t.can c).stopping = false))
    ∧ (∀ a, s.isSet (Reg.CAN_CTRL_EN c) = true → s.canState c ≠ 0 → (s.can c).attempt = none →
        ∃ t, exec (.canDisable a c false) s = .next t ∧ t.canState c = 0 ∧ t.isSet (Reg.CAN_CTRL_EN c) = false
          ∧ t.eventStat 144 = true ∧ (t.can c).fifo = (s.can c).fifo ∧ (t.can c).buffers = (s.can c).buffers)
    ∧ (∀ a busy, s.isSet (Reg.CAN_CTRL_EN c) = true → busy = true ∨ (s.can c).attempt.isSome = true →
        ∃ t, exec (.canDisable a c busy) s = .next t ∧ t.isSet (Reg.CAN_CTRL_EN c) = false ∧ (t.can c).stopping = true
          ∧ t.canState c = s.canState c ∧ (t.can c).attempt = (s.can c).attempt)
    ∧ (∀ dt, s.canState c = 1 → (s.can c).tec ≤ 255 →
        ∃ t, exec (.integrationDone c dt) s = .next t
          ∧ t.canState c = (if 127 < (s.can c).tec ∨ 127 < (s.can c).rec_ then 3 else 2)
          ∧ t.clk = s.clk + s.untilPll dt ∧ (t.can c).grid = t.clk - t.tbu.time % 128 ∧ t.eventStat 144 = true)
    ∧ (∀ a x, x = { words := (List.range 18).map (fun w => s.agentReg a (Reg.CAN_TXSTAGE c w)), source := 0 } →
        x.ok (s.isSet (Reg.CAN_CFG_FD_EN c)) = true →
        ((s.can c).fifo.length < 32 →
          ∃ t, exec (.txPush a c) s = .next t ∧ (t.can c).fifo = (s.can c).fifo ++ [x] ∧ t.regs = s.regs
            ∧ ∀ w < 18, t.agentReg a (Reg.CAN_TXSTAGE c w) = 0)
        ∧ ((s.can c).prio = none →
          ∃ t, exec (.txPrio a c) s = .next t ∧ (t.can c).prio = some { x with source := 1 } ∧ t.regs = s.regs
            ∧ (t.can c).fifo = (s.can c).fifo ∧ ∀ w < 18, t.agentReg a (Reg.CAN_TXSTAGE c w) = 0))
    ∧ (∀ a, (32 ≤ (s.can c).fifo.length →
            exec (.txPush a c) s = .next ((s.canCount c 16).reject a (Reg.CAN_TXCMD c)))
          ∧ ((s.can c).prio.isSome = true →
            exec (.txPrio a c) s = .next ((s.canCount c 16).reject a (Reg.CAN_TXCMD c)))
          ∧ (∀ x : CanEntry, x.words = (List.range 18).map (fun w => s.agentReg a (Reg.CAN_TXSTAGE c w)) →
            x.ok (s.isSet (Reg.CAN_CFG_FD_EN c)) = false →
            exec (.txPush a c) s = .next ((s.canCount c 16).reject a (Reg.CAN_TXCMD c))
            ∧ exec (.txPrio a c) s = .next ((s.canCount c 16).reject a (Reg.CAN_TXCMD c))))
    ∧ (∀ q, s.canNext c 1 = some q →
        CanEntry.ok { words := s.timedWords c (q.arg % 4), source := 2 + q.arg % 4 } (s.isSet (Reg.CAN_CFG_FD_EN c)) = true →
        ∃ t x, exec (.sendAt c) s = .next t ∧ (t.can c).timed = (s.can c).timed ++ [x]
          ∧ x.words = s.timedWords c (q.arg % 4) ∧ x.source = 2 + q.arg % 4 ∧ x.due = q.due
          ∧ x.opens = t.canBoundary c t.clk ∧ x.closes = x.opens + q.arg / 4 % 256 * s.canBit c ∧ q ∉ t.posted)
    ∧ ((s.can c).records.length < 32 → s.isSet (Reg.CAN_CFG_DONE_EN c) = false →
        (∀ q x, s.canNext c 2 = some q → q.arg % 8 = 1 → (s.can c).prio = some x → x.source = 1 →
            (s.can c).attempt = none →
            ∃ t, exec (.cancelAt c) s = .next t ∧ (t.can c).prio = none ∧ q ∉ t.posted
              ∧ (t.can c).records = (s.can c).records ++ [{ outcome := 3, source := 1, tag := x.tag, tsw := 0 }]
              ∧ t.fld (Reg.CAN_CNT_COUNT c 10) = (s.fld (Reg.CAN_CNT_COUNT c 10) + 1) % 2 ^ 36)
        ∧ (∀ a tag x, (s.can c).prio = some x → x.source = 1 → (s.can c).attempt = none →
            ∃ t, exec (.txCancel a c 1 tag) s = .next t ∧ (t.can c).prio = none ∧ t.eventStat 146 = true
              ∧ (t.can c).records = (s.can c).records ++ [{ outcome := 3, source := 1, tag := x.tag, tsw := 0 }])
        ∧ (∀ a tag x y, (s.can c).prio = some x → (s.can c).attempt = some y → y.entry = x →
            ∃ t, exec (.txCancel a c 1 tag) s = .next t ∧ (t.can c).prio = some x
              ∧ (t.can c).attempt = some { y with cancelled := true } ∧ (t.can c).records = (s.can c).records)
        ∧ (∀ a tag x, (s.can c).fifo.find? (fun y => y.tag == tag % 2 ^ 16) = some x → x.source = 0 →
            (s.can c).attempt = none →
            ∃ t, exec (.txCancel a c 0 tag) s = .next t ∧ (t.can c).fifo = (s.can c).fifo.erase x
              ∧ (t.can c).records = (s.can c).records ++ [{ outcome := 3, source := 0, tag := x.tag, tsw := 0 }])
        ∧ (∀ a (src : Fin 8) tag x, 2 ≤ src.val → src.val ≤ 5 →
            (s.can c).timed.find? (fun y => y.source == src.val) = some x → (s.can c).attempt = none →
            ∃ t, exec (.txCancel a c src tag) s = .next t ∧ (t.can c).timed = (s.can c).timed.erase x
              ∧ (t.can c).records = (s.can c).records ++ [{ outcome := 3, source := src, tag := x.tag, tsw := 0 }])
        ∧ (∀ a (src : Fin 8) tag, 6 ≤ src.val →
            exec (.txCancel a c src tag) s = .next (s.reject a (Reg.CAN_TXCANCEL c)))
        ∧ (∀ q, s.canNext c 1 = some q →
            CanEntry.ok { words := s.timedWords c (q.arg % 4), source := 2 + q.arg % 4 } (s.isSet (Reg.CAN_CFG_FD_EN c))
              = false →
            ∃ t r, exec (.sendAt c) s = .next t ∧ (t.can c).timed = (s.can c).timed ∧ q ∉ t.posted
              ∧ (t.can c).records = (s.can c).records ++ [r] ∧ r.outcome = 0 ∧ r.source = 2 + q.arg % 4)
        ∧ (∀ x, (s.can c).timed = [x] → 2 ≤ x.source → (s.can c).attempt = none →
            ∃ t, exec (.windowClose c) s = .next t ∧ (t.can c).timed = [] ∧ t.eventStat 149 = true
              ∧ (t.can c).records = (s.can c).records ++ [{ outcome := 5, source := x.source, tag := x.tag, tsw := 0 }]
              ∧ t.fld (Reg.CAN_CNT_COUNT c 13) = (s.fld (Reg.CAN_CNT_COUNT c 13) + 1) % 2 ^ 36)
        ∧ (∀ y rest delay dt, (s.can c).attempt = some y → y.entry.source = 0 → (s.can c).fifo = y.entry :: rest →
            s.fld (Reg.CAN_CTRL_MODE c) = 0 →
            ∃ t, exec (.canTxEnd c (.sent delay) dt) s = .next t ∧ (t.can c).attempt = none ∧ (t.can c).fifo = rest
              ∧ (t.can c).records = (s.can c).records ++ [{ outcome := if y.cancelled then 2 else 1, source := 0
                                                            tag := y.entry.tag, tsw := y.tsw }]
              ∧ t.fld (Reg.CAN_CNT_COUNT c 5) = (s.fld (Reg.CAN_CNT_COUNT c 5) + 1) % 2 ^ 36
              ∧ (y.cancelled = true → t.eventStat 148 = true))
        ∧ (∀ y e dt, (s.can c).attempt = some y → y.cancelled = false →
            s.fld (Reg.CAN_CFG_CLASH_LIMIT c) ≤ y.entry.clashes + 1 →
            ∃ t, exec (.canTxEnd c (.error e true) dt) s = .next t ∧ (t.can c).attempt = none ∧ t.eventStat 147 = true
              ∧ (t.can c).records = (s.can c).records ++ [{ outcome := 4, source := y.entry.source
                                                            tag := y.entry.tag, tsw := 0 }]
              ∧ t.fld (Reg.CAN_CNT_COUNT c 8) = (s.fld (Reg.CAN_CNT_COUNT c 8) + 1) % 2 ^ 36
              ∧ t.fld (Reg.CAN_CNT_COUNT c 9) = (s.fld (Reg.CAN_CNT_COUNT c 9) + 1) % 2 ^ 36))
    ∧ (∀ y r dt, (s.can c).attempt = some y →
        ∃ t, exec (.canTxEnd c r dt) s = .next t ∧ (t.can c).attempt = none ∧ t.clk = s.clk + s.untilPll dt)
    ∧ (∀ x y, (s.can c).timed = [x] → (s.can c).attempt = some y → y.entry = x →
        ∃ t, exec (.windowClose c) s = .next t ∧ t.cans = s.cans ∧ t.regs = s.regs)
    ∧ (∀ y dt, (s.can c).attempt = some y → y.cancelled = false → y.entry.source ≤ 1 →
        s.isSet (Reg.CAN_CFG_DAR c) = false →
        ∃ t, exec (.canTxEnd c .lost dt) s = .next t ∧ (t.can c).attempt = none
          ∧ (t.can c).records = (s.can c).records ∧ (t.can c).fifo.length = (s.can c).fifo.length
          ∧ t.fld (Reg.CAN_CNT_COUNT c 7) = (s.fld (Reg.CAN_CNT_COUNT c 7) + 1) % 2 ^ 36)
    ∧ (∀ s1 e, s1 = s.advanceTo (s.canBoundary c s.clk) → s1.canMaySend c = true → s1.canCandidate c = some e →
        ∃ t, exec (.sofOpportunity c) s = .next t ∧ (t.can c).attempt = some { entry := e, tsw := t.tsw }
          ∧ t.clk = max s.clk (s.canBoundary c s.clk) ∧ t.regs = s.regs)
    ∧ (∀ a, ((s.can c).records = [] →
            exec (.txrecPop a c) s = .next (s.emit (.read a 0 false)))
          ∧ (∀ y rest, (s.can c).records = y :: rest →
            ∃ t, exec (.txrecPop a c) s = .next t ∧ (t.can c).records = rest
              ∧ t.outs = .read a (Word.ofN y.tsw) false :: s.outs))

/-- The order of candidates of R391: an open timed frame first, then the priority buffer unless the FIFO's oldest entry would
win arbitration against it (the order of arbitration fields is the model's, log 31). -/
def Obligations.CanCandidateOrder : Prop :=
  ∀ (s : State) (c : Nat),
    (∀ e ∈ (s.can c).timed, e.opens ≤ s.clk → s.tickAt s.clk ≤ s.tickAt e.closes →
        ∃ x ∈ (s.can c).timed, s.canCandidate c = some x ∧ x.opens ≤ s.clk ∧ s.tickAt s.clk ≤ s.tickAt x.closes
          ∧ s.timedBefore e x = false)
    ∧ ((∀ e ∈ (s.can c).timed, ¬ (e.opens ≤ s.clk ∧ s.tickAt s.clk ≤ s.tickAt e.closes)) →
        (∀ p f rest, (s.can c).prio = some p → (s.can c).fifo = f :: rest →
            s.canCandidate c = some (if f.rank < p.rank then f else p))
        ∧ (∀ f rest, (s.can c).prio = none → (s.can c).fifo = f :: rest → s.canCandidate c = some f)
        ∧ (∀ p, (s.can c).prio = some p → (s.can c).fifo = [] → s.canCandidate c = some p))

/-- Reception, the receive aperture, errors and bus-off of the CAN channels (R388, R398 to R402, R406). The code and step of an
error are operands; restricted operation apart, the counters step as the model presumes of ISO 11898-1 (log 31). -/
def Obligations.CanReceptionCommands : Prop :=
  ∀ (s : State) (c : Fin 8), s.held = false →
    (∀ f : CanFrame, (s.canState c = 2 ∨ s.canState c = 3) → s.fld (Reg.CAN_CTRL_MODE c) ≠ 3 →
        (∀ i, (List.range 32).find? (s.canMatches c f.ext f.ident) = some i → s.isSet (Reg.CAN_FLT_ID_TYPE c i) = true →
            ∃ t, exec (.canRxFrame c f) s = .next t ∧ (t.can c).buffers = (s.can c).buffers
              ∧ t.fld (Reg.CAN_CNT_COUNT c 0) = (s.fld (Reg.CAN_CNT_COUNT c 0) + 1) % 2 ^ 36
              ∧ t.fld (Reg.CAN_CNT_COUNT c 2) = (s.fld (Reg.CAN_CNT_COUNT c 2) + 1) % 2 ^ 36)
        ∧ ((List.range 32).find? (s.canMatches c f.ext f.ident) = none → s.isSet (Reg.CAN_CFG_ACCEPT_ALL c) = false →
            ∃ t, exec (.canRxFrame c f) s = .next t ∧ (t.can c).buffers = (s.can c).buffers
              ∧ t.fld (Reg.CAN_CNT_COUNT c 2) = (s.fld (Reg.CAN_CNT_COUNT c 2) + 1) % 2 ^ 36)
        ∧ (((List.range 32).find? (s.canMatches c f.ext f.ident) = none ∧ s.isSet (Reg.CAN_CFG_ACCEPT_ALL c) = true
              ∨ ∃ i, (List.range 32).find? (s.canMatches c f.ext f.ident) = some i
                ∧ s.isSet (Reg.CAN_FLT_ID_TYPE c i) = false) →
            ((Tab.get ({} : CanBuffer) (s.can c).next (s.can c).buffers).full = false →
              ∃ t b, exec (.canRxFrame c f) s = .next t
                ∧ Tab.get ({} : CanBuffer) (s.can c).next (t.can c).buffers = b ∧ b.full = true ∧ b.lock = none
                ∧ b.words.getD 0 0 = State.canHead f ∧ (b.words.getD 2 0).toNat % 16 = 0
                ∧ b.words.getD 19 0 = Word.ofN (s.can c).dropped
                ∧ (t.can c).next = ((s.can c).next + 1) % 64 ∧ (t.can c).dropped = 0)
            ∧ ((Tab.get ({} : CanBuffer) (s.can c).next (s.can c).buffers).full = true →
              ∃ t, exec (.canRxFrame c f) s = .next t ∧ (t.can c).buffers = (s.can c).buffers ∧ t.eventStat 145 = true
                ∧ t.fld (Reg.CAN_CNT_COUNT c 3) = (s.fld (Reg.CAN_CNT_COUNT c 3) + 1) % 2 ^ 36)))
    ∧ (∀ a n b, (s.agentReg a (Reg.CAN_RXSEL c)).field 5 0 = n → Tab.get ({} : CanBuffer) n (s.can c).buffers = b →
        (b.full = true → b.lock = none →
          ∃ t, exec (.rxWord0Read a c) s = .next t
            ∧ Tab.get ({} : CanBuffer) n (t.can c).buffers = { b with lock := some a }
            ∧ t.outs = .read a ((b.words.getD 0 0).setField 35 35 1) false :: s.outs)
        ∧ (∀ h, b.full = true → b.lock = some h → h ≠ a →
          exec (.rxWord0Read a c) s = .next (s.emit (.read a (Word.ofN (2 ^ 34)) false)))
        ∧ (b.full = true → b.lock = some a →
          exec (.rxWord0Read a c) s = .next (s.emit (.read a ((b.words.getD 0 0).setField 35 35 1) false)))
        ∧ (b.full = false → exec (.rxWord0Read a c) s = .next (s.emit (.read a 0 false)))
        ∧ (b.lock = some a →
          ∃ t, exec (.rxWord19Read a c) s = .next t ∧ Tab.get ({} : CanBuffer) n (t.can c).buffers = {}
            ∧ t.outs = .read a (b.words.getD 19 0) false :: s.outs)
        ∧ (b.lock ≠ some a → exec (.rxWord19Read a c) s = .next (s.emit (.read a 0 false))))
    ∧ (∀ a (n : Fin 64), Tab.get ({} : CanBuffer) n (s.can c).buffers ≠ {} →
        (Tab.get ({} : CanBuffer) n (s.can c).buffers).full = true → (a = 49 ∨ a = 50 ∨ a = 51) →
        ∃ t, exec (.rxForce a c n) s = .next t ∧ Tab.get ({} : CanBuffer) n (t.can c).buffers = {}
          ∧ t.fld (Reg.CAN_CNT_COUNT c 4) = (s.fld (Reg.CAN_CNT_COUNT c 4) + 1) % 2 ^ 36)
    ∧ (∀ a (n : Fin 64), a ≠ 49 → a ≠ 50 → a ≠ 51 →
        exec (.rxForce a c n) s = .next (s.reject a (Reg.CAN_RXFORCE c)))
    ∧ (∀ (e : CanError) dt, s.canState c = 2 → s.fld (Reg.CAN_CTRL_MODE c) = 0 →
        ∃ t, exec (.receiveError c e false dt) s = .next t ∧ t.fld (Reg.CAN_ERRINFO_LEC c) = e.lec
          ∧ t.fld (Reg.CAN_ERRINFO_DATA_PHASE c) = bit01 e.dataPhase
          ∧ (t.can c).rec_ = min 255 ((s.can c).rec_ + 1 + 8 * e.eights)
          ∧ t.fld (Reg.CAN_CNT_COUNT c 14) = (s.fld (Reg.CAN_CNT_COUNT c 14) + 1) % 2 ^ 36)
    ∧ (∀ a (n : Fin 64), (Tab.get ({} : CanBuffer) n (s.can c).buffers).full = false → (a = 49 ∨ a = 50 ∨ a = 51) →
        exec (.rxForce a c n) s = .next s)
    ∧ (∀ (e : CanError) dt, (s.canState c = 2 ∨ s.canState c = 3) → s.fld (Reg.CAN_CTRL_MODE c) ≠ 3 →
        (∃ t, exec (.receiveError c e false dt) s = .next t ∧ t.fld (Reg.CAN_ERRINFO_LEC c) = e.lec
          ∧ t.fld (Reg.CAN_ERRINFO_DATA_PHASE c) = bit01 e.dataPhase
          ∧ (t.can c).rec_ = (if s.fld (Reg.CAN_CTRL_MODE c) = 2 then (s.can c).rec_
              else min 255 ((s.can c).rec_ + 1 + 8 * e.eights)))
        ∧ (s.isSet (Reg.CAN_CFG_FD_EN c) = true → exec (.receiveError c e true dt) s = .next (s.elapse dt))
        ∧ (s.isSet (Reg.CAN_CFG_FD_EN c) = false → s.isSet (Reg.CAN_CFG_PXHD c) = true →
          ∃ t, exec (.receiveError c e true dt) s = .next t ∧ t.fld (Reg.CAN_ERRINFO_LEC c) = 2
            ∧ t.fld (Reg.CAN_ERRINFO_DATA_PHASE c) = 0))
    ∧ (∀ (e : CanError) dt, s.canState c = 2 → s.fld (Reg.CAN_CTRL_MODE c) = 0 → s.isSet (Reg.CAN_CFG_FD_EN c) = false →
        s.isSet (Reg.CAN_CFG_PXHD c) = false → (s.can c).stopping = false →
        ∃ t, exec (.receiveError c e true dt) s = .next t ∧ t.canState c = 1 ∧ t.eventStat 144 = true
          ∧ t.fld (Reg.CAN_CNT_COUNT c 15) = (s.fld (Reg.CAN_CNT_COUNT c 15) + 1) % 2 ^ 36)
    ∧ (∀ a, s.isSet (Reg.CAN_CTRL_EN c) = true → s.canState c = 4 →
        ∃ t, exec (.boRecover a c) s = .next t ∧ (t.can c).recovering = true ∧ t.canState c = 4)
    ∧ (∀ dt, s.canState c = 4 → (s.can c).recovering = true →
        ∃ t, exec (.busOffRecovered c dt) s = .next t ∧ t.canState c = 2 ∧ t.fld (Reg.CAN_STAT_TEC c) = 0
          ∧ t.fld (Reg.CAN_STAT_REC c) = 0 ∧ t.eventStat 144 = true ∧ (t.can c).fifo = (s.can c).fifo)
    ∧ (∀ a, ∃ t v, exec (.errinfoRead a c) s = .next t ∧ t.outs = .read a v false :: s.outs
        ∧ v.field 3 0 = (s.reg (Reg.CAN_ERRINFO c)).field 3 0 ∧ (t.reg (Reg.CAN_ERRINFO c)).field 3 0 = 0
        ∧ (t.reg (Reg.CAN_ERRINFO c)).field 13 4 = (s.reg (Reg.CAN_ERRINFO c)).field 13 4)


/-- The instructions of a Tor channel: each completes in the channel's next step with the result of R414, traps as R415 says, or
stalls or stops as R414 and R418 say. -/
def Obligations.TorInstructionCommands : Prop :=
  ∀ (s : State) (c : Fin 64) (x : TorChannel) (next : Nat), s.held = false → s.torCh c = x → s.torNextPc c = next →
    (s.torReady c .halt = true →
        ∃ t, exec (.torHalt c) s = .next t ∧ (t.torCh c).run = .stopped ∧ (t.torCh c).pc = next ∧ t.tor.out = s.tor.out
          ∧ t.tor.oe = s.tor.oe ∧ t.regs = s.regs
          ∧ t.torCh c = { x with run := .stopped, pc := next, tm := (s.torAtStep c).tmAt c t.clk, stampAt := none
                                 lastStep := some t.clk })
    ∧ (∀ k p (tg : Fin 64) prev pins, s.torReady c (.br k p tg) = true →
        (tg.val ≤ s.torFld c Reg.TOR_CH_CFG_LEN →
          (s.torCond c k p prev pins = true →
            ∃ t, exec (.torBr c prev pins) s = .next t ∧ (t.torCh c).goesOn tg = true
              ∧ (t.torCh c).x = (if k.val = 2 then x.x - 1 else x.x)
              ∧ (t.torCh c).y = (if k.val = 4 then x.y - 1 else x.y))
          ∧ (s.torCond c k p prev pins = false →
            ∃ t, exec (.torBr c prev pins) s = .next t ∧ (t.torCh c).goesOn next = true
              ∧ (t.torCh c).x = x.x ∧ (t.torCh c).y = x.y))
        ∧ (s.torFld c Reg.TOR_CH_CFG_LEN < tg.val →
          ∃ t, exec (.torBr c prev pins) s = .next t ∧ (t.torCh c).run = .stopped ∧ (t.torCh c).pc = x.pc
            ∧ (t.torCh c).cause = 2 ∧ t.eventStat 152 = true
            ∧ t.fld (Reg.TOR_CNT_COUNT (torUnit c) 2) = (s.fld (Reg.TOR_CNT_COUNT (torUnit c) 2) + 1) % 2 ^ 36))
    ∧ (∀ (n : Fin 16384) tm, s.torReady c (.beat n) = true → x.run = .running →
        (s.torAtStep c).tmAt c (s.torAtStep c).clk = tm →
        (tm = n.val → ∃ t, exec (.torBeat c) s = .next t ∧ (t.torCh c).goesOn next = true ∧ (t.torCh c).tm = 0
          ∧ (t.torCh c).tmAt = t.clk + 640 ∧ t.regs = s.regs)
        ∧ (n.val < tm → ∃ t, exec (.torBeat c) s = .next t ∧ (t.torCh c).goesOn next = true ∧ (t.torCh c).tm = 0
          ∧ t.isSet (Reg.TOR_CH_STAT_BEAT_SLIP (torUnit c) (torPos c)) = true)
        ∧ (tm < n.val → ∃ t, exec (.torBeat c) s = .next t ∧ (t.torCh c).run = .stalled ∧ (t.torCh c).pc = x.pc
          ∧ t.regs = s.regs))
    ∧ (∀ level p prev pins, s.torReady c (.await_ level false p) = true →
        (s.inputPin c pins p = level →
          ∃ t, exec (.torAwait c 0 prev pins) s = .next t ∧ (t.torCh c).goesOn next = true ∧ t.regs = s.regs)
        ∧ (s.inputPin c pins p ≠ level →
          ∃ t, exec (.torAwait c 0 prev pins) s = .next t ∧ (t.torCh c).run = .stalled ∧ (t.torCh c).pc = x.pc
            ∧ t.regs = s.regs))
    ∧ (∀ dt v level edge p prev pins, s.elapse dt = v → v.torReady c (.await_ level edge p) = true →
        (s.inputPin c pins p = level → (edge = true → s.inputPin c prev p ≠ level) →
          ∃ t, exec (.torAwait c dt prev pins) s = .next t ∧ (t.torCh c).goesOn (v.torNextPc c) = true ∧ t.regs = s.regs)
        ∧ ((s.inputPin c pins p ≠ level ∨ edge = true ∧ s.inputPin c prev p = level) →
          ∃ t, exec (.torAwait c dt prev pins) s = .next t ∧ (t.torCh c).run = .stalled ∧ (t.torCh c).pc = x.pc
            ∧ t.regs = s.regs))
    ∧ (∀ (n : Fin 16384) u, s.torReady c (.beat n) = true → x.run = .stalled → s.torAtStep c = u →
        ∃ t, exec (.torBeat c) s = .next t ∧ (t.torCh c).goesOn next = true ∧ (t.torCh c).tm = 0
          ∧ t.clk = u.clk + (n.val - u.tmAt c u.clk) * 640 ∧ t.regs = s.regs)
    ∧ (∀ (src : Fin 6) (n : Fin 32) pins d, s.torReady c (.take src n) = true →
        (match src.val with
          | 0 => s.inputs c pins (orAll n)
          | 1 => x.x % 2 ^ orAll n
          | 2 => x.y % 2 ^ orAll n
          | 3 => 0
          | 4 => 2 ^ orAll n - 1
          | _ => (x.shiftOut (s.torMsb c) (orAll n)).1) = d →
        ∃ t, exec (.torTake c pins) s = .next t ∧ (t.torCh c).goesOn next = true
          ∧ (t.torCh c).is_ = (x.shiftIn (s.torMsb c) (orAll n) d).is_ ∧ (t.torCh c).icnt = min 32 (x.icnt + orAll n)
          ∧ (t.torCh c).ocnt = (if src.val = 5 then x.ocnt - orAll n else x.ocnt)
          ∧ (t.torCh c).x = x.x ∧ (t.torCh c).y = x.y ∧ t.tor.out = s.tor.out ∧ t.regs = s.regs)
    ∧ (∀ (dst : Fin 6) (n : Fin 32) v y, s.torReady c (.emit dst n) = true →
        x.shiftOut (s.torMsb c) (orAll n) = (v, y) →
        ∃ t, exec (.torEmit c) s = .next t ∧ (t.torCh c).goesOn next = true ∧ (t.torCh c).os = y.os
          ∧ (t.torCh c).ocnt = y.ocnt ∧ (t.torCh c).x = (if dst.val = 1 then v else x.x)
          ∧ (t.torCh c).y = (if dst.val = 2 then v else x.y)
          ∧ (t.torCh c).is_ = (if dst.val = 5 then (y.shiftIn (s.torMsb c) (orAll n) v).is_ else x.is_)
          ∧ (dst.val ≠ 0 → t.tor.out = s.tor.out) ∧ (dst.val ≠ 4 → t.tor.oe = s.tor.oe)
          ∧ (∀ j pin, j < orAll n → j < s.torFld c Reg.TOR_CH_PINS_OG_WIDTH →
              (s.torFld c Reg.TOR_CH_PINS_OG_BASE + j) % 64 = pin → s.ownsPin c pin = true →
              (dst.val = 0 → t.tor.out.testBit pin = v.testBit j) ∧ (dst.val = 4 → t.tor.oe.testBit pin = v.testBit j)))
    ∧ (∀ ifFull noWait, s.torReady c (.send ifFull noWait) = true →
        (ifFull = true → x.icnt < s.isLimit c →
          ∃ t, exec (.torSend c) s = .next t ∧ (t.torCh c).goesOn next = true ∧ (t.torCh c).rxq = x.rxq
            ∧ (t.torCh c).is_ = x.is_ ∧ t.regs = s.regs)
        ∧ ((ifFull = true → s.isLimit c ≤ x.icnt) → s.rxqFull c = false →
          ∃ t, exec (.torSend c) s = .next t ∧ (t.torCh c).goesOn next = true ∧ (t.torCh c).rxq = x.rxq ++ [x.is_]
            ∧ (t.torCh c).is_ = 0 ∧ (t.torCh c).icnt = 0))
    ∧ (∀ ifEmpty noWait, s.torReady c (.fetch ifEmpty noWait) = true →
        (ifEmpty = true → x.ocnt ≠ 0 →
          ∃ t, exec (.torFetch c) s = .next t ∧ (t.torCh c).goesOn next = true ∧ (t.torCh c).os = x.os
            ∧ (t.torCh c).txq = x.txq ∧ t.regs = s.regs)
        ∧ ((ifEmpty = true → x.ocnt = 0) →
          (∀ w rest, x.txq = w :: rest →
            ∃ t, exec (.torFetch c) s = .next t ∧ (t.torCh c).goesOn next = true ∧ (t.torCh c).os = w
              ∧ (t.torCh c).ocnt = s.osLoad c ∧ (t.torCh c).txq = rest)
          ∧ (x.txq = [] → noWait = true →
            ∃ t, exec (.torFetch c) s = .next t ∧ (t.torCh c).goesOn next = true ∧ (t.torCh c).os = x.os
              ∧ t.isSet (Reg.TOR_CH_STAT_FETCH_MISSED (torUnit c) (torPos c)) = true)
          ∧ (x.txq = [] → noWait = false → s.torFld c Reg.TOR_CH_SHIFT_STRICT = 0 →
            ∃ t, exec (.torFetch c) s = .next t ∧ (t.torCh c).run = .stalled ∧ (t.torCh c).pc = x.pc ∧ t.regs = s.regs)))
    ∧ (∀ (dst : Fin 5) (imm : Fin 2048), s.torReady c (.load dst imm) = true →
        ∃ t, exec (.torLoad c) s = .next t ∧ (t.torCh c).goesOn next = true ∧ t.regs = s.regs
          ∧ (t.torCh c).x = (if dst.val = 1 then imm.val else x.x) ∧ (t.torCh c).y = (if dst.val = 2 then imm.val else x.y)
          ∧ (dst.val = 4 → (t.torCh c).tm = imm) ∧ (dst.val ≠ 4 → (t.torCh c).tm = x.tm)
          ∧ (dst.val ≠ 0 → t.tor.out = s.tor.out) ∧ (dst.val ≠ 3 → t.tor.oe = s.tor.oe)
          ∧ (∀ j pin, j < 11 → j < s.torFld c Reg.TOR_CH_PINS_OG_WIDTH →
              (s.torFld c Reg.TOR_CH_PINS_OG_BASE + j) % 64 = pin → s.ownsPin c pin = true →
              (dst.val = 0 → t.tor.out.testBit pin = imm.val.testBit j)
              ∧ (dst.val = 3 → t.tor.oe.testBit pin = imm.val.testBit j)))
    ∧ (∀ (dst : Fin 6) (src : Fin 8) (op : Fin 4) pins u v, s.torReady c (.copy dst src op) = true → s.torAtStep c = u →
        copyOp op (match src.val with
          | 0 => s.inputs c pins 32
          | 1 => x.x
          | 2 => x.y
          | 3 => x.is_
          | 4 => x.os
          | 5 => u.tmAt c u.clk
          | 6 => s.torLevels c
          | _ => 0) = v →
        ∃ t, exec (.torCopy c pins) s = .next t ∧ (t.torCh c).goesOn next = true ∧ t.regs = s.regs
          ∧ (t.torCh c).x = (if dst.val = 1 then v else x.x) ∧ (t.torCh c).y = (if dst.val = 2 then v else x.y)
          ∧ (t.torCh c).is_ = (if dst.val = 3 then v else x.is_) ∧ (t.torCh c).icnt = (if dst.val = 3 then 0 else x.icnt)
          ∧ (t.torCh c).os = (if dst.val = 4 then v else x.os)
          ∧ (t.torCh c).ocnt = (if dst.val = 4 then s.osLoad c else x.ocnt)
          ∧ (∀ j pin, j < 32 → j < s.torFld c Reg.TOR_CH_PINS_OG_WIDTH →
              (s.torFld c Reg.TOR_CH_PINS_OG_BASE + j) % 64 = pin → s.ownsPin c pin = true →
              (dst.val = 0 → t.tor.out.testBit pin = v.testBit j) ∧ (dst.val = 5 → t.tor.oe.testBit pin = v.testBit j)))
    ∧ (∀ imm : Fin 8192, s.torReady c (.add true imm) = true →
        ∃ t, exec (.torAdd c) s = .next t ∧ (t.torCh c).goesOn next = true ∧ (t.torCh c).x = x.x
          ∧ (((t.torCh c).y : Int) - (x.y + signed 13 imm)) % 2 ^ 32 = 0 ∧ (t.torCh c).y < 2 ^ 32)
    ∧ (∀ noWait u, s.torReady c (.stamp noWait) = true → s.torAtStep c = u →
        (s.rxqFull c = false →
          ∃ t, exec (.torStamp c) s = .next t ∧ (t.torCh c).goesOn next = true ∧ (t.torCh c).is_ = x.is_
            ∧ (t.torCh c).rxq = x.rxq ++ [x.stampAt.getD u.tsw / 16] ∧ (t.torCh c).stampAt = none)
        ∧ (s.rxqFull c = true → noWait = true →
          ∃ t, exec (.torStamp c) s = .next t ∧ (t.torCh c).goesOn next = true ∧ (t.torCh c).rxq = x.rxq
            ∧ t.isSet (Reg.TOR_CH_STAT_SEND_MISSED (torUnit c) (torPos c)) = true)
        ∧ (s.rxqFull c = true → noWait = false → s.torFld c Reg.TOR_CH_SHIFT_STRICT = 1 →
          ∃ t, exec (.torStamp c) s = .next t ∧ (t.torCh c).run = .stopped ∧ (t.torCh c).cause = 4 ∧ t.eventStat 48 = true)
        ∧ (s.rxqFull c = true → noWait = false → s.torFld c Reg.TOR_CH_SHIFT_STRICT = 0 →
          ∃ t, exec (.torStamp c) s = .next t ∧ (t.torCh c).run = .stalled ∧ (t.torCh c).pc = x.pc
            ∧ (t.torCh c).stampAt = some (x.stampAt.getD u.tsw)))
    ∧ (∀ op u, s.tbu.running = true → x.run ≠ .stopped → torDecode (s.torWord c) = some op →
        ((s.torAtStep c).setTor c { (s.torAtStep c).torCh c with lastStep := some (s.torAtStep c).clk }).torForward c 9 = u →
        (op = .halt → exec (.torHalt c) s = .next (u.torOp c 0 0 op))
        ∧ (∀ k p tg prev pins, op = .br k p tg → exec (.torBr c prev pins) s = .next (u.torOp c prev pins op))
        ∧ (∀ n, op = .beat n → exec (.torBeat c) s = .next (u.torOp c 0 0 op))
        ∧ (∀ src n pins, op = .take src n → exec (.torTake c pins) s = .next (u.torOp c 0 pins op))
        ∧ (∀ dst n, op = .emit dst n → exec (.torEmit c) s = .next (u.torOp c 0 0 op))
        ∧ (∀ a b, op = .send a b → exec (.torSend c) s = .next (u.torOp c 0 0 op))
        ∧ (∀ a b, op = .fetch a b → exec (.torFetch c) s = .next (u.torOp c 0 0 op))
        ∧ (∀ dst i, op = .load dst i → exec (.torLoad c) s = .next (u.torOp c 0 0 op))
        ∧ (∀ dst src o pins, op = .copy dst src o → exec (.torCopy c pins) s = .next (u.torOp c 0 pins op))
        ∧ (∀ y i, op = .add y i → exec (.torAdd c) s = .next (u.torOp c 0 0 op))
        ∧ (∀ b, op = .stamp b → exec (.torStamp c) s = .next (u.torOp c 0 0 op))
        ∧ (∀ f, op = .raise f → exec (.torRaise c) s = .next (u.torOp c 0 0 op))
        ∧ (op = .nop → exec (.torNop c) s = .next (u.torOp c 0 0 op)))
    ∧ (∀ (n : Fin 32) pins, s.torReady c (.take 0 n) = true →
        ∃ t, exec (.torTake c pins) s = .next t ∧ (t.torCh c).goesOn next = true
          ∧ (t.torCh c).is_ = (x.shiftIn (s.torMsb c) (orAll n) (s.inputs c pins (orAll n))).is_
          ∧ (t.torCh c).icnt = min 32 (x.icnt + orAll n) ∧ (t.torCh c).os = x.os)
    ∧ (∀ n : Fin 32, s.torReady c (.emit 1 n) = true →
        ∃ t, exec (.torEmit c) s = .next t ∧ (t.torCh c).goesOn next = true
          ∧ (t.torCh c).x = (if s.torMsb c then x.os / 2 ^ (32 - orAll n) else x.os % 2 ^ orAll n)
          ∧ (t.torCh c).os = (if s.torMsb c then x.os * 2 ^ orAll n % 2 ^ 32 else x.os / 2 ^ orAll n)
          ∧ (t.torCh c).ocnt = x.ocnt - orAll n ∧ t.tor.out = s.tor.out)
    ∧ (∀ noWait, s.torReady c (.send false noWait) = true →
        (s.rxqFull c = false →
          ∃ t, exec (.torSend c) s = .next t ∧ (t.torCh c).goesOn next = true ∧ (t.torCh c).rxq = x.rxq ++ [x.is_]
            ∧ (t.torCh c).is_ = 0 ∧ (t.torCh c).icnt = 0)
        ∧ (s.rxqFull c = true → noWait = true →
          ∃ t, exec (.torSend c) s = .next t ∧ (t.torCh c).goesOn next = true ∧ (t.torCh c).rxq = x.rxq
            ∧ (t.torCh c).is_ = x.is_ ∧ t.isSet (Reg.TOR_CH_STAT_SEND_MISSED (torUnit c) (torPos c)) = true)
        ∧ (s.rxqFull c = true → noWait = false → s.torFld c Reg.TOR_CH_SHIFT_STRICT = 1 →
          ∃ t, exec (.torSend c) s = .next t ∧ (t.torCh c).run = .stopped ∧ (t.torCh c).cause = 4
            ∧ (t.torCh c).is_ = x.is_ ∧ t.eventStat 48 = true
            ∧ t.fld (Reg.GCTL_LATE_UNIT_COUNT (27 + c)) = (s.fld (Reg.GCTL_LATE_UNIT_COUNT (27 + c)) + 1) % 2 ^ 36)
        ∧ (s.rxqFull c = true → noWait = false → s.torFld c Reg.TOR_CH_SHIFT_STRICT = 0 →
          ∃ t, exec (.torSend c) s = .next t ∧ (t.torCh c).run = .stalled ∧ (t.torCh c).pc = x.pc ∧ t.regs = s.regs))
    ∧ (∀ ifEmpty, s.torReady c (.fetch ifEmpty false) = true → x.ocnt = 0 →
        (∀ w rest, x.txq = w :: rest →
          ∃ t, exec (.torFetch c) s = .next t ∧ (t.torCh c).goesOn next = true ∧ (t.torCh c).os = w
            ∧ (t.torCh c).ocnt = s.osLoad c ∧ (t.torCh c).txq = rest)
        ∧ (x.txq = [] → s.torFld c Reg.TOR_CH_SHIFT_STRICT = 1 →
          ∃ t, exec (.torFetch c) s = .next t ∧ (t.torCh c).run = .stopped ∧ (t.torCh c).cause = 3
            ∧ (t.torCh c).pc = x.pc ∧ t.eventStat 48 = true))
    ∧ (∀ imm : Fin 2048, s.torReady c (.load 4 imm) = true →
        ∃ t, exec (.torLoad c) s = .next t ∧ (t.torCh c).goesOn next = true ∧ (t.torCh c).tm = imm
          ∧ (t.torCh c).tmAt = t.clk + 640 ∧ t.regs = s.regs)
    ∧ (∀ (op : Fin 4) pins, s.torReady c (.copy 1 2 op) = true →
        ∃ t, exec (.torCopy c pins) s = .next t ∧ (t.torCh c).goesOn next = true ∧ (t.torCh c).x = copyOp op x.y
          ∧ (t.torCh c).y = x.y)
    ∧ (∀ imm : Fin 8192, s.torReady c (.add false imm) = true →
        ∃ t, exec (.torAdd c) s = .next t ∧ (t.torCh c).goesOn next = true ∧ (t.torCh c).y = x.y
          ∧ (((t.torCh c).x : Int) - (x.x + signed 13 imm)) % 2 ^ 32 = 0 ∧ (t.torCh c).x < 2 ^ 32)
    ∧ (∀ noWait, s.torReady c (.stamp noWait) = true → s.rxqFull c = false → x.stampAt = none →
        ∃ t, exec (.torStamp c) s = .next t ∧ (t.torCh c).goesOn next = true
          ∧ (t.torCh c).rxq = x.rxq ++ [(s.torAtStep c).tsw / 16] ∧ (t.torCh c).is_ = x.is_)
    ∧ (∀ f : Fin 32, s.torReady c (.raise f) = true →
        (s.torFld c Reg.TOR_CH_SIG_EN = 0 →
          ∃ t, exec (.torRaise c) s = .next t ∧ (t.torCh c).goesOn next = true ∧ t.regs = s.regs)
        ∧ (s.torFld c Reg.TOR_CH_SIG_EN = 1 →
          s.isSet (Reg.TALUS_TLINK_QFED (s.torFld c Reg.TOR_CH_SIG_TASK)) = false →
          ∃ t, exec (.torRaise c) s = .next t ∧ (t.torCh c).goesOn next = true
            ∧ (t.reg (Reg.TALUS_TEVT (s.torFld c Reg.TOR_CH_SIG_TASK))).bit f = true)
        ∧ (s.torFld c Reg.TOR_CH_SIG_EN = 1 → s.fld (Reg.TALUS_TLINK_QFLAG (s.torFld c Reg.TOR_CH_SIG_TASK)) ≠ f →
          ∃ t, exec (.torRaise c) s = .next t ∧ (t.torCh c).goesOn next = true
            ∧ (t.reg (Reg.TALUS_TEVT (s.torFld c Reg.TOR_CH_SIG_TASK))).bit f = true))
    ∧ (s.torReady c .nop = true →
        ∃ t, exec (.torNop c) s = .next t ∧ (t.torCh c).goesOn next = true ∧ t.regs = s.regs ∧ t.mem = s.mem
          ∧ t.torCh c = { x with run := .running, pc := next, stampAt := none, lastStep := some t.clk }
          ∧ ∀ d, d ≠ c.val → t.torCh d = s.torCh d)
    ∧ (s.tbu.running = true → x.run ≠ .stopped → 14 ≤ torOpcode (s.torWord c) → x.pushing = false →
        s.torFld c Reg.TOR_CH_CFG_RX_FWD = 0 →
        ∃ t, exec (.torNop c) s = .next t ∧ (t.torCh c).run = .stopped ∧ (t.torCh c).cause = 1 ∧ (t.torCh c).pc = x.pc
          ∧ t.eventStat 152 = true
          ∧ t.reg (Reg.TOR_CH_TRAP (torUnit c) (torPos c)) = Word.ofN (x.pc + 64 * s.torWord c))

/-- Starting, stopping, queues and program words of a Tor channel (R417, R419 to R422). -/
def Obligations.TorChannelCommands : Prop :=
  ∀ (s : State) (c : Fin 64) (x : TorChannel), s.held = false → s.torCh c = x →
    (∀ q, s.torNext c = some q → s.tbu.running = true →
        (q.sel = 1 → x.run = .stopped →
          ∃ t, exec (.torStart c none) s = .next t ∧ (t.torCh c).run = .running ∧ (t.torCh c).cause = 0 ∧ q ∉ t.posted
            ∧ (t.torCh c).pc = (if q.agent = 0 then s.torFld c Reg.TOR_CH_CTRL_START_PC else q.arg % 64)
            ∧ (t.torCh c).is_ = x.is_ ∧ (t.torCh c).txq = x.txq ∧ (t.torCh c).tm = x.tm)
        ∧ (q.sel = 1 → x.run ≠ .stopped →
          ∃ t, exec (.torStart c none) s = .next t ∧ t.torCh c = x ∧ q ∉ t.posted ∧ t.eventStat 153 = true
            ∧ t.fld (Reg.TOR_CNT_COUNT (torUnit c) 0) = (s.fld (Reg.TOR_CNT_COUNT (torUnit c) 0) + 1) % 2 ^ 36)
        ∧ (q.sel = 2 →
          ∃ t, exec (.torStop c none) s = .next t ∧ (t.torCh c).run = .stopped ∧ (t.torCh c).pc = x.pc ∧ q ∉ t.posted
            ∧ (t.torCh c).is_ = x.is_ ∧ (t.torCh c).icnt = x.icnt ∧ (t.torCh c).txq = x.txq))
    ∧ (∀ a, (s.reg (Reg.TOR_CH_CTRL (torUnit c) (torPos c))).field 3 0 = 0 →
        (x.run = .stopped →
          (∃ t, exec (.torStart c (some a)) s = .next t ∧ (t.torCh c).run = .running
            ∧ (t.torCh c).pc = s.torFld c Reg.TOR_CH_CTRL_START_PC ∧ (∀ r, t.reg r = s.reg r))
          ∧ (∃ t, exec (.torFlush a c) s = .next t ∧ (∀ r, t.reg r = s.reg r)
            ∧ t.torCh c = { x with is_ := 0, os := 0, icnt := 0, ocnt := 0 })
          ∧ (∃ t, exec (.torQclr a c) s = .next t ∧ (∀ r, t.reg r = s.reg r)
            ∧ t.torCh c = { x with txq := [], rxq := [], pushing := false }))
        ∧ (x.run ≠ .stopped →
          (∃ t, exec (.torStop c (some a)) s = .next t ∧ (t.torCh c).run = .stopped ∧ (t.torCh c).x = x.x
            ∧ (t.torCh c).os = x.os ∧ (t.torCh c).rxq = x.rxq ∧ (∀ r, t.reg r = s.reg r))
          ∧ (∃ t, exec (.torFlush a c) s = .next t ∧ t.torCh c = x ∧ t.eventStat 0 = true)
          ∧ (∃ t, exec (.torQclr a c) s = .next t ∧ t.torCh c = x ∧ t.eventStat 0 = true)))
    ∧ (∀ a w, s.torFld c Reg.TOR_CH_CFG_TX_FWD = 0 →
        (x.txq.length < (torRoom (s.torFld c Reg.TOR_CH_CFG_QMODE)).1 →
          ∃ t, exec (.torTxqWrite a c w) s = .next t ∧ t.torCh c = { x with txq := x.txq ++ [w.field 31 0] }
            ∧ t.regs = s.regs)
        ∧ ((torRoom (s.torFld c Reg.TOR_CH_CFG_QMODE)).1 ≤ x.txq.length →
          exec (.torTxqWrite a c w) s
            = .next ((s.torCount c 3).reject a (Reg.TOR_CH_TXQ (torUnit c) (torPos c)))))
    ∧ (∀ a, (x.rxq = [] → exec (.torRxqRead a c) s = .next (s.emit (.read a 0 false)))
        ∧ (∀ w rest, x.rxq = w :: rest → x.pushing = false →
          ∃ t, exec (.torRxqRead a c) s = .next t ∧ t.torCh c = { x with rxq := rest }
            ∧ t.outs = .read a (Word.ofN (2 ^ 35 + w)) false :: s.outs)
        ∧ (x.pushing = true → exec (.torRxqRead a c) s = .next (s.emit (.read a 0 false))))
    ∧ (∀ w bad s1, s.torFld c Reg.TOR_CH_CFG_TX_FWD = 1 →
        x.txq.length < (torRoom (s.torFld c Reg.TOR_CH_CFG_QMODE)).1 →
        s.popQueue (s.torFld c Reg.TOR_CH_CFG_TX_Q) = some (w, bad, s1) →
        (bad = false → exec (.torTxForward c) s = .next (s1.setTor c { x with txq := x.txq ++ [w] }))
        ∧ (bad = true → exec (.torTxForward c) s = .next (s1.torCount c 3)))
    ∧ ((s.torFld c Reg.TOR_CH_CFG_TX_FWD = 0 ∨ (torRoom (s.torFld c Reg.TOR_CH_CFG_QMODE)).1 ≤ x.txq.length
          ∨ s.popQueue (s.torFld c Reg.TOR_CH_CFG_TX_Q) = none) → exec (.torTxForward c) s = .next s)
    ∧ (∀ (u : Fin 4) (w : AgentWord), s.progBusy u (s.fld (Reg.TOR_PADDR_ADDR u)) = [] →
        ∃ t, exec (.torPdataWrite u w) s = .next t
          ∧ Tab.get 0 (1024 * u + s.fld (Reg.TOR_PADDR_ADDR u)) t.tor.prog = w.word.field 17 0
          ∧ t.fld (Reg.TOR_PADDR_ADDR u) = (s.fld (Reg.TOR_PADDR_ADDR u) + 1) % 1024 ∧ t.tor.chans = s.tor.chans)
    ∧ (∀ (u : Fin 4) (w : AgentWord) j rest, s.progBusy u (s.fld (Reg.TOR_PADDR_ADDR u)) = j :: rest →
        ∃ t, exec (.torPdataWrite u w) s = .next t ∧ t.tor = s.tor ∧ t.eventStat 154 = true ∧ t.eventStat 0 = true
          ∧ t.fld (Reg.TOR_PADDR_ADDR u) = s.fld (Reg.TOR_PADDR_ADDR u))
    ∧ (∀ a (u : Fin 4), ∃ t, exec (.torPdataRead a u) s = .next t ∧ t.tor = s.tor
        ∧ t.outs = .read a (Word.ofN (Tab.get 0 (1024 * u + s.fld (Reg.TOR_PADDR_ADDR u)) s.tor.prog)) false :: s.outs
        ∧ t.fld (Reg.TOR_PADDR_ADDR u) = (s.fld (Reg.TOR_PADDR_ADDR u) + 1) % 1024)

/-- The decoder of Tor instruction words reads back every instruction, at every value its encoding admits, from the word that
the encoding of R412 and R413 gives it. -/
def Obligations.TorDecodeOfWordIsTheInstruction : Prop :=
  ∀ op : TorOp, op.wf = true → torEncode op < 2 ^ 18 ∧ torDecode (torEncode op) = some op


/-- Descriptor rings, moves, the watchdog, coalescing and the endpoint's reset (R429, R430, R436 to R439, R446, R448). -/
def Obligations.HostDmaCommands : Prop :=
  ∀ s : State, s.held = false →
    (∀ kind : Fin 4, ∃ t, exec (.pcieReset kind) s = .next t
        ∧ (∀ d r, d < 2 → r < 64 → t.isSet (Reg.HDMA_RING_HEAD_STOPPED d r) = true ∧ t.ringHead d r = s.ringHead d r
            ∧ t.ringTail d r = s.ringTail d r)
        ∧ (∀ k < 8, t.reg (Reg.EVC_EN k) = 0) ∧ (∀ v < 32, (t.vector v).pending = false) ∧ t.localHost = {}
        ∧ t.eventStat (if kind.val = 0 then 181 else 178) = true ∧ t.mem = s.mem
        ∧ (kind.val = 0 → t.reg Reg.HDMA_LINK = s.reg Reg.HDMA_LINK)
        ∧ (2 ≤ kind.val → t.isSet Reg.HDMA_LINK_UP = false) ∧ (kind.val = 3 → t.hostIf.perst = false))
    ∧ (∀ a (d : Fin 2) (r : Fin 64) tail,
        ((tail % 2 ^ 16 + 2 ^ 16 - s.ringHead d r) % 2 ^ 16 ≤ 2 ^ s.fld (Reg.HDMA_RING_CFG_SIZE d r) →
          ∃ t, exec (.ringTailWrite a d r tail) s = .next t ∧ t.ringTail d r = tail % 2 ^ 16
            ∧ t.ringHead d r = s.ringHead d r ∧ t.hostIf = s.hostIf)
        ∧ (2 ^ s.fld (Reg.HDMA_RING_CFG_SIZE d r) < (tail % 2 ^ 16 + 2 ^ 16 - s.ringHead d r) % 2 ^ 16 →
          exec (.ringTailWrite a d r tail) s = .next (s.reject a (Reg.HDMA_RING_TAIL d r))))
    ∧ (∀ (d : Fin 2) (r : Fin 64), s.ringRuns d r = true → (s.ring d r).ahead.length < 4 →
        (s.ring d r).ahead.length < (s.ringTail d r + 2 ^ 16 - s.ringHead d r) % 2 ^ 16 →
        (∀ ds : List Nat, ds.getD (if d.val = 0 then 3 else 2) 0 / 2 ^ 31 % 2 = 1 →
          ∃ t, exec (.descFetch d r (some ds)) s = .next t ∧ (t.ring d r).ahead = (s.ring d r).ahead ++ [ds]
            ∧ t.regs = s.regs)
        ∧ (∀ ds : List Nat, ds.getD (if d.val = 0 then 3 else 2) 0 / 2 ^ 31 % 2 = 0 →
          ∃ t, exec (.descFetch d r (some ds)) s = .next t ∧ (t.ring d r).ahead = []
            ∧ t.isSet (Reg.HDMA_RING_HEAD_STOPPED d r) = true ∧ t.eventStat 177 = true
            ∧ t.fld (Reg.HDMA_CNT_COUNT 2) = (s.fld (Reg.HDMA_CNT_COUNT 2) + 1) % 2 ^ 36)
        ∧ (∃ t, exec (.dmaReadTimeout d r false) s = .next t ∧ t.clk = s.clk + 10 * Config.ms ∧ t.eventStat 177 = true
            ∧ t.fld (Reg.HDMA_CNT_COUNT 4) = (s.fld (Reg.HDMA_CNT_COUNT 4) + 1) % 2 ^ 36))
    ∧ (∀ (r : Fin 64) ds rest entry s1, s.ringRuns 0 r = true → (s.ring 0 r).ahead = ds :: rest →
        s.popQueue (128 + r) = some (entry, false, s1) →
        (entry / 2 ^ 29 < 3 →
          ∃ t, exec (.rxEntryMove r) s = .next t ∧ t.ringHead 0 r = (s.ringHead 0 r + 1) % 2 ^ 16
            ∧ (t.ring 0 r).ahead = rest)
        ∧ (entry / 2 ^ 29 < 3 → s.tmx.ext = false → s.tmx.ballsFrom ≤ s.clk →
          ∃ t st, exec (.rxEntryMove r) s = .next t ∧ t.ringHead 0 r = (s.ringHead 0 r + 1) % 2 ^ 16
            ∧ (t.ring 0 r).ahead = rest ∧ .hostWrite (s.descAddr 0 r + 12) (leOctets 4 st) ∈ t.outs
            ∧ st / 2 ^ 28 = entry / 2 ^ 29)
        ∧ (3 ≤ entry / 2 ^ 29 →
          ∃ t, exec (.rxEntryMove r) s = .next t ∧ t.ringHead 0 r = s.ringHead 0 r ∧ (t.ring 0 r).ahead = ds :: rest
            ∧ t.reg Reg.HDMA_ERRLOG = Word.ofN (2 ^ 35 + 2 ^ 7 * 4 + r)))
    ∧ (∀ (r : Fin 64) ds rest entry s1, s.ringRuns 0 r = true → (s.ring 0 r).ahead = ds :: rest →
        s.popQueue (128 + r) = some (entry, true, s1) →
        ∃ t, exec (.rxEntryMove r) s = .next t ∧ t.ringHead 0 r = s.ringHead 0 r ∧ (t.ring 0 r).ahead = ds :: rest
          ∧ t.reg Reg.HDMA_ERRLOG = Word.ofN (2 ^ 35 + 2 ^ 7 * 4 + r))
    ∧ (∀ (r : Fin 64) ds rest len, s.ringRuns 1 r = true → (s.ring 1 r).ahead = ds :: rest → ds.getD 2 0 % 2 ^ 14 = len →
        s.isSet (Reg.HDMA_RING_CFG_MODE 1 r) = true → ds.getD 2 0 / 2 ^ 14 % 2 ^ 17 = 0 →
        (∀ bytes, 1 ≤ len → len ≤ 4096 → s.areaRoom (len / 4 + 3) = false →
          ∃ t, exec (.txDescMove r (some bytes)) s = .next t ∧ t.ringHead 1 r = s.ringHead 1 r
            ∧ (t.ring 1 r).ahead = ds :: rest ∧ (t.ring 1 r).waitSince = some ((s.ring 1 r).waitSince.getD s.clk))
        ∧ (∀ bytes, 1 ≤ len → len ≤ 4096 → s.areaRoom (len / 4 + 3) = true →
          ∃ t, exec (.txDescMove r (some bytes)) s = .next t ∧ t.ringHead 1 r = (s.ringHead 1 r + 1) % 2 ^ 16
            ∧ (t.ring 1 r).ahead = rest ∧ t.hostIf.blockAreas.length = s.hostIf.blockAreas.length + 1)
        ∧ (∀ data, 4096 < len →
          ∃ t, exec (.txDescMove r data) s = .next t ∧ t.ringHead 1 r = (s.ringHead 1 r + 1) % 2 ^ 16
            ∧ t.eventStat 177 = true ∧ t.hostIf.blockAreas = s.hostIf.blockAreas ∧ t.mem = s.mem))
    ∧ (∀ (r : Fin 64) ds rest len legal, s.ringRuns 1 r = true → (s.ring 1 r).ahead = ds :: rest →
        ds.getD 2 0 % 2 ^ 14 = len →
        (if s.isSet (Reg.HDMA_RING_CFG_MODE 1 r) then decide (1 ≤ len ∧ len ≤ 4096 ∧ ds.getD 2 0 / 2 ^ 14 % 2 ^ 17 = 0)
          else decide (14 ≤ len ∧ len ≤ 9212 ∧ ds.getD 2 0 / 2 ^ 24 % 2 ^ 7 = 0)) = legal →
        (∀ bytes, legal = true → s.isSet (Reg.HDMA_RING_CFG_MODE 1 r) = false → s.areaRoom (len / 4 + 3) = true →
          ∃ t, exec (.txDescMove r (some bytes)) s = .next t ∧ t.ringHead 1 r = (s.ringHead 1 r + 1) % 2 ^ 16
            ∧ (t.ring 1 r).ahead = rest ∧ t.hostIf.blockAreas = s.hostIf.blockAreas)
        ∧ (∀ data, legal = false →
          ∃ t, exec (.txDescMove r data) s = .next t ∧ t.ringHead 1 r = (s.ringHead 1 r + 1) % 2 ^ 16
            ∧ t.eventStat 177 = true ∧ t.mem = s.mem ∧ t.reg Reg.HDMA_ERRLOG = Word.ofN (2 ^ 35 + 2 ^ 7 * 3 + 2 ^ 6 + r))
        ∧ (legal = true →
          (∃ t, exec (.txDescMove r none) s = .next t ∧ t.ringHead 1 r = (s.ringHead 1 r + 1) % 2 ^ 16
            ∧ t.eventStat 177 = true ∧ t.mem = s.mem
            ∧ t.fld (Reg.HDMA_CNT_COUNT 4) = (s.fld (Reg.HDMA_CNT_COUNT 4) + 1) % 2 ^ 36)
          ∧ ∃ t, exec (.dmaReadTimeout 1 r true) s = .next t ∧ t.clk = s.clk + 10 * Config.ms
            ∧ t.ringHead 1 r = (s.ringHead 1 r + 1) % 2 ^ 16 ∧ t.eventStat 177 = true
            ∧ t.fld (Reg.HDMA_CNT_COUNT 4) = (s.fld (Reg.HDMA_CNT_COUNT 4) + 1) % 2 ^ 36))
    ∧ (∀ (r : Fin 64) t0, s.fld (Reg.HDMA_RING_CFG_WDOG 1 r) ≠ 0 →
        (s.ring 1 r).waitSince = some t0 → (s.ring 1 r).barked = false →
        ∃ t, exec (.ringWatchdog 1 r) s = .next t ∧ (t.ring 1 r).barked = true ∧ t.eventStat 176 = true
          ∧ t.reg Reg.HDMA_ERRLOG = Word.ofN (2 ^ 35 + 2 ^ 7 * 7 + 2 ^ 6 + r)
          ∧ t0 + s.fld (Reg.HDMA_RING_CFG_WDOG 1 r) * Config.us ≤ t.clk)
    ∧ (∀ (r : Fin 64) t0, s.fld (Reg.HDMA_RING_CFG_WDOG 0 r) ≠ 0 → s.ringReady 0 r = false →
        (s.queue (128 + r)).stamps.head? = some t0 → (s.ring 0 r).barked = false →
        ∃ t, exec (.ringWatchdog 0 r) s = .next t ∧ (t.ring 0 r).barked = true ∧ t.eventStat 176 = true
          ∧ t.reg Reg.HDMA_ERRLOG = Word.ofN (2 ^ 35 + 2 ^ 7 * 7 + r)
          ∧ t0 * 128 + s.fld (Reg.HDMA_RING_CFG_WDOG 0 r) * Config.us ≤ t.clk)
    ∧ (∀ a (d : Fin 2) (r : Fin 64),
        (s.isSet (Reg.HDMA_RING_CFG_EN d r) = true →
          ∃ t, exec (.ringDisable a d r) s = .next t ∧ t.isSet (Reg.HDMA_RING_CFG_EN d r) = false
            ∧ t.isSet (Reg.HDMA_RING_HEAD_STOPPED d r) = true ∧ t.ringHead d r = s.ringHead d r)
        ∧ (s.isSet (Reg.HDMA_RING_CFG_EN d r) = false →
          ∃ t, exec (.ringEnable a d r) s = .next t ∧ t.isSet (Reg.HDMA_RING_CFG_EN d r) = true
            ∧ t.isSet (Reg.HDMA_RING_HEAD_STOPPED d r) = false ∧ t.ringHead d r = s.ringHead d r))
    ∧ (∀ a (i : Fin 131072),
        (s.hostIf.blockAreas.contains i.val = true →
          ∃ t, exec (.txfree a i) s = .next t ∧ t.hostIf.blockAreas.contains i.val = false
            ∧ (∀ h ∈ t.massif.areas, h.1 ≠ 16 * i.val) ∧ t.mem = s.mem ∧ t.regs = s.regs)
        ∧ (s.hostIf.blockAreas.contains i.val = false → exec (.txfree a i) s = .next (s.reject a Reg.HDMA_TXFREE)))
    ∧ (∀ (d : Fin 2) (r : Fin 64) t0, (s.ring d r).firstUnreported = some t0 →
        s.fld (Reg.HDMA_RING_CFG_COAL_T d r) ≠ 0 →
        ∃ t, exec (.coalTimeout d r) s = .next t ∧ (t.ring d r).unreported = 0 ∧ (t.ring d r).firstUnreported = none
          ∧ t.eventStat (160 + 8 * d + r / 8) = true
          ∧ (t.reg (if d.val = 0 then Reg.HDMA_RXSUM (r / 32) else Reg.HDMA_TXSUM (r / 32))).bit (r % 32) = true)
    ∧ (∀ a, ∃ t v, exec (.errlogRead a) s = .next t ∧ t.outs = .read a v false :: s.outs
        ∧ v.field 9 0 = (s.reg Reg.HDMA_ERRLOG).field 9 0 ∧ v.bit 35 = (s.reg Reg.HDMA_ERRLOG).bit 35
        ∧ (t.reg Reg.HDMA_ERRLOG).bit 35 = false ∧ (t.reg Reg.HDMA_ERRLOG).field 9 0 = 0)

/-- Raising an event and the commands of the event controller (R440, R441, R443). -/
def Obligations.EventControllerCommands : Prop :=
  ∀ s : State,
    (∀ e, e < 256 →
        (s.raise e).eventStat e = true ∧ (∀ k, k ≠ e → k < 256 → (s.raise e).eventStat k = s.eventStat k)
        ∧ (s.isSet (Reg.EVC_MAP_REMOTE e) = true → ((s.raise e).reg (Reg.EVC_RSTAT (e / 32))).bit (e % 32) = true)
        ∧ (s.isSet (Reg.EVC_MAP_REMOTE e) = true → (s.reg (Reg.EVC_RSTAT (e / 32))).bit (e % 32) = false →
            (s.raise e).hostIf.remotePending = true)
        ∧ (s.raise e).mem = s.mem ∧ (s.raise e).tbu = s.tbu ∧ (s.raise e).engines = s.engines)
    ∧ (s.held = false →
        (∀ a (i : Fin 32), ∃ t, exec (.swset a i) s = .next t ∧ t.eventStat (224 + i) = true
          ∧ (∀ k, k ≠ 224 + i.val → k < 256 → t.eventStat k = s.eventStat k))
        ∧ (∀ a (k : Fin 8) w, ∃ t, exec (.evcStatClear a k w) s = .next t
          ∧ (∀ j < 32, t.eventStat (32 * k + j)
              = (s.eventStat (32 * k + j) && !w.bit j || w.bit j && s.levelHolds (32 * k + j)))
          ∧ (∀ e < 256, e / 32 ≠ k.val → t.eventStat e = s.eventStat e))
        ∧ (∀ (v : Fin 32) t0, (s.vector v).held = true → (s.vector v).last = some t0 →
          (s.summary v = false →
            ∃ t, exec (.vholdExpiry v) s = .next t ∧ (t.vector v).held = false ∧ t.regs = s.regs)
          ∧ (s.summary v = true → (s.vector v).masked = false → s.hostIf.functionMask = false →
            s.hostIf.msixEnabled = true → s.tmx.ext = false → s.tmx.ballsFrom ≤ s.clk →
            ∃ t, exec (.vholdExpiry v) s = .next t ∧ (t.vector v).held = false ∧ (t.vector v).last = some t.clk
              ∧ t.outs.head? = some (.msix v)
              ∧ t.clk = max s.clk (t0 + s.fld (Reg.EVC_VHOLD_HOLD v) * Config.us))))


/-- Resets, the boot flow and the steward watchdog (R450 to R454, R457, R460 to R462, R471). -/
def Obligations.ResetBootAndWatchdogCommands : Prop :=
  ∀ s : State,
    (∀ lost, ∃ t, exec (.porAssert lost) s = .next t ∧ t.held = true ∧ t.prc.aonLost = (s.prc.aonLost || lost)
        ∧ t.regs = s.regs ∧ t.mem = s.mem ∧ t.fuses = s.fuses)
    ∧ (∀ x, s.held = true →
        ∃ t, exec (.porRelease x) s = .next t ∧ t.held = false ∧ t.straps = x ∧ t.fuses = s.fuses
          ∧ t.fwc.flash = s.fwc.flash ∧ t.memc.soft = [] ∧ t.fld Reg.PRC_STAT_PHASE = 0 ∧ t.engines = []
          ∧ (s.prc.aonLost = true → t.reg Reg.PRC_RSTCAUSE = 17 ∧ t.isSet Reg.VAULT_STAT_LOST = true
            ∧ ∀ y < 8192, t.codeAt 4 0 y = {})
          ∧ (s.prc.aonLost = false → t.reg Reg.PRC_RSTCAUSE = 1 ∧ t.reg Reg.VAULT_STAT = s.reg Reg.VAULT_STAT
            ∧ ∀ y < 8192, t.codeAt 4 0 y = s.codeAt 4 0 y))
    ∧ (∀ x, s.held = false → exec (.porRelease x) s = .next s)
    ∧ (∃ t, exec .perstnHigh s = .next t ∧ t.hostIf.perst = true
        ∧ t.hostIf.perstAt = (if s.hostIf.perst then s.hostIf.perstAt else s.clk)
        ∧ (s.held = false → t.isSet Reg.HDMA_LINK_UP = true) ∧ (s.held = true → t.regs = s.regs)
        ∧ ∀ o, o ≠ Reg.HDMA_LINK → t.reg o = s.reg o)
    ∧ (s.held = false →
    (∀ c a key,
        (c = .sysResetPin ∨ c = .warmRst a key ∧ key = 0x5A5 ∧ (a = 49 ∨ a = 50 ∨ a = 51)) →
        ∃ t, exec c s = .next t
          ∧ t.reg Reg.PRC_RSTCAUSE
              = Word.ofN ((s.reg Reg.PRC_RSTCAUSE).toNat ||| (if c = .sysResetPin then 2 else 4))
          ∧ t.straps = s.straps ∧ t.fuses = s.fuses ∧ t.mem = s.mem ∧ t.memc.soft = s.memc.soft
          ∧ t.fwc.flash = s.fwc.flash ∧ t.fld Reg.PRC_STAT_PHASE = 0 ∧ t.engines = [] ∧ t.tbu.running = false
          ∧ t.reg Reg.VAULT_STAT = s.reg Reg.VAULT_STAT ∧ t.reg Reg.FWC_TAMPER_CTRL = s.reg Reg.FWC_TAMPER_CTRL
          ∧ t.pending = s.pending)
    ∧ (∀ a key, ¬ (key = 0x5A5 ∧ (a = 49 ∨ a = 50 ∨ a = 51)) →
        exec (.warmRst a key) s = .next (s.reject a Reg.PRC_CTRL))
    ∧ (s.fld Reg.PRC_STAT_PHASE = 0 → s.readyToLoad = true →
        ∃ t, exec .bootMarchDone s = .next t ∧ t.fld Reg.PRC_STAT_PHASE = 1 ∧ t.mem = s.mem
          ∧ t.fld Reg.MEMC_STAT_MARCHED = bit01 (!s.straps.bootFast))
    ∧ (∀ chosen s1, s.fld Reg.PRC_STAT_PHASE = 1 → s.readHeader.chooseSlot = (chosen, s1) →
        (s1.bootSlot chosen = none →
          ∃ t, exec .loaderDone s = .next t ∧ t.fld Reg.PRC_STAT_PHASE = 4 ∧ t.eventStat 191 = true)
        ∧ (∀ k, k < 2 → s1.bootSlot chosen = some k → s.straps.bootHalt = false →
          ∃ t, exec .loaderDone s = .next t ∧ t.fld Reg.PRC_STAT_PHASE = 2 ∧ t.fld Reg.PRC_STAT_SLOT = k
            ∧ t.fld Reg.TALUS_CTRL_ACTIVE_SE = 0 ∧ t.isSet (Reg.CE_CTRL_RUN 48) = true
            ∧ t.isSet (Reg.CE_CTRL_RUN 49) = true ∧ t.prc.kick0 = t.clk ∧ t.prc.kick1 = t.clk)
        ∧ (∀ k, s1.bootSlot chosen = some k → s.straps.bootHalt = true →
          ∃ t, exec .loaderDone s = .next t ∧ t.fld Reg.PRC_STAT_PHASE = 2 ∧ t.prc.bootHalted = true))
    ∧ (∀ a, (a = 0 ∨ 49 ≤ a) →
        (s.isSet Reg.TBU_STAT_PLL_LOCK = true → s.isSet Reg.TBU_STAT_CAL_VALID = true → s.memcStat.bit 2 = true →
          s.fld Reg.PRC_STAT_PHASE = 2 →
          ∃ t, exec (.dpReady a) s = .next t ∧ t.fld Reg.PRC_STAT_PHASE = 3 ∧ t.isSet Reg.PRC_STAT_DP_READY = true
            ∧ t.eventStat 200 = true ∧ t.mem = s.mem)
        ∧ (s.fld Reg.PRC_STAT_PHASE ≠ 2 ∨ s.isSet Reg.TBU_STAT_PLL_LOCK = false ∨ s.isSet Reg.TBU_STAT_CAL_VALID = false
            ∨ s.memcStat.bit 2 = false →
          exec (.dpReady a) s = .next (s.reject a Reg.PRC_CTRL)))
    ∧ (∀ a, (a = 0 ∨ 49 ≤ a) →
        (∃ t, exec (.kick a 0) s = .next t ∧ t.prc.kick0 = s.clk ∧ t.prc.missed0 = false ∧ t.prc.kick1 = s.prc.kick1
          ∧ (s.fld Reg.TALUS_CTRL_ACTIVE_SE = 1 → t.isSet Reg.PRC_STAT_STANDBY_OK = true))
        ∧ (∃ t, exec (.kick a 1) s = .next t ∧ t.prc.kick1 = s.clk ∧ t.prc.missed1 = false ∧ t.prc.kick0 = s.prc.kick0
          ∧ (s.fld Reg.TALUS_CTRL_ACTIVE_SE = 0 → t.isSet Reg.PRC_STAT_STANDBY_OK = true)))
    ∧ (∀ (i : Fin 2) now, (s.fld Reg.PRC_STAT_PHASE = 2 ∨ s.fld Reg.PRC_STAT_PHASE = 3) → s.prc.bootHalted = false →
        s.missed i = false → (s.expire (s.expiry i)).clk = now →
        s.expiry i ≤ now
        ∧ (s.missed (1 - i.val) = false → now ≤ s.expiry (1 - i.val) → s.expiry i < s.expiry (1 - i.val) →
          (s.fld Reg.TALUS_CTRL_ACTIVE_SE = i →
            ∃ t, exec (.wdogTimeout i) s = .next t ∧ t.fld Reg.TALUS_CTRL_ACTIVE_SE = 1 - i.val
              ∧ t.isSet (Reg.CE_CTRL_RUN (48 + i)) = false ∧ t.eventStat 203 = true ∧ t.clk = now ∧ t.mem = s.mem)
          ∧ (s.fld Reg.TALUS_CTRL_ACTIVE_SE = 1 - i.val →
            ∃ t, exec (.wdogTimeout i) s = .next t ∧ t.isSet Reg.PRC_STAT_STANDBY_OK = false
              ∧ t.fld Reg.TALUS_CTRL_ACTIVE_SE = s.fld Reg.TALUS_CTRL_ACTIVE_SE ∧ t.clk = now))
        ∧ (s.missed (1 - i.val) = true ∨ s.expiry (1 - i.val) < now →
          ∃ t, exec (.wdogTimeout i) s = .next t ∧ t.fld Reg.PRC_STAT_PHASE = 0 ∧ t.clk = now
            ∧ t.reg Reg.PRC_RSTCAUSE = Word.ofN ((s.reg Reg.PRC_RSTCAUSE).toNat ||| 8)))
    ∧ (∀ i : Fin 2, (s.fld Reg.PRC_STAT_PHASE ≠ 2 ∧ s.fld Reg.PRC_STAT_PHASE ≠ 3 ∨ s.prc.bootHalted = true
        ∨ s.missed i = true) → exec (.wdogTimeout i) s = .next s)
    ∧ (∀ a, ∃ t v, exec (.rstcauseRead a) s = .next t ∧ t.outs = .read a v false :: s.outs
        ∧ v.field 5 0 = (s.reg Reg.PRC_RSTCAUSE).field 5 0 ∧ (t.reg Reg.PRC_RSTCAUSE).field 5 0 = 0))

/-- The cluster power states (R463 to R467). The times a wake takes are the model's choice within the bounds of R466
(log 35). -/
def Obligations.ClusterPowerCommands : Prop :=
  ∀ (s : State) (c : Fin 12), s.held = false → s.tmx.testing = none → s.isSet Reg.EVC_CTRL_STW_EN = false →
    (s.fld (Reg.PRC_CLS_STAT_STATE c) = 0 →
        (s.fld (Reg.PRC_CLS_CTRL_DEPTH c) ≠ 3 ∨ s.isSet (Reg.PRC_CLS_IMG_VALID c) = true →
          (∀ a, (a = 0 ∨ 49 ≤ a) →
            ∃ t, exec (.clusterSleepCmd a c) s = .next t ∧ t.fld (Reg.PRC_CLS_STAT_STATE c) = 1
              ∧ (t.cluster c).wakeFrom = s.fld (Reg.PRC_CLS_CTRL_DEPTH c) + 2 ∧ (t.cluster c).since = s.clk
              ∧ t.mem = s.mem)
          ∧ (s.clusterIdle c = false → exec (.clusterIdle c) s = .next s)
          ∧ (s.clusterIdle c = true →
            ∃ t, exec (.clusterIdle c) s = .next t ∧ t.fld (Reg.PRC_CLS_STAT_STATE c) = 1
              ∧ s.idleFrom c + s.fld (Reg.PRC_CLS_CTRL_IDLE c) * Config.us ≤ t.clk
              ∧ (t.cluster c).wakeFrom = s.fld (Reg.PRC_CLS_CTRL_DEPTH c) + 2))
        ∧ (∀ a, (a = 0 ∨ 49 ≤ a) → s.fld (Reg.PRC_CLS_CTRL_DEPTH c) = 3 → s.isSet (Reg.PRC_CLS_IMG_VALID c) = false →
          exec (.clusterSleepCmd a c) s = .next (s.reject a (Reg.PRC_CLS_CTRL c))))
    ∧ (∀ a, (a = 0 ∨ 49 ≤ a) → s.fld (Reg.PRC_CLS_STAT_STATE c) ≠ 0 → exec (.clusterSleepCmd a c) s = .next s)
    ∧ (∀ a, (a = 0 ∨ 49 ≤ a) → s.fld (Reg.PRC_CLS_STAT_STATE c) = 1 →
        ∃ t, exec (.clusterWakeCmd a c) s = .next t ∧ t.fld (Reg.PRC_CLS_STAT_STATE c) = 0
          ∧ t.fld (Reg.PRC_CLS_STAT_ABORTS c) = (s.fld (Reg.PRC_CLS_STAT_ABORTS c) + 1) % 2 ^ 16)
    ∧ (s.fld (Reg.PRC_CLS_STAT_STATE c) = 1 →
        (∀ k < 4, (s.engine (4 * c + k)).run = none ∧ (s.engine (4 * c + k)).cq = []) →
        ∃ t, exec (.drainDone c) s = .next t ∧ t.fld (Reg.PRC_CLS_STAT_STATE c) = 2 ∧ (t.cluster c).since = s.clk)
    ∧ (s.fld (Reg.PRC_CLS_STAT_STATE c) = 2 → (s.cluster c).isolated = false →
        (∃ t, exec (.isolate c) s = .next t ∧ (t.cluster c).isolated = true ∧ t.regs = s.regs
          ∧ t.clk = max s.clk ((s.cluster c).since + 200 * Config.ns))
        ∧ (∀ a, (a = 0 ∨ 49 ≤ a) →
          (s.tickAt s.clk < s.tickAt ((s.cluster c).since + 200 * Config.ns) →
            ∃ t, exec (.clusterWakeCmd a c) s = .next t ∧ t.fld (Reg.PRC_CLS_STAT_STATE c) = 0
              ∧ t.fld (Reg.PRC_CLS_STAT_ABORTS c) = (s.fld (Reg.PRC_CLS_STAT_ABORTS c) + 1) % 2 ^ 16)
          ∧ (s.tickAt ((s.cluster c).since + 200 * Config.ns) ≤ s.tickAt s.clk →
            ∃ t, exec (.clusterWakeCmd a c) s = .next t ∧ (t.cluster c).wakeAfter = true ∧ t.regs = s.regs)))
    ∧ (s.fld (Reg.PRC_CLS_STAT_STATE c) = 2 → (s.cluster c).isolated = true →
        ((s.cluster c).wakeFrom = 3 ∨ (s.cluster c).wakeFrom = 4 ∨ (s.cluster c).wakeFrom = 5) →
        (∃ t, exec (.clusterSleep c) s = .next t ∧ t.eventStat 202 = true
          ∧ t.clk = max s.clk ((s.cluster c).since + Config.us)
          ∧ t.fld (Reg.PRC_CLS_STAT_STATE c) = (if (s.cluster c).wakeAfter then 6 else (s.cluster c).wakeFrom))
        ∧ (∀ a, (a = 0 ∨ 49 ≤ a) →
          ∃ t, exec (.clusterWakeCmd a c) s = .next t ∧ (t.cluster c).wakeAfter = true ∧ t.regs = s.regs))
    ∧ (∀ a, (a = 0 ∨ 49 ≤ a) →
        (s.fld (Reg.PRC_CLS_STAT_STATE c) = 3 ∨ s.fld (Reg.PRC_CLS_STAT_STATE c) = 4
          ∨ s.fld (Reg.PRC_CLS_STAT_STATE c) = 5) →
        ∃ t, exec (.clusterWakeCmd a c) s = .next t ∧ t.fld (Reg.PRC_CLS_STAT_STATE c) = 6
          ∧ (t.cluster c).wakeFrom = s.fld (Reg.PRC_CLS_STAT_STATE c) ∧ (t.cluster c).since = s.clk)
    ∧ (∀ fails : Fin 16, s.fld (Reg.PRC_CLS_STAT_STATE c) = 6 →
        ∃ t, exec (.clusterWake c fails) s = .next t ∧ t.fld (Reg.PRC_CLS_STAT_STATE c) = 0 ∧ t.eventStat 201 = true
          ∧ t.fld (Reg.PRC_CLS_STAT_WAKES c) = (s.fld (Reg.PRC_CLS_STAT_WAKES c) + 1) % 2 ^ 16
          ∧ ((s.cluster c).wakeFrom = 3 → t.mem = s.mem))


/-- The state area of the flash (R473, R475): a write puts its record in force and leaves the record in force of every other key,
also where a sector is given up for it; giving a sector up changes no record in force. The premise is an invariant of the
model: it holds after reset, and both operations keep it. How many records a sector holds when it is given up is the model's
choice (log 62). -/
def Obligations.StateRecordsSurviveRotation : Prop :=
  State.reset.fwc.flash.wf
  ∧ ∀ f : Flash, f.wf →
      (∀ r : StateRec, (f.write r).wf
        ∧ ((f.write r).inForce r).map (·.2) = some r
        ∧ (∀ q : StateRec, r.sameKey q = false → ((f.write r).inForce q).map (·.2) = (f.inForce q).map (·.2)))
      ∧ f.rotate.wf ∧ (∀ q : StateRec, (f.rotate.inForce q).map (·.2) = (f.inForce q).map (·.2))
      ∧ (∀ k st, (f.putSlot k st).slotState k = (st, (f.slotState k).2)
        ∧ ∀ j, j ≠ k → (f.putSlot k st).slotState j = f.slotState j)
      ∧ (∀ k p v, v < 4 → (f.putPieceState k p v).pieceState k p = v
        ∧ ∀ q, q ≠ p → (f.putPieceState k p v).pieceState k q = f.pieceState k q)

/-- Image transfer, slots and live activation (R479 to R482, R484 to R488, R493). That slot operations wait for a STAGE in
progress is the model's choice (log 51). -/
def Obligations.ImageAndActivationCommands : Prop :=
  ∀ s : State, s.held = false →
    (∀ a (k : Fin 2), (a = 0 ∨ 49 ≤ a) → s.fwc.staging = none →
        (s.fwc.booted ≠ some k.val → s.slotSt k < 4 →
          ∃ t, exec (.xferBegin a k) s = .next t ∧ t.fwc.flash = s.fwc.flash.putSlot k 1 ∧ t.fwc.erasing = some k.val
            ∧ t.isSet Reg.FWC_XFER_CMD_BUSY = true ∧ t.mem = s.mem)
        ∧ (s.fwc.booted = some k.val ∨ 4 ≤ s.slotSt k → exec (.xferBegin a k) s = .next (s.xferResult 0 2))
        ∧ ((s.slotSt k = 2 ∨ s.slotSt k = 3) →
          ∃ t, exec (.xferAbort a k) s = .next t ∧ t.fwc.flash = s.fwc.flash.putSlot k 0
            ∧ t.fld Reg.FWC_XFER_CMD_RESULT = 1)
        ∧ (s.slotSt k ≠ 2 → s.slotSt k ≠ 3 → exec (.xferAbort a k) s = .next (s.xferResult 0 2))
        ∧ (s.slotSt k = 3 → (s.slotSt (1 - k.val) < 4 ∨ 6 < s.slotSt (1 - k.val)) →
          (∃ t, exec (.bootNext a k) s = .next t ∧ t.fwc.flash = s.fwc.flash.putSlot k 5
            ∧ t.fld Reg.FWC_XFER_CMD_RESULT = 1)
          ∧ (s.fwc.running ≠ some k.val → (∀ c < 12, s.isSet (Reg.PRC_CLS_IMG_VALID c) = false) →
            s.entriesDiffer k = false →
            ∃ t, exec (.stage a k) s = .next t ∧ t.isSet Reg.FWC_XFER_CMD_BUSY = true ∧ t.fwc.flash = s.fwc.flash
              ∧ t.fwc.staging = some { slot := k, standby := 1 - s.fld Reg.TALUS_CTRL_ACTIVE_SE }))
        ∧ (s.slotSt k ≠ 3 → exec (.bootNext a k) s = .next (s.xferResult 0 2)
          ∧ exec (.stage a k) s = .next (s.xferResult 0 2)))
    ∧ (∀ k, s.fwc.erasing = some k →
        (∃ t, exec (.eraseDone true) s = .next t ∧ t.fwc.flash = (s.fwc.flash.eraseSlot k).putSlot k 2
          ∧ t.fwc.erasing = none ∧ t.fld Reg.FWC_XFER_CMD_RESULT = 1 ∧ t.isSet Reg.FWC_XFER_CMD_BUSY = false)
        ∧ (∃ t, exec (.eraseDone false) s = .next t ∧ t.fwc.flash = s.fwc.flash ∧ t.fld Reg.FWC_XFER_CMD_RESULT = 3
          ∧ t.isSet Reg.FWC_XFER_CMD_BUSY = false))
    ∧ (∀ a w, (a = 49 ∨ a = 50 ∨ a = 51 ∨ a = 52) →
        (s.isSet Reg.FWC_PIECE_STAT_BUSY = false →
          ∃ t, exec (.piece a w) s = .next t ∧ t.isSet Reg.FWC_PIECE_STAT_BUSY = true ∧ t.fwc.flash = s.fwc.flash
            ∧ t.fwc.job = some { slot := w.field 15 15, piece := w.field 14 0
                                 octets := (s.shelfOctets (256 * w.field 23 16) 256).1 })
        ∧ (s.isSet Reg.FWC_PIECE_STAT_BUSY = true → exec (.piece a w) s = .next (s.reject a Reg.FWC_PIECE_CMD)))
    ∧ (∀ a w, a ≠ 49 → a ≠ 50 → a ≠ 51 → a ≠ 52 → exec (.piece a w) s = .next (s.reject a Reg.FWC_PIECE_CMD))
    ∧ (∀ j, s.fwc.job = some j → j.piece < 2 ^ 15 → j.slot < 2 →
        (s.slotSt j.slot ≠ 2 ∨ 24576 ≤ j.piece →
          ∃ t, exec .pieceDone s = .next t ∧ t.fld Reg.FWC_PIECE_STAT_RESULT = 6 ∧ t.eventStat 189 = true
            ∧ t.fwc.flash = s.fwc.flash ∧ t.fwc.job = none ∧ t.isSet Reg.FWC_PIECE_STAT_BUSY = false)
        ∧ (∃ t, exec .pieceDone s = .next t ∧ t.fld Reg.FWC_PIECE_STAT_RESULT = (s.judgePiece j).1
            ∧ t.fld Reg.FWC_PIECE_STAT_REASON = (s.judgePiece j).2 ∧ t.fld Reg.FWC_PIECE_STAT_PIECE = j.piece
            ∧ t.fld Reg.FWC_PIECE_STAT_SLOT = j.slot ∧ t.isSet Reg.FWC_PIECE_STAT_BUSY = false ∧ t.fwc.job = none
            ∧ t.eventStat (if (s.judgePiece j).1 ≤ 3 then 188 else 189) = true)
        ∧ (s.slotSt j.slot = 2 → s.tableOk j.slot = true → s.fwc.flash.tablePieces j.slot < j.piece → j.piece < 24576 →
          j.piece < 1 + s.fwc.flash.tablePieces j.slot + s.fwc.flash.bodyPieces j.slot →
          (s.fwc.flash.pieceState j.slot j.piece = 2 →
            ∃ t, exec .pieceDone s = .next t ∧ t.fld Reg.FWC_PIECE_STAT_RESULT = 2 ∧ t.fwc.flash = s.fwc.flash)
          ∧ (s.fwc.flash.pieceState j.slot j.piece ≠ 2 →
            (Config.sha384 j.octets = s.fwc.flash.bodyDigest j.slot (j.piece - 1 - s.fwc.flash.tablePieces j.slot) →
              ∃ t, exec .pieceDone s = .next t ∧ t.fld Reg.FWC_PIECE_STAT_RESULT = 1
                ∧ t.fwc.flash.piece j.slot j.piece = j.octets
                ∧ (s.fwc.flash.wf → t.fwc.flash.pieceState j.slot j.piece = 2))
            ∧ (Config.sha384 j.octets ≠ s.fwc.flash.bodyDigest j.slot (j.piece - 1 - s.fwc.flash.tablePieces j.slot) →
              ∃ t, exec .pieceDone s = .next t ∧ t.fld Reg.FWC_PIECE_STAT_RESULT = 4 ∧ t.fwc.flash = s.fwc.flash)))
        ∧ (s.slotSt j.slot = 2 → j.piece = 0 → s.fwc.flash.pieceState j.slot 0 ≠ 2 →
          (s.headerReason j.octets = 0 →
            ∃ t, exec .pieceDone s = .next t ∧ t.fld Reg.FWC_PIECE_STAT_RESULT = 1 ∧ t.eventStat 188 = true
              ∧ t.fwc.flash.piece j.slot 0 = j.octets ∧ t.fwc.job = none)
          ∧ (s.headerReason j.octets ≠ 0 →
            ∃ t, exec .pieceDone s = .next t ∧ t.fld Reg.FWC_PIECE_STAT_RESULT = 5 ∧ t.eventStat 189 = true
              ∧ t.fld Reg.FWC_PIECE_STAT_REASON = s.headerReason j.octets ∧ t.fwc.flash = s.fwc.flash))
        ∧ (s.slotSt j.slot = 2 → 0 < j.piece → j.piece < 24576 → s.fwc.flash.pieceState j.slot 0 ≠ 2 →
          s.fwc.flash.pieceState j.slot j.piece ≠ 2 →
          ∃ t, exec .pieceDone s = .next t ∧ t.fld Reg.FWC_PIECE_STAT_RESULT = 3 ∧ t.eventStat 188 = true
            ∧ t.fwc.flash.piece j.slot j.piece = j.octets ∧ t.fwc.job = none))
    ∧ (∀ k p, s.nextPending = some (k, p) →
        (Config.sha384 (s.fwc.flash.piece k p) = s.fwc.flash.bodyDigest k (p - 1 - s.fwc.flash.tablePieces k) →
          exec .pendingCheck s = .next ((s.setFlash (s.fwc.flash.putPieceState k p 2)).settleComplete k))
        ∧ (Config.sha384 (s.fwc.flash.piece k p) ≠ s.fwc.flash.bodyDigest k (p - 1 - s.fwc.flash.tablePieces k) →
          ∃ t, exec .pendingCheck s = .next t ∧ t.fwc.flash = s.fwc.flash.putPieceState k p 0 ∧ t.eventStat 189 = true))
    ∧ (∀ st, s.fwc.staging = some st → st.standby < 2 →
        (st.started = false →
          ∃ t, exec .firstStart s = .next t ∧ t.fwc.staging = some { st with started := true }
            ∧ (t.engine (48 + st.standby)).bank = 1 - (s.engine (48 + st.standby)).bank
            ∧ (t.engine (48 + st.standby)).pc = 0 ∧ t.fwc.migrated = false ∧ t.fwc.flash = s.fwc.flash)
        ∧ (st.started = true →
          (∃ t, exec (.handover (49 + st.standby)) s = .next t ∧ t.fld Reg.TALUS_CTRL_ACTIVE_SE = st.standby
            ∧ t.eventStat 203 = true ∧ t.fwc.flash = s.fwc.flash.putSlot st.slot 4 ∧ t.fwc.staging = none
            ∧ t.fwc.restart = some (1 - st.standby)
            ∧ t.fld (Reg.CE_CTRL_BANK (48 + (1 - st.standby))) = 1 - (s.engine (48 + (1 - st.standby))).bank)
          ∧ (∃ t, exec (.actRevert (49 + st.standby)) s = .next t ∧ t.fwc.staging = none ∧ t.fwc.flash = s.fwc.flash
            ∧ (t.engine (48 + st.standby)).bank = 1 - (s.engine (48 + st.standby)).bank
            ∧ (t.engine (48 + st.standby)).pc = 0)
          ∧ exec .firstStart s = .next s))
    ∧ (s.fwc.staging = none → exec .firstStart s = .next s)
    ∧ (s.fwc.staging = none → ∀ a, exec (.handover a) s = .next (s.reject a Reg.FWC_ACT_CTRL)
        ∧ exec (.actRevert a) s = .next (s.reject a Reg.FWC_ACT_CTRL))
    ∧ (∀ a (k : Fin 2), (a = 0 ∨ 49 ≤ a) → s.slotSt k = 4 → s.fwc.activation = none →
        ∃ t, exec (.unstage a k) s = .next t ∧ t.fwc.flash = s.fwc.flash.putSlot k 3 ∧ t.fld Reg.FWC_XFER_CMD_RESULT = 1)
    ∧ (∀ a (k : Fin 2), (a = 0 ∨ 49 ≤ a) → (s.slotSt k ≠ 4 ∨ s.fwc.activation ≠ none) →
        exec (.unstage a k) s = .next (s.xferResult 0 2))
    ∧ (∀ a (k : Fin 2), (a = 49 ∨ a = 50) → s.slotSt k = 6 → s.fwc.running = some k.val →
        s.stewardImage (a - 49) = some k.val → s.fwc.migrated = true →
        ∃ t, exec (.commit a k) s = .next t ∧ t.fld Reg.FWC_XFER_CMD_RESULT = 1
          ∧ t.fuses.minSvn = max s.fuses.minSvn (s.fwc.flash.svn k))
    ∧ (∀ a (k : Fin 2), (a = 0 ∨ 49 ≤ a) → (s.slotSt k ≠ 6 ∨ s.fwc.migrated = false) →
        exec (.commit a k) s = .next (s.xferResult 0 2))
    ∧ (∀ a k, (a = 0 ∨ 49 ≤ a) → s.stagedSlot = some k → s.fwc.activation = none →
        (0 < s.actSlack → s.actSlack < 2 ^ 28 →
          ∃ t, exec (.activateGo a) s = .next t ∧ t.fld Reg.FWC_ACT_STAT_STATE = 1
            ∧ t.fwc.activation = some { slot := k, atTick := s.tick + s.actSlack })
        ∧ (s.actSlack = 0 ∨ 2 ^ 28 ≤ s.actSlack →
          exec (.activateGo a) s = .next (s.reject a Reg.FWC_ACT_CTRL)))
    ∧ (∀ a, (a = 0 ∨ 49 ≤ a) → (s.stagedSlot = none ∨ s.fwc.activation ≠ none) →
        exec (.activateGo a) s = .next (s.reject a Reg.FWC_ACT_CTRL))
    ∧ (∀ (act : Activation) (g : Fin 2), s.fwc.activation = some act → act.groups.contains g.val = false →
        (g = 1 → act.groups.contains 0 = true) → s.tbu.running = true →
        ∃ t, exec (.activateGroup g) s = .next t
          ∧ act.atTick * 128 + g.val * (s.fld Reg.FWC_LIMITS_STAGGER * Config.us) ≤ t.tbu.time
          ∧ (∀ e < 48, (g = 0 → ¬ (e % 2 = 1 ∧ s.isSet (Reg.CE_CTRL_PAIR_EN e) = true)) →
            (g = 1 → Tab.get 0 e act.starts = 0) → t.fld (Reg.CE_CTRL_BANK e) = 1 - (s.engine e).bank))
    ∧ (∀ (act : Activation) (g : Fin 2), s.fwc.activation = some act →
        (act.groups.contains g.val = true ∨ g = 1 ∧ act.groups.contains 0 = false) → exec (.activateGroup g) s = .next s)
    ∧ (∀ act : Activation, s.fwc.activation = some act → act.groups = [] → s.tbu.running = true →
        (∀ e < 48, (s.engine e).retired = false) →
        ∃ t act1, exec (.activateGroup 0) s = .next t ∧ t.fld Reg.FWC_ACT_STAT_STATE = 2
          ∧ act.atTick * 128 ≤ t.tbu.time ∧ t.fwc.activation = some act1 ∧ act1.groups = [0]
          ∧ (∀ e < 48, ¬ (e % 2 = 1 ∧ s.isSet (Reg.CE_CTRL_PAIR_EN e) = true) →
            t.fld (Reg.CE_CTRL_BANK e) = 1 - (s.engine e).bank ∧ Tab.get 0 e act1.starts = t.clk + 1)
          ∧ (∀ e < 48, e % 2 = 1 → s.isSet (Reg.CE_CTRL_PAIR_EN e) = true →
            t.reg (Reg.CE_CTRL e) = s.reg (Reg.CE_CTRL e)))
    ∧ (∀ act : Activation, s.fwc.activation = some act → act.groups = [0] → s.tbu.running = true →
        (∀ e < 48, (s.engine e).retired = false) →
        ∃ t, exec (.activateGroup 1) s = .next t
          ∧ act.atTick * 128 + s.fld Reg.FWC_LIMITS_STAGGER * Config.us ≤ t.tbu.time
          ∧ (∀ e < 48, Tab.get 0 e act.starts = 0 → t.fld (Reg.CE_CTRL_BANK e) = 1 - (s.engine e).bank))
    ∧ (∀ (e : Fin 50) (act : Activation), e.val < 48 → s.fwc.activation = some act → Tab.get 0 e.val act.starts ≠ 0 →
        act.switched.contains e.val = false → (s.engine e).run = none → (s.engine e).cq = [] →
        s.fld (Reg.CE_CTRL_BANK e) ≠ (s.engine e).bank →
        ∃ t, exec (.bankSwitch e) s = .next t ∧ (t.engine e).bank = s.fld (Reg.CE_CTRL_BANK e)
          ∧ t.fld Reg.FWC_ACT_STAT_SWITCHED = (s.fld Reg.FWC_ACT_STAT_SWITCHED + 1) % 2 ^ 6
          ∧ (act.switched.length = 47 → t.fwc.running = some act.slot ∧ t.fwc.flash = s.fwc.flash.putSlot act.slot 6
            ∧ t.fwc.activation = none ∧ t.eventStat 192 = true ∧ t.fld Reg.FWC_ACT_STAT_STATE = 3)
          ∧ (act.switched.length ≠ 47 → t.fwc.activation = some { act with switched := e.val :: act.switched }))
    ∧ (∀ e : Fin 50, s.fwc.activation = none → (s.engine e).run = none → (s.engine e).cq = [] →
        s.fld (Reg.CE_CTRL_BANK e) ≠ (s.engine e).bank →
        (48 ≤ e.val → s.fwc.restart = some (e.val - 48) →
          ∃ t, exec (.bankSwitch e) s = .next t ∧ (t.engine e).bank = s.fld (Reg.CE_CTRL_BANK e)
            ∧ (t.engine e).pc = 0 ∧ (t.engine e).run = some { talus := false } ∧ t.fwc.restart = none
            ∧ t.isSet (Reg.CE_CTRL_RUN e) = true ∧ t.mem = s.mem)
        ∧ ((e.val < 48 ∨ s.fwc.restart ≠ some (e.val - 48)) →
          exec (.bankSwitch e) s = .next (s.modEngine e (fun g => { g with bank := s.fld (Reg.CE_CTRL_BANK e) }))))
    ∧ (∀ e : Fin 50, (s.fld (Reg.CE_CTRL_BANK e) = (s.engine e).bank ∨ (s.engine e).run.isSome = true
          ∨ (s.engine e).cq ≠ []) → exec (.bankSwitch e) s = .next s)
    ∧ (∀ a, (a = 0 ∨ 49 ≤ a) →
        (∃ t, exec (.migrated a) s = .next t ∧ t.eventStat 193 = true ∧ t.fwc.migrated = true
          ∧ t.fwc.flash = s.fwc.flash)
        ∧ (∃ t, exec (.migFail a) s = .next t ∧ t.eventStat 194 = true ∧ t.fwc = s.fwc))

/-- Configuration blocks, life-cycle, fuses and the state area (R475, R490 to R495). That a fused key slot is in use and that a
wrong key counts as a wrong transition is the model's choice (log 52). -/
def Obligations.ConfigurationAndLifecycleCommands : Prop :=
  ∀ s : State, s.held = false →
    (∀ a, (a = 49 ∨ a = 50) → s.isSet Reg.FWC_CFG_CMD_BUSY = false →
        (∀ (b : Fin 1024) (shelf : Fin 256) any k, s.stewardImage (a - 49) = some k →
          (State.blockPasses b s.fwc.flash.activeCfg.2 (s.fwc.flash.cfgVersion k) any
              (s.fwc.flash.cfgBlock s.fwc.flash.activeCfg.1 b) = true →
            ∃ t, exec (.cfgLoad a b shelf any) s = .next t ∧ t.isSet Reg.FWC_CFG_CMD_BUSY = true
              ∧ t.fwc.cfgDone = some (1, some (leAt (s.fwc.flash.cfgBlock s.fwc.flash.activeCfg.1 b) 2 2))
              ∧ t.mem = (s.toShelf (256 * shelf) (s.fwc.flash.cfgBlock s.fwc.flash.activeCfg.1 b)).mem)
          ∧ (State.blockPasses b s.fwc.flash.activeCfg.2 (s.fwc.flash.cfgVersion k) any
              (s.fwc.flash.cfgBlock s.fwc.flash.activeCfg.1 b) = false → s.fwc.flash.part k 4 (fun _ => true) = none →
            ∃ t, exec (.cfgLoad a b shelf any) s = .next t ∧ t.isSet Reg.GCTL_STATUS_CFG_DEFAULTED = true
              ∧ t.fld Reg.GCTL_STATUS_CFG_BLOCK = b ∧ t.fld Reg.FWC_CFG_STAT_LAST_DEFAULTED = b
              ∧ t.eventStat 4 = true ∧ t.fwc.cfgDone = some (3, some (s.fwc.flash.cfgVersion k)))
          ∧ (∀ dflts d, State.blockPasses b s.fwc.flash.activeCfg.2 (s.fwc.flash.cfgVersion k) any
              (s.fwc.flash.cfgBlock s.fwc.flash.activeCfg.1 b) = false →
            s.fwc.flash.part k 4 (fun _ => true) = some dflts → findDefault b dflts.length dflts = some d →
            ∃ t, exec (.cfgLoad a b shelf any) s = .next t ∧ t.isSet Reg.GCTL_STATUS_CFG_DEFAULTED = true
              ∧ t.fld Reg.GCTL_STATUS_CFG_BLOCK = b ∧ t.fld Reg.FWC_CFG_STAT_LAST_DEFAULTED = b
              ∧ t.eventStat 4 = true ∧ t.fwc.cfgDone = some (2, some (leAt d 2 2))))
        ∧ (∀ (shelf : Fin 256), blockHolds (s.shelfBlock (256 * shelf)).1 = false →
          ∃ t, exec (.cfgWrite a shelf) s = .next t ∧ t.fwc.cfgDone = some (4, none) ∧ t.fwc.flash = s.fwc.flash)
        ∧ (∀ (shelf : Fin 256) k l, s.stewardImage (a - 49) = some k → (s.shelfBlock (256 * shelf)).1 = l →
          blockHolds l = true → leAt l 2 2 ≠ s.fwc.flash.cfgVersion k →
          ∃ t, exec (.cfgWrite a shelf) s = .next t ∧ t.fwc.cfgDone = some (7, none) ∧ t.fwc.flash = s.fwc.flash)
        ∧ (∀ (shelf : Fin 256) k b l, s.stewardImage (a - 49) = some k → (s.shelfBlock (256 * shelf)).1 = l →
          blockHolds l = true → leAt l 2 2 = s.fwc.flash.cfgVersion k → leAt l 0 2 = b →
          (s.fwc.flash.cfgBlock (1 - s.fwc.flash.activeCfg.1) b ≠ [] →
            ∃ t, exec (.cfgWrite a shelf) s = .next t ∧ t.fwc.cfgDone = some (5, none) ∧ t.fwc.flash = s.fwc.flash)
          ∧ (s.fwc.flash.cfgBlock (1 - s.fwc.flash.activeCfg.1) b = [] →
            ((s.fwc.flash.cfgBank (1 - s.fwc.flash.activeCfg.1)).map List.length).sum + l.length ≤ 2 ^ 21 →
            ∃ t, exec (.cfgWrite a shelf) s = .next t ∧ t.fwc.cfgDone = some (1, none)
              ∧ t.fwc.flash.cfgBlock (1 - s.fwc.flash.activeCfg.1) b = l
              ∧ (∀ bank c, c < 1024 → 1024 * bank + c ≠ 1024 * (1 - s.fwc.flash.activeCfg.1) + b →
                t.fwc.flash.cfgBlock bank c = s.fwc.flash.cfgBlock bank c)))
        ∧ (∃ t, exec (.cfgErase a) s = .next t ∧ t.fwc.cfgDone = some (1, none)
          ∧ (∀ b < 1024, t.fwc.flash.cfgBlock (1 - s.fwc.flash.activeCfg.1) b = [])
          ∧ (∀ bank b, b < 1024 → bank ≠ 1 - s.fwc.flash.activeCfg.1 →
            t.fwc.flash.cfgBlock bank b = s.fwc.flash.cfgBlock bank b))
        ∧ (∀ g, s.fwc.flash.activeCfg = g → g.1 < 2 →
          (s.fwc.flash.bankGen (1 - g.1) = some ((g.2 + 1) % 2 ^ 32) →
            ∃ t, exec (.cfgSwitch a) s = .next t ∧ t.fwc.cfgDone = some (1, none) ∧ t.fwc.flash = s.fwc.flash
              ∧ t.isSet Reg.FWC_CFG_CMD_BUSY = true
              ∧ t.fwc.cfgRecord = some (.activeCfg (1 - g.1) ((g.2 + 1) % 2 ^ 32)))
          ∧ (s.fwc.flash.bankGen (1 - g.1) ≠ some ((g.2 + 2 ^ 32 - 1) % 2 ^ 32) →
            ∃ t, exec (.cfgRevert a) s = .next t ∧ t.fwc.cfgDone = some (6, none) ∧ t.fwc.flash = s.fwc.flash
              ∧ t.fwc.cfgRecord = s.fwc.cfgRecord)
          ∧ (s.fwc.flash.bankGen (1 - g.1) = some ((g.2 + 2 ^ 32 - 1) % 2 ^ 32) →
            (∃ t, exec (.cfgRevert a) s = .next t ∧ t.fwc.cfgDone = some (1, none) ∧ t.fwc.flash = s.fwc.flash
              ∧ t.isSet Reg.FWC_CFG_CMD_BUSY = true
              ∧ t.fwc.cfgRecord = some (.activeCfg (1 - g.1) ((g.2 + 2 ^ 32 - 1) % 2 ^ 32)))
            ∧ (∃ t, exec (.cfgSwitch a) s = .next t ∧ t.fwc.cfgDone = some (6, none) ∧ t.fwc.flash = s.fwc.flash
              ∧ t.fwc.cfgRecord = s.fwc.cfgRecord))))
    ∧ (∀ a, (a ≠ 49 ∧ a ≠ 50 ∨ s.isSet Reg.FWC_CFG_CMD_BUSY = true) →
        exec (.cfgErase a) s = .next (s.reject a Reg.FWC_CFG_CMD) ∧ exec (.cfgSwitch a) s = .next (s.reject a Reg.FWC_CFG_CMD)
        ∧ exec (.cfgRevert a) s = .next (s.reject a Reg.FWC_CFG_CMD)
        ∧ (∀ b shelf any, exec (.cfgLoad a b shelf any) s = .next (s.reject a Reg.FWC_CFG_CMD))
        ∧ (∀ shelf, exec (.cfgWrite a shelf) s = .next (s.reject a Reg.FWC_CFG_CMD)))
    ∧ (∀ result version, s.fwc.cfgDone = some (result, version) → result < 8 →
        ∃ t, exec .cfgOpDone s = .next t ∧ t.isSet Reg.FWC_CFG_CMD_BUSY = false
          ∧ t.fld Reg.FWC_CFG_CMD_RESULT = result ∧ t.fwc.cfgDone = none ∧ t.fwc.cfgRecord = none
          ∧ (s.fwc.cfgRecord = none → t.fwc.flash = s.fwc.flash)
          ∧ (∀ r, s.fwc.cfgRecord = some r → t.fwc.flash = s.fwc.flash.write r)
          ∧ (∀ v, version = some v → v < 2 ^ 10 → t.fld Reg.FWC_CFG_CMD_VERSION = v))
    ∧ (∀ a, (a = 49 ∨ a = 50 ∨ a = 51 ∧ s.fuses.lifecycle ≤ 1) →
        (s.fuses.lifecycle = 0 →
          ∃ t, exec (.lcProvision a 0xC3A) s = .next t ∧ t.fuses = { s.fuses with lifecycle := 1 } ∧ t.memc.sealed = []
            ∧ (∀ x < 8192, t.codeAt 4 0 x = {})
            ∧ t.eventStat 195 = true)
        ∧ (s.fuses.lifecycle = 1 →
          ∃ t, exec (.lcField a 0xC3A) s = .next t ∧ t.fuses = { s.fuses with lifecycle := 2 } ∧ t.memc.sealed = []
            ∧ (∀ x < 8192, t.codeAt 4 0 x = {})
            ∧ t.eventStat 195 = true)
        ∧ (∃ t, exec (.lcScrapped a 0xC3A) s = .next t ∧ t.fuses = { s.fuses with lifecycle := 4 } ∧ t.memc.sealed = []
            ∧ (∀ x < 8192, t.codeAt 4 0 x = {})
            ∧ t.eventStat 195 = true)
        ∧ (∀ shelf : Fin 256, s.fuses.lifecycle = 2 →
          ((s.returnAuthorised shelf).1 = true →
            ∃ t, exec (.lcReturn a 0xC3A shelf) s = .next t ∧ t.fuses = { s.fuses with lifecycle := 3 } ∧ t.memc.sealed = []
            ∧ (∀ x < 8192, t.codeAt 4 0 x = {})
              ∧ t.eventStat 195 = true)
          ∧ ((s.returnAuthorised shelf).1 = false →
            ∃ t, exec (.lcReturn a 0xC3A shelf) s = .next t ∧ t.fuses = s.fuses ∧ t.memc.sealed = s.memc.sealed
              ∧ t.fld Reg.FWC_LC_STAT_REASON = 3 ∧ t.eventStat 0 = true))
        ∧ (s.fuses.lifecycle ≠ 0 →
          ∃ t, exec (.lcProvision a 0xC3A) s = .next t ∧ t.fuses = s.fuses ∧ t.memc.sealed = s.memc.sealed
            ∧ t.fld Reg.FWC_LC_STAT_REASON = 1 ∧ t.eventStat 0 = true)
        ∧ (∀ (shelf : Fin 256) (slot : Fin 4), s.fuses.lifecycle ≤ 1 → s.fuses.keyValid.testBit slot = false →
          ∃ t, exec (.fuseKey a 0xC3A shelf slot) s = .next t ∧ t.fuses.keyValid.testBit slot = true
            ∧ Tab.get 0 slot.val t.fuses.keys = beAt (s.shelfOctets (256 * shelf) 12).1 0 48
            ∧ t.fuses.lifecycle = s.fuses.lifecycle ∧ t.fuses.keyRevoked = s.fuses.keyRevoked)
        ∧ (∀ (shelf : Fin 256) (slot : Fin 4), (2 ≤ s.fuses.lifecycle ∨ s.fuses.keyValid.testBit slot = true) →
          ∃ t, exec (.fuseKey a 0xC3A shelf slot) s = .next t ∧ t.fuses = s.fuses ∧ t.eventStat 0 = true
            ∧ t.fld Reg.FWC_LC_STAT_REASON = (if 2 ≤ s.fuses.lifecycle then 1 else 4))
        ∧ (∀ slot : Fin 4, s.fuses.lifecycle ≠ 4 → s.fwc.running = none →
          ∃ t, exec (.revokeKey a 0xC3A slot) s = .next t ∧ t.fuses.keyRevoked.testBit slot = true
            ∧ (∀ j, j ≠ slot.val → t.fuses.keyRevoked.testBit j = s.fuses.keyRevoked.testBit j)
            ∧ t.fuses.keyValid = s.fuses.keyValid ∧ t.fuses.keys = s.fuses.keys)
        ∧ (∀ (slot : Fin 4) k, s.fwc.running = some k → beAt (s.fwc.flash.piece k 0) 6 2 = slot →
          s.fuses.lifecycle ≠ 4 →
          ∃ t, exec (.revokeKey a 0xC3A slot) s = .next t ∧ t.fuses = s.fuses ∧ t.eventStat 0 = true))
    ∧ (∀ a key, key ≠ 0xC3A → (a = 0 ∨ 49 ≤ a) → ∀ c : Instr,
        (c = .lcProvision a key ∨ c = .lcField a key ∨ c = .lcScrapped a key ∨ (∃ shelf, c = .lcReturn a key shelf)
          ∨ (∃ shelf slot, c = .fuseKey a key shelf slot) ∨ ∃ slot, c = .revokeKey a key slot) →
        ∃ t, exec c s = .next t ∧ t.fuses = s.fuses ∧ t.memc = s.memc ∧ t.fld Reg.FWC_LC_STAT_REASON = 1
          ∧ t.eventStat 0 = true)
    ∧ (∀ a, 2 ≤ s.fuses.lifecycle → 51 ≤ a →
        ∃ t, exec (.lcScrapped a 0xC3A) s = .next t ∧ t.fuses = s.fuses ∧ t.memc.sealed = s.memc.sealed ∧ t.eventStat 0 = true
          ∧ t.fld Reg.FWC_LC_STAT_REASON = 2)
    ∧ (∀ a, ∃ t v, exec (.lcStatRead a) s = .next t ∧ t.outs = .read a v false :: s.outs
        ∧ v.field 2 0 = s.fuses.lifecycle % 8 ∧ t.fuses = s.fuses)
    ∧ (s.fwc.flash.wf → 389 ≤ s.fwc.flash.room →
        ∃ t, exec .stateSectorRotate s = .next t ∧ Tab.get [] s.fwc.flash.oldest t.fwc.flash.sectors = []
          ∧ (∀ k, t.fwc.flash.slotState k = s.fwc.flash.slotState k))
    ∧ (s.fwc.flash.room < 389 → exec .stateSectorRotate s = .next s)
    ∧ (∀ k : Fin 7, s.watched k = false → exec (.tamper k) s = .next s)
    ∧ (∀ k : Fin 7, s.watched k = true →
        ∃ t, exec (.tamper k) s = .next t ∧ t.fuses = s.fuses
          ∧ (s.isSet Reg.FWC_TAMPER_CTRL_ACTION = false → t.eventStat 196 = true
            ∧ (t.reg Reg.FWC_TAMPER_STAT).bit k = true ∧ t.memc.wiping.isSome = true)
          ∧ (s.isSet Reg.FWC_TAMPER_CTRL_ACTION = true → (t.reg Reg.PRC_RSTCAUSE).bit 5 = true
            ∧ t.fld Reg.PRC_STAT_PHASE = 0))


/-- The fault log and the copies of shadowed units (R503, R504, R506 to R508, R510, R511, R515). -/
def Obligations.FaultLogCommands : Prop :=
  ∀ s : State, s.held = false →
    (∀ r : Report, r.source < 190 → r.type < 512 →
        (s.strata.intake.any (State.mergesInto r) = false → s.strata.intake.length < 16 →
          (s.intake r).strata.intake = s.strata.intake ++ [{ r with count := 1 }])
        ∧ (s.strata.intake.any (State.mergesInto r) = false → s.strata.intake.length = 16 →
          s.fld (Reg.STRATA_LOST_LOST (State.classOf r.type)) = 0 →
          (s.intake r).strata.intake = s.strata.intake ∧ (s.intake r).eventStat 185 = true
          ∧ (s.intake r).fld (Reg.STRATA_LOST_LOST (State.classOf r.type)) = 1)
        ∧ (∀ p ps, s.strata.intake = p :: ps → p.source = r.source → p.type = r.type → r.type ≠ 186 → p.count < 2 ^ 20 - 1 →
          (s.intake r).strata.intake = { p with count := p.count + 1 } :: ps)
        ∧ (s.intake r).fld (Reg.STRATA_LAST_TYPE r.source) = r.type
        ∧ (s.intake r).fld (Reg.STRATA_LAST_DETAIL r.source) = r.detail % 2 ^ 16
        ∧ (s.intake r).fld (Reg.STRATA_LAST_REPORTS r.source) = min 2047 (s.fld (Reg.STRATA_LAST_REPORTS r.source) + 1)
        ∧ (∀ src, src < 190 → src ≠ r.source → (s.intake r).reg (Reg.STRATA_LAST src) = s.reg (Reg.STRATA_LAST src)))
    ∧ (∀ r rest h, s.strata.intake = r :: rest → s.fld Reg.STRATA_HEAD_HEAD = h →
        (s.strataUnread ≠ 512 →
          ∃ t, exec .strataRecordWrite s = .next t ∧ t.strata.intake = rest ∧ t.eventStat 184 = true
            ∧ t.fld Reg.STRATA_HEAD_HEAD = (h + 1) % 2 ^ 16
            ∧ (∀ i < 4, t.reg (Reg.STRATA_REC (h % 512) i) = (State.recordWords r).getD i 0)
            ∧ (∀ j < 512, j ≠ h % 512 → ∀ i < 4, t.reg (Reg.STRATA_REC j i) = s.reg (Reg.STRATA_REC j i))
            ∧ t.isSet Reg.STRATA_STAT_FIRST_VALID = true
            ∧ (∀ i < 4, t.reg (Reg.STRATA_FIRST i) = (if s.isSet Reg.STRATA_STAT_FIRST_VALID then s.reg (Reg.STRATA_FIRST i)
              else (State.recordWords r).getD i 0))
            ∧ (∀ c, s.strata.lastWrite = some c → c + 100 * Config.ns ≤ t.clk) ∧ t.mem = s.mem)
        ∧ (s.strataUnread = 512 → exec .strataRecordWrite s = .next s))
    ∧ (∀ a w, (a = 0 ∨ 49 ≤ a) →
        ((w.field 15 0 + 2 ^ 16 - s.fld Reg.STRATA_TAIL_TAIL) % 2 ^ 16 ≤ s.strataUnread →
          ∃ t, exec (.strataTailWrite a w) s = .next t ∧ t.fld Reg.STRATA_TAIL_TAIL = w.field 15 0
            ∧ t.strata = s.strata ∧ ∀ o, o ≠ Reg.STRATA_TAIL → t.reg o = s.reg o)
        ∧ (s.strataUnread < (w.field 15 0 + 2 ^ 16 - s.fld Reg.STRATA_TAIL_TAIL) % 2 ^ 16 →
          exec (.strataTailWrite a w) s = .next (s.reject a Reg.STRATA_TAIL))
        ∧ (∃ t, exec (.rearm a) s = .next t ∧ t.isSet Reg.STRATA_STAT_FIRST_VALID = false ∧ t.strata = s.strata
          ∧ ∀ o, o ≠ Reg.STRATA_STAT → t.reg o = s.reg o))
    ∧ (∀ a w, 1 ≤ a → a ≤ 48 → exec (.strataTailWrite a w) s = .next (s.reject a Reg.STRATA_TAIL)
        ∧ exec (.rearm a) s = .next (s.reject a Reg.STRATA_CTRL))
    ∧ (∀ a (n : Fin 190), (n.val < 50 ∨ 64 ≤ n.val ∧ n.val ≤ 0x76 ∨ 0x80 ≤ n.val ∧ n.val ≤ 0x91 ∨ 0xA0 ≤ n.val) →
        ∃ t v, exec (.strataLastRead a n) s = .next t ∧ t.outs = .read a v false :: s.outs
          ∧ v = s.reg (Reg.STRATA_LAST n) ∧ t.reg (Reg.STRATA_LAST n) = 0
          ∧ ∀ o, o ≠ Reg.STRATA_LAST n → t.reg o = s.reg o)
    ∧ (∀ a, ∃ t v, exec (.strataWstatRead a) s = .next t ∧ t.outs = .read a v false :: s.outs
        ∧ v.field 18 0 = (s.reg Reg.STRATA_WSTAT).field 18 0 ∧ v.bit 35 = (s.reg Reg.STRATA_WSTAT).bit 35
        ∧ (t.reg Reg.STRATA_WSTAT).bit 35 = false)
    ∧ (∀ a (k : Fin 4), ∃ t v, exec (.strataLostRead a k) s = .next t ∧ t.outs = .read a v false :: s.outs
        ∧ v.field 19 0 = s.fld (Reg.STRATA_LOST_LOST k) ∧ t.fld (Reg.STRATA_LOST_LOST k) = 0
        ∧ ∀ o, o ≠ Reg.STRATA_LOST k → t.reg o = s.reg o)
    ∧ (∀ u : Fin 190, isShadowed u = true → (s.copies u).retired = false →
        exec (.copyFault u 0) s = .next s
        ∧ ((s.copies u).testing = none →
          (∃ t, exec (.copyFault u 3) s = .next t ∧ (t.copies u).testing = some s.clk ∧ t.regs = s.regs)
          ∧ (∀ f : Fin 4, (f = 1 ∨ f = 2) →
            (2 ≤ s.fld (Reg.STRATA_WCFG_N 3) → Tab.get [] (3072 + u.val) s.strata.windows = [] →
              ∃ t, exec (.copyFault u f) s = .next t ∧ t.fld (Reg.STRATA_LAST_TYPE u) = 259
                ∧ t.copies u = { onCopy := 0, retired := false, testing := none }
                ∧ Tab.get [] (3072 + u.val) t.strata.windows = [s.tick])
            ∧ (∀ c, s.fld (Reg.STRATA_WCFG_N 3) = 2 → s.fld (Reg.STRATA_WCFG_ACTION 3) = 4 →
              Tab.get [] (3072 + u.val) s.strata.windows = [c] → s.tick ≤ c + s.windowTicks 3 →
              ∃ t, exec (.copyFault u f) s = .next t ∧ t.copies u = { onCopy := 3 - f, retired := true, testing := none }
                ∧ t.eventStat 186 = true ∧ Tab.get [] (3072 + u.val) t.strata.windows = []
                ∧ t.reg Reg.STRATA_WSTAT = Word.ofN (2 ^ 35 + 2 ^ 11 * u.val + 2 ^ 8 * 3 + u.val)))))
    ∧ (∀ (u : Fin 190) (pass : Fin 2) c, isShadowed u = true → (s.copies u).retired = false →
        (s.copies u).testing = some c → 2 ≤ s.fld (Reg.STRATA_WCFG_N 3) →
        Tab.get [] (3072 + u.val) s.strata.windows = [] →
        ∃ t, exec (.copyTestDone u pass) s = .next t ∧ t.copies u = { onCopy := 0, retired := false, testing := none }
          ∧ t.fld (Reg.STRATA_LAST_TYPE u) = 259 ∧ c + Config.us ≤ t.clk)


/-- Engine debug, JTAG and the self-tests (R549 to R555, R557). -/
def Obligations.DebugAndTestCommands : Prop :=
  ∀ s : State, s.held = false →
    (∀ a (e : Fin 50), (a = 49 ∨ a = 50) → a ≠ e.val + 1 → s.paired e = false →
        ((s.engine e).run.isSome = true → (s.engine e).trapped = false → (s.engine e).halted = false →
          ∃ t, exec (.dbgHalt a e) s = .next t ∧ (t.engine e).halted = true ∧ t.eventStat 210 = true
            ∧ t.fld Reg.TMX_DBG_CMD_RESULT = 1 ∧ t.mem = s.mem)
        ∧ ((s.engine e).run = none → (s.engine e).halted = false →
          ∃ t, exec (.dbgHalt a e) s = .next t ∧ t.engine e = { s.engine e with haltNext := true }
            ∧ t.fld Reg.TMX_DBG_CMD_RESULT = 1)
        ∧ ((s.engine e).halted = true →
          (∃ t, exec (.dbgResume a e) s = .next t ∧ (t.engine e).halted = false ∧ t.fld Reg.TMX_DBG_CMD_RESULT = 1
            ∧ (t.engine e).regs = (s.engine e).regs ∧ (t.engine e).pc = (s.engine e).pc)
          ∧ (∃ t, exec (.dbgStep a e) s = .next t ∧ t.engine e = { s.engine e with stepping := true }
            ∧ t.fld Reg.TMX_DBG_CMD_RESULT = 1)
          ∧ (∀ idx : Fin 512,
            (idx.val < 16 → ∃ t, exec (.readReg a e idx) s = .next t ∧ t.reg Reg.TMX_DBG_DATA = (s.engine e).w idx
              ∧ t.fld Reg.TMX_DBG_CMD_RESULT = 1 ∧ t.engines = s.engines)
            ∧ (256 ≤ idx.val → ∃ t, exec (.readReg a e idx) s = .next t
              ∧ t.reg Reg.TMX_DBG_DATA = Tab.get 0 (idx.val % 256) (s.engine e).regs
              ∧ t.fld Reg.TMX_DBG_CMD_RESULT = 1 ∧ t.engines = s.engines)
            ∧ (idx.val < 16 → ∃ t, exec (.writeReg a e idx) s = .next t
              ∧ (t.engine e).w idx = s.reg Reg.TMX_DBG_DATA ∧ t.fld Reg.TMX_DBG_CMD_RESULT = 1
              ∧ (∀ j < 16, j ≠ idx.val → (t.engine e).w j = (s.engine e).w j) ∧ (t.engine e).pc = (s.engine e).pc)
            ∧ (20 ≤ idx.val → idx.val < 256 →
              (∃ t, exec (.readReg a e idx) s = .next t ∧ t.fld Reg.TMX_DBG_CMD_RESULT = 2 ∧ t.engines = s.engines)
              ∧ (∃ t, exec (.writeReg a e idx) s = .next t ∧ t.fld Reg.TMX_DBG_CMD_RESULT = 2
                ∧ t.engines = s.engines))))
        ∧ ((s.engine e).halted = false →
          (∃ t, exec (.dbgResume a e) s = .next t ∧ t.fld Reg.TMX_DBG_CMD_RESULT = 2 ∧ t.engines = s.engines)
          ∧ (∃ t, exec (.dbgStep a e) s = .next t ∧ t.fld Reg.TMX_DBG_CMD_RESULT = 2 ∧ t.engines = s.engines)
          ∧ ∀ idx, (∃ t, exec (.readReg a e idx) s = .next t ∧ t.fld Reg.TMX_DBG_CMD_RESULT = 2 ∧ t.engines = s.engines)
            ∧ (∃ t, exec (.writeReg a e idx) s = .next t ∧ t.fld Reg.TMX_DBG_CMD_RESULT = 2 ∧ t.engines = s.engines))
        ∧ (∀ idx : Fin 512, idx.val < 2 →
          (∃ t, exec (.setBp a e idx) s = .next t ∧ t.fld Reg.TMX_DBG_CMD_RESULT = 1
            ∧ Tab.get none idx.val (t.engine e).bps = some ((s.reg Reg.TMX_DBG_DATA).field 16 0))
          ∧ (∃ t, exec (.clrBp a e idx) s = .next t ∧ t.fld Reg.TMX_DBG_CMD_RESULT = 1
            ∧ Tab.get none idx.val (t.engine e).bps = none))
        ∧ (∀ idx : Fin 512, 2 ≤ idx.val →
          (∃ t, exec (.setBp a e idx) s = .next t ∧ t.fld Reg.TMX_DBG_CMD_RESULT = 2 ∧ t.engines = s.engines)
          ∧ (∃ t, exec (.clrBp a e idx) s = .next t ∧ t.fld Reg.TMX_DBG_CMD_RESULT = 2 ∧ t.engines = s.engines)))
    ∧ (∀ a (e : Fin 50), (a = 49 ∨ a = 50) → a ≠ e.val + 1 →
        (∃ t, exec (.dbgHalt a e) s = .next t ∧ t.fld Reg.TMX_DBG_CMD_RESULT = 1
          ∧ ∀ x, x = e.val ∨ s.paired e = true ∧ s.paired (partnerOf e) = true ∧ x = partnerOf e →
            ((s.engine x).run.isSome = true ∧ (s.engine x).trapped = false → (t.engine x).halted = true)
            ∧ (((s.engine x).run = none ∨ (s.engine x).trapped = true) → (s.engine x).halted = false →
              (t.engine x).haltNext = true ∧ (t.engine x).halted = false))
        ∧ ((s.engine e).halted = true →
          (∃ t, exec (.dbgResume a e) s = .next t ∧ t.fld Reg.TMX_DBG_CMD_RESULT = 1
            ∧ ∀ x, x = e.val ∨ s.paired e = true ∧ s.paired (partnerOf e) = true ∧ x = partnerOf e →
              (t.engine x).halted = false ∧ (t.engine x).pc = (s.engine x).pc ∧ (t.engine x).run = (s.engine x).run)
          ∧ (∃ t, exec (.dbgStep a e) s = .next t ∧ t.fld Reg.TMX_DBG_CMD_RESULT = 1
            ∧ ∀ x, x = e.val ∨ s.paired e = true ∧ s.paired (partnerOf e) = true ∧ x = partnerOf e →
              (t.engine x).stepping = true ∧ (t.engine x).pc = (s.engine x).pc)
          ∧ (∀ (idx : Fin 512) w, s.dbgRead e idx = some w →
            (∃ t, exec (.readReg a e idx) s = .next t ∧ t.reg Reg.TMX_DBG_DATA = w
              ∧ t.fld Reg.TMX_DBG_CMD_RESULT = 1 ∧ t.engines = s.engines)
            ∧ (s.paired e = false → ∃ t, exec (.writeReg a e idx) s = .next t ∧ t.fld Reg.TMX_DBG_CMD_RESULT = 1
              ∧ t.engine e = State.dbgPut e idx (s.reg Reg.TMX_DBG_DATA) (s.engine e))
            ∧ (s.paired e = true → ∃ t, exec (.writeReg a e idx) s = .next t ∧ t.fld Reg.TMX_DBG_CMD_RESULT = 2
              ∧ t.engines = s.engines))))
    ∧ (∀ (e : Fin 50) w, s.dbgRead e 16 = some (Word.ofN ((s.engine e).pc + 2 ^ 16 * (s.engine e).bank))
        ∧ s.dbgRead e 17 = some (Word.ofN (s.engine e).flags) ∧ s.dbgRead e 18 = some (Word.ofN (s.engine e).wb)
        ∧ s.dbgRead e 19 = some (Word.ofN (s.engine e).dsp)
        ∧ (State.dbgPut e 16 w (s.engine e)).pc = w.field 15 0 % bankSize e
        ∧ (State.dbgPut e 16 w (s.engine e)).bank = w.field 16 16
        ∧ (State.dbgPut e 18 w (s.engine e)).wb = w.field 7 0 ∧ (State.dbgPut e 19 w (s.engine e)).dsp = w.field 17 0)
    ∧ (∀ a (e : Fin 50), (a ≠ 49 ∧ a ≠ 50 ∨ a = e.val + 1) →
        exec (.dbgHalt a e) s = .next (s.reject a Reg.TMX_DBG_CMD)
        ∧ exec (.dbgResume a e) s = .next (s.reject a Reg.TMX_DBG_CMD)
        ∧ exec (.dbgStep a e) s = .next (s.reject a Reg.TMX_DBG_CMD)
        ∧ ∀ idx, exec (.readReg a e idx) s = .next (s.reject a Reg.TMX_DBG_CMD)
          ∧ exec (.writeReg a e idx) s = .next (s.reject a Reg.TMX_DBG_CMD)
          ∧ exec (.setBp a e idx) s = .next (s.reject a Reg.TMX_DBG_CMD)
          ∧ exec (.clrBp a e idx) s = .next (s.reject a Reg.TMX_DBG_CMD))
    ∧ (∀ a jtag, (jtag = true ∨ a = 50) → (s.fld Reg.PRC_STAT_PHASE ≠ 2 ∨ s.straps.bootHalt = false) →
        ∃ t, exec (.dbgRelease a jtag) s = .next t ∧ t.fld Reg.TMX_DBG_CMD_RESULT = 2 ∧ t.prc = s.prc
          ∧ t.engines = s.engines)
    ∧ (∀ a, s.fld Reg.PRC_STAT_PHASE = 2 → s.straps.bootHalt = true → s.prc.bootHalted = true →
        ∃ t, exec (.dbgRelease a true) s = .next t ∧ t.fld Reg.TMX_DBG_CMD_RESULT = 1 ∧ t.prc.bootHalted = false
          ∧ t.isSet (Reg.CE_CTRL_RUN 48) = true ∧ t.isSet (Reg.CE_CTRL_RUN 49) = true
          ∧ t.fld Reg.TALUS_CTRL_ACTIVE_SE = 0)
    ∧ (∀ e : Fin 50, (s.engine e).run.isSome = true → (s.engine e).trapped = false → (s.engine e).halted = false →
        (s.engine e).stall = none → s.breakHere e = true →
        ∃ t, exec (.breakpoint e) s = .next t ∧ (t.engine e).halted = true ∧ t.eventStat 210 = true
          ∧ (t.engine e).pc = (s.engine e).pc ∧ (t.engine e).run = (s.engine e).run ∧ t.mem = s.mem)
    ∧ (∃ t, exec .testLogicReset s = .next t ∧ t.tmx.ir = 1 ∧ t.regs = s.regs ∧ t.mem = s.mem)
    ∧ (∀ code : Fin 256,
        ((code.val ≤ 6 ∨ code.val = 16 ∧ (s.fuses.lifecycle = 0 ∨ s.fuses.lifecycle = 1 ∨ s.fuses.lifecycle = 3)) →
          ∃ t, exec (.jtagUpdateIr code) s = .next t ∧ t.tmx.ir = code ∧ t.regs = s.regs)
        ∧ ((6 < code.val ∧ code.val ≠ 16 ∨ code.val = 16 ∧ s.fuses.lifecycle = 2 ∨ code.val = 16 ∧ s.fuses.lifecycle = 4) →
          ∃ t, exec (.jtagUpdateIr code) s = .next t ∧ t.tmx.ir = 0xFF ∧ t.regs = s.regs))
    ∧ (∀ d, d < 2 ^ 36 →
        (s.jtagSelect s.tmx.ir = 16 →
          (∃ t, exec (.tmxAccess (2 ^ 52 + 2 ^ 36 * 9 + d)) s = .next t ∧ t.reg Reg.TMX_DBG_DATA = Word.ofN d
            ∧ t.tmx.capture = 0)
          ∧ (∃ t, exec (.tmxAccess (2 ^ 36 * 9 + d)) s = .next t ∧ t.tmx.capture = (s.reg Reg.TMX_DBG_DATA).toNat
            ∧ t.outs = .jtag (s.reg Reg.TMX_DBG_DATA).toNat :: s.outs))
        ∧ (s.jtagSelect s.tmx.ir ≠ 16 → exec (.tmxAccess d) s = .next s))
    ∧ (∀ a, a ≠ 49 → a ≠ 50 → a ≠ 51 → ∀ c lane loop,
        exec (.bistLogic a c) s = .next (s.reject a Reg.TMX_BIST_CTRL)
        ∧ exec (.bistPrbs a lane loop) s = .next (s.reject a Reg.TMX_BIST_CTRL))
    ∧ (∀ a (c : Fin 16), (a = 49 ∨ a = 50 ∨ a = 51) →
        (c.val < 12 → s.isSet Reg.TMX_BIST_STAT_BUSY = false →
          (∀ k < 4, s.isSet (Reg.CE_CTRL_RUN (4 * c + k)) = false
            ∧ (s.engineState (4 * c + k) = 2 ∨ s.engineState (4 * c + k) = 4)) →
          ∃ t, exec (.bistLogic a c) s = .next t ∧ t.tmx.testing = some (c.val, s.clk)
            ∧ t.isSet Reg.TMX_BIST_STAT_BUSY = true ∧ t.mem = s.mem)
        ∧ ((12 ≤ c.val ∨ s.isSet Reg.TMX_BIST_STAT_BUSY = true) →
          exec (.bistLogic a c) s = .next (s.reject a Reg.TMX_BIST_CTRL)))
    ∧ (∀ c start (fails : Fin 16), s.tmx.testing = some (c, start) → c < 12 → s.tmx.heldWake = false →
        ∃ t, exec (.bistLogicDone fails) s = .next t ∧ t.tmx.testing = none ∧ t.isSet Reg.TMX_BIST_STAT_BUSY = false
          ∧ t.fld Reg.TMX_BIST_STAT_ENGINES = fails ∧ (fails = 0 → t.eventStat 208 = true)
          ∧ (fails ≠ 0 → t.eventStat 209 = true ∧ t.isSet Reg.TMX_BIST_STAT_FAILED = true)
          ∧ (∀ k < 4, fails.val.testBit k = true → t.isSet (Reg.CE_CTRL_RETIRE (4 * c + k)) = true)
          ∧ (∀ k < 4, t.codeAt (engineCtrl (4 * c + k)) 0 0 = {}))
    ∧ (∀ a (lane : Fin 16) (loop : Fin 2), (a = 49 ∨ a = 50 ∨ a = 51) →
        (s.isSet Reg.TMX_BIST_STAT_BUSY = false → s.inForce (Reg.MAC_MODE_MODE lane) = 0 →
          ∃ t, exec (.bistPrbs a lane loop) s = .next t ∧ t.tmx.prbs = some (lane.val, false)
            ∧ t.isSet Reg.TMX_BIST_STAT_BUSY = true ∧ t.fld Reg.TMX_BIST_CTRL_TARGET = lane
            ∧ t.fld Reg.TMX_BIST_CTRL_LOOP = loop)
        ∧ ((s.isSet Reg.TMX_BIST_STAT_BUSY = true ∨ s.inForce (Reg.MAC_MODE_MODE lane) ≠ 0) →
          exec (.bistPrbs a lane loop) s = .next (s.reject a Reg.TMX_BIST_CTRL)))
    ∧ (∀ a n lane left, s.tmx.prbs = some (lane, left) →
        ((a = 49 ∨ a = 50 ∨ a = 51) →
          ∃ t, exec (.prbsStop a n) s = .next t ∧ t.tmx.prbs = none ∧ t.isSet Reg.TMX_BIST_STAT_BUSY = false
            ∧ (n ≠ 0 → left = false → t.eventStat 209 = true)
            ∧ t.fld Reg.TMX_PRBS_ERR_COUNT = min (2 ^ 36 - 1) (s.fld Reg.TMX_PRBS_ERR_COUNT + n))
        ∧ (∃ t v, exec (.prbsErrRead a n) s = .next t ∧ t.outs.head? = some (.read a v false)
            ∧ v.toNat = min (2 ^ 36 - 1) (s.fld Reg.TMX_PRBS_ERR_COUNT + n) ∧ t.fld Reg.TMX_PRBS_ERR_COUNT = 0
            ∧ (n ≠ 0 → left = false → t.eventStat 209 = true)))
    ∧ (∀ v, (s.tmx.ir = 0 ∨ s.tmx.ir = 3 ∨ s.tmx.ir = 4) →
        ∃ t, exec (.extestUpdateDr (some v)) s = .next t ∧ t.tmx.boundary = v % 2 ^ 812
          ∧ t.outs = .balls (v % 2 ^ 812) (s.tmx.ir == 3) :: s.outs ∧ t.regs = s.regs)
    ∧ (∀ v, s.tmx.ir = 2 →
        ∃ t, exec (.extestUpdateDr (some v)) s = .next t ∧ t.tmx.boundary = v % 2 ^ 812 ∧ t.outs = s.outs)
    ∧ (s.tmx.ir = 4 →
        ∃ t, exec (.extestUpdateDr none) s = .next t ∧ t.outs = .balls s.tmx.boundary true :: s.outs)
end

