-- ==== Sys2Proof/Laws/State.lean ====
section
/-! SUPPORT. One lemma per field per update of the state: an update leaves every field alone that it does not name. -/
namespace Sys2Proof.Machine.State

/-! setReg -/

@[simp] theorem setReg_pending (s : State) (o : Nat) (w : Word) : (s.setReg o w).pending = s.pending := rfl
@[simp] theorem setReg_clk (s : State) (o : Nat) (w : Word) : (s.setReg o w).clk = s.clk := rfl
@[simp] theorem setReg_freeCtr (s : State) (o : Nat) (w : Word) : (s.setReg o w).freeCtr = s.freeCtr := rfl
@[simp] theorem setReg_outs (s : State) (o : Nat) (w : Word) : (s.setReg o w).outs = s.outs := rfl
@[simp] theorem setReg_act (s : State) (o : Nat) (w : Word) : (s.setReg o w).act = s.act := rfl
@[simp] theorem setReg_agentRegs (s : State) (o : Nat) (w : Word) : (s.setReg o w).agentRegs = s.agentRegs := rfl
@[simp] theorem setReg_held (s : State) (o : Nat) (w : Word) : (s.setReg o w).held = s.held := rfl
@[simp] theorem setReg_fuses (s : State) (o : Nat) (w : Word) : (s.setReg o w).fuses = s.fuses := rfl
@[simp] theorem setReg_straps (s : State) (o : Nat) (w : Word) : (s.setReg o w).straps = s.straps := rfl
@[simp] theorem setReg_localHost (s : State) (o : Nat) (w : Word) : (s.setReg o w).localHost = s.localHost := rfl
@[simp] theorem setReg_remoteHost (s : State) (o : Nat) (w : Word) : (s.setReg o w).remoteHost = s.remoteHost := rfl
@[simp] theorem setReg_flight (s : State) (o : Nat) (w : Word) : (s.setReg o w).flight = s.flight := rfl
@[simp] theorem setReg_posted (s : State) (o : Nat) (w : Word) : (s.setReg o w).posted = s.posted := rfl
@[simp] theorem setReg_postSeq (s : State) (o : Nat) (w : Word) : (s.setReg o w).postSeq = s.postSeq := rfl
@[simp] theorem setReg_mem (s : State) (o : Nat) (w : Word) : (s.setReg o w).mem = s.mem := rfl
@[simp] theorem setReg_memc (s : State) (o : Nat) (w : Word) : (s.setReg o w).memc = s.memc := rfl
@[simp] theorem setReg_tbu (s : State) (o : Nat) (w : Word) : (s.setReg o w).tbu = s.tbu := rfl
@[simp] theorem setReg_talus (s : State) (o : Nat) (w : Word) : (s.setReg o w).talus = s.talus := rfl
@[simp] theorem setReg_col (s : State) (o : Nat) (w : Word) : (s.setReg o w).col = s.col := rfl
@[simp] theorem setReg_strata (s : State) (o : Nat) (w : Word) : (s.setReg o w).strata = s.strata := rfl
@[simp] theorem setReg_macs (s : State) (o : Nat) (w : Word) : (s.setReg o w).macs = s.macs := rfl
@[simp] theorem setReg_massif (s : State) (o : Nat) (w : Word) : (s.setReg o w).massif = s.massif := rfl
@[simp] theorem setReg_sts (s : State) (o : Nat) (w : Word) : (s.setReg o w).sts = s.sts := rfl
@[simp] theorem setReg_tal (s : State) (o : Nat) (w : Word) : (s.setReg o w).tal = s.tal := rfl
@[simp] theorem setReg_rl (s : State) (o : Nat) (w : Word) : (s.setReg o w).rl = s.rl := rfl
@[simp] theorem setReg_cans (s : State) (o : Nat) (w : Word) : (s.setReg o w).cans = s.cans := rfl
@[simp] theorem setReg_tor (s : State) (o : Nat) (w : Word) : (s.setReg o w).tor = s.tor := rfl
@[simp] theorem setReg_hostIf (s : State) (o : Nat) (w : Word) : (s.setReg o w).hostIf = s.hostIf := rfl
@[simp] theorem setReg_prc (s : State) (o : Nat) (w : Word) : (s.setReg o w).prc = s.prc := rfl
@[simp] theorem setReg_fwc (s : State) (o : Nat) (w : Word) : (s.setReg o w).fwc = s.fwc := rfl
@[simp] theorem setReg_tmx (s : State) (o : Nat) (w : Word) : (s.setReg o w).tmx = s.tmx := rfl
@[simp] theorem setReg_acting (s : State) (o : Nat) (w : Word) : (s.setReg o w).acting = s.acting := rfl
@[simp] theorem setReg_engines (s : State) (o : Nat) (w : Word) : (s.setReg o w).engines = s.engines := rfl
@[simp] theorem setReg_pairs (s : State) (o : Nat) (w : Word) : (s.setReg o w).pairs = s.pairs := rfl

/-! setAgentReg -/

@[simp] theorem setAgentReg_pending (s : State) (a o : Nat) (w : Word) : (s.setAgentReg a o w).pending = s.pending := rfl
@[simp] theorem setAgentReg_clk (s : State) (a o : Nat) (w : Word) : (s.setAgentReg a o w).clk = s.clk := rfl
@[simp] theorem setAgentReg_freeCtr (s : State) (a o : Nat) (w : Word) : (s.setAgentReg a o w).freeCtr = s.freeCtr := rfl
@[simp] theorem setAgentReg_outs (s : State) (a o : Nat) (w : Word) : (s.setAgentReg a o w).outs = s.outs := rfl
@[simp] theorem setAgentReg_regs (s : State) (a o : Nat) (w : Word) : (s.setAgentReg a o w).regs = s.regs := rfl
@[simp] theorem setAgentReg_act (s : State) (a o : Nat) (w : Word) : (s.setAgentReg a o w).act = s.act := rfl
@[simp] theorem setAgentReg_held (s : State) (a o : Nat) (w : Word) : (s.setAgentReg a o w).held = s.held := rfl
@[simp] theorem setAgentReg_fuses (s : State) (a o : Nat) (w : Word) : (s.setAgentReg a o w).fuses = s.fuses := rfl
@[simp] theorem setAgentReg_straps (s : State) (a o : Nat) (w : Word) : (s.setAgentReg a o w).straps = s.straps := rfl
@[simp] theorem setAgentReg_localHost (s : State) (a o : Nat) (w : Word) : (s.setAgentReg a o w).localHost = s.localHost := rfl
@[simp] theorem setAgentReg_remoteHost (s : State) (a o : Nat) (w : Word) : (s.setAgentReg a o w).remoteHost = s.remoteHost := rfl
@[simp] theorem setAgentReg_flight (s : State) (a o : Nat) (w : Word) : (s.setAgentReg a o w).flight = s.flight := rfl
@[simp] theorem setAgentReg_posted (s : State) (a o : Nat) (w : Word) : (s.setAgentReg a o w).posted = s.posted := rfl
@[simp] theorem setAgentReg_postSeq (s : State) (a o : Nat) (w : Word) : (s.setAgentReg a o w).postSeq = s.postSeq := rfl
@[simp] theorem setAgentReg_mem (s : State) (a o : Nat) (w : Word) : (s.setAgentReg a o w).mem = s.mem := rfl
@[simp] theorem setAgentReg_memc (s : State) (a o : Nat) (w : Word) : (s.setAgentReg a o w).memc = s.memc := rfl
@[simp] theorem setAgentReg_tbu (s : State) (a o : Nat) (w : Word) : (s.setAgentReg a o w).tbu = s.tbu := rfl
@[simp] theorem setAgentReg_talus (s : State) (a o : Nat) (w : Word) : (s.setAgentReg a o w).talus = s.talus := rfl
@[simp] theorem setAgentReg_col (s : State) (a o : Nat) (w : Word) : (s.setAgentReg a o w).col = s.col := rfl
@[simp] theorem setAgentReg_strata (s : State) (a o : Nat) (w : Word) : (s.setAgentReg a o w).strata = s.strata := rfl
@[simp] theorem setAgentReg_macs (s : State) (a o : Nat) (w : Word) : (s.setAgentReg a o w).macs = s.macs := rfl
@[simp] theorem setAgentReg_massif (s : State) (a o : Nat) (w : Word) : (s.setAgentReg a o w).massif = s.massif := rfl
@[simp] theorem setAgentReg_sts (s : State) (a o : Nat) (w : Word) : (s.setAgentReg a o w).sts = s.sts := rfl
@[simp] theorem setAgentReg_tal (s : State) (a o : Nat) (w : Word) : (s.setAgentReg a o w).tal = s.tal := rfl
@[simp] theorem setAgentReg_rl (s : State) (a o : Nat) (w : Word) : (s.setAgentReg a o w).rl = s.rl := rfl
@[simp] theorem setAgentReg_cans (s : State) (a o : Nat) (w : Word) : (s.setAgentReg a o w).cans = s.cans := rfl
@[simp] theorem setAgentReg_tor (s : State) (a o : Nat) (w : Word) : (s.setAgentReg a o w).tor = s.tor := rfl
@[simp] theorem setAgentReg_hostIf (s : State) (a o : Nat) (w : Word) : (s.setAgentReg a o w).hostIf = s.hostIf := rfl
@[simp] theorem setAgentReg_prc (s : State) (a o : Nat) (w : Word) : (s.setAgentReg a o w).prc = s.prc := rfl
@[simp] theorem setAgentReg_fwc (s : State) (a o : Nat) (w : Word) : (s.setAgentReg a o w).fwc = s.fwc := rfl
@[simp] theorem setAgentReg_tmx (s : State) (a o : Nat) (w : Word) : (s.setAgentReg a o w).tmx = s.tmx := rfl
@[simp] theorem setAgentReg_acting (s : State) (a o : Nat) (w : Word) : (s.setAgentReg a o w).acting = s.acting := rfl
@[simp] theorem setAgentReg_engines (s : State) (a o : Nat) (w : Word) : (s.setAgentReg a o w).engines = s.engines := rfl
@[simp] theorem setAgentReg_pairs (s : State) (a o : Nat) (w : Word) : (s.setAgentReg a o w).pairs = s.pairs := rfl

/-! setEngine -/

@[simp] theorem setEngine_pending (s : State) (e : Nat) (g : Engine) : (s.setEngine e g).pending = s.pending := rfl
@[simp] theorem setEngine_clk (s : State) (e : Nat) (g : Engine) : (s.setEngine e g).clk = s.clk := rfl
@[simp] theorem setEngine_freeCtr (s : State) (e : Nat) (g : Engine) : (s.setEngine e g).freeCtr = s.freeCtr := rfl
@[simp] theorem setEngine_outs (s : State) (e : Nat) (g : Engine) : (s.setEngine e g).outs = s.outs := rfl
@[simp] theorem setEngine_regs (s : State) (e : Nat) (g : Engine) : (s.setEngine e g).regs = s.regs := rfl
@[simp] theorem setEngine_act (s : State) (e : Nat) (g : Engine) : (s.setEngine e g).act = s.act := rfl
@[simp] theorem setEngine_agentRegs (s : State) (e : Nat) (g : Engine) : (s.setEngine e g).agentRegs = s.agentRegs := rfl
@[simp] theorem setEngine_held (s : State) (e : Nat) (g : Engine) : (s.setEngine e g).held = s.held := rfl
@[simp] theorem setEngine_fuses (s : State) (e : Nat) (g : Engine) : (s.setEngine e g).fuses = s.fuses := rfl
@[simp] theorem setEngine_straps (s : State) (e : Nat) (g : Engine) : (s.setEngine e g).straps = s.straps := rfl
@[simp] theorem setEngine_localHost (s : State) (e : Nat) (g : Engine) : (s.setEngine e g).localHost = s.localHost := rfl
@[simp] theorem setEngine_remoteHost (s : State) (e : Nat) (g : Engine) : (s.setEngine e g).remoteHost = s.remoteHost := rfl
@[simp] theorem setEngine_flight (s : State) (e : Nat) (g : Engine) : (s.setEngine e g).flight = s.flight := rfl
@[simp] theorem setEngine_posted (s : State) (e : Nat) (g : Engine) : (s.setEngine e g).posted = s.posted := rfl
@[simp] theorem setEngine_postSeq (s : State) (e : Nat) (g : Engine) : (s.setEngine e g).postSeq = s.postSeq := rfl
@[simp] theorem setEngine_mem (s : State) (e : Nat) (g : Engine) : (s.setEngine e g).mem = s.mem := rfl
@[simp] theorem setEngine_memc (s : State) (e : Nat) (g : Engine) : (s.setEngine e g).memc = s.memc := rfl
@[simp] theorem setEngine_tbu (s : State) (e : Nat) (g : Engine) : (s.setEngine e g).tbu = s.tbu := rfl
@[simp] theorem setEngine_talus (s : State) (e : Nat) (g : Engine) : (s.setEngine e g).talus = s.talus := rfl
@[simp] theorem setEngine_col (s : State) (e : Nat) (g : Engine) : (s.setEngine e g).col = s.col := rfl
@[simp] theorem setEngine_strata (s : State) (e : Nat) (g : Engine) : (s.setEngine e g).strata = s.strata := rfl
@[simp] theorem setEngine_macs (s : State) (e : Nat) (g : Engine) : (s.setEngine e g).macs = s.macs := rfl
@[simp] theorem setEngine_massif (s : State) (e : Nat) (g : Engine) : (s.setEngine e g).massif = s.massif := rfl
@[simp] theorem setEngine_sts (s : State) (e : Nat) (g : Engine) : (s.setEngine e g).sts = s.sts := rfl
@[simp] theorem setEngine_tal (s : State) (e : Nat) (g : Engine) : (s.setEngine e g).tal = s.tal := rfl
@[simp] theorem setEngine_rl (s : State) (e : Nat) (g : Engine) : (s.setEngine e g).rl = s.rl := rfl
@[simp] theorem setEngine_cans (s : State) (e : Nat) (g : Engine) : (s.setEngine e g).cans = s.cans := rfl
@[simp] theorem setEngine_tor (s : State) (e : Nat) (g : Engine) : (s.setEngine e g).tor = s.tor := rfl
@[simp] theorem setEngine_hostIf (s : State) (e : Nat) (g : Engine) : (s.setEngine e g).hostIf = s.hostIf := rfl
@[simp] theorem setEngine_prc (s : State) (e : Nat) (g : Engine) : (s.setEngine e g).prc = s.prc := rfl
@[simp] theorem setEngine_fwc (s : State) (e : Nat) (g : Engine) : (s.setEngine e g).fwc = s.fwc := rfl
@[simp] theorem setEngine_tmx (s : State) (e : Nat) (g : Engine) : (s.setEngine e g).tmx = s.tmx := rfl
@[simp] theorem setEngine_acting (s : State) (e : Nat) (g : Engine) : (s.setEngine e g).acting = s.acting := rfl
@[simp] theorem setEngine_pairs (s : State) (e : Nat) (g : Engine) : (s.setEngine e g).pairs = s.pairs := rfl

/-! modEngine -/

@[simp] theorem modEngine_pending (s : State) (e : Nat) (f : Engine → Engine) : (s.modEngine e f).pending = s.pending := rfl
@[simp] theorem modEngine_clk (s : State) (e : Nat) (f : Engine → Engine) : (s.modEngine e f).clk = s.clk := rfl
@[simp] theorem modEngine_freeCtr (s : State) (e : Nat) (f : Engine → Engine) : (s.modEngine e f).freeCtr = s.freeCtr := rfl
@[simp] theorem modEngine_outs (s : State) (e : Nat) (f : Engine → Engine) : (s.modEngine e f).outs = s.outs := rfl
@[simp] theorem modEngine_regs (s : State) (e : Nat) (f : Engine → Engine) : (s.modEngine e f).regs = s.regs := rfl
@[simp] theorem modEngine_act (s : State) (e : Nat) (f : Engine → Engine) : (s.modEngine e f).act = s.act := rfl
@[simp] theorem modEngine_agentRegs (s : State) (e : Nat) (f : Engine → Engine) : (s.modEngine e f).agentRegs = s.agentRegs := rfl
@[simp] theorem modEngine_held (s : State) (e : Nat) (f : Engine → Engine) : (s.modEngine e f).held = s.held := rfl
@[simp] theorem modEngine_fuses (s : State) (e : Nat) (f : Engine → Engine) : (s.modEngine e f).fuses = s.fuses := rfl
@[simp] theorem modEngine_straps (s : State) (e : Nat) (f : Engine → Engine) : (s.modEngine e f).straps = s.straps := rfl
@[simp] theorem modEngine_localHost (s : State) (e : Nat) (f : Engine → Engine) : (s.modEngine e f).localHost = s.localHost := rfl
@[simp] theorem modEngine_remoteHost (s : State) (e : Nat) (f : Engine → Engine) : (s.modEngine e f).remoteHost = s.remoteHost := rfl
@[simp] theorem modEngine_flight (s : State) (e : Nat) (f : Engine → Engine) : (s.modEngine e f).flight = s.flight := rfl
@[simp] theorem modEngine_posted (s : State) (e : Nat) (f : Engine → Engine) : (s.modEngine e f).posted = s.posted := rfl
@[simp] theorem modEngine_postSeq (s : State) (e : Nat) (f : Engine → Engine) : (s.modEngine e f).postSeq = s.postSeq := rfl
@[simp] theorem modEngine_mem (s : State) (e : Nat) (f : Engine → Engine) : (s.modEngine e f).mem = s.mem := rfl
@[simp] theorem modEngine_memc (s : State) (e : Nat) (f : Engine → Engine) : (s.modEngine e f).memc = s.memc := rfl
@[simp] theorem modEngine_tbu (s : State) (e : Nat) (f : Engine → Engine) : (s.modEngine e f).tbu = s.tbu := rfl
@[simp] theorem modEngine_talus (s : State) (e : Nat) (f : Engine → Engine) : (s.modEngine e f).talus = s.talus := rfl
@[simp] theorem modEngine_col (s : State) (e : Nat) (f : Engine → Engine) : (s.modEngine e f).col = s.col := rfl
@[simp] theorem modEngine_strata (s : State) (e : Nat) (f : Engine → Engine) : (s.modEngine e f).strata = s.strata := rfl
@[simp] theorem modEngine_macs (s : State) (e : Nat) (f : Engine → Engine) : (s.modEngine e f).macs = s.macs := rfl
@[simp] theorem modEngine_massif (s : State) (e : Nat) (f : Engine → Engine) : (s.modEngine e f).massif = s.massif := rfl
@[simp] theorem modEngine_sts (s : State) (e : Nat) (f : Engine → Engine) : (s.modEngine e f).sts = s.sts := rfl
@[simp] theorem modEngine_tal (s : State) (e : Nat) (f : Engine → Engine) : (s.modEngine e f).tal = s.tal := rfl
@[simp] theorem modEngine_rl (s : State) (e : Nat) (f : Engine → Engine) : (s.modEngine e f).rl = s.rl := rfl
@[simp] theorem modEngine_cans (s : State) (e : Nat) (f : Engine → Engine) : (s.modEngine e f).cans = s.cans := rfl
@[simp] theorem modEngine_tor (s : State) (e : Nat) (f : Engine → Engine) : (s.modEngine e f).tor = s.tor := rfl
@[simp] theorem modEngine_hostIf (s : State) (e : Nat) (f : Engine → Engine) : (s.modEngine e f).hostIf = s.hostIf := rfl
@[simp] theorem modEngine_prc (s : State) (e : Nat) (f : Engine → Engine) : (s.modEngine e f).prc = s.prc := rfl
@[simp] theorem modEngine_fwc (s : State) (e : Nat) (f : Engine → Engine) : (s.modEngine e f).fwc = s.fwc := rfl
@[simp] theorem modEngine_tmx (s : State) (e : Nat) (f : Engine → Engine) : (s.modEngine e f).tmx = s.tmx := rfl
@[simp] theorem modEngine_acting (s : State) (e : Nat) (f : Engine → Engine) : (s.modEngine e f).acting = s.acting := rfl
@[simp] theorem modEngine_pairs (s : State) (e : Nat) (f : Engine → Engine) : (s.modEngine e f).pairs = s.pairs := rfl

/-! setPair -/

@[simp] theorem setPair_pending (s : State) (p : Nat) (q : Pair) : (s.setPair p q).pending = s.pending := rfl
@[simp] theorem setPair_clk (s : State) (p : Nat) (q : Pair) : (s.setPair p q).clk = s.clk := rfl
@[simp] theorem setPair_freeCtr (s : State) (p : Nat) (q : Pair) : (s.setPair p q).freeCtr = s.freeCtr := rfl
@[simp] theorem setPair_outs (s : State) (p : Nat) (q : Pair) : (s.setPair p q).outs = s.outs := rfl
@[simp] theorem setPair_regs (s : State) (p : Nat) (q : Pair) : (s.setPair p q).regs = s.regs := rfl
@[simp] theorem setPair_act (s : State) (p : Nat) (q : Pair) : (s.setPair p q).act = s.act := rfl
@[simp] theorem setPair_agentRegs (s : State) (p : Nat) (q : Pair) : (s.setPair p q).agentRegs = s.agentRegs := rfl
@[simp] theorem setPair_held (s : State) (p : Nat) (q : Pair) : (s.setPair p q).held = s.held := rfl
@[simp] theorem setPair_fuses (s : State) (p : Nat) (q : Pair) : (s.setPair p q).fuses = s.fuses := rfl
@[simp] theorem setPair_straps (s : State) (p : Nat) (q : Pair) : (s.setPair p q).straps = s.straps := rfl
@[simp] theorem setPair_localHost (s : State) (p : Nat) (q : Pair) : (s.setPair p q).localHost = s.localHost := rfl
@[simp] theorem setPair_remoteHost (s : State) (p : Nat) (q : Pair) : (s.setPair p q).remoteHost = s.remoteHost := rfl
@[simp] theorem setPair_flight (s : State) (p : Nat) (q : Pair) : (s.setPair p q).flight = s.flight := rfl
@[simp] theorem setPair_posted (s : State) (p : Nat) (q : Pair) : (s.setPair p q).posted = s.posted := rfl
@[simp] theorem setPair_postSeq (s : State) (p : Nat) (q : Pair) : (s.setPair p q).postSeq = s.postSeq := rfl
@[simp] theorem setPair_mem (s : State) (p : Nat) (q : Pair) : (s.setPair p q).mem = s.mem := rfl
@[simp] theorem setPair_memc (s : State) (p : Nat) (q : Pair) : (s.setPair p q).memc = s.memc := rfl
@[simp] theorem setPair_tbu (s : State) (p : Nat) (q : Pair) : (s.setPair p q).tbu = s.tbu := rfl
@[simp] theorem setPair_talus (s : State) (p : Nat) (q : Pair) : (s.setPair p q).talus = s.talus := rfl
@[simp] theorem setPair_col (s : State) (p : Nat) (q : Pair) : (s.setPair p q).col = s.col := rfl
@[simp] theorem setPair_strata (s : State) (p : Nat) (q : Pair) : (s.setPair p q).strata = s.strata := rfl
@[simp] theorem setPair_macs (s : State) (p : Nat) (q : Pair) : (s.setPair p q).macs = s.macs := rfl
@[simp] theorem setPair_massif (s : State) (p : Nat) (q : Pair) : (s.setPair p q).massif = s.massif := rfl
@[simp] theorem setPair_sts (s : State) (p : Nat) (q : Pair) : (s.setPair p q).sts = s.sts := rfl
@[simp] theorem setPair_tal (s : State) (p : Nat) (q : Pair) : (s.setPair p q).tal = s.tal := rfl
@[simp] theorem setPair_rl (s : State) (p : Nat) (q : Pair) : (s.setPair p q).rl = s.rl := rfl
@[simp] theorem setPair_cans (s : State) (p : Nat) (q : Pair) : (s.setPair p q).cans = s.cans := rfl
@[simp] theorem setPair_tor (s : State) (p : Nat) (q : Pair) : (s.setPair p q).tor = s.tor := rfl
@[simp] theorem setPair_hostIf (s : State) (p : Nat) (q : Pair) : (s.setPair p q).hostIf = s.hostIf := rfl
@[simp] theorem setPair_prc (s : State) (p : Nat) (q : Pair) : (s.setPair p q).prc = s.prc := rfl
@[simp] theorem setPair_fwc (s : State) (p : Nat) (q : Pair) : (s.setPair p q).fwc = s.fwc := rfl
@[simp] theorem setPair_tmx (s : State) (p : Nat) (q : Pair) : (s.setPair p q).tmx = s.tmx := rfl
@[simp] theorem setPair_acting (s : State) (p : Nat) (q : Pair) : (s.setPair p q).acting = s.acting := rfl
@[simp] theorem setPair_engines (s : State) (p : Nat) (q : Pair) : (s.setPair p q).engines = s.engines := rfl

/-! setQueue -/

@[simp] theorem setQueue_pending (s : State) (q : Nat) (x : HwQueue) : (s.setQueue q x).pending = s.pending := rfl
@[simp] theorem setQueue_clk (s : State) (q : Nat) (x : HwQueue) : (s.setQueue q x).clk = s.clk := rfl
@[simp] theorem setQueue_freeCtr (s : State) (q : Nat) (x : HwQueue) : (s.setQueue q x).freeCtr = s.freeCtr := rfl
@[simp] theorem setQueue_outs (s : State) (q : Nat) (x : HwQueue) : (s.setQueue q x).outs = s.outs := rfl
@[simp] theorem setQueue_regs (s : State) (q : Nat) (x : HwQueue) : (s.setQueue q x).regs = s.regs := rfl
@[simp] theorem setQueue_act (s : State) (q : Nat) (x : HwQueue) : (s.setQueue q x).act = s.act := rfl
@[simp] theorem setQueue_agentRegs (s : State) (q : Nat) (x : HwQueue) : (s.setQueue q x).agentRegs = s.agentRegs := rfl
@[simp] theorem setQueue_held (s : State) (q : Nat) (x : HwQueue) : (s.setQueue q x).held = s.held := rfl
@[simp] theorem setQueue_fuses (s : State) (q : Nat) (x : HwQueue) : (s.setQueue q x).fuses = s.fuses := rfl
@[simp] theorem setQueue_straps (s : State) (q : Nat) (x : HwQueue) : (s.setQueue q x).straps = s.straps := rfl
@[simp] theorem setQueue_localHost (s : State) (q : Nat) (x : HwQueue) : (s.setQueue q x).localHost = s.localHost := rfl
@[simp] theorem setQueue_remoteHost (s : State) (q : Nat) (x : HwQueue) : (s.setQueue q x).remoteHost = s.remoteHost := rfl
@[simp] theorem setQueue_flight (s : State) (q : Nat) (x : HwQueue) : (s.setQueue q x).flight = s.flight := rfl
@[simp] theorem setQueue_posted (s : State) (q : Nat) (x : HwQueue) : (s.setQueue q x).posted = s.posted := rfl
@[simp] theorem setQueue_postSeq (s : State) (q : Nat) (x : HwQueue) : (s.setQueue q x).postSeq = s.postSeq := rfl
@[simp] theorem setQueue_mem (s : State) (q : Nat) (x : HwQueue) : (s.setQueue q x).mem = s.mem := rfl
@[simp] theorem setQueue_memc (s : State) (q : Nat) (x : HwQueue) : (s.setQueue q x).memc = s.memc := rfl
@[simp] theorem setQueue_tbu (s : State) (q : Nat) (x : HwQueue) : (s.setQueue q x).tbu = s.tbu := rfl
@[simp] theorem setQueue_col (s : State) (q : Nat) (x : HwQueue) : (s.setQueue q x).col = s.col := rfl
@[simp] theorem setQueue_strata (s : State) (q : Nat) (x : HwQueue) : (s.setQueue q x).strata = s.strata := rfl
@[simp] theorem setQueue_macs (s : State) (q : Nat) (x : HwQueue) : (s.setQueue q x).macs = s.macs := rfl
@[simp] theorem setQueue_massif (s : State) (q : Nat) (x : HwQueue) : (s.setQueue q x).massif = s.massif := rfl
@[simp] theorem setQueue_sts (s : State) (q : Nat) (x : HwQueue) : (s.setQueue q x).sts = s.sts := rfl
@[simp] theorem setQueue_tal (s : State) (q : Nat) (x : HwQueue) : (s.setQueue q x).tal = s.tal := rfl
@[simp] theorem setQueue_rl (s : State) (q : Nat) (x : HwQueue) : (s.setQueue q x).rl = s.rl := rfl
@[simp] theorem setQueue_cans (s : State) (q : Nat) (x : HwQueue) : (s.setQueue q x).cans = s.cans := rfl
@[simp] theorem setQueue_tor (s : State) (q : Nat) (x : HwQueue) : (s.setQueue q x).tor = s.tor := rfl
@[simp] theorem setQueue_hostIf (s : State) (q : Nat) (x : HwQueue) : (s.setQueue q x).hostIf = s.hostIf := rfl
@[simp] theorem setQueue_prc (s : State) (q : Nat) (x : HwQueue) : (s.setQueue q x).prc = s.prc := rfl
@[simp] theorem setQueue_fwc (s : State) (q : Nat) (x : HwQueue) : (s.setQueue q x).fwc = s.fwc := rfl
@[simp] theorem setQueue_tmx (s : State) (q : Nat) (x : HwQueue) : (s.setQueue q x).tmx = s.tmx := rfl
@[simp] theorem setQueue_acting (s : State) (q : Nat) (x : HwQueue) : (s.setQueue q x).acting = s.acting := rfl
@[simp] theorem setQueue_engines (s : State) (q : Nat) (x : HwQueue) : (s.setQueue q x).engines = s.engines := rfl
@[simp] theorem setQueue_pairs (s : State) (q : Nat) (x : HwQueue) : (s.setQueue q x).pairs = s.pairs := rfl

/-! setDomain -/

@[simp] theorem setDomain_pending (s : State) (d : Nat) (x : Domain) : (s.setDomain d x).pending = s.pending := rfl
@[simp] theorem setDomain_clk (s : State) (d : Nat) (x : Domain) : (s.setDomain d x).clk = s.clk := rfl
@[simp] theorem setDomain_freeCtr (s : State) (d : Nat) (x : Domain) : (s.setDomain d x).freeCtr = s.freeCtr := rfl
@[simp] theorem setDomain_outs (s : State) (d : Nat) (x : Domain) : (s.setDomain d x).outs = s.outs := rfl
@[simp] theorem setDomain_regs (s : State) (d : Nat) (x : Domain) : (s.setDomain d x).regs = s.regs := rfl
@[simp] theorem setDomain_act (s : State) (d : Nat) (x : Domain) : (s.setDomain d x).act = s.act := rfl
@[simp] theorem setDomain_agentRegs (s : State) (d : Nat) (x : Domain) : (s.setDomain d x).agentRegs = s.agentRegs := rfl
@[simp] theorem setDomain_held (s : State) (d : Nat) (x : Domain) : (s.setDomain d x).held = s.held := rfl
@[simp] theorem setDomain_fuses (s : State) (d : Nat) (x : Domain) : (s.setDomain d x).fuses = s.fuses := rfl
@[simp] theorem setDomain_straps (s : State) (d : Nat) (x : Domain) : (s.setDomain d x).straps = s.straps := rfl
@[simp] theorem setDomain_localHost (s : State) (d : Nat) (x : Domain) : (s.setDomain d x).localHost = s.localHost := rfl
@[simp] theorem setDomain_remoteHost (s : State) (d : Nat) (x : Domain) : (s.setDomain d x).remoteHost = s.remoteHost := rfl
@[simp] theorem setDomain_flight (s : State) (d : Nat) (x : Domain) : (s.setDomain d x).flight = s.flight := rfl
@[simp] theorem setDomain_posted (s : State) (d : Nat) (x : Domain) : (s.setDomain d x).posted = s.posted := rfl
@[simp] theorem setDomain_postSeq (s : State) (d : Nat) (x : Domain) : (s.setDomain d x).postSeq = s.postSeq := rfl
@[simp] theorem setDomain_mem (s : State) (d : Nat) (x : Domain) : (s.setDomain d x).mem = s.mem := rfl
@[simp] theorem setDomain_memc (s : State) (d : Nat) (x : Domain) : (s.setDomain d x).memc = s.memc := rfl
@[simp] theorem setDomain_tbu (s : State) (d : Nat) (x : Domain) : (s.setDomain d x).tbu = s.tbu := rfl
@[simp] theorem setDomain_col (s : State) (d : Nat) (x : Domain) : (s.setDomain d x).col = s.col := rfl
@[simp] theorem setDomain_strata (s : State) (d : Nat) (x : Domain) : (s.setDomain d x).strata = s.strata := rfl
@[simp] theorem setDomain_macs (s : State) (d : Nat) (x : Domain) : (s.setDomain d x).macs = s.macs := rfl
@[simp] theorem setDomain_massif (s : State) (d : Nat) (x : Domain) : (s.setDomain d x).massif = s.massif := rfl
@[simp] theorem setDomain_sts (s : State) (d : Nat) (x : Domain) : (s.setDomain d x).sts = s.sts := rfl
@[simp] theorem setDomain_tal (s : State) (d : Nat) (x : Domain) : (s.setDomain d x).tal = s.tal := rfl
@[simp] theorem setDomain_rl (s : State) (d : Nat) (x : Domain) : (s.setDomain d x).rl = s.rl := rfl
@[simp] theorem setDomain_cans (s : State) (d : Nat) (x : Domain) : (s.setDomain d x).cans = s.cans := rfl
@[simp] theorem setDomain_tor (s : State) (d : Nat) (x : Domain) : (s.setDomain d x).tor = s.tor := rfl
@[simp] theorem setDomain_hostIf (s : State) (d : Nat) (x : Domain) : (s.setDomain d x).hostIf = s.hostIf := rfl
@[simp] theorem setDomain_prc (s : State) (d : Nat) (x : Domain) : (s.setDomain d x).prc = s.prc := rfl
@[simp] theorem setDomain_fwc (s : State) (d : Nat) (x : Domain) : (s.setDomain d x).fwc = s.fwc := rfl
@[simp] theorem setDomain_tmx (s : State) (d : Nat) (x : Domain) : (s.setDomain d x).tmx = s.tmx := rfl
@[simp] theorem setDomain_acting (s : State) (d : Nat) (x : Domain) : (s.setDomain d x).acting = s.acting := rfl
@[simp] theorem setDomain_engines (s : State) (d : Nat) (x : Domain) : (s.setDomain d x).engines = s.engines := rfl
@[simp] theorem setDomain_pairs (s : State) (d : Nat) (x : Domain) : (s.setDomain d x).pairs = s.pairs := rfl

/-! setReadyList -/

@[simp] theorem setReadyList_pending (s : State) (l : Nat) (ts : List Nat) : (s.setReadyList l ts).pending = s.pending := rfl
@[simp] theorem setReadyList_clk (s : State) (l : Nat) (ts : List Nat) : (s.setReadyList l ts).clk = s.clk := rfl
@[simp] theorem setReadyList_freeCtr (s : State) (l : Nat) (ts : List Nat) : (s.setReadyList l ts).freeCtr = s.freeCtr := rfl
@[simp] theorem setReadyList_outs (s : State) (l : Nat) (ts : List Nat) : (s.setReadyList l ts).outs = s.outs := rfl
@[simp] theorem setReadyList_regs (s : State) (l : Nat) (ts : List Nat) : (s.setReadyList l ts).regs = s.regs := rfl
@[simp] theorem setReadyList_act (s : State) (l : Nat) (ts : List Nat) : (s.setReadyList l ts).act = s.act := rfl
@[simp] theorem setReadyList_agentRegs (s : State) (l : Nat) (ts : List Nat) : (s.setReadyList l ts).agentRegs = s.agentRegs := rfl
@[simp] theorem setReadyList_held (s : State) (l : Nat) (ts : List Nat) : (s.setReadyList l ts).held = s.held := rfl
@[simp] theorem setReadyList_fuses (s : State) (l : Nat) (ts : List Nat) : (s.setReadyList l ts).fuses = s.fuses := rfl
@[simp] theorem setReadyList_straps (s : State) (l : Nat) (ts : List Nat) : (s.setReadyList l ts).straps = s.straps := rfl
@[simp] theorem setReadyList_localHost (s : State) (l : Nat) (ts : List Nat) : (s.setReadyList l ts).localHost = s.localHost := rfl
@[simp] theorem setReadyList_remoteHost (s : State) (l : Nat) (ts : List Nat) : (s.setReadyList l ts).remoteHost = s.remoteHost := rfl
@[simp] theorem setReadyList_flight (s : State) (l : Nat) (ts : List Nat) : (s.setReadyList l ts).flight = s.flight := rfl
@[simp] theorem setReadyList_posted (s : State) (l : Nat) (ts : List Nat) : (s.setReadyList l ts).posted = s.posted := rfl
@[simp] theorem setReadyList_postSeq (s : State) (l : Nat) (ts : List Nat) : (s.setReadyList l ts).postSeq = s.postSeq := rfl
@[simp] theorem setReadyList_mem (s : State) (l : Nat) (ts : List Nat) : (s.setReadyList l ts).mem = s.mem := rfl
@[simp] theorem setReadyList_memc (s : State) (l : Nat) (ts : List Nat) : (s.setReadyList l ts).memc = s.memc := rfl
@[simp] theorem setReadyList_tbu (s : State) (l : Nat) (ts : List Nat) : (s.setReadyList l ts).tbu = s.tbu := rfl
@[simp] theorem setReadyList_col (s : State) (l : Nat) (ts : List Nat) : (s.setReadyList l ts).col = s.col := rfl
@[simp] theorem setReadyList_strata (s : State) (l : Nat) (ts : List Nat) : (s.setReadyList l ts).strata = s.strata := rfl
@[simp] theorem setReadyList_macs (s : State) (l : Nat) (ts : List Nat) : (s.setReadyList l ts).macs = s.macs := rfl
@[simp] theorem setReadyList_massif (s : State) (l : Nat) (ts : List Nat) : (s.setReadyList l ts).massif = s.massif := rfl
@[simp] theorem setReadyList_sts (s : State) (l : Nat) (ts : List Nat) : (s.setReadyList l ts).sts = s.sts := rfl
@[simp] theorem setReadyList_tal (s : State) (l : Nat) (ts : List Nat) : (s.setReadyList l ts).tal = s.tal := rfl
@[simp] theorem setReadyList_rl (s : State) (l : Nat) (ts : List Nat) : (s.setReadyList l ts).rl = s.rl := rfl
@[simp] theorem setReadyList_cans (s : State) (l : Nat) (ts : List Nat) : (s.setReadyList l ts).cans = s.cans := rfl
@[simp] theorem setReadyList_tor (s : State) (l : Nat) (ts : List Nat) : (s.setReadyList l ts).tor = s.tor := rfl
@[simp] theorem setReadyList_hostIf (s : State) (l : Nat) (ts : List Nat) : (s.setReadyList l ts).hostIf = s.hostIf := rfl
@[simp] theorem setReadyList_prc (s : State) (l : Nat) (ts : List Nat) : (s.setReadyList l ts).prc = s.prc := rfl
@[simp] theorem setReadyList_fwc (s : State) (l : Nat) (ts : List Nat) : (s.setReadyList l ts).fwc = s.fwc := rfl
@[simp] theorem setReadyList_tmx (s : State) (l : Nat) (ts : List Nat) : (s.setReadyList l ts).tmx = s.tmx := rfl
@[simp] theorem setReadyList_acting (s : State) (l : Nat) (ts : List Nat) : (s.setReadyList l ts).acting = s.acting := rfl
@[simp] theorem setReadyList_engines (s : State) (l : Nat) (ts : List Nat) : (s.setReadyList l ts).engines = s.engines := rfl
@[simp] theorem setReadyList_pairs (s : State) (l : Nat) (ts : List Nat) : (s.setReadyList l ts).pairs = s.pairs := rfl

/-! setCluster -/

@[simp] theorem setCluster_pending (s : State) (m : Nat) (x : Cluster) : (s.setCluster m x).pending = s.pending := rfl
@[simp] theorem setCluster_clk (s : State) (m : Nat) (x : Cluster) : (s.setCluster m x).clk = s.clk := rfl
@[simp] theorem setCluster_freeCtr (s : State) (m : Nat) (x : Cluster) : (s.setCluster m x).freeCtr = s.freeCtr := rfl
@[simp] theorem setCluster_outs (s : State) (m : Nat) (x : Cluster) : (s.setCluster m x).outs = s.outs := rfl
@[simp] theorem setCluster_regs (s : State) (m : Nat) (x : Cluster) : (s.setCluster m x).regs = s.regs := rfl
@[simp] theorem setCluster_act (s : State) (m : Nat) (x : Cluster) : (s.setCluster m x).act = s.act := rfl
@[simp] theorem setCluster_agentRegs (s : State) (m : Nat) (x : Cluster) : (s.setCluster m x).agentRegs = s.agentRegs := rfl
@[simp] theorem setCluster_held (s : State) (m : Nat) (x : Cluster) : (s.setCluster m x).held = s.held := rfl
@[simp] theorem setCluster_fuses (s : State) (m : Nat) (x : Cluster) : (s.setCluster m x).fuses = s.fuses := rfl
@[simp] theorem setCluster_straps (s : State) (m : Nat) (x : Cluster) : (s.setCluster m x).straps = s.straps := rfl
@[simp] theorem setCluster_localHost (s : State) (m : Nat) (x : Cluster) : (s.setCluster m x).localHost = s.localHost := rfl
@[simp] theorem setCluster_remoteHost (s : State) (m : Nat) (x : Cluster) : (s.setCluster m x).remoteHost = s.remoteHost := rfl
@[simp] theorem setCluster_flight (s : State) (m : Nat) (x : Cluster) : (s.setCluster m x).flight = s.flight := rfl
@[simp] theorem setCluster_posted (s : State) (m : Nat) (x : Cluster) : (s.setCluster m x).posted = s.posted := rfl
@[simp] theorem setCluster_postSeq (s : State) (m : Nat) (x : Cluster) : (s.setCluster m x).postSeq = s.postSeq := rfl
@[simp] theorem setCluster_mem (s : State) (m : Nat) (x : Cluster) : (s.setCluster m x).mem = s.mem := rfl
@[simp] theorem setCluster_memc (s : State) (m : Nat) (x : Cluster) : (s.setCluster m x).memc = s.memc := rfl
@[simp] theorem setCluster_tbu (s : State) (m : Nat) (x : Cluster) : (s.setCluster m x).tbu = s.tbu := rfl
@[simp] theorem setCluster_talus (s : State) (m : Nat) (x : Cluster) : (s.setCluster m x).talus = s.talus := rfl
@[simp] theorem setCluster_col (s : State) (m : Nat) (x : Cluster) : (s.setCluster m x).col = s.col := rfl
@[simp] theorem setCluster_strata (s : State) (m : Nat) (x : Cluster) : (s.setCluster m x).strata = s.strata := rfl
@[simp] theorem setCluster_macs (s : State) (m : Nat) (x : Cluster) : (s.setCluster m x).macs = s.macs := rfl
@[simp] theorem setCluster_massif (s : State) (m : Nat) (x : Cluster) : (s.setCluster m x).massif = s.massif := rfl
@[simp] theorem setCluster_sts (s : State) (m : Nat) (x : Cluster) : (s.setCluster m x).sts = s.sts := rfl
@[simp] theorem setCluster_tal (s : State) (m : Nat) (x : Cluster) : (s.setCluster m x).tal = s.tal := rfl
@[simp] theorem setCluster_rl (s : State) (m : Nat) (x : Cluster) : (s.setCluster m x).rl = s.rl := rfl
@[simp] theorem setCluster_cans (s : State) (m : Nat) (x : Cluster) : (s.setCluster m x).cans = s.cans := rfl
@[simp] theorem setCluster_tor (s : State) (m : Nat) (x : Cluster) : (s.setCluster m x).tor = s.tor := rfl
@[simp] theorem setCluster_hostIf (s : State) (m : Nat) (x : Cluster) : (s.setCluster m x).hostIf = s.hostIf := rfl
@[simp] theorem setCluster_fwc (s : State) (m : Nat) (x : Cluster) : (s.setCluster m x).fwc = s.fwc := rfl
@[simp] theorem setCluster_tmx (s : State) (m : Nat) (x : Cluster) : (s.setCluster m x).tmx = s.tmx := rfl
@[simp] theorem setCluster_acting (s : State) (m : Nat) (x : Cluster) : (s.setCluster m x).acting = s.acting := rfl
@[simp] theorem setCluster_engines (s : State) (m : Nat) (x : Cluster) : (s.setCluster m x).engines = s.engines := rfl
@[simp] theorem setCluster_pairs (s : State) (m : Nat) (x : Cluster) : (s.setCluster m x).pairs = s.pairs := rfl

/-! setVector -/

@[simp] theorem setVector_pending (s : State) (v : Nat) (x : Vector32) : (s.setVector v x).pending = s.pending := rfl
@[simp] theorem setVector_clk (s : State) (v : Nat) (x : Vector32) : (s.setVector v x).clk = s.clk := rfl
@[simp] theorem setVector_freeCtr (s : State) (v : Nat) (x : Vector32) : (s.setVector v x).freeCtr = s.freeCtr := rfl
@[simp] theorem setVector_outs (s : State) (v : Nat) (x : Vector32) : (s.setVector v x).outs = s.outs := rfl
@[simp] theorem setVector_regs (s : State) (v : Nat) (x : Vector32) : (s.setVector v x).regs = s.regs := rfl
@[simp] theorem setVector_act (s : State) (v : Nat) (x : Vector32) : (s.setVector v x).act = s.act := rfl
@[simp] theorem setVector_agentRegs (s : State) (v : Nat) (x : Vector32) : (s.setVector v x).agentRegs = s.agentRegs := rfl
@[simp] theorem setVector_held (s : State) (v : Nat) (x : Vector32) : (s.setVector v x).held = s.held := rfl
@[simp] theorem setVector_fuses (s : State) (v : Nat) (x : Vector32) : (s.setVector v x).fuses = s.fuses := rfl
@[simp] theorem setVector_straps (s : State) (v : Nat) (x : Vector32) : (s.setVector v x).straps = s.straps := rfl
@[simp] theorem setVector_localHost (s : State) (v : Nat) (x : Vector32) : (s.setVector v x).localHost = s.localHost := rfl
@[simp] theorem setVector_remoteHost (s : State) (v : Nat) (x : Vector32) : (s.setVector v x).remoteHost = s.remoteHost := rfl
@[simp] theorem setVector_flight (s : State) (v : Nat) (x : Vector32) : (s.setVector v x).flight = s.flight := rfl
@[simp] theorem setVector_posted (s : State) (v : Nat) (x : Vector32) : (s.setVector v x).posted = s.posted := rfl
@[simp] theorem setVector_postSeq (s : State) (v : Nat) (x : Vector32) : (s.setVector v x).postSeq = s.postSeq := rfl
@[simp] theorem setVector_mem (s : State) (v : Nat) (x : Vector32) : (s.setVector v x).mem = s.mem := rfl
@[simp] theorem setVector_memc (s : State) (v : Nat) (x : Vector32) : (s.setVector v x).memc = s.memc := rfl
@[simp] theorem setVector_tbu (s : State) (v : Nat) (x : Vector32) : (s.setVector v x).tbu = s.tbu := rfl
@[simp] theorem setVector_talus (s : State) (v : Nat) (x : Vector32) : (s.setVector v x).talus = s.talus := rfl
@[simp] theorem setVector_col (s : State) (v : Nat) (x : Vector32) : (s.setVector v x).col = s.col := rfl
@[simp] theorem setVector_strata (s : State) (v : Nat) (x : Vector32) : (s.setVector v x).strata = s.strata := rfl
@[simp] theorem setVector_macs (s : State) (v : Nat) (x : Vector32) : (s.setVector v x).macs = s.macs := rfl
@[simp] theorem setVector_massif (s : State) (v : Nat) (x : Vector32) : (s.setVector v x).massif = s.massif := rfl
@[simp] theorem setVector_sts (s : State) (v : Nat) (x : Vector32) : (s.setVector v x).sts = s.sts := rfl
@[simp] theorem setVector_tal (s : State) (v : Nat) (x : Vector32) : (s.setVector v x).tal = s.tal := rfl
@[simp] theorem setVector_rl (s : State) (v : Nat) (x : Vector32) : (s.setVector v x).rl = s.rl := rfl
@[simp] theorem setVector_cans (s : State) (v : Nat) (x : Vector32) : (s.setVector v x).cans = s.cans := rfl
@[simp] theorem setVector_tor (s : State) (v : Nat) (x : Vector32) : (s.setVector v x).tor = s.tor := rfl
@[simp] theorem setVector_prc (s : State) (v : Nat) (x : Vector32) : (s.setVector v x).prc = s.prc := rfl
@[simp] theorem setVector_fwc (s : State) (v : Nat) (x : Vector32) : (s.setVector v x).fwc = s.fwc := rfl
@[simp] theorem setVector_tmx (s : State) (v : Nat) (x : Vector32) : (s.setVector v x).tmx = s.tmx := rfl
@[simp] theorem setVector_acting (s : State) (v : Nat) (x : Vector32) : (s.setVector v x).acting = s.acting := rfl
@[simp] theorem setVector_engines (s : State) (v : Nat) (x : Vector32) : (s.setVector v x).engines = s.engines := rfl
@[simp] theorem setVector_pairs (s : State) (v : Nat) (x : Vector32) : (s.setVector v x).pairs = s.pairs := rfl

/-! setCode -/

@[simp] theorem setCode_pending (s : State) (c k a : Nat) (x : CodeWord) : (s.setCode c k a x).pending = s.pending := rfl
@[simp] theorem setCode_clk (s : State) (c k a : Nat) (x : CodeWord) : (s.setCode c k a x).clk = s.clk := rfl
@[simp] theorem setCode_freeCtr (s : State) (c k a : Nat) (x : CodeWord) : (s.setCode c k a x).freeCtr = s.freeCtr := rfl
@[simp] theorem setCode_outs (s : State) (c k a : Nat) (x : CodeWord) : (s.setCode c k a x).outs = s.outs := rfl
@[simp] theorem setCode_regs (s : State) (c k a : Nat) (x : CodeWord) : (s.setCode c k a x).regs = s.regs := rfl
@[simp] theorem setCode_act (s : State) (c k a : Nat) (x : CodeWord) : (s.setCode c k a x).act = s.act := rfl
@[simp] theorem setCode_agentRegs (s : State) (c k a : Nat) (x : CodeWord) : (s.setCode c k a x).agentRegs = s.agentRegs := rfl
@[simp] theorem setCode_held (s : State) (c k a : Nat) (x : CodeWord) : (s.setCode c k a x).held = s.held := rfl
@[simp] theorem setCode_fuses (s : State) (c k a : Nat) (x : CodeWord) : (s.setCode c k a x).fuses = s.fuses := rfl
@[simp] theorem setCode_straps (s : State) (c k a : Nat) (x : CodeWord) : (s.setCode c k a x).straps = s.straps := rfl
@[simp] theorem setCode_localHost (s : State) (c k a : Nat) (x : CodeWord) : (s.setCode c k a x).localHost = s.localHost := rfl
@[simp] theorem setCode_remoteHost (s : State) (c k a : Nat) (x : CodeWord) : (s.setCode c k a x).remoteHost = s.remoteHost := rfl
@[simp] theorem setCode_flight (s : State) (c k a : Nat) (x : CodeWord) : (s.setCode c k a x).flight = s.flight := rfl
@[simp] theorem setCode_posted (s : State) (c k a : Nat) (x : CodeWord) : (s.setCode c k a x).posted = s.posted := rfl
@[simp] theorem setCode_postSeq (s : State) (c k a : Nat) (x : CodeWord) : (s.setCode c k a x).postSeq = s.postSeq := rfl
@[simp] theorem setCode_memc (s : State) (c k a : Nat) (x : CodeWord) : (s.setCode c k a x).memc = s.memc := rfl
@[simp] theorem setCode_tbu (s : State) (c k a : Nat) (x : CodeWord) : (s.setCode c k a x).tbu = s.tbu := rfl
@[simp] theorem setCode_talus (s : State) (c k a : Nat) (x : CodeWord) : (s.setCode c k a x).talus = s.talus := rfl
@[simp] theorem setCode_col (s : State) (c k a : Nat) (x : CodeWord) : (s.setCode c k a x).col = s.col := rfl
@[simp] theorem setCode_strata (s : State) (c k a : Nat) (x : CodeWord) : (s.setCode c k a x).strata = s.strata := rfl
@[simp] theorem setCode_macs (s : State) (c k a : Nat) (x : CodeWord) : (s.setCode c k a x).macs = s.macs := rfl
@[simp] theorem setCode_massif (s : State) (c k a : Nat) (x : CodeWord) : (s.setCode c k a x).massif = s.massif := rfl
@[simp] theorem setCode_sts (s : State) (c k a : Nat) (x : CodeWord) : (s.setCode c k a x).sts = s.sts := rfl
@[simp] theorem setCode_tal (s : State) (c k a : Nat) (x : CodeWord) : (s.setCode c k a x).tal = s.tal := rfl
@[simp] theorem setCode_rl (s : State) (c k a : Nat) (x : CodeWord) : (s.setCode c k a x).rl = s.rl := rfl
@[simp] theorem setCode_cans (s : State) (c k a : Nat) (x : CodeWord) : (s.setCode c k a x).cans = s.cans := rfl
@[simp] theorem setCode_tor (s : State) (c k a : Nat) (x : CodeWord) : (s.setCode c k a x).tor = s.tor := rfl
@[simp] theorem setCode_hostIf (s : State) (c k a : Nat) (x : CodeWord) : (s.setCode c k a x).hostIf = s.hostIf := rfl
@[simp] theorem setCode_prc (s : State) (c k a : Nat) (x : CodeWord) : (s.setCode c k a x).prc = s.prc := rfl
@[simp] theorem setCode_fwc (s : State) (c k a : Nat) (x : CodeWord) : (s.setCode c k a x).fwc = s.fwc := rfl
@[simp] theorem setCode_tmx (s : State) (c k a : Nat) (x : CodeWord) : (s.setCode c k a x).tmx = s.tmx := rfl
@[simp] theorem setCode_acting (s : State) (c k a : Nat) (x : CodeWord) : (s.setCode c k a x).acting = s.acting := rfl
@[simp] theorem setCode_engines (s : State) (c k a : Nat) (x : CodeWord) : (s.setCode c k a x).engines = s.engines := rfl
@[simp] theorem setCode_pairs (s : State) (c k a : Nat) (x : CodeWord) : (s.setCode c k a x).pairs = s.pairs := rfl

/-! setFld -/

@[simp] theorem setFld_pending (s : State) (f : Fld) (v : Nat) : (s.setFld f v).pending = s.pending := rfl
@[simp] theorem setFld_clk (s : State) (f : Fld) (v : Nat) : (s.setFld f v).clk = s.clk := rfl
@[simp] theorem setFld_freeCtr (s : State) (f : Fld) (v : Nat) : (s.setFld f v).freeCtr = s.freeCtr := rfl
@[simp] theorem setFld_outs (s : State) (f : Fld) (v : Nat) : (s.setFld f v).outs = s.outs := rfl
@[simp] theorem setFld_act (s : State) (f : Fld) (v : Nat) : (s.setFld f v).act = s.act := rfl
@[simp] theorem setFld_agentRegs (s : State) (f : Fld) (v : Nat) : (s.setFld f v).agentRegs = s.agentRegs := rfl
@[simp] theorem setFld_held (s : State) (f : Fld) (v : Nat) : (s.setFld f v).held = s.held := rfl
@[simp] theorem setFld_fuses (s : State) (f : Fld) (v : Nat) : (s.setFld f v).fuses = s.fuses := rfl
@[simp] theorem setFld_straps (s : State) (f : Fld) (v : Nat) : (s.setFld f v).straps = s.straps := rfl
@[simp] theorem setFld_localHost (s : State) (f : Fld) (v : Nat) : (s.setFld f v).localHost = s.localHost := rfl
@[simp] theorem setFld_remoteHost (s : State) (f : Fld) (v : Nat) : (s.setFld f v).remoteHost = s.remoteHost := rfl
@[simp] theorem setFld_flight (s : State) (f : Fld) (v : Nat) : (s.setFld f v).flight = s.flight := rfl
@[simp] theorem setFld_posted (s : State) (f : Fld) (v : Nat) : (s.setFld f v).posted = s.posted := rfl
@[simp] theorem setFld_postSeq (s : State) (f : Fld) (v : Nat) : (s.setFld f v).postSeq = s.postSeq := rfl
@[simp] theorem setFld_mem (s : State) (f : Fld) (v : Nat) : (s.setFld f v).mem = s.mem := rfl
@[simp] theorem setFld_memc (s : State) (f : Fld) (v : Nat) : (s.setFld f v).memc = s.memc := rfl
@[simp] theorem setFld_tbu (s : State) (f : Fld) (v : Nat) : (s.setFld f v).tbu = s.tbu := rfl
@[simp] theorem setFld_talus (s : State) (f : Fld) (v : Nat) : (s.setFld f v).talus = s.talus := rfl
@[simp] theorem setFld_col (s : State) (f : Fld) (v : Nat) : (s.setFld f v).col = s.col := rfl
@[simp] theorem setFld_strata (s : State) (f : Fld) (v : Nat) : (s.setFld f v).strata = s.strata := rfl
@[simp] theorem setFld_macs (s : State) (f : Fld) (v : Nat) : (s.setFld f v).macs = s.macs := rfl
@[simp] theorem setFld_massif (s : State) (f : Fld) (v : Nat) : (s.setFld f v).massif = s.massif := rfl
@[simp] theorem setFld_sts (s : State) (f : Fld) (v : Nat) : (s.setFld f v).sts = s.sts := rfl
@[simp] theorem setFld_tal (s : State) (f : Fld) (v : Nat) : (s.setFld f v).tal = s.tal := rfl
@[simp] theorem setFld_rl (s : State) (f : Fld) (v : Nat) : (s.setFld f v).rl = s.rl := rfl
@[simp] theorem setFld_cans (s : State) (f : Fld) (v : Nat) : (s.setFld f v).cans = s.cans := rfl
@[simp] theorem setFld_tor (s : State) (f : Fld) (v : Nat) : (s.setFld f v).tor = s.tor := rfl
@[simp] theorem setFld_hostIf (s : State) (f : Fld) (v : Nat) : (s.setFld f v).hostIf = s.hostIf := rfl
@[simp] theorem setFld_prc (s : State) (f : Fld) (v : Nat) : (s.setFld f v).prc = s.prc := rfl
@[simp] theorem setFld_fwc (s : State) (f : Fld) (v : Nat) : (s.setFld f v).fwc = s.fwc := rfl
@[simp] theorem setFld_tmx (s : State) (f : Fld) (v : Nat) : (s.setFld f v).tmx = s.tmx := rfl
@[simp] theorem setFld_acting (s : State) (f : Fld) (v : Nat) : (s.setFld f v).acting = s.acting := rfl
@[simp] theorem setFld_engines (s : State) (f : Fld) (v : Nat) : (s.setFld f v).engines = s.engines := rfl
@[simp] theorem setFld_pairs (s : State) (f : Fld) (v : Nat) : (s.setFld f v).pairs = s.pairs := rfl

/-! bump -/

@[simp] theorem bump_pending (s : State) (f : Fld) (v : Nat) : (s.bump f v).pending = s.pending := rfl
@[simp] theorem bump_clk (s : State) (f : Fld) (v : Nat) : (s.bump f v).clk = s.clk := rfl
@[simp] theorem bump_freeCtr (s : State) (f : Fld) (v : Nat) : (s.bump f v).freeCtr = s.freeCtr := rfl
@[simp] theorem bump_outs (s : State) (f : Fld) (v : Nat) : (s.bump f v).outs = s.outs := rfl
@[simp] theorem bump_act (s : State) (f : Fld) (v : Nat) : (s.bump f v).act = s.act := rfl
@[simp] theorem bump_agentRegs (s : State) (f : Fld) (v : Nat) : (s.bump f v).agentRegs = s.agentRegs := rfl
@[simp] theorem bump_held (s : State) (f : Fld) (v : Nat) : (s.bump f v).held = s.held := rfl
@[simp] theorem bump_fuses (s : State) (f : Fld) (v : Nat) : (s.bump f v).fuses = s.fuses := rfl
@[simp] theorem bump_straps (s : State) (f : Fld) (v : Nat) : (s.bump f v).straps = s.straps := rfl
@[simp] theorem bump_localHost (s : State) (f : Fld) (v : Nat) : (s.bump f v).localHost = s.localHost := rfl
@[simp] theorem bump_remoteHost (s : State) (f : Fld) (v : Nat) : (s.bump f v).remoteHost = s.remoteHost := rfl
@[simp] theorem bump_flight (s : State) (f : Fld) (v : Nat) : (s.bump f v).flight = s.flight := rfl
@[simp] theorem bump_posted (s : State) (f : Fld) (v : Nat) : (s.bump f v).posted = s.posted := rfl
@[simp] theorem bump_postSeq (s : State) (f : Fld) (v : Nat) : (s.bump f v).postSeq = s.postSeq := rfl
@[simp] theorem bump_mem (s : State) (f : Fld) (v : Nat) : (s.bump f v).mem = s.mem := rfl
@[simp] theorem bump_memc (s : State) (f : Fld) (v : Nat) : (s.bump f v).memc = s.memc := rfl
@[simp] theorem bump_tbu (s : State) (f : Fld) (v : Nat) : (s.bump f v).tbu = s.tbu := rfl
@[simp] theorem bump_talus (s : State) (f : Fld) (v : Nat) : (s.bump f v).talus = s.talus := rfl
@[simp] theorem bump_col (s : State) (f : Fld) (v : Nat) : (s.bump f v).col = s.col := rfl
@[simp] theorem bump_strata (s : State) (f : Fld) (v : Nat) : (s.bump f v).strata = s.strata := rfl
@[simp] theorem bump_macs (s : State) (f : Fld) (v : Nat) : (s.bump f v).macs = s.macs := rfl
@[simp] theorem bump_massif (s : State) (f : Fld) (v : Nat) : (s.bump f v).massif = s.massif := rfl
@[simp] theorem bump_sts (s : State) (f : Fld) (v : Nat) : (s.bump f v).sts = s.sts := rfl
@[simp] theorem bump_tal (s : State) (f : Fld) (v : Nat) : (s.bump f v).tal = s.tal := rfl
@[simp] theorem bump_rl (s : State) (f : Fld) (v : Nat) : (s.bump f v).rl = s.rl := rfl
@[simp] theorem bump_cans (s : State) (f : Fld) (v : Nat) : (s.bump f v).cans = s.cans := rfl
@[simp] theorem bump_tor (s : State) (f : Fld) (v : Nat) : (s.bump f v).tor = s.tor := rfl
@[simp] theorem bump_hostIf (s : State) (f : Fld) (v : Nat) : (s.bump f v).hostIf = s.hostIf := rfl
@[simp] theorem bump_prc (s : State) (f : Fld) (v : Nat) : (s.bump f v).prc = s.prc := rfl
@[simp] theorem bump_fwc (s : State) (f : Fld) (v : Nat) : (s.bump f v).fwc = s.fwc := rfl
@[simp] theorem bump_tmx (s : State) (f : Fld) (v : Nat) : (s.bump f v).tmx = s.tmx := rfl
@[simp] theorem bump_acting (s : State) (f : Fld) (v : Nat) : (s.bump f v).acting = s.acting := rfl
@[simp] theorem bump_engines (s : State) (f : Fld) (v : Nat) : (s.bump f v).engines = s.engines := rfl
@[simp] theorem bump_pairs (s : State) (f : Fld) (v : Nat) : (s.bump f v).pairs = s.pairs := rfl

/-! bumpSat -/

@[simp] theorem bumpSat_pending (s : State) (f : Fld) (v : Nat) : (s.bumpSat f v).pending = s.pending := rfl
@[simp] theorem bumpSat_clk (s : State) (f : Fld) (v : Nat) : (s.bumpSat f v).clk = s.clk := rfl
@[simp] theorem bumpSat_freeCtr (s : State) (f : Fld) (v : Nat) : (s.bumpSat f v).freeCtr = s.freeCtr := rfl
@[simp] theorem bumpSat_outs (s : State) (f : Fld) (v : Nat) : (s.bumpSat f v).outs = s.outs := rfl
@[simp] theorem bumpSat_act (s : State) (f : Fld) (v : Nat) : (s.bumpSat f v).act = s.act := rfl
@[simp] theorem bumpSat_agentRegs (s : State) (f : Fld) (v : Nat) : (s.bumpSat f v).agentRegs = s.agentRegs := rfl
@[simp] theorem bumpSat_held (s : State) (f : Fld) (v : Nat) : (s.bumpSat f v).held = s.held := rfl
@[simp] theorem bumpSat_fuses (s : State) (f : Fld) (v : Nat) : (s.bumpSat f v).fuses = s.fuses := rfl
@[simp] theorem bumpSat_straps (s : State) (f : Fld) (v : Nat) : (s.bumpSat f v).straps = s.straps := rfl
@[simp] theorem bumpSat_localHost (s : State) (f : Fld) (v : Nat) : (s.bumpSat f v).localHost = s.localHost := rfl
@[simp] theorem bumpSat_remoteHost (s : State) (f : Fld) (v : Nat) : (s.bumpSat f v).remoteHost = s.remoteHost := rfl
@[simp] theorem bumpSat_flight (s : State) (f : Fld) (v : Nat) : (s.bumpSat f v).flight = s.flight := rfl
@[simp] theorem bumpSat_posted (s : State) (f : Fld) (v : Nat) : (s.bumpSat f v).posted = s.posted := rfl
@[simp] theorem bumpSat_postSeq (s : State) (f : Fld) (v : Nat) : (s.bumpSat f v).postSeq = s.postSeq := rfl
@[simp] theorem bumpSat_mem (s : State) (f : Fld) (v : Nat) : (s.bumpSat f v).mem = s.mem := rfl
@[simp] theorem bumpSat_memc (s : State) (f : Fld) (v : Nat) : (s.bumpSat f v).memc = s.memc := rfl
@[simp] theorem bumpSat_tbu (s : State) (f : Fld) (v : Nat) : (s.bumpSat f v).tbu = s.tbu := rfl
@[simp] theorem bumpSat_talus (s : State) (f : Fld) (v : Nat) : (s.bumpSat f v).talus = s.talus := rfl
@[simp] theorem bumpSat_col (s : State) (f : Fld) (v : Nat) : (s.bumpSat f v).col = s.col := rfl
@[simp] theorem bumpSat_strata (s : State) (f : Fld) (v : Nat) : (s.bumpSat f v).strata = s.strata := rfl
@[simp] theorem bumpSat_macs (s : State) (f : Fld) (v : Nat) : (s.bumpSat f v).macs = s.macs := rfl
@[simp] theorem bumpSat_massif (s : State) (f : Fld) (v : Nat) : (s.bumpSat f v).massif = s.massif := rfl
@[simp] theorem bumpSat_sts (s : State) (f : Fld) (v : Nat) : (s.bumpSat f v).sts = s.sts := rfl
@[simp] theorem bumpSat_tal (s : State) (f : Fld) (v : Nat) : (s.bumpSat f v).tal = s.tal := rfl
@[simp] theorem bumpSat_rl (s : State) (f : Fld) (v : Nat) : (s.bumpSat f v).rl = s.rl := rfl
@[simp] theorem bumpSat_cans (s : State) (f : Fld) (v : Nat) : (s.bumpSat f v).cans = s.cans := rfl
@[simp] theorem bumpSat_tor (s : State) (f : Fld) (v : Nat) : (s.bumpSat f v).tor = s.tor := rfl
@[simp] theorem bumpSat_hostIf (s : State) (f : Fld) (v : Nat) : (s.bumpSat f v).hostIf = s.hostIf := rfl
@[simp] theorem bumpSat_prc (s : State) (f : Fld) (v : Nat) : (s.bumpSat f v).prc = s.prc := rfl
@[simp] theorem bumpSat_fwc (s : State) (f : Fld) (v : Nat) : (s.bumpSat f v).fwc = s.fwc := rfl
@[simp] theorem bumpSat_tmx (s : State) (f : Fld) (v : Nat) : (s.bumpSat f v).tmx = s.tmx := rfl
@[simp] theorem bumpSat_acting (s : State) (f : Fld) (v : Nat) : (s.bumpSat f v).acting = s.acting := rfl
@[simp] theorem bumpSat_engines (s : State) (f : Fld) (v : Nat) : (s.bumpSat f v).engines = s.engines := rfl
@[simp] theorem bumpSat_pairs (s : State) (f : Fld) (v : Nat) : (s.bumpSat f v).pairs = s.pairs := rfl

/-! setHostPort -/

@[simp] theorem setHostPort_pending (s : State) (a : Nat) (p : HostPort) : (s.setHostPort a p).pending = s.pending := by
  unfold setHostPort; split <;> rfl
@[simp] theorem setHostPort_clk (s : State) (a : Nat) (p : HostPort) : (s.setHostPort a p).clk = s.clk := by
  unfold setHostPort; split <;> rfl
@[simp] theorem setHostPort_freeCtr (s : State) (a : Nat) (p : HostPort) : (s.setHostPort a p).freeCtr = s.freeCtr := by
  unfold setHostPort; split <;> rfl
@[simp] theorem setHostPort_outs (s : State) (a : Nat) (p : HostPort) : (s.setHostPort a p).outs = s.outs := by
  unfold setHostPort; split <;> rfl
@[simp] theorem setHostPort_regs (s : State) (a : Nat) (p : HostPort) : (s.setHostPort a p).regs = s.regs := by
  unfold setHostPort; split <;> rfl
@[simp] theorem setHostPort_act (s : State) (a : Nat) (p : HostPort) : (s.setHostPort a p).act = s.act := by
  unfold setHostPort; split <;> rfl
@[simp] theorem setHostPort_agentRegs (s : State) (a : Nat) (p : HostPort) : (s.setHostPort a p).agentRegs = s.agentRegs := by
  unfold setHostPort; split <;> rfl
@[simp] theorem setHostPort_held (s : State) (a : Nat) (p : HostPort) : (s.setHostPort a p).held = s.held := by
  unfold setHostPort; split <;> rfl
@[simp] theorem setHostPort_fuses (s : State) (a : Nat) (p : HostPort) : (s.setHostPort a p).fuses = s.fuses := by
  unfold setHostPort; split <;> rfl
@[simp] theorem setHostPort_straps (s : State) (a : Nat) (p : HostPort) : (s.setHostPort a p).straps = s.straps := by
  unfold setHostPort; split <;> rfl
@[simp] theorem setHostPort_flight (s : State) (a : Nat) (p : HostPort) : (s.setHostPort a p).flight = s.flight := by
  unfold setHostPort; split <;> rfl
@[simp] theorem setHostPort_posted (s : State) (a : Nat) (p : HostPort) : (s.setHostPort a p).posted = s.posted := by
  unfold setHostPort; split <;> rfl
@[simp] theorem setHostPort_postSeq (s : State) (a : Nat) (p : HostPort) : (s.setHostPort a p).postSeq = s.postSeq := by
  unfold setHostPort; split <;> rfl
@[simp] theorem setHostPort_mem (s : State) (a : Nat) (p : HostPort) : (s.setHostPort a p).mem = s.mem := by
  unfold setHostPort; split <;> rfl
@[simp] theorem setHostPort_memc (s : State) (a : Nat) (p : HostPort) : (s.setHostPort a p).memc = s.memc := by
  unfold setHostPort; split <;> rfl
@[simp] theorem setHostPort_tbu (s : State) (a : Nat) (p : HostPort) : (s.setHostPort a p).tbu = s.tbu := by
  unfold setHostPort; split <;> rfl
@[simp] theorem setHostPort_talus (s : State) (a : Nat) (p : HostPort) : (s.setHostPort a p).talus = s.talus := by
  unfold setHostPort; split <;> rfl
@[simp] theorem setHostPort_col (s : State) (a : Nat) (p : HostPort) : (s.setHostPort a p).col = s.col := by
  unfold setHostPort; split <;> rfl
@[simp] theorem setHostPort_strata (s : State) (a : Nat) (p : HostPort) : (s.setHostPort a p).strata = s.strata := by
  unfold setHostPort; split <;> rfl
@[simp] theorem setHostPort_macs (s : State) (a : Nat) (p : HostPort) : (s.setHostPort a p).macs = s.macs := by
  unfold setHostPort; split <;> rfl
@[simp] theorem setHostPort_massif (s : State) (a : Nat) (p : HostPort) : (s.setHostPort a p).massif = s.massif := by
  unfold setHostPort; split <;> rfl
@[simp] theorem setHostPort_sts (s : State) (a : Nat) (p : HostPort) : (s.setHostPort a p).sts = s.sts := by
  unfold setHostPort; split <;> rfl
@[simp] theorem setHostPort_tal (s : State) (a : Nat) (p : HostPort) : (s.setHostPort a p).tal = s.tal := by
  unfold setHostPort; split <;> rfl
@[simp] theorem setHostPort_rl (s : State) (a : Nat) (p : HostPort) : (s.setHostPort a p).rl = s.rl := by
  unfold setHostPort; split <;> rfl
@[simp] theorem setHostPort_cans (s : State) (a : Nat) (p : HostPort) : (s.setHostPort a p).cans = s.cans := by
  unfold setHostPort; split <;> rfl
@[simp] theorem setHostPort_tor (s : State) (a : Nat) (p : HostPort) : (s.setHostPort a p).tor = s.tor := by
  unfold setHostPort; split <;> rfl
@[simp] theorem setHostPort_hostIf (s : State) (a : Nat) (p : HostPort) : (s.setHostPort a p).hostIf = s.hostIf := by
  unfold setHostPort; split <;> rfl
@[simp] theorem setHostPort_prc (s : State) (a : Nat) (p : HostPort) : (s.setHostPort a p).prc = s.prc := by
  unfold setHostPort; split <;> rfl
@[simp] theorem setHostPort_fwc (s : State) (a : Nat) (p : HostPort) : (s.setHostPort a p).fwc = s.fwc := by
  unfold setHostPort; split <;> rfl
@[simp] theorem setHostPort_tmx (s : State) (a : Nat) (p : HostPort) : (s.setHostPort a p).tmx = s.tmx := by
  unfold setHostPort; split <;> rfl
@[simp] theorem setHostPort_acting (s : State) (a : Nat) (p : HostPort) : (s.setHostPort a p).acting = s.acting := by
  unfold setHostPort; split <;> rfl
@[simp] theorem setHostPort_engines (s : State) (a : Nat) (p : HostPort) : (s.setHostPort a p).engines = s.engines := by
  unfold setHostPort; split <;> rfl
@[simp] theorem setHostPort_pairs (s : State) (a : Nat) (p : HostPort) : (s.setHostPort a p).pairs = s.pairs := by
  unfold setHostPort; split <;> rfl

/-! post -/

@[simp] theorem post_pending (s : State) (unit sel arg due a : Nat) : (s.post unit sel arg due a).pending = s.pending := rfl
@[simp] theorem post_clk (s : State) (unit sel arg due a : Nat) : (s.post unit sel arg due a).clk = s.clk := rfl
@[simp] theorem post_freeCtr (s : State) (unit sel arg due a : Nat) : (s.post unit sel arg due a).freeCtr = s.freeCtr := rfl
@[simp] theorem post_outs (s : State) (unit sel arg due a : Nat) : (s.post unit sel arg due a).outs = s.outs := rfl
@[simp] theorem post_regs (s : State) (unit sel arg due a : Nat) : (s.post unit sel arg due a).regs = s.regs := rfl
@[simp] theorem post_act (s : State) (unit sel arg due a : Nat) : (s.post unit sel arg due a).act = s.act := rfl
@[simp] theorem post_agentRegs (s : State) (unit sel arg due a : Nat) : (s.post unit sel arg due a).agentRegs = s.agentRegs := rfl
@[simp] theorem post_held (s : State) (unit sel arg due a : Nat) : (s.post unit sel arg due a).held = s.held := rfl
@[simp] theorem post_fuses (s : State) (unit sel arg due a : Nat) : (s.post unit sel arg due a).fuses = s.fuses := rfl
@[simp] theorem post_straps (s : State) (unit sel arg due a : Nat) : (s.post unit sel arg due a).straps = s.straps := rfl
@[simp] theorem post_localHost (s : State) (unit sel arg due a : Nat) : (s.post unit sel arg due a).localHost = s.localHost := rfl
@[simp] theorem post_remoteHost (s : State) (unit sel arg due a : Nat) : (s.post unit sel arg due a).remoteHost = s.remoteHost := rfl
@[simp] theorem post_posted (s : State) (unit sel arg due a : Nat) : (s.post unit sel arg due a).posted = s.posted := rfl
@[simp] theorem post_mem (s : State) (unit sel arg due a : Nat) : (s.post unit sel arg due a).mem = s.mem := rfl
@[simp] theorem post_memc (s : State) (unit sel arg due a : Nat) : (s.post unit sel arg due a).memc = s.memc := rfl
@[simp] theorem post_tbu (s : State) (unit sel arg due a : Nat) : (s.post unit sel arg due a).tbu = s.tbu := rfl
@[simp] theorem post_talus (s : State) (unit sel arg due a : Nat) : (s.post unit sel arg due a).talus = s.talus := rfl
@[simp] theorem post_col (s : State) (unit sel arg due a : Nat) : (s.post unit sel arg due a).col = s.col := rfl
@[simp] theorem post_strata (s : State) (unit sel arg due a : Nat) : (s.post unit sel arg due a).strata = s.strata := rfl
@[simp] theorem post_macs (s : State) (unit sel arg due a : Nat) : (s.post unit sel arg due a).macs = s.macs := rfl
@[simp] theorem post_massif (s : State) (unit sel arg due a : Nat) : (s.post unit sel arg due a).massif = s.massif := rfl
@[simp] theorem post_sts (s : State) (unit sel arg due a : Nat) : (s.post unit sel arg due a).sts = s.sts := rfl
@[simp] theorem post_tal (s : State) (unit sel arg due a : Nat) : (s.post unit sel arg due a).tal = s.tal := rfl
@[simp] theorem post_rl (s : State) (unit sel arg due a : Nat) : (s.post unit sel arg due a).rl = s.rl := rfl
@[simp] theorem post_cans (s : State) (unit sel arg due a : Nat) : (s.post unit sel arg due a).cans = s.cans := rfl
@[simp] theorem post_tor (s : State) (unit sel arg due a : Nat) : (s.post unit sel arg due a).tor = s.tor := rfl
@[simp] theorem post_hostIf (s : State) (unit sel arg due a : Nat) : (s.post unit sel arg due a).hostIf = s.hostIf := rfl
@[simp] theorem post_prc (s : State) (unit sel arg due a : Nat) : (s.post unit sel arg due a).prc = s.prc := rfl
@[simp] theorem post_fwc (s : State) (unit sel arg due a : Nat) : (s.post unit sel arg due a).fwc = s.fwc := rfl
@[simp] theorem post_tmx (s : State) (unit sel arg due a : Nat) : (s.post unit sel arg due a).tmx = s.tmx := rfl
@[simp] theorem post_acting (s : State) (unit sel arg due a : Nat) : (s.post unit sel arg due a).acting = s.acting := rfl
@[simp] theorem post_engines (s : State) (unit sel arg due a : Nat) : (s.post unit sel arg due a).engines = s.engines := rfl
@[simp] theorem post_pairs (s : State) (unit sel arg due a : Nat) : (s.post unit sel arg due a).pairs = s.pairs := rfl

/-! dropSilt -/

@[simp] theorem dropSilt_pending (s : State) (c a : Nat) : (s.dropSilt c a).pending = s.pending := rfl
@[simp] theorem dropSilt_clk (s : State) (c a : Nat) : (s.dropSilt c a).clk = s.clk := rfl
@[simp] theorem dropSilt_freeCtr (s : State) (c a : Nat) : (s.dropSilt c a).freeCtr = s.freeCtr := rfl
@[simp] theorem dropSilt_outs (s : State) (c a : Nat) : (s.dropSilt c a).outs = s.outs := rfl
@[simp] theorem dropSilt_regs (s : State) (c a : Nat) : (s.dropSilt c a).regs = s.regs := rfl
@[simp] theorem dropSilt_act (s : State) (c a : Nat) : (s.dropSilt c a).act = s.act := rfl
@[simp] theorem dropSilt_agentRegs (s : State) (c a : Nat) : (s.dropSilt c a).agentRegs = s.agentRegs := rfl
@[simp] theorem dropSilt_held (s : State) (c a : Nat) : (s.dropSilt c a).held = s.held := rfl
@[simp] theorem dropSilt_fuses (s : State) (c a : Nat) : (s.dropSilt c a).fuses = s.fuses := rfl
@[simp] theorem dropSilt_straps (s : State) (c a : Nat) : (s.dropSilt c a).straps = s.straps := rfl
@[simp] theorem dropSilt_localHost (s : State) (c a : Nat) : (s.dropSilt c a).localHost = s.localHost := rfl
@[simp] theorem dropSilt_remoteHost (s : State) (c a : Nat) : (s.dropSilt c a).remoteHost = s.remoteHost := rfl
@[simp] theorem dropSilt_flight (s : State) (c a : Nat) : (s.dropSilt c a).flight = s.flight := rfl
@[simp] theorem dropSilt_posted (s : State) (c a : Nat) : (s.dropSilt c a).posted = s.posted := rfl
@[simp] theorem dropSilt_postSeq (s : State) (c a : Nat) : (s.dropSilt c a).postSeq = s.postSeq := rfl
@[simp] theorem dropSilt_mem (s : State) (c a : Nat) : (s.dropSilt c a).mem = s.mem := rfl
@[simp] theorem dropSilt_tbu (s : State) (c a : Nat) : (s.dropSilt c a).tbu = s.tbu := rfl
@[simp] theorem dropSilt_talus (s : State) (c a : Nat) : (s.dropSilt c a).talus = s.talus := rfl
@[simp] theorem dropSilt_col (s : State) (c a : Nat) : (s.dropSilt c a).col = s.col := rfl
@[simp] theorem dropSilt_strata (s : State) (c a : Nat) : (s.dropSilt c a).strata = s.strata := rfl
@[simp] theorem dropSilt_macs (s : State) (c a : Nat) : (s.dropSilt c a).macs = s.macs := rfl
@[simp] theorem dropSilt_massif (s : State) (c a : Nat) : (s.dropSilt c a).massif = s.massif := rfl
@[simp] theorem dropSilt_sts (s : State) (c a : Nat) : (s.dropSilt c a).sts = s.sts := rfl
@[simp] theorem dropSilt_tal (s : State) (c a : Nat) : (s.dropSilt c a).tal = s.tal := rfl
@[simp] theorem dropSilt_rl (s : State) (c a : Nat) : (s.dropSilt c a).rl = s.rl := rfl
@[simp] theorem dropSilt_cans (s : State) (c a : Nat) : (s.dropSilt c a).cans = s.cans := rfl
@[simp] theorem dropSilt_tor (s : State) (c a : Nat) : (s.dropSilt c a).tor = s.tor := rfl
@[simp] theorem dropSilt_hostIf (s : State) (c a : Nat) : (s.dropSilt c a).hostIf = s.hostIf := rfl
@[simp] theorem dropSilt_prc (s : State) (c a : Nat) : (s.dropSilt c a).prc = s.prc := rfl
@[simp] theorem dropSilt_fwc (s : State) (c a : Nat) : (s.dropSilt c a).fwc = s.fwc := rfl
@[simp] theorem dropSilt_tmx (s : State) (c a : Nat) : (s.dropSilt c a).tmx = s.tmx := rfl
@[simp] theorem dropSilt_acting (s : State) (c a : Nat) : (s.dropSilt c a).acting = s.acting := rfl
@[simp] theorem dropSilt_engines (s : State) (c a : Nat) : (s.dropSilt c a).engines = s.engines := rfl
@[simp] theorem dropSilt_pairs (s : State) (c a : Nat) : (s.dropSilt c a).pairs = s.pairs := rfl

/-! unlist -/

@[simp] theorem unlist_pending (s : State) (t : Nat) : (s.unlist t).pending = s.pending := rfl
@[simp] theorem unlist_clk (s : State) (t : Nat) : (s.unlist t).clk = s.clk := rfl
@[simp] theorem unlist_freeCtr (s : State) (t : Nat) : (s.unlist t).freeCtr = s.freeCtr := rfl
@[simp] theorem unlist_outs (s : State) (t : Nat) : (s.unlist t).outs = s.outs := rfl
@[simp] theorem unlist_regs (s : State) (t : Nat) : (s.unlist t).regs = s.regs := rfl
@[simp] theorem unlist_act (s : State) (t : Nat) : (s.unlist t).act = s.act := rfl
@[simp] theorem unlist_agentRegs (s : State) (t : Nat) : (s.unlist t).agentRegs = s.agentRegs := rfl
@[simp] theorem unlist_held (s : State) (t : Nat) : (s.unlist t).held = s.held := rfl
@[simp] theorem unlist_fuses (s : State) (t : Nat) : (s.unlist t).fuses = s.fuses := rfl
@[simp] theorem unlist_straps (s : State) (t : Nat) : (s.unlist t).straps = s.straps := rfl
@[simp] theorem unlist_localHost (s : State) (t : Nat) : (s.unlist t).localHost = s.localHost := rfl
@[simp] theorem unlist_remoteHost (s : State) (t : Nat) : (s.unlist t).remoteHost = s.remoteHost := rfl
@[simp] theorem unlist_flight (s : State) (t : Nat) : (s.unlist t).flight = s.flight := rfl
@[simp] theorem unlist_posted (s : State) (t : Nat) : (s.unlist t).posted = s.posted := rfl
@[simp] theorem unlist_postSeq (s : State) (t : Nat) : (s.unlist t).postSeq = s.postSeq := rfl
@[simp] theorem unlist_mem (s : State) (t : Nat) : (s.unlist t).mem = s.mem := rfl
@[simp] theorem unlist_memc (s : State) (t : Nat) : (s.unlist t).memc = s.memc := rfl
@[simp] theorem unlist_tbu (s : State) (t : Nat) : (s.unlist t).tbu = s.tbu := rfl
@[simp] theorem unlist_col (s : State) (t : Nat) : (s.unlist t).col = s.col := rfl
@[simp] theorem unlist_strata (s : State) (t : Nat) : (s.unlist t).strata = s.strata := rfl
@[simp] theorem unlist_macs (s : State) (t : Nat) : (s.unlist t).macs = s.macs := rfl
@[simp] theorem unlist_massif (s : State) (t : Nat) : (s.unlist t).massif = s.massif := rfl
@[simp] theorem unlist_sts (s : State) (t : Nat) : (s.unlist t).sts = s.sts := rfl
@[simp] theorem unlist_tal (s : State) (t : Nat) : (s.unlist t).tal = s.tal := rfl
@[simp] theorem unlist_rl (s : State) (t : Nat) : (s.unlist t).rl = s.rl := rfl
@[simp] theorem unlist_cans (s : State) (t : Nat) : (s.unlist t).cans = s.cans := rfl
@[simp] theorem unlist_tor (s : State) (t : Nat) : (s.unlist t).tor = s.tor := rfl
@[simp] theorem unlist_hostIf (s : State) (t : Nat) : (s.unlist t).hostIf = s.hostIf := rfl
@[simp] theorem unlist_prc (s : State) (t : Nat) : (s.unlist t).prc = s.prc := rfl
@[simp] theorem unlist_fwc (s : State) (t : Nat) : (s.unlist t).fwc = s.fwc := rfl
@[simp] theorem unlist_tmx (s : State) (t : Nat) : (s.unlist t).tmx = s.tmx := rfl
@[simp] theorem unlist_acting (s : State) (t : Nat) : (s.unlist t).acting = s.acting := rfl
@[simp] theorem unlist_engines (s : State) (t : Nat) : (s.unlist t).engines = s.engines := rfl
@[simp] theorem unlist_pairs (s : State) (t : Nat) : (s.unlist t).pairs = s.pairs := rfl

end Sys2Proof.Machine.State
end

