-- ==== Sys2Proof/Laws/Ops.lean ====
section
/-! SUPPORT. What the shared operations can do: each leaves every field alone that it does not name. -/
namespace Sys2Proof.Machine.State

/-! emit -/

@[simp] theorem emit_pending (s : State) (o : Out) : (s.emit o).pending = s.pending := by
  unfold emit; split <;> rfl
@[simp] theorem emit_clk (s : State) (o : Out) : (s.emit o).clk = s.clk := by
  unfold emit; split <;> rfl
@[simp] theorem emit_freeCtr (s : State) (o : Out) : (s.emit o).freeCtr = s.freeCtr := by
  unfold emit; split <;> rfl
@[simp] theorem emit_regs (s : State) (o : Out) : (s.emit o).regs = s.regs := by
  unfold emit; split <;> rfl
@[simp] theorem emit_act (s : State) (o : Out) : (s.emit o).act = s.act := by
  unfold emit; split <;> rfl
@[simp] theorem emit_agentRegs (s : State) (o : Out) : (s.emit o).agentRegs = s.agentRegs := by
  unfold emit; split <;> rfl
@[simp] theorem emit_held (s : State) (o : Out) : (s.emit o).held = s.held := by
  unfold emit; split <;> rfl
@[simp] theorem emit_fuses (s : State) (o : Out) : (s.emit o).fuses = s.fuses := by
  unfold emit; split <;> rfl
@[simp] theorem emit_straps (s : State) (o : Out) : (s.emit o).straps = s.straps := by
  unfold emit; split <;> rfl
@[simp] theorem emit_localHost (s : State) (o : Out) : (s.emit o).localHost = s.localHost := by
  unfold emit; split <;> rfl
@[simp] theorem emit_remoteHost (s : State) (o : Out) : (s.emit o).remoteHost = s.remoteHost := by
  unfold emit; split <;> rfl
@[simp] theorem emit_flight (s : State) (o : Out) : (s.emit o).flight = s.flight := by
  unfold emit; split <;> rfl
@[simp] theorem emit_posted (s : State) (o : Out) : (s.emit o).posted = s.posted := by
  unfold emit; split <;> rfl
@[simp] theorem emit_postSeq (s : State) (o : Out) : (s.emit o).postSeq = s.postSeq := by
  unfold emit; split <;> rfl
@[simp] theorem emit_mem (s : State) (o : Out) : (s.emit o).mem = s.mem := by
  unfold emit; split <;> rfl
@[simp] theorem emit_memc (s : State) (o : Out) : (s.emit o).memc = s.memc := by
  unfold emit; split <;> rfl
@[simp] theorem emit_tbu (s : State) (o : Out) : (s.emit o).tbu = s.tbu := by
  unfold emit; split <;> rfl
@[simp] theorem emit_talus (s : State) (o : Out) : (s.emit o).talus = s.talus := by
  unfold emit; split <;> rfl
@[simp] theorem emit_col (s : State) (o : Out) : (s.emit o).col = s.col := by
  unfold emit; split <;> rfl
@[simp] theorem emit_strata (s : State) (o : Out) : (s.emit o).strata = s.strata := by
  unfold emit; split <;> rfl
@[simp] theorem emit_macs (s : State) (o : Out) : (s.emit o).macs = s.macs := by
  unfold emit; split <;> rfl
@[simp] theorem emit_massif (s : State) (o : Out) : (s.emit o).massif = s.massif := by
  unfold emit; split <;> rfl
@[simp] theorem emit_sts (s : State) (o : Out) : (s.emit o).sts = s.sts := by
  unfold emit; split <;> rfl
@[simp] theorem emit_tal (s : State) (o : Out) : (s.emit o).tal = s.tal := by
  unfold emit; split <;> rfl
@[simp] theorem emit_rl (s : State) (o : Out) : (s.emit o).rl = s.rl := by
  unfold emit; split <;> rfl
@[simp] theorem emit_cans (s : State) (o : Out) : (s.emit o).cans = s.cans := by
  unfold emit; split <;> rfl
@[simp] theorem emit_tor (s : State) (o : Out) : (s.emit o).tor = s.tor := by
  unfold emit; split <;> rfl
@[simp] theorem emit_hostIf (s : State) (o : Out) : (s.emit o).hostIf = s.hostIf := by
  unfold emit; split <;> rfl
@[simp] theorem emit_prc (s : State) (o : Out) : (s.emit o).prc = s.prc := by
  unfold emit; split <;> rfl
@[simp] theorem emit_fwc (s : State) (o : Out) : (s.emit o).fwc = s.fwc := by
  unfold emit; split <;> rfl
@[simp] theorem emit_tmx (s : State) (o : Out) : (s.emit o).tmx = s.tmx := by
  unfold emit; split <;> rfl
@[simp] theorem emit_acting (s : State) (o : Out) : (s.emit o).acting = s.acting := by
  unfold emit; split <;> rfl
@[simp] theorem emit_engines (s : State) (o : Out) : (s.emit o).engines = s.engines := by
  unfold emit; split <;> rfl
@[simp] theorem emit_pairs (s : State) (o : Out) : (s.emit o).pairs = s.pairs := by
  unfold emit; split <;> rfl

/-- A field that every step of a fold leaves alone is left alone by the fold. -/
theorem foldl_keeps {α β : Type} (g : State → β) (f : State → α → State) (h : ∀ s a, g (f s a) = g s) (l : List α)
    (s : State) : g (l.foldl f s) = g s := by
  induction l generalizing s with
  | nil => rfl
  | cons a r ih => rw [List.foldl_cons, ih, h]

/-! tmuxEdge -/

@[simp] theorem tmuxEdge_pending (s : State) (sel arg : Nat) (v : Bool) (t : Nat) : (s.tmuxEdge sel arg v t).pending = s.pending := by
  unfold tmuxEdge; exact foldl_keeps (·.pending) _ (by intro s n; split <;> simp) _ s
@[simp] theorem tmuxEdge_clk (s : State) (sel arg : Nat) (v : Bool) (t : Nat) : (s.tmuxEdge sel arg v t).clk = s.clk := by
  unfold tmuxEdge; exact foldl_keeps (·.clk) _ (by intro s n; split <;> simp) _ s
@[simp] theorem tmuxEdge_freeCtr (s : State) (sel arg : Nat) (v : Bool) (t : Nat) : (s.tmuxEdge sel arg v t).freeCtr = s.freeCtr := by
  unfold tmuxEdge; exact foldl_keeps (·.freeCtr) _ (by intro s n; split <;> simp) _ s
@[simp] theorem tmuxEdge_regs (s : State) (sel arg : Nat) (v : Bool) (t : Nat) : (s.tmuxEdge sel arg v t).regs = s.regs := by
  unfold tmuxEdge; exact foldl_keeps (·.regs) _ (by intro s n; split <;> simp) _ s
@[simp] theorem tmuxEdge_act (s : State) (sel arg : Nat) (v : Bool) (t : Nat) : (s.tmuxEdge sel arg v t).act = s.act := by
  unfold tmuxEdge; exact foldl_keeps (·.act) _ (by intro s n; split <;> simp) _ s
@[simp] theorem tmuxEdge_agentRegs (s : State) (sel arg : Nat) (v : Bool) (t : Nat) : (s.tmuxEdge sel arg v t).agentRegs = s.agentRegs := by
  unfold tmuxEdge; exact foldl_keeps (·.agentRegs) _ (by intro s n; split <;> simp) _ s
@[simp] theorem tmuxEdge_held (s : State) (sel arg : Nat) (v : Bool) (t : Nat) : (s.tmuxEdge sel arg v t).held = s.held := by
  unfold tmuxEdge; exact foldl_keeps (·.held) _ (by intro s n; split <;> simp) _ s
@[simp] theorem tmuxEdge_fuses (s : State) (sel arg : Nat) (v : Bool) (t : Nat) : (s.tmuxEdge sel arg v t).fuses = s.fuses := by
  unfold tmuxEdge; exact foldl_keeps (·.fuses) _ (by intro s n; split <;> simp) _ s
@[simp] theorem tmuxEdge_straps (s : State) (sel arg : Nat) (v : Bool) (t : Nat) : (s.tmuxEdge sel arg v t).straps = s.straps := by
  unfold tmuxEdge; exact foldl_keeps (·.straps) _ (by intro s n; split <;> simp) _ s
@[simp] theorem tmuxEdge_localHost (s : State) (sel arg : Nat) (v : Bool) (t : Nat) : (s.tmuxEdge sel arg v t).localHost = s.localHost := by
  unfold tmuxEdge; exact foldl_keeps (·.localHost) _ (by intro s n; split <;> simp) _ s
@[simp] theorem tmuxEdge_remoteHost (s : State) (sel arg : Nat) (v : Bool) (t : Nat) : (s.tmuxEdge sel arg v t).remoteHost = s.remoteHost := by
  unfold tmuxEdge; exact foldl_keeps (·.remoteHost) _ (by intro s n; split <;> simp) _ s
@[simp] theorem tmuxEdge_flight (s : State) (sel arg : Nat) (v : Bool) (t : Nat) : (s.tmuxEdge sel arg v t).flight = s.flight := by
  unfold tmuxEdge; exact foldl_keeps (·.flight) _ (by intro s n; split <;> simp) _ s
@[simp] theorem tmuxEdge_posted (s : State) (sel arg : Nat) (v : Bool) (t : Nat) : (s.tmuxEdge sel arg v t).posted = s.posted := by
  unfold tmuxEdge; exact foldl_keeps (·.posted) _ (by intro s n; split <;> simp) _ s
@[simp] theorem tmuxEdge_postSeq (s : State) (sel arg : Nat) (v : Bool) (t : Nat) : (s.tmuxEdge sel arg v t).postSeq = s.postSeq := by
  unfold tmuxEdge; exact foldl_keeps (·.postSeq) _ (by intro s n; split <;> simp) _ s
@[simp] theorem tmuxEdge_mem (s : State) (sel arg : Nat) (v : Bool) (t : Nat) : (s.tmuxEdge sel arg v t).mem = s.mem := by
  unfold tmuxEdge; exact foldl_keeps (·.mem) _ (by intro s n; split <;> simp) _ s
@[simp] theorem tmuxEdge_memc (s : State) (sel arg : Nat) (v : Bool) (t : Nat) : (s.tmuxEdge sel arg v t).memc = s.memc := by
  unfold tmuxEdge; exact foldl_keeps (·.memc) _ (by intro s n; split <;> simp) _ s
@[simp] theorem tmuxEdge_tbu (s : State) (sel arg : Nat) (v : Bool) (t : Nat) : (s.tmuxEdge sel arg v t).tbu = s.tbu := by
  unfold tmuxEdge; exact foldl_keeps (·.tbu) _ (by intro s n; split <;> simp) _ s
@[simp] theorem tmuxEdge_talus (s : State) (sel arg : Nat) (v : Bool) (t : Nat) : (s.tmuxEdge sel arg v t).talus = s.talus := by
  unfold tmuxEdge; exact foldl_keeps (·.talus) _ (by intro s n; split <;> simp) _ s
@[simp] theorem tmuxEdge_col (s : State) (sel arg : Nat) (v : Bool) (t : Nat) : (s.tmuxEdge sel arg v t).col = s.col := by
  unfold tmuxEdge; exact foldl_keeps (·.col) _ (by intro s n; split <;> simp) _ s
@[simp] theorem tmuxEdge_strata (s : State) (sel arg : Nat) (v : Bool) (t : Nat) : (s.tmuxEdge sel arg v t).strata = s.strata := by
  unfold tmuxEdge; exact foldl_keeps (·.strata) _ (by intro s n; split <;> simp) _ s
@[simp] theorem tmuxEdge_macs (s : State) (sel arg : Nat) (v : Bool) (t : Nat) : (s.tmuxEdge sel arg v t).macs = s.macs := by
  unfold tmuxEdge; exact foldl_keeps (·.macs) _ (by intro s n; split <;> simp) _ s
@[simp] theorem tmuxEdge_massif (s : State) (sel arg : Nat) (v : Bool) (t : Nat) : (s.tmuxEdge sel arg v t).massif = s.massif := by
  unfold tmuxEdge; exact foldl_keeps (·.massif) _ (by intro s n; split <;> simp) _ s
@[simp] theorem tmuxEdge_sts (s : State) (sel arg : Nat) (v : Bool) (t : Nat) : (s.tmuxEdge sel arg v t).sts = s.sts := by
  unfold tmuxEdge; exact foldl_keeps (·.sts) _ (by intro s n; split <;> simp) _ s
@[simp] theorem tmuxEdge_tal (s : State) (sel arg : Nat) (v : Bool) (t : Nat) : (s.tmuxEdge sel arg v t).tal = s.tal := by
  unfold tmuxEdge; exact foldl_keeps (·.tal) _ (by intro s n; split <;> simp) _ s
@[simp] theorem tmuxEdge_rl (s : State) (sel arg : Nat) (v : Bool) (t : Nat) : (s.tmuxEdge sel arg v t).rl = s.rl := by
  unfold tmuxEdge; exact foldl_keeps (·.rl) _ (by intro s n; split <;> simp) _ s
@[simp] theorem tmuxEdge_cans (s : State) (sel arg : Nat) (v : Bool) (t : Nat) : (s.tmuxEdge sel arg v t).cans = s.cans := by
  unfold tmuxEdge; exact foldl_keeps (·.cans) _ (by intro s n; split <;> simp) _ s
@[simp] theorem tmuxEdge_tor (s : State) (sel arg : Nat) (v : Bool) (t : Nat) : (s.tmuxEdge sel arg v t).tor = s.tor := by
  unfold tmuxEdge; exact foldl_keeps (·.tor) _ (by intro s n; split <;> simp) _ s
@[simp] theorem tmuxEdge_hostIf (s : State) (sel arg : Nat) (v : Bool) (t : Nat) : (s.tmuxEdge sel arg v t).hostIf = s.hostIf := by
  unfold tmuxEdge; exact foldl_keeps (·.hostIf) _ (by intro s n; split <;> simp) _ s
@[simp] theorem tmuxEdge_prc (s : State) (sel arg : Nat) (v : Bool) (t : Nat) : (s.tmuxEdge sel arg v t).prc = s.prc := by
  unfold tmuxEdge; exact foldl_keeps (·.prc) _ (by intro s n; split <;> simp) _ s
@[simp] theorem tmuxEdge_fwc (s : State) (sel arg : Nat) (v : Bool) (t : Nat) : (s.tmuxEdge sel arg v t).fwc = s.fwc := by
  unfold tmuxEdge; exact foldl_keeps (·.fwc) _ (by intro s n; split <;> simp) _ s
@[simp] theorem tmuxEdge_tmx (s : State) (sel arg : Nat) (v : Bool) (t : Nat) : (s.tmuxEdge sel arg v t).tmx = s.tmx := by
  unfold tmuxEdge; exact foldl_keeps (·.tmx) _ (by intro s n; split <;> simp) _ s
@[simp] theorem tmuxEdge_acting (s : State) (sel arg : Nat) (v : Bool) (t : Nat) : (s.tmuxEdge sel arg v t).acting = s.acting := by
  unfold tmuxEdge; exact foldl_keeps (·.acting) _ (by intro s n; split <;> simp) _ s
@[simp] theorem tmuxEdge_engines (s : State) (sel arg : Nat) (v : Bool) (t : Nat) : (s.tmuxEdge sel arg v t).engines = s.engines := by
  unfold tmuxEdge; exact foldl_keeps (·.engines) _ (by intro s n; split <;> simp) _ s
@[simp] theorem tmuxEdge_pairs (s : State) (sel arg : Nat) (v : Bool) (t : Nat) : (s.tmuxEdge sel arg v t).pairs = s.pairs := by
  unfold tmuxEdge; exact foldl_keeps (·.pairs) _ (by intro s n; split <;> simp) _ s

/-! tmuxPulse -/

@[simp] theorem tmuxPulse_pending (s : State) (sel arg t w : Nat) : (s.tmuxPulse sel arg t w).pending = s.pending := by
  simp [tmuxPulse]
@[simp] theorem tmuxPulse_clk (s : State) (sel arg t w : Nat) : (s.tmuxPulse sel arg t w).clk = s.clk := by
  simp [tmuxPulse]
@[simp] theorem tmuxPulse_freeCtr (s : State) (sel arg t w : Nat) : (s.tmuxPulse sel arg t w).freeCtr = s.freeCtr := by
  simp [tmuxPulse]
@[simp] theorem tmuxPulse_regs (s : State) (sel arg t w : Nat) : (s.tmuxPulse sel arg t w).regs = s.regs := by
  simp [tmuxPulse]
@[simp] theorem tmuxPulse_act (s : State) (sel arg t w : Nat) : (s.tmuxPulse sel arg t w).act = s.act := by
  simp [tmuxPulse]
@[simp] theorem tmuxPulse_agentRegs (s : State) (sel arg t w : Nat) : (s.tmuxPulse sel arg t w).agentRegs = s.agentRegs := by
  simp [tmuxPulse]
@[simp] theorem tmuxPulse_held (s : State) (sel arg t w : Nat) : (s.tmuxPulse sel arg t w).held = s.held := by
  simp [tmuxPulse]
@[simp] theorem tmuxPulse_fuses (s : State) (sel arg t w : Nat) : (s.tmuxPulse sel arg t w).fuses = s.fuses := by
  simp [tmuxPulse]
@[simp] theorem tmuxPulse_straps (s : State) (sel arg t w : Nat) : (s.tmuxPulse sel arg t w).straps = s.straps := by
  simp [tmuxPulse]
@[simp] theorem tmuxPulse_localHost (s : State) (sel arg t w : Nat) : (s.tmuxPulse sel arg t w).localHost = s.localHost := by
  simp [tmuxPulse]
@[simp] theorem tmuxPulse_remoteHost (s : State) (sel arg t w : Nat) : (s.tmuxPulse sel arg t w).remoteHost = s.remoteHost := by
  simp [tmuxPulse]
@[simp] theorem tmuxPulse_flight (s : State) (sel arg t w : Nat) : (s.tmuxPulse sel arg t w).flight = s.flight := by
  simp [tmuxPulse]
@[simp] theorem tmuxPulse_posted (s : State) (sel arg t w : Nat) : (s.tmuxPulse sel arg t w).posted = s.posted := by
  simp [tmuxPulse]
@[simp] theorem tmuxPulse_postSeq (s : State) (sel arg t w : Nat) : (s.tmuxPulse sel arg t w).postSeq = s.postSeq := by
  simp [tmuxPulse]
@[simp] theorem tmuxPulse_mem (s : State) (sel arg t w : Nat) : (s.tmuxPulse sel arg t w).mem = s.mem := by
  simp [tmuxPulse]
@[simp] theorem tmuxPulse_memc (s : State) (sel arg t w : Nat) : (s.tmuxPulse sel arg t w).memc = s.memc := by
  simp [tmuxPulse]
@[simp] theorem tmuxPulse_tbu (s : State) (sel arg t w : Nat) : (s.tmuxPulse sel arg t w).tbu = s.tbu := by
  simp [tmuxPulse]
@[simp] theorem tmuxPulse_talus (s : State) (sel arg t w : Nat) : (s.tmuxPulse sel arg t w).talus = s.talus := by
  simp [tmuxPulse]
@[simp] theorem tmuxPulse_col (s : State) (sel arg t w : Nat) : (s.tmuxPulse sel arg t w).col = s.col := by
  simp [tmuxPulse]
@[simp] theorem tmuxPulse_strata (s : State) (sel arg t w : Nat) : (s.tmuxPulse sel arg t w).strata = s.strata := by
  simp [tmuxPulse]
@[simp] theorem tmuxPulse_macs (s : State) (sel arg t w : Nat) : (s.tmuxPulse sel arg t w).macs = s.macs := by
  simp [tmuxPulse]
@[simp] theorem tmuxPulse_massif (s : State) (sel arg t w : Nat) : (s.tmuxPulse sel arg t w).massif = s.massif := by
  simp [tmuxPulse]
@[simp] theorem tmuxPulse_sts (s : State) (sel arg t w : Nat) : (s.tmuxPulse sel arg t w).sts = s.sts := by
  simp [tmuxPulse]
@[simp] theorem tmuxPulse_tal (s : State) (sel arg t w : Nat) : (s.tmuxPulse sel arg t w).tal = s.tal := by
  simp [tmuxPulse]
@[simp] theorem tmuxPulse_rl (s : State) (sel arg t w : Nat) : (s.tmuxPulse sel arg t w).rl = s.rl := by
  simp [tmuxPulse]
@[simp] theorem tmuxPulse_cans (s : State) (sel arg t w : Nat) : (s.tmuxPulse sel arg t w).cans = s.cans := by
  simp [tmuxPulse]
@[simp] theorem tmuxPulse_tor (s : State) (sel arg t w : Nat) : (s.tmuxPulse sel arg t w).tor = s.tor := by
  simp [tmuxPulse]
@[simp] theorem tmuxPulse_hostIf (s : State) (sel arg t w : Nat) : (s.tmuxPulse sel arg t w).hostIf = s.hostIf := by
  simp [tmuxPulse]
@[simp] theorem tmuxPulse_prc (s : State) (sel arg t w : Nat) : (s.tmuxPulse sel arg t w).prc = s.prc := by
  simp [tmuxPulse]
@[simp] theorem tmuxPulse_fwc (s : State) (sel arg t w : Nat) : (s.tmuxPulse sel arg t w).fwc = s.fwc := by
  simp [tmuxPulse]
@[simp] theorem tmuxPulse_tmx (s : State) (sel arg t w : Nat) : (s.tmuxPulse sel arg t w).tmx = s.tmx := by
  simp [tmuxPulse]
@[simp] theorem tmuxPulse_acting (s : State) (sel arg t w : Nat) : (s.tmuxPulse sel arg t w).acting = s.acting := by
  simp [tmuxPulse]
@[simp] theorem tmuxPulse_engines (s : State) (sel arg t w : Nat) : (s.tmuxPulse sel arg t w).engines = s.engines := by
  simp [tmuxPulse]
@[simp] theorem tmuxPulse_pairs (s : State) (sel arg t w : Nat) : (s.tmuxPulse sel arg t w).pairs = s.pairs := by
  simp [tmuxPulse]

/-! ball -/

@[simp] theorem ball_clk (s : State) (n : Nat) (up : Bool) (t : Nat) : (s.ball n up t).clk = s.clk := by
  simp [ball]
@[simp] theorem ball_pending (s : State) (n : Nat) (up : Bool) (t : Nat) : (s.ball n up t).pending = s.pending := by
  simp [ball]
@[simp] theorem ball_freeCtr (s : State) (n : Nat) (up : Bool) (t : Nat) : (s.ball n up t).freeCtr = s.freeCtr := by
  simp [ball]
@[simp] theorem ball_regs (s : State) (n : Nat) (up : Bool) (t : Nat) : (s.ball n up t).regs = s.regs := by
  simp [ball]
@[simp] theorem ball_act (s : State) (n : Nat) (up : Bool) (t : Nat) : (s.ball n up t).act = s.act := by
  simp [ball]
@[simp] theorem ball_agentRegs (s : State) (n : Nat) (up : Bool) (t : Nat) : (s.ball n up t).agentRegs = s.agentRegs := by
  simp [ball]
@[simp] theorem ball_held (s : State) (n : Nat) (up : Bool) (t : Nat) : (s.ball n up t).held = s.held := by
  simp [ball]
@[simp] theorem ball_fuses (s : State) (n : Nat) (up : Bool) (t : Nat) : (s.ball n up t).fuses = s.fuses := by
  simp [ball]
@[simp] theorem ball_straps (s : State) (n : Nat) (up : Bool) (t : Nat) : (s.ball n up t).straps = s.straps := by
  simp [ball]
@[simp] theorem ball_localHost (s : State) (n : Nat) (up : Bool) (t : Nat) : (s.ball n up t).localHost = s.localHost := by
  simp [ball]
@[simp] theorem ball_remoteHost (s : State) (n : Nat) (up : Bool) (t : Nat) : (s.ball n up t).remoteHost = s.remoteHost := by
  simp [ball]
@[simp] theorem ball_flight (s : State) (n : Nat) (up : Bool) (t : Nat) : (s.ball n up t).flight = s.flight := by
  simp [ball]
@[simp] theorem ball_posted (s : State) (n : Nat) (up : Bool) (t : Nat) : (s.ball n up t).posted = s.posted := by
  simp [ball]
@[simp] theorem ball_postSeq (s : State) (n : Nat) (up : Bool) (t : Nat) : (s.ball n up t).postSeq = s.postSeq := by
  simp [ball]
@[simp] theorem ball_mem (s : State) (n : Nat) (up : Bool) (t : Nat) : (s.ball n up t).mem = s.mem := by
  simp [ball]
@[simp] theorem ball_memc (s : State) (n : Nat) (up : Bool) (t : Nat) : (s.ball n up t).memc = s.memc := by
  simp [ball]
@[simp] theorem ball_talus (s : State) (n : Nat) (up : Bool) (t : Nat) : (s.ball n up t).talus = s.talus := by
  simp [ball]
@[simp] theorem ball_col (s : State) (n : Nat) (up : Bool) (t : Nat) : (s.ball n up t).col = s.col := by
  simp [ball]
@[simp] theorem ball_strata (s : State) (n : Nat) (up : Bool) (t : Nat) : (s.ball n up t).strata = s.strata := by
  simp [ball]
@[simp] theorem ball_macs (s : State) (n : Nat) (up : Bool) (t : Nat) : (s.ball n up t).macs = s.macs := by
  simp [ball]
@[simp] theorem ball_massif (s : State) (n : Nat) (up : Bool) (t : Nat) : (s.ball n up t).massif = s.massif := by
  simp [ball]
@[simp] theorem ball_sts (s : State) (n : Nat) (up : Bool) (t : Nat) : (s.ball n up t).sts = s.sts := by
  simp [ball]
@[simp] theorem ball_tal (s : State) (n : Nat) (up : Bool) (t : Nat) : (s.ball n up t).tal = s.tal := by
  simp [ball]
@[simp] theorem ball_rl (s : State) (n : Nat) (up : Bool) (t : Nat) : (s.ball n up t).rl = s.rl := by
  simp [ball]
@[simp] theorem ball_cans (s : State) (n : Nat) (up : Bool) (t : Nat) : (s.ball n up t).cans = s.cans := by
  simp [ball]
@[simp] theorem ball_tor (s : State) (n : Nat) (up : Bool) (t : Nat) : (s.ball n up t).tor = s.tor := by
  simp [ball]
@[simp] theorem ball_hostIf (s : State) (n : Nat) (up : Bool) (t : Nat) : (s.ball n up t).hostIf = s.hostIf := by
  simp [ball]
@[simp] theorem ball_prc (s : State) (n : Nat) (up : Bool) (t : Nat) : (s.ball n up t).prc = s.prc := by
  simp [ball]
@[simp] theorem ball_fwc (s : State) (n : Nat) (up : Bool) (t : Nat) : (s.ball n up t).fwc = s.fwc := by
  simp [ball]
@[simp] theorem ball_tmx (s : State) (n : Nat) (up : Bool) (t : Nat) : (s.ball n up t).tmx = s.tmx := by
  simp [ball]
@[simp] theorem ball_acting (s : State) (n : Nat) (up : Bool) (t : Nat) : (s.ball n up t).acting = s.acting := by
  simp [ball]
@[simp] theorem ball_engines (s : State) (n : Nat) (up : Bool) (t : Nat) : (s.ball n up t).engines = s.engines := by
  simp [ball]
@[simp] theorem ball_pairs (s : State) (n : Nat) (up : Bool) (t : Nat) : (s.ball n up t).pairs = s.pairs := by
  simp [ball]
@[simp] theorem ball_tbu (s : State) (n : Nat) (up : Bool) (t : Nat) : (s.ball n up t).tbu = s.tbu := by
  simp [ball]

/-! setTrg -/

@[simp] theorem setTrg_clk (s : State) (n : Nat) (y : TrgPin) : (s.setTrg n y).clk = s.clk := rfl
@[simp] theorem setTrg_pending (s : State) (n : Nat) (y : TrgPin) : (s.setTrg n y).pending = s.pending := rfl
@[simp] theorem setTrg_freeCtr (s : State) (n : Nat) (y : TrgPin) : (s.setTrg n y).freeCtr = s.freeCtr := rfl
@[simp] theorem setTrg_regs (s : State) (n : Nat) (y : TrgPin) : (s.setTrg n y).regs = s.regs := rfl
@[simp] theorem setTrg_act (s : State) (n : Nat) (y : TrgPin) : (s.setTrg n y).act = s.act := rfl
@[simp] theorem setTrg_agentRegs (s : State) (n : Nat) (y : TrgPin) : (s.setTrg n y).agentRegs = s.agentRegs := rfl
@[simp] theorem setTrg_held (s : State) (n : Nat) (y : TrgPin) : (s.setTrg n y).held = s.held := rfl
@[simp] theorem setTrg_fuses (s : State) (n : Nat) (y : TrgPin) : (s.setTrg n y).fuses = s.fuses := rfl
@[simp] theorem setTrg_straps (s : State) (n : Nat) (y : TrgPin) : (s.setTrg n y).straps = s.straps := rfl
@[simp] theorem setTrg_localHost (s : State) (n : Nat) (y : TrgPin) : (s.setTrg n y).localHost = s.localHost := rfl
@[simp] theorem setTrg_remoteHost (s : State) (n : Nat) (y : TrgPin) : (s.setTrg n y).remoteHost = s.remoteHost := rfl
@[simp] theorem setTrg_flight (s : State) (n : Nat) (y : TrgPin) : (s.setTrg n y).flight = s.flight := rfl
@[simp] theorem setTrg_posted (s : State) (n : Nat) (y : TrgPin) : (s.setTrg n y).posted = s.posted := rfl
@[simp] theorem setTrg_postSeq (s : State) (n : Nat) (y : TrgPin) : (s.setTrg n y).postSeq = s.postSeq := rfl
@[simp] theorem setTrg_mem (s : State) (n : Nat) (y : TrgPin) : (s.setTrg n y).mem = s.mem := rfl
@[simp] theorem setTrg_memc (s : State) (n : Nat) (y : TrgPin) : (s.setTrg n y).memc = s.memc := rfl
@[simp] theorem setTrg_talus (s : State) (n : Nat) (y : TrgPin) : (s.setTrg n y).talus = s.talus := rfl
@[simp] theorem setTrg_col (s : State) (n : Nat) (y : TrgPin) : (s.setTrg n y).col = s.col := rfl
@[simp] theorem setTrg_strata (s : State) (n : Nat) (y : TrgPin) : (s.setTrg n y).strata = s.strata := rfl
@[simp] theorem setTrg_macs (s : State) (n : Nat) (y : TrgPin) : (s.setTrg n y).macs = s.macs := rfl
@[simp] theorem setTrg_massif (s : State) (n : Nat) (y : TrgPin) : (s.setTrg n y).massif = s.massif := rfl
@[simp] theorem setTrg_sts (s : State) (n : Nat) (y : TrgPin) : (s.setTrg n y).sts = s.sts := rfl
@[simp] theorem setTrg_tal (s : State) (n : Nat) (y : TrgPin) : (s.setTrg n y).tal = s.tal := rfl
@[simp] theorem setTrg_rl (s : State) (n : Nat) (y : TrgPin) : (s.setTrg n y).rl = s.rl := rfl
@[simp] theorem setTrg_cans (s : State) (n : Nat) (y : TrgPin) : (s.setTrg n y).cans = s.cans := rfl
@[simp] theorem setTrg_tor (s : State) (n : Nat) (y : TrgPin) : (s.setTrg n y).tor = s.tor := rfl
@[simp] theorem setTrg_hostIf (s : State) (n : Nat) (y : TrgPin) : (s.setTrg n y).hostIf = s.hostIf := rfl
@[simp] theorem setTrg_prc (s : State) (n : Nat) (y : TrgPin) : (s.setTrg n y).prc = s.prc := rfl
@[simp] theorem setTrg_fwc (s : State) (n : Nat) (y : TrgPin) : (s.setTrg n y).fwc = s.fwc := rfl
@[simp] theorem setTrg_tmx (s : State) (n : Nat) (y : TrgPin) : (s.setTrg n y).tmx = s.tmx := rfl
@[simp] theorem setTrg_acting (s : State) (n : Nat) (y : TrgPin) : (s.setTrg n y).acting = s.acting := rfl
@[simp] theorem setTrg_engines (s : State) (n : Nat) (y : TrgPin) : (s.setTrg n y).engines = s.engines := rfl
@[simp] theorem setTrg_pairs (s : State) (n : Nat) (y : TrgPin) : (s.setTrg n y).pairs = s.pairs := rfl
@[simp] theorem setTrg_outs (s : State) (n : Nat) (y : TrgPin) : (s.setTrg n y).outs = s.outs := rfl

/-! settlePin, settlePins -/

@[simp] theorem settlePin_clk (c : Nat) (s : State) (n : Nat) : (settlePin c s n).clk = s.clk := by
  simp only [settlePin]; (repeat' split) <;> simp
@[simp] theorem settlePins_clk (s : State) (c : Nat) : (s.settlePins c).clk = s.clk := by
  unfold settlePins; exact foldl_keeps (·.clk) _ (by intro s n; simp) _ s
@[simp] theorem settlePin_pending (c : Nat) (s : State) (n : Nat) : (settlePin c s n).pending = s.pending := by
  simp only [settlePin]; (repeat' split) <;> simp
@[simp] theorem settlePins_pending (s : State) (c : Nat) : (s.settlePins c).pending = s.pending := by
  unfold settlePins; exact foldl_keeps (·.pending) _ (by intro s n; simp) _ s
@[simp] theorem settlePin_freeCtr (c : Nat) (s : State) (n : Nat) : (settlePin c s n).freeCtr = s.freeCtr := by
  simp only [settlePin]; (repeat' split) <;> simp
@[simp] theorem settlePins_freeCtr (s : State) (c : Nat) : (s.settlePins c).freeCtr = s.freeCtr := by
  unfold settlePins; exact foldl_keeps (·.freeCtr) _ (by intro s n; simp) _ s
@[simp] theorem settlePin_regs (c : Nat) (s : State) (n : Nat) : (settlePin c s n).regs = s.regs := by
  simp only [settlePin]; (repeat' split) <;> simp
@[simp] theorem settlePins_regs (s : State) (c : Nat) : (s.settlePins c).regs = s.regs := by
  unfold settlePins; exact foldl_keeps (·.regs) _ (by intro s n; simp) _ s
@[simp] theorem settlePin_act (c : Nat) (s : State) (n : Nat) : (settlePin c s n).act = s.act := by
  simp only [settlePin]; (repeat' split) <;> simp
@[simp] theorem settlePins_act (s : State) (c : Nat) : (s.settlePins c).act = s.act := by
  unfold settlePins; exact foldl_keeps (·.act) _ (by intro s n; simp) _ s
@[simp] theorem settlePin_agentRegs (c : Nat) (s : State) (n : Nat) : (settlePin c s n).agentRegs = s.agentRegs := by
  simp only [settlePin]; (repeat' split) <;> simp
@[simp] theorem settlePins_agentRegs (s : State) (c : Nat) : (s.settlePins c).agentRegs = s.agentRegs := by
  unfold settlePins; exact foldl_keeps (·.agentRegs) _ (by intro s n; simp) _ s
@[simp] theorem settlePin_held (c : Nat) (s : State) (n : Nat) : (settlePin c s n).held = s.held := by
  simp only [settlePin]; (repeat' split) <;> simp
@[simp] theorem settlePins_held (s : State) (c : Nat) : (s.settlePins c).held = s.held := by
  unfold settlePins; exact foldl_keeps (·.held) _ (by intro s n; simp) _ s
@[simp] theorem settlePin_fuses (c : Nat) (s : State) (n : Nat) : (settlePin c s n).fuses = s.fuses := by
  simp only [settlePin]; (repeat' split) <;> simp
@[simp] theorem settlePins_fuses (s : State) (c : Nat) : (s.settlePins c).fuses = s.fuses := by
  unfold settlePins; exact foldl_keeps (·.fuses) _ (by intro s n; simp) _ s
@[simp] theorem settlePin_straps (c : Nat) (s : State) (n : Nat) : (settlePin c s n).straps = s.straps := by
  simp only [settlePin]; (repeat' split) <;> simp
@[simp] theorem settlePins_straps (s : State) (c : Nat) : (s.settlePins c).straps = s.straps := by
  unfold settlePins; exact foldl_keeps (·.straps) _ (by intro s n; simp) _ s
@[simp] theorem settlePin_localHost (c : Nat) (s : State) (n : Nat) : (settlePin c s n).localHost = s.localHost := by
  simp only [settlePin]; (repeat' split) <;> simp
@[simp] theorem settlePins_localHost (s : State) (c : Nat) : (s.settlePins c).localHost = s.localHost := by
  unfold settlePins; exact foldl_keeps (·.localHost) _ (by intro s n; simp) _ s
@[simp] theorem settlePin_remoteHost (c : Nat) (s : State) (n : Nat) : (settlePin c s n).remoteHost = s.remoteHost := by
  simp only [settlePin]; (repeat' split) <;> simp
@[simp] theorem settlePins_remoteHost (s : State) (c : Nat) : (s.settlePins c).remoteHost = s.remoteHost := by
  unfold settlePins; exact foldl_keeps (·.remoteHost) _ (by intro s n; simp) _ s
@[simp] theorem settlePin_flight (c : Nat) (s : State) (n : Nat) : (settlePin c s n).flight = s.flight := by
  simp only [settlePin]; (repeat' split) <;> simp
@[simp] theorem settlePins_flight (s : State) (c : Nat) : (s.settlePins c).flight = s.flight := by
  unfold settlePins; exact foldl_keeps (·.flight) _ (by intro s n; simp) _ s
@[simp] theorem settlePin_posted (c : Nat) (s : State) (n : Nat) : (settlePin c s n).posted = s.posted := by
  simp only [settlePin]; (repeat' split) <;> simp
@[simp] theorem settlePins_posted (s : State) (c : Nat) : (s.settlePins c).posted = s.posted := by
  unfold settlePins; exact foldl_keeps (·.posted) _ (by intro s n; simp) _ s
@[simp] theorem settlePin_postSeq (c : Nat) (s : State) (n : Nat) : (settlePin c s n).postSeq = s.postSeq := by
  simp only [settlePin]; (repeat' split) <;> simp
@[simp] theorem settlePins_postSeq (s : State) (c : Nat) : (s.settlePins c).postSeq = s.postSeq := by
  unfold settlePins; exact foldl_keeps (·.postSeq) _ (by intro s n; simp) _ s
@[simp] theorem settlePin_mem (c : Nat) (s : State) (n : Nat) : (settlePin c s n).mem = s.mem := by
  simp only [settlePin]; (repeat' split) <;> simp
@[simp] theorem settlePins_mem (s : State) (c : Nat) : (s.settlePins c).mem = s.mem := by
  unfold settlePins; exact foldl_keeps (·.mem) _ (by intro s n; simp) _ s
@[simp] theorem settlePin_memc (c : Nat) (s : State) (n : Nat) : (settlePin c s n).memc = s.memc := by
  simp only [settlePin]; (repeat' split) <;> simp
@[simp] theorem settlePins_memc (s : State) (c : Nat) : (s.settlePins c).memc = s.memc := by
  unfold settlePins; exact foldl_keeps (·.memc) _ (by intro s n; simp) _ s
@[simp] theorem settlePin_talus (c : Nat) (s : State) (n : Nat) : (settlePin c s n).talus = s.talus := by
  simp only [settlePin]; (repeat' split) <;> simp
@[simp] theorem settlePins_talus (s : State) (c : Nat) : (s.settlePins c).talus = s.talus := by
  unfold settlePins; exact foldl_keeps (·.talus) _ (by intro s n; simp) _ s
@[simp] theorem settlePin_col (c : Nat) (s : State) (n : Nat) : (settlePin c s n).col = s.col := by
  simp only [settlePin]; (repeat' split) <;> simp
@[simp] theorem settlePins_col (s : State) (c : Nat) : (s.settlePins c).col = s.col := by
  unfold settlePins; exact foldl_keeps (·.col) _ (by intro s n; simp) _ s
@[simp] theorem settlePin_strata (c : Nat) (s : State) (n : Nat) : (settlePin c s n).strata = s.strata := by
  simp only [settlePin]; (repeat' split) <;> simp
@[simp] theorem settlePins_strata (s : State) (c : Nat) : (s.settlePins c).strata = s.strata := by
  unfold settlePins; exact foldl_keeps (·.strata) _ (by intro s n; simp) _ s
@[simp] theorem settlePin_macs (c : Nat) (s : State) (n : Nat) : (settlePin c s n).macs = s.macs := by
  simp only [settlePin]; (repeat' split) <;> simp
@[simp] theorem settlePins_macs (s : State) (c : Nat) : (s.settlePins c).macs = s.macs := by
  unfold settlePins; exact foldl_keeps (·.macs) _ (by intro s n; simp) _ s
@[simp] theorem settlePin_massif (c : Nat) (s : State) (n : Nat) : (settlePin c s n).massif = s.massif := by
  simp only [settlePin]; (repeat' split) <;> simp
@[simp] theorem settlePins_massif (s : State) (c : Nat) : (s.settlePins c).massif = s.massif := by
  unfold settlePins; exact foldl_keeps (·.massif) _ (by intro s n; simp) _ s
@[simp] theorem settlePin_sts (c : Nat) (s : State) (n : Nat) : (settlePin c s n).sts = s.sts := by
  simp only [settlePin]; (repeat' split) <;> simp
@[simp] theorem settlePins_sts (s : State) (c : Nat) : (s.settlePins c).sts = s.sts := by
  unfold settlePins; exact foldl_keeps (·.sts) _ (by intro s n; simp) _ s
@[simp] theorem settlePin_tal (c : Nat) (s : State) (n : Nat) : (settlePin c s n).tal = s.tal := by
  simp only [settlePin]; (repeat' split) <;> simp
@[simp] theorem settlePins_tal (s : State) (c : Nat) : (s.settlePins c).tal = s.tal := by
  unfold settlePins; exact foldl_keeps (·.tal) _ (by intro s n; simp) _ s
@[simp] theorem settlePin_rl (c : Nat) (s : State) (n : Nat) : (settlePin c s n).rl = s.rl := by
  simp only [settlePin]; (repeat' split) <;> simp
@[simp] theorem settlePins_rl (s : State) (c : Nat) : (s.settlePins c).rl = s.rl := by
  unfold settlePins; exact foldl_keeps (·.rl) _ (by intro s n; simp) _ s
@[simp] theorem settlePin_cans (c : Nat) (s : State) (n : Nat) : (settlePin c s n).cans = s.cans := by
  simp only [settlePin]; (repeat' split) <;> simp
@[simp] theorem settlePins_cans (s : State) (c : Nat) : (s.settlePins c).cans = s.cans := by
  unfold settlePins; exact foldl_keeps (·.cans) _ (by intro s n; simp) _ s
@[simp] theorem settlePin_tor (c : Nat) (s : State) (n : Nat) : (settlePin c s n).tor = s.tor := by
  simp only [settlePin]; (repeat' split) <;> simp
@[simp] theorem settlePins_tor (s : State) (c : Nat) : (s.settlePins c).tor = s.tor := by
  unfold settlePins; exact foldl_keeps (·.tor) _ (by intro s n; simp) _ s
@[simp] theorem settlePin_hostIf (c : Nat) (s : State) (n : Nat) : (settlePin c s n).hostIf = s.hostIf := by
  simp only [settlePin]; (repeat' split) <;> simp
@[simp] theorem settlePins_hostIf (s : State) (c : Nat) : (s.settlePins c).hostIf = s.hostIf := by
  unfold settlePins; exact foldl_keeps (·.hostIf) _ (by intro s n; simp) _ s
@[simp] theorem settlePin_prc (c : Nat) (s : State) (n : Nat) : (settlePin c s n).prc = s.prc := by
  simp only [settlePin]; (repeat' split) <;> simp
@[simp] theorem settlePins_prc (s : State) (c : Nat) : (s.settlePins c).prc = s.prc := by
  unfold settlePins; exact foldl_keeps (·.prc) _ (by intro s n; simp) _ s
@[simp] theorem settlePin_fwc (c : Nat) (s : State) (n : Nat) : (settlePin c s n).fwc = s.fwc := by
  simp only [settlePin]; (repeat' split) <;> simp
@[simp] theorem settlePins_fwc (s : State) (c : Nat) : (s.settlePins c).fwc = s.fwc := by
  unfold settlePins; exact foldl_keeps (·.fwc) _ (by intro s n; simp) _ s
@[simp] theorem settlePin_tmx (c : Nat) (s : State) (n : Nat) : (settlePin c s n).tmx = s.tmx := by
  simp only [settlePin]; (repeat' split) <;> simp
@[simp] theorem settlePin_acting (c : Nat) (s : State) (n : Nat) : (settlePin c s n).acting = s.acting := by
  simp only [settlePin]; (repeat' split) <;> simp
@[simp] theorem settlePins_tmx (s : State) (c : Nat) : (s.settlePins c).tmx = s.tmx := by
  unfold settlePins; exact foldl_keeps (·.tmx) _ (by intro s n; simp) _ s
@[simp] theorem settlePins_acting (s : State) (c : Nat) : (s.settlePins c).acting = s.acting := by
  unfold settlePins; exact foldl_keeps (·.acting) _ (by intro s n; simp) _ s
@[simp] theorem settlePin_engines (c : Nat) (s : State) (n : Nat) : (settlePin c s n).engines = s.engines := by
  simp only [settlePin]; (repeat' split) <;> simp
@[simp] theorem settlePins_engines (s : State) (c : Nat) : (s.settlePins c).engines = s.engines := by
  unfold settlePins; exact foldl_keeps (·.engines) _ (by intro s n; simp) _ s
@[simp] theorem settlePin_pairs (c : Nat) (s : State) (n : Nat) : (settlePin c s n).pairs = s.pairs := by
  simp only [settlePin]; (repeat' split) <;> simp
@[simp] theorem settlePins_pairs (s : State) (c : Nat) : (s.settlePins c).pairs = s.pairs := by
  unfold settlePins; exact foldl_keeps (·.pairs) _ (by intro s n; simp) _ s

/-! advance -/

@[simp] theorem advance_pending (s : State) (d : Nat) : (s.advance d).pending = s.pending := by
  simp [advance]
@[simp] theorem advance_freeCtr (s : State) (d : Nat) : (s.advance d).freeCtr = s.freeCtr := by
  simp [advance]
@[simp] theorem advance_regs (s : State) (d : Nat) : (s.advance d).regs = s.regs := by
  simp [advance]
@[simp] theorem advance_act (s : State) (d : Nat) : (s.advance d).act = s.act := by
  simp [advance]
@[simp] theorem advance_agentRegs (s : State) (d : Nat) : (s.advance d).agentRegs = s.agentRegs := by
  simp [advance]
@[simp] theorem advance_held (s : State) (d : Nat) : (s.advance d).held = s.held := by
  simp [advance]
@[simp] theorem advance_fuses (s : State) (d : Nat) : (s.advance d).fuses = s.fuses := by
  simp [advance]
@[simp] theorem advance_straps (s : State) (d : Nat) : (s.advance d).straps = s.straps := by
  simp [advance]
@[simp] theorem advance_localHost (s : State) (d : Nat) : (s.advance d).localHost = s.localHost := by
  simp [advance]
@[simp] theorem advance_remoteHost (s : State) (d : Nat) : (s.advance d).remoteHost = s.remoteHost := by
  simp [advance]
@[simp] theorem advance_flight (s : State) (d : Nat) : (s.advance d).flight = s.flight := by
  simp [advance]
@[simp] theorem advance_posted (s : State) (d : Nat) : (s.advance d).posted = s.posted := by
  simp [advance]
@[simp] theorem advance_postSeq (s : State) (d : Nat) : (s.advance d).postSeq = s.postSeq := by
  simp [advance]
@[simp] theorem advance_mem (s : State) (d : Nat) : (s.advance d).mem = s.mem := by
  simp [advance]
@[simp] theorem advance_memc (s : State) (d : Nat) : (s.advance d).memc = s.memc := by
  simp [advance]
@[simp] theorem advance_talus (s : State) (d : Nat) : (s.advance d).talus = s.talus := by
  simp [advance]
@[simp] theorem advance_col (s : State) (d : Nat) : (s.advance d).col = s.col := by
  simp [advance]
@[simp] theorem advance_strata (s : State) (d : Nat) : (s.advance d).strata = s.strata := by
  simp [advance]
@[simp] theorem advance_macs (s : State) (d : Nat) : (s.advance d).macs = s.macs := by
  simp [advance]
@[simp] theorem advance_massif (s : State) (d : Nat) : (s.advance d).massif = s.massif := by
  simp [advance]
@[simp] theorem advance_sts (s : State) (d : Nat) : (s.advance d).sts = s.sts := by
  simp [advance]
@[simp] theorem advance_tal (s : State) (d : Nat) : (s.advance d).tal = s.tal := by
  simp [advance]
@[simp] theorem advance_rl (s : State) (d : Nat) : (s.advance d).rl = s.rl := by
  simp [advance]
@[simp] theorem advance_cans (s : State) (d : Nat) : (s.advance d).cans = s.cans := by
  simp [advance]
@[simp] theorem advance_tor (s : State) (d : Nat) : (s.advance d).tor = s.tor := by
  simp [advance]
@[simp] theorem advance_hostIf (s : State) (d : Nat) : (s.advance d).hostIf = s.hostIf := by
  simp [advance]
@[simp] theorem advance_prc (s : State) (d : Nat) : (s.advance d).prc = s.prc := by
  simp [advance]
@[simp] theorem advance_fwc (s : State) (d : Nat) : (s.advance d).fwc = s.fwc := by
  simp [advance]
@[simp] theorem advance_tmx (s : State) (d : Nat) : (s.advance d).tmx = s.tmx := by
  simp [advance]
@[simp] theorem advance_acting (s : State) (d : Nat) : (s.advance d).acting = s.acting := by
  simp [advance]
@[simp] theorem advance_engines (s : State) (d : Nat) : (s.advance d).engines = s.engines := by
  simp [advance]
@[simp] theorem advance_pairs (s : State) (d : Nat) : (s.advance d).pairs = s.pairs := by
  simp [advance]
@[simp] theorem advance_clk (s : State) (d : Nat) : (s.advance d).clk = s.clk + d := rfl

/-! wake -/

@[simp] theorem wake_pending (s : State) (m : Nat) : (s.wake m).pending = s.pending := by
  unfold wake; (repeat' split) <;> simp
@[simp] theorem wake_clk (s : State) (m : Nat) : (s.wake m).clk = s.clk := by
  unfold wake; (repeat' split) <;> simp
@[simp] theorem wake_freeCtr (s : State) (m : Nat) : (s.wake m).freeCtr = s.freeCtr := by
  unfold wake; (repeat' split) <;> simp
@[simp] theorem wake_outs (s : State) (m : Nat) : (s.wake m).outs = s.outs := by
  unfold wake; (repeat' split) <;> simp
@[simp] theorem wake_act (s : State) (m : Nat) : (s.wake m).act = s.act := by
  unfold wake; (repeat' split) <;> simp
@[simp] theorem wake_agentRegs (s : State) (m : Nat) : (s.wake m).agentRegs = s.agentRegs := by
  unfold wake; (repeat' split) <;> simp
@[simp] theorem wake_held (s : State) (m : Nat) : (s.wake m).held = s.held := by
  unfold wake; (repeat' split) <;> simp
@[simp] theorem wake_fuses (s : State) (m : Nat) : (s.wake m).fuses = s.fuses := by
  unfold wake; (repeat' split) <;> simp
@[simp] theorem wake_straps (s : State) (m : Nat) : (s.wake m).straps = s.straps := by
  unfold wake; (repeat' split) <;> simp
@[simp] theorem wake_localHost (s : State) (m : Nat) : (s.wake m).localHost = s.localHost := by
  unfold wake; (repeat' split) <;> simp
@[simp] theorem wake_remoteHost (s : State) (m : Nat) : (s.wake m).remoteHost = s.remoteHost := by
  unfold wake; (repeat' split) <;> simp
@[simp] theorem wake_flight (s : State) (m : Nat) : (s.wake m).flight = s.flight := by
  unfold wake; (repeat' split) <;> simp
@[simp] theorem wake_posted (s : State) (m : Nat) : (s.wake m).posted = s.posted := by
  unfold wake; (repeat' split) <;> simp
@[simp] theorem wake_postSeq (s : State) (m : Nat) : (s.wake m).postSeq = s.postSeq := by
  unfold wake; (repeat' split) <;> simp
@[simp] theorem wake_mem (s : State) (m : Nat) : (s.wake m).mem = s.mem := by
  unfold wake; (repeat' split) <;> simp
@[simp] theorem wake_memc (s : State) (m : Nat) : (s.wake m).memc = s.memc := by
  unfold wake; (repeat' split) <;> simp
@[simp] theorem wake_tbu (s : State) (m : Nat) : (s.wake m).tbu = s.tbu := by
  unfold wake; (repeat' split) <;> simp
@[simp] theorem wake_talus (s : State) (m : Nat) : (s.wake m).talus = s.talus := by
  unfold wake; (repeat' split) <;> simp
@[simp] theorem wake_col (s : State) (m : Nat) : (s.wake m).col = s.col := by
  unfold wake; (repeat' split) <;> simp
@[simp] theorem wake_strata (s : State) (m : Nat) : (s.wake m).strata = s.strata := by
  unfold wake; (repeat' split) <;> simp
@[simp] theorem wake_macs (s : State) (m : Nat) : (s.wake m).macs = s.macs := by
  unfold wake; (repeat' split) <;> simp
@[simp] theorem wake_massif (s : State) (m : Nat) : (s.wake m).massif = s.massif := by
  unfold wake; (repeat' split) <;> simp
@[simp] theorem wake_sts (s : State) (m : Nat) : (s.wake m).sts = s.sts := by
  unfold wake; (repeat' split) <;> simp
@[simp] theorem wake_tal (s : State) (m : Nat) : (s.wake m).tal = s.tal := by
  unfold wake; (repeat' split) <;> simp
@[simp] theorem wake_rl (s : State) (m : Nat) : (s.wake m).rl = s.rl := by
  unfold wake; (repeat' split) <;> simp
@[simp] theorem wake_cans (s : State) (m : Nat) : (s.wake m).cans = s.cans := by
  unfold wake; (repeat' split) <;> simp
@[simp] theorem wake_tor (s : State) (m : Nat) : (s.wake m).tor = s.tor := by
  unfold wake; (repeat' split) <;> simp
@[simp] theorem wake_hostIf (s : State) (m : Nat) : (s.wake m).hostIf = s.hostIf := by
  unfold wake; (repeat' split) <;> simp
@[simp] theorem wake_fwc (s : State) (m : Nat) : (s.wake m).fwc = s.fwc := by
  unfold wake; (repeat' split) <;> simp
@[simp] theorem wake_engines (s : State) (m : Nat) : (s.wake m).engines = s.engines := by
  unfold wake; (repeat' split) <;> simp
@[simp] theorem wake_pairs (s : State) (m : Nat) : (s.wake m).pairs = s.pairs := by
  unfold wake; (repeat' split) <;> simp

/-! putFlag -/

@[simp] theorem putFlag_pending (s : State) (t f : Nat) (v : Bool) : (s.putFlag t f v).pending = s.pending := by
  unfold putFlag; split <;> simp
@[simp] theorem putFlag_clk (s : State) (t f : Nat) (v : Bool) : (s.putFlag t f v).clk = s.clk := by
  unfold putFlag; split <;> simp
@[simp] theorem putFlag_freeCtr (s : State) (t f : Nat) (v : Bool) : (s.putFlag t f v).freeCtr = s.freeCtr := by
  unfold putFlag; split <;> simp
@[simp] theorem putFlag_outs (s : State) (t f : Nat) (v : Bool) : (s.putFlag t f v).outs = s.outs := by
  unfold putFlag; split <;> simp
@[simp] theorem putFlag_act (s : State) (t f : Nat) (v : Bool) : (s.putFlag t f v).act = s.act := by
  unfold putFlag; split <;> simp
@[simp] theorem putFlag_agentRegs (s : State) (t f : Nat) (v : Bool) : (s.putFlag t f v).agentRegs = s.agentRegs := by
  unfold putFlag; split <;> simp
@[simp] theorem putFlag_held (s : State) (t f : Nat) (v : Bool) : (s.putFlag t f v).held = s.held := by
  unfold putFlag; split <;> simp
@[simp] theorem putFlag_fuses (s : State) (t f : Nat) (v : Bool) : (s.putFlag t f v).fuses = s.fuses := by
  unfold putFlag; split <;> simp
@[simp] theorem putFlag_straps (s : State) (t f : Nat) (v : Bool) : (s.putFlag t f v).straps = s.straps := by
  unfold putFlag; split <;> simp
@[simp] theorem putFlag_localHost (s : State) (t f : Nat) (v : Bool) : (s.putFlag t f v).localHost = s.localHost := by
  unfold putFlag; split <;> simp
@[simp] theorem putFlag_remoteHost (s : State) (t f : Nat) (v : Bool) : (s.putFlag t f v).remoteHost = s.remoteHost := by
  unfold putFlag; split <;> simp
@[simp] theorem putFlag_flight (s : State) (t f : Nat) (v : Bool) : (s.putFlag t f v).flight = s.flight := by
  unfold putFlag; split <;> simp
@[simp] theorem putFlag_posted (s : State) (t f : Nat) (v : Bool) : (s.putFlag t f v).posted = s.posted := by
  unfold putFlag; split <;> simp
@[simp] theorem putFlag_postSeq (s : State) (t f : Nat) (v : Bool) : (s.putFlag t f v).postSeq = s.postSeq := by
  unfold putFlag; split <;> simp
@[simp] theorem putFlag_mem (s : State) (t f : Nat) (v : Bool) : (s.putFlag t f v).mem = s.mem := by
  unfold putFlag; split <;> simp
@[simp] theorem putFlag_memc (s : State) (t f : Nat) (v : Bool) : (s.putFlag t f v).memc = s.memc := by
  unfold putFlag; split <;> simp
@[simp] theorem putFlag_tbu (s : State) (t f : Nat) (v : Bool) : (s.putFlag t f v).tbu = s.tbu := by
  unfold putFlag; split <;> simp
@[simp] theorem putFlag_talus (s : State) (t f : Nat) (v : Bool) : (s.putFlag t f v).talus = s.talus := by
  unfold putFlag; split <;> simp
@[simp] theorem putFlag_col (s : State) (t f : Nat) (v : Bool) : (s.putFlag t f v).col = s.col := by
  unfold putFlag; split <;> simp
@[simp] theorem putFlag_strata (s : State) (t f : Nat) (v : Bool) : (s.putFlag t f v).strata = s.strata := by
  unfold putFlag; split <;> simp
@[simp] theorem putFlag_macs (s : State) (t f : Nat) (v : Bool) : (s.putFlag t f v).macs = s.macs := by
  unfold putFlag; split <;> simp
@[simp] theorem putFlag_massif (s : State) (t f : Nat) (v : Bool) : (s.putFlag t f v).massif = s.massif := by
  unfold putFlag; split <;> simp
@[simp] theorem putFlag_sts (s : State) (t f : Nat) (v : Bool) : (s.putFlag t f v).sts = s.sts := by
  unfold putFlag; split <;> simp
@[simp] theorem putFlag_tal (s : State) (t f : Nat) (v : Bool) : (s.putFlag t f v).tal = s.tal := by
  unfold putFlag; split <;> simp
@[simp] theorem putFlag_rl (s : State) (t f : Nat) (v : Bool) : (s.putFlag t f v).rl = s.rl := by
  unfold putFlag; split <;> simp
@[simp] theorem putFlag_cans (s : State) (t f : Nat) (v : Bool) : (s.putFlag t f v).cans = s.cans := by
  unfold putFlag; split <;> simp
@[simp] theorem putFlag_tor (s : State) (t f : Nat) (v : Bool) : (s.putFlag t f v).tor = s.tor := by
  unfold putFlag; split <;> simp
@[simp] theorem putFlag_hostIf (s : State) (t f : Nat) (v : Bool) : (s.putFlag t f v).hostIf = s.hostIf := by
  unfold putFlag; split <;> simp
@[simp] theorem putFlag_prc (s : State) (t f : Nat) (v : Bool) : (s.putFlag t f v).prc = s.prc := by
  unfold putFlag; split <;> simp
@[simp] theorem putFlag_fwc (s : State) (t f : Nat) (v : Bool) : (s.putFlag t f v).fwc = s.fwc := by
  unfold putFlag; split <;> simp
@[simp] theorem putFlag_tmx (s : State) (t f : Nat) (v : Bool) : (s.putFlag t f v).tmx = s.tmx := by
  unfold putFlag; split <;> simp
@[simp] theorem putFlag_acting (s : State) (t f : Nat) (v : Bool) : (s.putFlag t f v).acting = s.acting := by
  unfold putFlag; split <;> simp
@[simp] theorem putFlag_engines (s : State) (t f : Nat) (v : Bool) : (s.putFlag t f v).engines = s.engines := by
  unfold putFlag; split <;> simp
@[simp] theorem putFlag_pairs (s : State) (t f : Nat) (v : Bool) : (s.putFlag t f v).pairs = s.pairs := by
  unfold putFlag; split <;> simp

/-! judgeTask -/

@[simp] theorem judgeTask_pending (s : State) (t : Nat) : (s.judgeTask t).pending = s.pending := by
  unfold judgeTask; (try dsimp only); (repeat' split) <;> simp
@[simp] theorem judgeTask_clk (s : State) (t : Nat) : (s.judgeTask t).clk = s.clk := by
  unfold judgeTask; (try dsimp only); (repeat' split) <;> simp
@[simp] theorem judgeTask_freeCtr (s : State) (t : Nat) : (s.judgeTask t).freeCtr = s.freeCtr := by
  unfold judgeTask; (try dsimp only); (repeat' split) <;> simp
@[simp] theorem judgeTask_outs (s : State) (t : Nat) : (s.judgeTask t).outs = s.outs := by
  unfold judgeTask; (try dsimp only); (repeat' split) <;> simp
@[simp] theorem judgeTask_act (s : State) (t : Nat) : (s.judgeTask t).act = s.act := by
  unfold judgeTask; (try dsimp only); (repeat' split) <;> simp
@[simp] theorem judgeTask_agentRegs (s : State) (t : Nat) : (s.judgeTask t).agentRegs = s.agentRegs := by
  unfold judgeTask; (try dsimp only); (repeat' split) <;> simp
@[simp] theorem judgeTask_held (s : State) (t : Nat) : (s.judgeTask t).held = s.held := by
  unfold judgeTask; (try dsimp only); (repeat' split) <;> simp
@[simp] theorem judgeTask_fuses (s : State) (t : Nat) : (s.judgeTask t).fuses = s.fuses := by
  unfold judgeTask; (try dsimp only); (repeat' split) <;> simp
@[simp] theorem judgeTask_straps (s : State) (t : Nat) : (s.judgeTask t).straps = s.straps := by
  unfold judgeTask; (try dsimp only); (repeat' split) <;> simp
@[simp] theorem judgeTask_localHost (s : State) (t : Nat) : (s.judgeTask t).localHost = s.localHost := by
  unfold judgeTask; (try dsimp only); (repeat' split) <;> simp
@[simp] theorem judgeTask_remoteHost (s : State) (t : Nat) : (s.judgeTask t).remoteHost = s.remoteHost := by
  unfold judgeTask; (try dsimp only); (repeat' split) <;> simp
@[simp] theorem judgeTask_flight (s : State) (t : Nat) : (s.judgeTask t).flight = s.flight := by
  unfold judgeTask; (try dsimp only); (repeat' split) <;> simp
@[simp] theorem judgeTask_posted (s : State) (t : Nat) : (s.judgeTask t).posted = s.posted := by
  unfold judgeTask; (try dsimp only); (repeat' split) <;> simp
@[simp] theorem judgeTask_postSeq (s : State) (t : Nat) : (s.judgeTask t).postSeq = s.postSeq := by
  unfold judgeTask; (try dsimp only); (repeat' split) <;> simp
@[simp] theorem judgeTask_mem (s : State) (t : Nat) : (s.judgeTask t).mem = s.mem := by
  unfold judgeTask; (try dsimp only); (repeat' split) <;> simp
@[simp] theorem judgeTask_memc (s : State) (t : Nat) : (s.judgeTask t).memc = s.memc := by
  unfold judgeTask; (try dsimp only); (repeat' split) <;> simp
@[simp] theorem judgeTask_tbu (s : State) (t : Nat) : (s.judgeTask t).tbu = s.tbu := by
  unfold judgeTask; (try dsimp only); (repeat' split) <;> simp
@[simp] theorem judgeTask_col (s : State) (t : Nat) : (s.judgeTask t).col = s.col := by
  unfold judgeTask; (try dsimp only); (repeat' split) <;> simp
@[simp] theorem judgeTask_strata (s : State) (t : Nat) : (s.judgeTask t).strata = s.strata := by
  unfold judgeTask; (try dsimp only); (repeat' split) <;> simp
@[simp] theorem judgeTask_macs (s : State) (t : Nat) : (s.judgeTask t).macs = s.macs := by
  unfold judgeTask; (try dsimp only); (repeat' split) <;> simp
@[simp] theorem judgeTask_massif (s : State) (t : Nat) : (s.judgeTask t).massif = s.massif := by
  unfold judgeTask; (try dsimp only); (repeat' split) <;> simp
@[simp] theorem judgeTask_sts (s : State) (t : Nat) : (s.judgeTask t).sts = s.sts := by
  unfold judgeTask; (try dsimp only); (repeat' split) <;> simp
@[simp] theorem judgeTask_tal (s : State) (t : Nat) : (s.judgeTask t).tal = s.tal := by
  unfold judgeTask; (try dsimp only); (repeat' split) <;> simp
@[simp] theorem judgeTask_rl (s : State) (t : Nat) : (s.judgeTask t).rl = s.rl := by
  unfold judgeTask; (try dsimp only); (repeat' split) <;> simp
@[simp] theorem judgeTask_cans (s : State) (t : Nat) : (s.judgeTask t).cans = s.cans := by
  unfold judgeTask; (try dsimp only); (repeat' split) <;> simp
@[simp] theorem judgeTask_tor (s : State) (t : Nat) : (s.judgeTask t).tor = s.tor := by
  unfold judgeTask; (try dsimp only); (repeat' split) <;> simp
@[simp] theorem judgeTask_hostIf (s : State) (t : Nat) : (s.judgeTask t).hostIf = s.hostIf := by
  unfold judgeTask; (try dsimp only); (repeat' split) <;> simp
@[simp] theorem judgeTask_fwc (s : State) (t : Nat) : (s.judgeTask t).fwc = s.fwc := by
  unfold judgeTask; (try dsimp only); (repeat' split) <;> simp
@[simp] theorem judgeTask_engines (s : State) (t : Nat) : (s.judgeTask t).engines = s.engines := by
  unfold judgeTask; (try dsimp only); (repeat' split) <;> simp
@[simp] theorem judgeTask_pairs (s : State) (t : Nat) : (s.judgeTask t).pairs = s.pairs := by
  unfold judgeTask; (try dsimp only); (repeat' split) <;> simp

/-! taskFlag -/

@[simp] theorem taskFlag_pending (s : State) (t f : Nat) (v : Bool) : (s.taskFlag t f v).pending = s.pending := by
  simp [taskFlag]
@[simp] theorem taskFlag_clk (s : State) (t f : Nat) (v : Bool) : (s.taskFlag t f v).clk = s.clk := by
  simp [taskFlag]
@[simp] theorem taskFlag_freeCtr (s : State) (t f : Nat) (v : Bool) : (s.taskFlag t f v).freeCtr = s.freeCtr := by
  simp [taskFlag]
@[simp] theorem taskFlag_outs (s : State) (t f : Nat) (v : Bool) : (s.taskFlag t f v).outs = s.outs := by
  simp [taskFlag]
@[simp] theorem taskFlag_act (s : State) (t f : Nat) (v : Bool) : (s.taskFlag t f v).act = s.act := by
  simp [taskFlag]
@[simp] theorem taskFlag_agentRegs (s : State) (t f : Nat) (v : Bool) : (s.taskFlag t f v).agentRegs = s.agentRegs := by
  simp [taskFlag]
@[simp] theorem taskFlag_held (s : State) (t f : Nat) (v : Bool) : (s.taskFlag t f v).held = s.held := by
  simp [taskFlag]
@[simp] theorem taskFlag_fuses (s : State) (t f : Nat) (v : Bool) : (s.taskFlag t f v).fuses = s.fuses := by
  simp [taskFlag]
@[simp] theorem taskFlag_straps (s : State) (t f : Nat) (v : Bool) : (s.taskFlag t f v).straps = s.straps := by
  simp [taskFlag]
@[simp] theorem taskFlag_localHost (s : State) (t f : Nat) (v : Bool) : (s.taskFlag t f v).localHost = s.localHost := by
  simp [taskFlag]
@[simp] theorem taskFlag_remoteHost (s : State) (t f : Nat) (v : Bool) : (s.taskFlag t f v).remoteHost = s.remoteHost := by
  simp [taskFlag]
@[simp] theorem taskFlag_flight (s : State) (t f : Nat) (v : Bool) : (s.taskFlag t f v).flight = s.flight := by
  simp [taskFlag]
@[simp] theorem taskFlag_posted (s : State) (t f : Nat) (v : Bool) : (s.taskFlag t f v).posted = s.posted := by
  simp [taskFlag]
@[simp] theorem taskFlag_postSeq (s : State) (t f : Nat) (v : Bool) : (s.taskFlag t f v).postSeq = s.postSeq := by
  simp [taskFlag]
@[simp] theorem taskFlag_mem (s : State) (t f : Nat) (v : Bool) : (s.taskFlag t f v).mem = s.mem := by
  simp [taskFlag]
@[simp] theorem taskFlag_memc (s : State) (t f : Nat) (v : Bool) : (s.taskFlag t f v).memc = s.memc := by
  simp [taskFlag]
@[simp] theorem taskFlag_tbu (s : State) (t f : Nat) (v : Bool) : (s.taskFlag t f v).tbu = s.tbu := by
  simp [taskFlag]
@[simp] theorem taskFlag_col (s : State) (t f : Nat) (v : Bool) : (s.taskFlag t f v).col = s.col := by
  simp [taskFlag]
@[simp] theorem taskFlag_strata (s : State) (t f : Nat) (v : Bool) : (s.taskFlag t f v).strata = s.strata := by
  simp [taskFlag]
@[simp] theorem taskFlag_macs (s : State) (t f : Nat) (v : Bool) : (s.taskFlag t f v).macs = s.macs := by
  simp [taskFlag]
@[simp] theorem taskFlag_massif (s : State) (t f : Nat) (v : Bool) : (s.taskFlag t f v).massif = s.massif := by
  simp [taskFlag]
@[simp] theorem taskFlag_sts (s : State) (t f : Nat) (v : Bool) : (s.taskFlag t f v).sts = s.sts := by
  simp [taskFlag]
@[simp] theorem taskFlag_tal (s : State) (t f : Nat) (v : Bool) : (s.taskFlag t f v).tal = s.tal := by
  simp [taskFlag]
@[simp] theorem taskFlag_rl (s : State) (t f : Nat) (v : Bool) : (s.taskFlag t f v).rl = s.rl := by
  simp [taskFlag]
@[simp] theorem taskFlag_cans (s : State) (t f : Nat) (v : Bool) : (s.taskFlag t f v).cans = s.cans := by
  simp [taskFlag]
@[simp] theorem taskFlag_tor (s : State) (t f : Nat) (v : Bool) : (s.taskFlag t f v).tor = s.tor := by
  simp [taskFlag]
@[simp] theorem taskFlag_hostIf (s : State) (t f : Nat) (v : Bool) : (s.taskFlag t f v).hostIf = s.hostIf := by
  simp [taskFlag]
@[simp] theorem taskFlag_fwc (s : State) (t f : Nat) (v : Bool) : (s.taskFlag t f v).fwc = s.fwc := by
  simp [taskFlag]
@[simp] theorem taskFlag_engines (s : State) (t f : Nat) (v : Bool) : (s.taskFlag t f v).engines = s.engines := by
  simp [taskFlag]
@[simp] theorem taskFlag_pairs (s : State) (t f : Nat) (v : Bool) : (s.taskFlag t f v).pairs = s.pairs := by
  simp [taskFlag]

/-! judgeQueue -/

@[simp] theorem judgeQueue_pending (s : State) (q : Nat) : (s.judgeQueue q).pending = s.pending := by
  unfold judgeQueue; exact foldl_keeps (·.pending) _ (by intro s n; simp) _ s
@[simp] theorem judgeQueue_clk (s : State) (q : Nat) : (s.judgeQueue q).clk = s.clk := by
  unfold judgeQueue; exact foldl_keeps (·.clk) _ (by intro s n; simp) _ s
@[simp] theorem judgeQueue_freeCtr (s : State) (q : Nat) : (s.judgeQueue q).freeCtr = s.freeCtr := by
  unfold judgeQueue; exact foldl_keeps (·.freeCtr) _ (by intro s n; simp) _ s
@[simp] theorem judgeQueue_outs (s : State) (q : Nat) : (s.judgeQueue q).outs = s.outs := by
  unfold judgeQueue; exact foldl_keeps (·.outs) _ (by intro s n; simp) _ s
@[simp] theorem judgeQueue_act (s : State) (q : Nat) : (s.judgeQueue q).act = s.act := by
  unfold judgeQueue; exact foldl_keeps (·.act) _ (by intro s n; simp) _ s
@[simp] theorem judgeQueue_agentRegs (s : State) (q : Nat) : (s.judgeQueue q).agentRegs = s.agentRegs := by
  unfold judgeQueue; exact foldl_keeps (·.agentRegs) _ (by intro s n; simp) _ s
@[simp] theorem judgeQueue_held (s : State) (q : Nat) : (s.judgeQueue q).held = s.held := by
  unfold judgeQueue; exact foldl_keeps (·.held) _ (by intro s n; simp) _ s
@[simp] theorem judgeQueue_fuses (s : State) (q : Nat) : (s.judgeQueue q).fuses = s.fuses := by
  unfold judgeQueue; exact foldl_keeps (·.fuses) _ (by intro s n; simp) _ s
@[simp] theorem judgeQueue_straps (s : State) (q : Nat) : (s.judgeQueue q).straps = s.straps := by
  unfold judgeQueue; exact foldl_keeps (·.straps) _ (by intro s n; simp) _ s
@[simp] theorem judgeQueue_localHost (s : State) (q : Nat) : (s.judgeQueue q).localHost = s.localHost := by
  unfold judgeQueue; exact foldl_keeps (·.localHost) _ (by intro s n; simp) _ s
@[simp] theorem judgeQueue_remoteHost (s : State) (q : Nat) : (s.judgeQueue q).remoteHost = s.remoteHost := by
  unfold judgeQueue; exact foldl_keeps (·.remoteHost) _ (by intro s n; simp) _ s
@[simp] theorem judgeQueue_flight (s : State) (q : Nat) : (s.judgeQueue q).flight = s.flight := by
  unfold judgeQueue; exact foldl_keeps (·.flight) _ (by intro s n; simp) _ s
@[simp] theorem judgeQueue_posted (s : State) (q : Nat) : (s.judgeQueue q).posted = s.posted := by
  unfold judgeQueue; exact foldl_keeps (·.posted) _ (by intro s n; simp) _ s
@[simp] theorem judgeQueue_postSeq (s : State) (q : Nat) : (s.judgeQueue q).postSeq = s.postSeq := by
  unfold judgeQueue; exact foldl_keeps (·.postSeq) _ (by intro s n; simp) _ s
@[simp] theorem judgeQueue_mem (s : State) (q : Nat) : (s.judgeQueue q).mem = s.mem := by
  unfold judgeQueue; exact foldl_keeps (·.mem) _ (by intro s n; simp) _ s
@[simp] theorem judgeQueue_memc (s : State) (q : Nat) : (s.judgeQueue q).memc = s.memc := by
  unfold judgeQueue; exact foldl_keeps (·.memc) _ (by intro s n; simp) _ s
@[simp] theorem judgeQueue_tbu (s : State) (q : Nat) : (s.judgeQueue q).tbu = s.tbu := by
  unfold judgeQueue; exact foldl_keeps (·.tbu) _ (by intro s n; simp) _ s
@[simp] theorem judgeQueue_col (s : State) (q : Nat) : (s.judgeQueue q).col = s.col := by
  unfold judgeQueue; exact foldl_keeps (·.col) _ (by intro s n; simp) _ s
@[simp] theorem judgeQueue_strata (s : State) (q : Nat) : (s.judgeQueue q).strata = s.strata := by
  unfold judgeQueue; exact foldl_keeps (·.strata) _ (by intro s n; simp) _ s
@[simp] theorem judgeQueue_macs (s : State) (q : Nat) : (s.judgeQueue q).macs = s.macs := by
  unfold judgeQueue; exact foldl_keeps (·.macs) _ (by intro s n; simp) _ s
@[simp] theorem judgeQueue_massif (s : State) (q : Nat) : (s.judgeQueue q).massif = s.massif := by
  unfold judgeQueue; exact foldl_keeps (·.massif) _ (by intro s n; simp) _ s
@[simp] theorem judgeQueue_sts (s : State) (q : Nat) : (s.judgeQueue q).sts = s.sts := by
  unfold judgeQueue; exact foldl_keeps (·.sts) _ (by intro s n; simp) _ s
@[simp] theorem judgeQueue_tal (s : State) (q : Nat) : (s.judgeQueue q).tal = s.tal := by
  unfold judgeQueue; exact foldl_keeps (·.tal) _ (by intro s n; simp) _ s
@[simp] theorem judgeQueue_rl (s : State) (q : Nat) : (s.judgeQueue q).rl = s.rl := by
  unfold judgeQueue; exact foldl_keeps (·.rl) _ (by intro s n; simp) _ s
@[simp] theorem judgeQueue_cans (s : State) (q : Nat) : (s.judgeQueue q).cans = s.cans := by
  unfold judgeQueue; exact foldl_keeps (·.cans) _ (by intro s n; simp) _ s
@[simp] theorem judgeQueue_tor (s : State) (q : Nat) : (s.judgeQueue q).tor = s.tor := by
  unfold judgeQueue; exact foldl_keeps (·.tor) _ (by intro s n; simp) _ s
@[simp] theorem judgeQueue_hostIf (s : State) (q : Nat) : (s.judgeQueue q).hostIf = s.hostIf := by
  unfold judgeQueue; exact foldl_keeps (·.hostIf) _ (by intro s n; simp) _ s
@[simp] theorem judgeQueue_fwc (s : State) (q : Nat) : (s.judgeQueue q).fwc = s.fwc := by
  unfold judgeQueue; exact foldl_keeps (·.fwc) _ (by intro s n; simp) _ s
@[simp] theorem judgeQueue_engines (s : State) (q : Nat) : (s.judgeQueue q).engines = s.engines := by
  unfold judgeQueue; exact foldl_keeps (·.engines) _ (by intro s n; simp) _ s
@[simp] theorem judgeQueue_pairs (s : State) (q : Nat) : (s.judgeQueue q).pairs = s.pairs := by
  unfold judgeQueue; exact foldl_keeps (·.pairs) _ (by intro s n; simp) _ s

/-! message -/

@[simp] theorem message_pending (s : State) (v : Nat) : (s.message v).pending = s.pending := by
  unfold message; (try dsimp only); split <;> simp
@[simp] theorem message_clk (s : State) (v : Nat) : (s.message v).clk = s.clk := by
  unfold message; (try dsimp only); split <;> simp
@[simp] theorem message_freeCtr (s : State) (v : Nat) : (s.message v).freeCtr = s.freeCtr := by
  unfold message; (try dsimp only); split <;> simp
@[simp] theorem message_regs (s : State) (v : Nat) : (s.message v).regs = s.regs := by
  unfold message; (try dsimp only); split <;> simp
@[simp] theorem message_act (s : State) (v : Nat) : (s.message v).act = s.act := by
  unfold message; (try dsimp only); split <;> simp
@[simp] theorem message_agentRegs (s : State) (v : Nat) : (s.message v).agentRegs = s.agentRegs := by
  unfold message; (try dsimp only); split <;> simp
@[simp] theorem message_held (s : State) (v : Nat) : (s.message v).held = s.held := by
  unfold message; (try dsimp only); split <;> simp
@[simp] theorem message_fuses (s : State) (v : Nat) : (s.message v).fuses = s.fuses := by
  unfold message; (try dsimp only); split <;> simp
@[simp] theorem message_straps (s : State) (v : Nat) : (s.message v).straps = s.straps := by
  unfold message; (try dsimp only); split <;> simp
@[simp] theorem message_localHost (s : State) (v : Nat) : (s.message v).localHost = s.localHost := by
  unfold message; (try dsimp only); split <;> simp
@[simp] theorem message_remoteHost (s : State) (v : Nat) : (s.message v).remoteHost = s.remoteHost := by
  unfold message; (try dsimp only); split <;> simp
@[simp] theorem message_flight (s : State) (v : Nat) : (s.message v).flight = s.flight := by
  unfold message; (try dsimp only); split <;> simp
@[simp] theorem message_posted (s : State) (v : Nat) : (s.message v).posted = s.posted := by
  unfold message; (try dsimp only); split <;> simp
@[simp] theorem message_postSeq (s : State) (v : Nat) : (s.message v).postSeq = s.postSeq := by
  unfold message; (try dsimp only); split <;> simp
@[simp] theorem message_mem (s : State) (v : Nat) : (s.message v).mem = s.mem := by
  unfold message; (try dsimp only); split <;> simp
@[simp] theorem message_memc (s : State) (v : Nat) : (s.message v).memc = s.memc := by
  unfold message; (try dsimp only); split <;> simp
@[simp] theorem message_tbu (s : State) (v : Nat) : (s.message v).tbu = s.tbu := by
  unfold message; (try dsimp only); split <;> simp
@[simp] theorem message_talus (s : State) (v : Nat) : (s.message v).talus = s.talus := by
  unfold message; (try dsimp only); split <;> simp
@[simp] theorem message_col (s : State) (v : Nat) : (s.message v).col = s.col := by
  unfold message; (try dsimp only); split <;> simp
@[simp] theorem message_strata (s : State) (v : Nat) : (s.message v).strata = s.strata := by
  unfold message; (try dsimp only); split <;> simp
@[simp] theorem message_macs (s : State) (v : Nat) : (s.message v).macs = s.macs := by
  unfold message; (try dsimp only); split <;> simp
@[simp] theorem message_massif (s : State) (v : Nat) : (s.message v).massif = s.massif := by
  unfold message; (try dsimp only); split <;> simp
@[simp] theorem message_sts (s : State) (v : Nat) : (s.message v).sts = s.sts := by
  unfold message; (try dsimp only); split <;> simp
@[simp] theorem message_tal (s : State) (v : Nat) : (s.message v).tal = s.tal := by
  unfold message; (try dsimp only); split <;> simp
@[simp] theorem message_rl (s : State) (v : Nat) : (s.message v).rl = s.rl := by
  unfold message; (try dsimp only); split <;> simp
@[simp] theorem message_cans (s : State) (v : Nat) : (s.message v).cans = s.cans := by
  unfold message; (try dsimp only); split <;> simp
@[simp] theorem message_tor (s : State) (v : Nat) : (s.message v).tor = s.tor := by
  unfold message; (try dsimp only); split <;> simp
@[simp] theorem message_prc (s : State) (v : Nat) : (s.message v).prc = s.prc := by
  unfold message; (try dsimp only); split <;> simp
@[simp] theorem message_fwc (s : State) (v : Nat) : (s.message v).fwc = s.fwc := by
  unfold message; (try dsimp only); split <;> simp
@[simp] theorem message_tmx (s : State) (v : Nat) : (s.message v).tmx = s.tmx := by
  unfold message; (try dsimp only); split <;> simp
@[simp] theorem message_acting (s : State) (v : Nat) : (s.message v).acting = s.acting := by
  unfold message; (try dsimp only); split <;> simp
@[simp] theorem message_engines (s : State) (v : Nat) : (s.message v).engines = s.engines := by
  unfold message; (try dsimp only); split <;> simp
@[simp] theorem message_pairs (s : State) (v : Nat) : (s.message v).pairs = s.pairs := by
  unfold message; (try dsimp only); split <;> simp

/-! sendVector -/

@[simp] theorem sendVector_pending (s : State) (v : Nat) : (s.sendVector v).pending = s.pending := by
  unfold sendVector; (try dsimp only); (repeat' split) <;> simp
@[simp] theorem sendVector_clk (s : State) (v : Nat) : (s.sendVector v).clk = s.clk := by
  unfold sendVector; (try dsimp only); (repeat' split) <;> simp
@[simp] theorem sendVector_freeCtr (s : State) (v : Nat) : (s.sendVector v).freeCtr = s.freeCtr := by
  unfold sendVector; (try dsimp only); (repeat' split) <;> simp
@[simp] theorem sendVector_regs (s : State) (v : Nat) : (s.sendVector v).regs = s.regs := by
  unfold sendVector; (try dsimp only); (repeat' split) <;> simp
@[simp] theorem sendVector_act (s : State) (v : Nat) : (s.sendVector v).act = s.act := by
  unfold sendVector; (try dsimp only); (repeat' split) <;> simp
@[simp] theorem sendVector_agentRegs (s : State) (v : Nat) : (s.sendVector v).agentRegs = s.agentRegs := by
  unfold sendVector; (try dsimp only); (repeat' split) <;> simp
@[simp] theorem sendVector_held (s : State) (v : Nat) : (s.sendVector v).held = s.held := by
  unfold sendVector; (try dsimp only); (repeat' split) <;> simp
@[simp] theorem sendVector_fuses (s : State) (v : Nat) : (s.sendVector v).fuses = s.fuses := by
  unfold sendVector; (try dsimp only); (repeat' split) <;> simp
@[simp] theorem sendVector_straps (s : State) (v : Nat) : (s.sendVector v).straps = s.straps := by
  unfold sendVector; (try dsimp only); (repeat' split) <;> simp
@[simp] theorem sendVector_localHost (s : State) (v : Nat) : (s.sendVector v).localHost = s.localHost := by
  unfold sendVector; (try dsimp only); (repeat' split) <;> simp
@[simp] theorem sendVector_remoteHost (s : State) (v : Nat) : (s.sendVector v).remoteHost = s.remoteHost := by
  unfold sendVector; (try dsimp only); (repeat' split) <;> simp
@[simp] theorem sendVector_flight (s : State) (v : Nat) : (s.sendVector v).flight = s.flight := by
  unfold sendVector; (try dsimp only); (repeat' split) <;> simp
@[simp] theorem sendVector_posted (s : State) (v : Nat) : (s.sendVector v).posted = s.posted := by
  unfold sendVector; (try dsimp only); (repeat' split) <;> simp
@[simp] theorem sendVector_postSeq (s : State) (v : Nat) : (s.sendVector v).postSeq = s.postSeq := by
  unfold sendVector; (try dsimp only); (repeat' split) <;> simp
@[simp] theorem sendVector_mem (s : State) (v : Nat) : (s.sendVector v).mem = s.mem := by
  unfold sendVector; (try dsimp only); (repeat' split) <;> simp
@[simp] theorem sendVector_memc (s : State) (v : Nat) : (s.sendVector v).memc = s.memc := by
  unfold sendVector; (try dsimp only); (repeat' split) <;> simp
@[simp] theorem sendVector_tbu (s : State) (v : Nat) : (s.sendVector v).tbu = s.tbu := by
  unfold sendVector; (try dsimp only); (repeat' split) <;> simp
@[simp] theorem sendVector_talus (s : State) (v : Nat) : (s.sendVector v).talus = s.talus := by
  unfold sendVector; (try dsimp only); (repeat' split) <;> simp
@[simp] theorem sendVector_col (s : State) (v : Nat) : (s.sendVector v).col = s.col := by
  unfold sendVector; (try dsimp only); (repeat' split) <;> simp
@[simp] theorem sendVector_strata (s : State) (v : Nat) : (s.sendVector v).strata = s.strata := by
  unfold sendVector; (try dsimp only); (repeat' split) <;> simp
@[simp] theorem sendVector_macs (s : State) (v : Nat) : (s.sendVector v).macs = s.macs := by
  unfold sendVector; (try dsimp only); (repeat' split) <;> simp
@[simp] theorem sendVector_massif (s : State) (v : Nat) : (s.sendVector v).massif = s.massif := by
  unfold sendVector; (try dsimp only); (repeat' split) <;> simp
@[simp] theorem sendVector_sts (s : State) (v : Nat) : (s.sendVector v).sts = s.sts := by
  unfold sendVector; (try dsimp only); (repeat' split) <;> simp
@[simp] theorem sendVector_tal (s : State) (v : Nat) : (s.sendVector v).tal = s.tal := by
  unfold sendVector; (try dsimp only); (repeat' split) <;> simp
@[simp] theorem sendVector_rl (s : State) (v : Nat) : (s.sendVector v).rl = s.rl := by
  unfold sendVector; (try dsimp only); (repeat' split) <;> simp
@[simp] theorem sendVector_cans (s : State) (v : Nat) : (s.sendVector v).cans = s.cans := by
  unfold sendVector; (try dsimp only); (repeat' split) <;> simp
@[simp] theorem sendVector_tor (s : State) (v : Nat) : (s.sendVector v).tor = s.tor := by
  unfold sendVector; (try dsimp only); (repeat' split) <;> simp
@[simp] theorem sendVector_prc (s : State) (v : Nat) : (s.sendVector v).prc = s.prc := by
  unfold sendVector; (try dsimp only); (repeat' split) <;> simp
@[simp] theorem sendVector_fwc (s : State) (v : Nat) : (s.sendVector v).fwc = s.fwc := by
  unfold sendVector; (try dsimp only); (repeat' split) <;> simp
@[simp] theorem sendVector_tmx (s : State) (v : Nat) : (s.sendVector v).tmx = s.tmx := by
  unfold sendVector; (try dsimp only); (repeat' split) <;> simp
@[simp] theorem sendVector_acting (s : State) (v : Nat) : (s.sendVector v).acting = s.acting := by
  unfold sendVector; (try dsimp only); (repeat' split) <;> simp
@[simp] theorem sendVector_engines (s : State) (v : Nat) : (s.sendVector v).engines = s.engines := by
  unfold sendVector; (try dsimp only); (repeat' split) <;> simp
@[simp] theorem sendVector_pairs (s : State) (v : Nat) : (s.sendVector v).pairs = s.pairs := by
  unfold sendVector; (try dsimp only); (repeat' split) <;> simp

/-! noteRemote -/

@[simp] theorem noteRemote_pending (s : State) (e : Nat) : (s.noteRemote e).pending = s.pending := by
  unfold noteRemote; (try dsimp only); (repeat' split) <;> simp
@[simp] theorem noteRemote_clk (s : State) (e : Nat) : (s.noteRemote e).clk = s.clk := by
  unfold noteRemote; (try dsimp only); (repeat' split) <;> simp
@[simp] theorem noteRemote_freeCtr (s : State) (e : Nat) : (s.noteRemote e).freeCtr = s.freeCtr := by
  unfold noteRemote; (try dsimp only); (repeat' split) <;> simp
@[simp] theorem noteRemote_outs (s : State) (e : Nat) : (s.noteRemote e).outs = s.outs := by
  unfold noteRemote; (try dsimp only); (repeat' split) <;> simp
@[simp] theorem noteRemote_act (s : State) (e : Nat) : (s.noteRemote e).act = s.act := by
  unfold noteRemote; (try dsimp only); (repeat' split) <;> simp
@[simp] theorem noteRemote_agentRegs (s : State) (e : Nat) : (s.noteRemote e).agentRegs = s.agentRegs := by
  unfold noteRemote; (try dsimp only); (repeat' split) <;> simp
@[simp] theorem noteRemote_held (s : State) (e : Nat) : (s.noteRemote e).held = s.held := by
  unfold noteRemote; (try dsimp only); (repeat' split) <;> simp
@[simp] theorem noteRemote_fuses (s : State) (e : Nat) : (s.noteRemote e).fuses = s.fuses := by
  unfold noteRemote; (try dsimp only); (repeat' split) <;> simp
@[simp] theorem noteRemote_straps (s : State) (e : Nat) : (s.noteRemote e).straps = s.straps := by
  unfold noteRemote; (try dsimp only); (repeat' split) <;> simp
@[simp] theorem noteRemote_localHost (s : State) (e : Nat) : (s.noteRemote e).localHost = s.localHost := by
  unfold noteRemote; (try dsimp only); (repeat' split) <;> simp
@[simp] theorem noteRemote_remoteHost (s : State) (e : Nat) : (s.noteRemote e).remoteHost = s.remoteHost := by
  unfold noteRemote; (try dsimp only); (repeat' split) <;> simp
@[simp] theorem noteRemote_flight (s : State) (e : Nat) : (s.noteRemote e).flight = s.flight := by
  unfold noteRemote; (try dsimp only); (repeat' split) <;> simp
@[simp] theorem noteRemote_posted (s : State) (e : Nat) : (s.noteRemote e).posted = s.posted := by
  unfold noteRemote; (try dsimp only); (repeat' split) <;> simp
@[simp] theorem noteRemote_postSeq (s : State) (e : Nat) : (s.noteRemote e).postSeq = s.postSeq := by
  unfold noteRemote; (try dsimp only); (repeat' split) <;> simp
@[simp] theorem noteRemote_mem (s : State) (e : Nat) : (s.noteRemote e).mem = s.mem := by
  unfold noteRemote; (try dsimp only); (repeat' split) <;> simp
@[simp] theorem noteRemote_memc (s : State) (e : Nat) : (s.noteRemote e).memc = s.memc := by
  unfold noteRemote; (try dsimp only); (repeat' split) <;> simp
@[simp] theorem noteRemote_tbu (s : State) (e : Nat) : (s.noteRemote e).tbu = s.tbu := by
  unfold noteRemote; (try dsimp only); (repeat' split) <;> simp
@[simp] theorem noteRemote_talus (s : State) (e : Nat) : (s.noteRemote e).talus = s.talus := by
  unfold noteRemote; (try dsimp only); (repeat' split) <;> simp
@[simp] theorem noteRemote_col (s : State) (e : Nat) : (s.noteRemote e).col = s.col := by
  unfold noteRemote; (try dsimp only); (repeat' split) <;> simp
@[simp] theorem noteRemote_strata (s : State) (e : Nat) : (s.noteRemote e).strata = s.strata := by
  unfold noteRemote; (try dsimp only); (repeat' split) <;> simp
@[simp] theorem noteRemote_macs (s : State) (e : Nat) : (s.noteRemote e).macs = s.macs := by
  unfold noteRemote; (try dsimp only); (repeat' split) <;> simp
@[simp] theorem noteRemote_massif (s : State) (e : Nat) : (s.noteRemote e).massif = s.massif := by
  unfold noteRemote; (try dsimp only); (repeat' split) <;> simp
@[simp] theorem noteRemote_sts (s : State) (e : Nat) : (s.noteRemote e).sts = s.sts := by
  unfold noteRemote; (try dsimp only); (repeat' split) <;> simp
@[simp] theorem noteRemote_tal (s : State) (e : Nat) : (s.noteRemote e).tal = s.tal := by
  unfold noteRemote; (try dsimp only); (repeat' split) <;> simp
@[simp] theorem noteRemote_rl (s : State) (e : Nat) : (s.noteRemote e).rl = s.rl := by
  unfold noteRemote; (try dsimp only); (repeat' split) <;> simp
@[simp] theorem noteRemote_cans (s : State) (e : Nat) : (s.noteRemote e).cans = s.cans := by
  unfold noteRemote; (try dsimp only); (repeat' split) <;> simp
@[simp] theorem noteRemote_tor (s : State) (e : Nat) : (s.noteRemote e).tor = s.tor := by
  unfold noteRemote; (try dsimp only); (repeat' split) <;> simp
@[simp] theorem noteRemote_prc (s : State) (e : Nat) : (s.noteRemote e).prc = s.prc := by
  unfold noteRemote; (try dsimp only); (repeat' split) <;> simp
@[simp] theorem noteRemote_fwc (s : State) (e : Nat) : (s.noteRemote e).fwc = s.fwc := by
  unfold noteRemote; (try dsimp only); (repeat' split) <;> simp
@[simp] theorem noteRemote_tmx (s : State) (e : Nat) : (s.noteRemote e).tmx = s.tmx := by
  unfold noteRemote; (try dsimp only); (repeat' split) <;> simp
@[simp] theorem noteRemote_acting (s : State) (e : Nat) : (s.noteRemote e).acting = s.acting := by
  unfold noteRemote; (try dsimp only); (repeat' split) <;> simp
@[simp] theorem noteRemote_engines (s : State) (e : Nat) : (s.noteRemote e).engines = s.engines := by
  unfold noteRemote; (try dsimp only); (repeat' split) <;> simp
@[simp] theorem noteRemote_pairs (s : State) (e : Nat) : (s.noteRemote e).pairs = s.pairs := by
  unfold noteRemote; (try dsimp only); (repeat' split) <;> simp

/-! flagSteward -/

@[simp] theorem flagSteward_pending (s : State) (e : Nat) : (s.flagSteward e).pending = s.pending := by
  unfold flagSteward; split <;> simp
@[simp] theorem flagSteward_clk (s : State) (e : Nat) : (s.flagSteward e).clk = s.clk := by
  unfold flagSteward; split <;> simp
@[simp] theorem flagSteward_freeCtr (s : State) (e : Nat) : (s.flagSteward e).freeCtr = s.freeCtr := by
  unfold flagSteward; split <;> simp
@[simp] theorem flagSteward_outs (s : State) (e : Nat) : (s.flagSteward e).outs = s.outs := by
  unfold flagSteward; split <;> simp
@[simp] theorem flagSteward_act (s : State) (e : Nat) : (s.flagSteward e).act = s.act := by
  unfold flagSteward; split <;> simp
@[simp] theorem flagSteward_agentRegs (s : State) (e : Nat) : (s.flagSteward e).agentRegs = s.agentRegs := by
  unfold flagSteward; split <;> simp
@[simp] theorem flagSteward_held (s : State) (e : Nat) : (s.flagSteward e).held = s.held := by
  unfold flagSteward; split <;> simp
@[simp] theorem flagSteward_fuses (s : State) (e : Nat) : (s.flagSteward e).fuses = s.fuses := by
  unfold flagSteward; split <;> simp
@[simp] theorem flagSteward_straps (s : State) (e : Nat) : (s.flagSteward e).straps = s.straps := by
  unfold flagSteward; split <;> simp
@[simp] theorem flagSteward_localHost (s : State) (e : Nat) : (s.flagSteward e).localHost = s.localHost := by
  unfold flagSteward; split <;> simp
@[simp] theorem flagSteward_remoteHost (s : State) (e : Nat) : (s.flagSteward e).remoteHost = s.remoteHost := by
  unfold flagSteward; split <;> simp
@[simp] theorem flagSteward_flight (s : State) (e : Nat) : (s.flagSteward e).flight = s.flight := by
  unfold flagSteward; split <;> simp
@[simp] theorem flagSteward_posted (s : State) (e : Nat) : (s.flagSteward e).posted = s.posted := by
  unfold flagSteward; split <;> simp
@[simp] theorem flagSteward_postSeq (s : State) (e : Nat) : (s.flagSteward e).postSeq = s.postSeq := by
  unfold flagSteward; split <;> simp
@[simp] theorem flagSteward_mem (s : State) (e : Nat) : (s.flagSteward e).mem = s.mem := by
  unfold flagSteward; split <;> simp
@[simp] theorem flagSteward_memc (s : State) (e : Nat) : (s.flagSteward e).memc = s.memc := by
  unfold flagSteward; split <;> simp
@[simp] theorem flagSteward_tbu (s : State) (e : Nat) : (s.flagSteward e).tbu = s.tbu := by
  unfold flagSteward; split <;> simp
@[simp] theorem flagSteward_col (s : State) (e : Nat) : (s.flagSteward e).col = s.col := by
  unfold flagSteward; split <;> simp
@[simp] theorem flagSteward_strata (s : State) (e : Nat) : (s.flagSteward e).strata = s.strata := by
  unfold flagSteward; split <;> simp
@[simp] theorem flagSteward_macs (s : State) (e : Nat) : (s.flagSteward e).macs = s.macs := by
  unfold flagSteward; split <;> simp
@[simp] theorem flagSteward_massif (s : State) (e : Nat) : (s.flagSteward e).massif = s.massif := by
  unfold flagSteward; split <;> simp
@[simp] theorem flagSteward_sts (s : State) (e : Nat) : (s.flagSteward e).sts = s.sts := by
  unfold flagSteward; split <;> simp
@[simp] theorem flagSteward_tal (s : State) (e : Nat) : (s.flagSteward e).tal = s.tal := by
  unfold flagSteward; split <;> simp
@[simp] theorem flagSteward_rl (s : State) (e : Nat) : (s.flagSteward e).rl = s.rl := by
  unfold flagSteward; split <;> simp
@[simp] theorem flagSteward_cans (s : State) (e : Nat) : (s.flagSteward e).cans = s.cans := by
  unfold flagSteward; split <;> simp
@[simp] theorem flagSteward_tor (s : State) (e : Nat) : (s.flagSteward e).tor = s.tor := by
  unfold flagSteward; split <;> simp
@[simp] theorem flagSteward_hostIf (s : State) (e : Nat) : (s.flagSteward e).hostIf = s.hostIf := by
  unfold flagSteward; split <;> simp
@[simp] theorem flagSteward_fwc (s : State) (e : Nat) : (s.flagSteward e).fwc = s.fwc := by
  unfold flagSteward; split <;> simp
@[simp] theorem flagSteward_engines (s : State) (e : Nat) : (s.flagSteward e).engines = s.engines := by
  unfold flagSteward; split <;> simp
@[simp] theorem flagSteward_pairs (s : State) (e : Nat) : (s.flagSteward e).pairs = s.pairs := by
  unfold flagSteward; split <;> simp

/-! markEvent -/

@[simp] theorem markEvent_pending (s : State) (e : Nat) : (s.markEvent e).pending = s.pending := by
  simp [markEvent]
@[simp] theorem markEvent_clk (s : State) (e : Nat) : (s.markEvent e).clk = s.clk := by
  simp [markEvent]
@[simp] theorem markEvent_freeCtr (s : State) (e : Nat) : (s.markEvent e).freeCtr = s.freeCtr := by
  simp [markEvent]
@[simp] theorem markEvent_outs (s : State) (e : Nat) : (s.markEvent e).outs = s.outs := by
  simp [markEvent]
@[simp] theorem markEvent_act (s : State) (e : Nat) : (s.markEvent e).act = s.act := by
  simp [markEvent]
@[simp] theorem markEvent_agentRegs (s : State) (e : Nat) : (s.markEvent e).agentRegs = s.agentRegs := by
  simp [markEvent]
@[simp] theorem markEvent_held (s : State) (e : Nat) : (s.markEvent e).held = s.held := by
  simp [markEvent]
@[simp] theorem markEvent_fuses (s : State) (e : Nat) : (s.markEvent e).fuses = s.fuses := by
  simp [markEvent]
@[simp] theorem markEvent_straps (s : State) (e : Nat) : (s.markEvent e).straps = s.straps := by
  simp [markEvent]
@[simp] theorem markEvent_localHost (s : State) (e : Nat) : (s.markEvent e).localHost = s.localHost := by
  simp [markEvent]
@[simp] theorem markEvent_remoteHost (s : State) (e : Nat) : (s.markEvent e).remoteHost = s.remoteHost := by
  simp [markEvent]
@[simp] theorem markEvent_flight (s : State) (e : Nat) : (s.markEvent e).flight = s.flight := by
  simp [markEvent]
@[simp] theorem markEvent_posted (s : State) (e : Nat) : (s.markEvent e).posted = s.posted := by
  simp [markEvent]
@[simp] theorem markEvent_postSeq (s : State) (e : Nat) : (s.markEvent e).postSeq = s.postSeq := by
  simp [markEvent]
@[simp] theorem markEvent_mem (s : State) (e : Nat) : (s.markEvent e).mem = s.mem := by
  simp [markEvent]
@[simp] theorem markEvent_memc (s : State) (e : Nat) : (s.markEvent e).memc = s.memc := by
  simp [markEvent]
@[simp] theorem markEvent_tbu (s : State) (e : Nat) : (s.markEvent e).tbu = s.tbu := by
  simp [markEvent]
@[simp] theorem markEvent_col (s : State) (e : Nat) : (s.markEvent e).col = s.col := by
  simp [markEvent]
@[simp] theorem markEvent_strata (s : State) (e : Nat) : (s.markEvent e).strata = s.strata := by
  simp [markEvent]
@[simp] theorem markEvent_macs (s : State) (e : Nat) : (s.markEvent e).macs = s.macs := by
  simp [markEvent]
@[simp] theorem markEvent_massif (s : State) (e : Nat) : (s.markEvent e).massif = s.massif := by
  simp [markEvent]
@[simp] theorem markEvent_sts (s : State) (e : Nat) : (s.markEvent e).sts = s.sts := by
  simp [markEvent]
@[simp] theorem markEvent_tal (s : State) (e : Nat) : (s.markEvent e).tal = s.tal := by
  simp [markEvent]
@[simp] theorem markEvent_rl (s : State) (e : Nat) : (s.markEvent e).rl = s.rl := by
  simp [markEvent]
@[simp] theorem markEvent_cans (s : State) (e : Nat) : (s.markEvent e).cans = s.cans := by
  simp [markEvent]
@[simp] theorem markEvent_tor (s : State) (e : Nat) : (s.markEvent e).tor = s.tor := by
  simp [markEvent]
@[simp] theorem markEvent_fwc (s : State) (e : Nat) : (s.markEvent e).fwc = s.fwc := by
  simp [markEvent]
@[simp] theorem markEvent_engines (s : State) (e : Nat) : (s.markEvent e).engines = s.engines := by
  simp [markEvent]
@[simp] theorem markEvent_pairs (s : State) (e : Nat) : (s.markEvent e).pairs = s.pairs := by
  simp [markEvent]

/-! raise -/

@[simp] theorem raise_pending (s : State) (e : Nat) : (s.raise e).pending = s.pending := by
  unfold raise; (try dsimp only); (repeat' split) <;> simp
@[simp] theorem raise_clk (s : State) (e : Nat) : (s.raise e).clk = s.clk := by
  unfold raise; (try dsimp only); (repeat' split) <;> simp
@[simp] theorem raise_freeCtr (s : State) (e : Nat) : (s.raise e).freeCtr = s.freeCtr := by
  unfold raise; (try dsimp only); (repeat' split) <;> simp
@[simp] theorem raise_act (s : State) (e : Nat) : (s.raise e).act = s.act := by
  unfold raise; (try dsimp only); (repeat' split) <;> simp
@[simp] theorem raise_agentRegs (s : State) (e : Nat) : (s.raise e).agentRegs = s.agentRegs := by
  unfold raise; (try dsimp only); (repeat' split) <;> simp
@[simp] theorem raise_held (s : State) (e : Nat) : (s.raise e).held = s.held := by
  unfold raise; (try dsimp only); (repeat' split) <;> simp
@[simp] theorem raise_fuses (s : State) (e : Nat) : (s.raise e).fuses = s.fuses := by
  unfold raise; (try dsimp only); (repeat' split) <;> simp
@[simp] theorem raise_straps (s : State) (e : Nat) : (s.raise e).straps = s.straps := by
  unfold raise; (try dsimp only); (repeat' split) <;> simp
@[simp] theorem raise_localHost (s : State) (e : Nat) : (s.raise e).localHost = s.localHost := by
  unfold raise; (try dsimp only); (repeat' split) <;> simp
@[simp] theorem raise_remoteHost (s : State) (e : Nat) : (s.raise e).remoteHost = s.remoteHost := by
  unfold raise; (try dsimp only); (repeat' split) <;> simp
@[simp] theorem raise_flight (s : State) (e : Nat) : (s.raise e).flight = s.flight := by
  unfold raise; (try dsimp only); (repeat' split) <;> simp
@[simp] theorem raise_posted (s : State) (e : Nat) : (s.raise e).posted = s.posted := by
  unfold raise; (try dsimp only); (repeat' split) <;> simp
@[simp] theorem raise_postSeq (s : State) (e : Nat) : (s.raise e).postSeq = s.postSeq := by
  unfold raise; (try dsimp only); (repeat' split) <;> simp
@[simp] theorem raise_mem (s : State) (e : Nat) : (s.raise e).mem = s.mem := by
  unfold raise; (try dsimp only); (repeat' split) <;> simp
@[simp] theorem raise_memc (s : State) (e : Nat) : (s.raise e).memc = s.memc := by
  unfold raise; (try dsimp only); (repeat' split) <;> simp
@[simp] theorem raise_tbu (s : State) (e : Nat) : (s.raise e).tbu = s.tbu := by
  unfold raise; (try dsimp only); (repeat' split) <;> simp
@[simp] theorem raise_col (s : State) (e : Nat) : (s.raise e).col = s.col := by
  unfold raise; (try dsimp only); (repeat' split) <;> simp
@[simp] theorem raise_strata (s : State) (e : Nat) : (s.raise e).strata = s.strata := by
  unfold raise; (try dsimp only); (repeat' split) <;> simp
@[simp] theorem raise_macs (s : State) (e : Nat) : (s.raise e).macs = s.macs := by
  unfold raise; (try dsimp only); (repeat' split) <;> simp
@[simp] theorem raise_massif (s : State) (e : Nat) : (s.raise e).massif = s.massif := by
  unfold raise; (try dsimp only); (repeat' split) <;> simp
@[simp] theorem raise_sts (s : State) (e : Nat) : (s.raise e).sts = s.sts := by
  unfold raise; (try dsimp only); (repeat' split) <;> simp
@[simp] theorem raise_tal (s : State) (e : Nat) : (s.raise e).tal = s.tal := by
  unfold raise; (try dsimp only); (repeat' split) <;> simp
@[simp] theorem raise_rl (s : State) (e : Nat) : (s.raise e).rl = s.rl := by
  unfold raise; (try dsimp only); (repeat' split) <;> simp
@[simp] theorem raise_cans (s : State) (e : Nat) : (s.raise e).cans = s.cans := by
  unfold raise; (try dsimp only); (repeat' split) <;> simp
@[simp] theorem raise_tor (s : State) (e : Nat) : (s.raise e).tor = s.tor := by
  unfold raise; (try dsimp only); (repeat' split) <;> simp
@[simp] theorem raise_fwc (s : State) (e : Nat) : (s.raise e).fwc = s.fwc := by
  unfold raise; (try dsimp only); (repeat' split) <;> simp
@[simp] theorem raise_engines (s : State) (e : Nat) : (s.raise e).engines = s.engines := by
  unfold raise; (try dsimp only); (repeat' split) <;> simp
@[simp] theorem raise_pairs (s : State) (e : Nat) : (s.raise e).pairs = s.pairs := by
  unfold raise; (try dsimp only); (repeat' split) <;> simp

/-! reject -/

@[simp] theorem reject_pending (s : State) (a o : Nat) : (s.reject a o).pending = s.pending := by
  simp [reject]
@[simp] theorem reject_clk (s : State) (a o : Nat) : (s.reject a o).clk = s.clk := by
  simp [reject]
@[simp] theorem reject_freeCtr (s : State) (a o : Nat) : (s.reject a o).freeCtr = s.freeCtr := by
  simp [reject]
@[simp] theorem reject_act (s : State) (a o : Nat) : (s.reject a o).act = s.act := by
  simp [reject]
@[simp] theorem reject_agentRegs (s : State) (a o : Nat) : (s.reject a o).agentRegs = s.agentRegs := by
  simp [reject]
@[simp] theorem reject_held (s : State) (a o : Nat) : (s.reject a o).held = s.held := by
  simp [reject]
@[simp] theorem reject_fuses (s : State) (a o : Nat) : (s.reject a o).fuses = s.fuses := by
  simp [reject]
@[simp] theorem reject_straps (s : State) (a o : Nat) : (s.reject a o).straps = s.straps := by
  simp [reject]
@[simp] theorem reject_localHost (s : State) (a o : Nat) : (s.reject a o).localHost = s.localHost := by
  simp [reject]
@[simp] theorem reject_remoteHost (s : State) (a o : Nat) : (s.reject a o).remoteHost = s.remoteHost := by
  simp [reject]
@[simp] theorem reject_flight (s : State) (a o : Nat) : (s.reject a o).flight = s.flight := by
  simp [reject]
@[simp] theorem reject_posted (s : State) (a o : Nat) : (s.reject a o).posted = s.posted := by
  simp [reject]
@[simp] theorem reject_postSeq (s : State) (a o : Nat) : (s.reject a o).postSeq = s.postSeq := by
  simp [reject]
@[simp] theorem reject_mem (s : State) (a o : Nat) : (s.reject a o).mem = s.mem := by
  simp [reject]
@[simp] theorem reject_memc (s : State) (a o : Nat) : (s.reject a o).memc = s.memc := by
  simp [reject]
@[simp] theorem reject_tbu (s : State) (a o : Nat) : (s.reject a o).tbu = s.tbu := by
  simp [reject]
@[simp] theorem reject_col (s : State) (a o : Nat) : (s.reject a o).col = s.col := by
  simp [reject]
@[simp] theorem reject_strata (s : State) (a o : Nat) : (s.reject a o).strata = s.strata := by
  simp [reject]
@[simp] theorem reject_macs (s : State) (a o : Nat) : (s.reject a o).macs = s.macs := by
  simp [reject]
@[simp] theorem reject_massif (s : State) (a o : Nat) : (s.reject a o).massif = s.massif := by
  simp [reject]
@[simp] theorem reject_sts (s : State) (a o : Nat) : (s.reject a o).sts = s.sts := by
  simp [reject]
@[simp] theorem reject_tal (s : State) (a o : Nat) : (s.reject a o).tal = s.tal := by
  simp [reject]
@[simp] theorem reject_rl (s : State) (a o : Nat) : (s.reject a o).rl = s.rl := by
  simp [reject]
@[simp] theorem reject_cans (s : State) (a o : Nat) : (s.reject a o).cans = s.cans := by
  simp [reject]
@[simp] theorem reject_tor (s : State) (a o : Nat) : (s.reject a o).tor = s.tor := by
  simp [reject]
@[simp] theorem reject_fwc (s : State) (a o : Nat) : (s.reject a o).fwc = s.fwc := by
  simp [reject]
@[simp] theorem reject_engines (s : State) (a o : Nat) : (s.reject a o).engines = s.engines := by
  simp [reject]
@[simp] theorem reject_pairs (s : State) (a o : Nat) : (s.reject a o).pairs = s.pairs := by
  simp [reject]

/-! intake -/

@[simp] theorem intake_pending (s : State) (r : Report) : (s.intake r).pending = s.pending := by
  unfold intake; (try dsimp only); (repeat' split) <;> simp
@[simp] theorem intake_clk (s : State) (r : Report) : (s.intake r).clk = s.clk := by
  unfold intake; (try dsimp only); (repeat' split) <;> simp
@[simp] theorem intake_freeCtr (s : State) (r : Report) : (s.intake r).freeCtr = s.freeCtr := by
  unfold intake; (try dsimp only); (repeat' split) <;> simp
@[simp] theorem intake_act (s : State) (r : Report) : (s.intake r).act = s.act := by
  unfold intake; (try dsimp only); (repeat' split) <;> simp
@[simp] theorem intake_agentRegs (s : State) (r : Report) : (s.intake r).agentRegs = s.agentRegs := by
  unfold intake; (try dsimp only); (repeat' split) <;> simp
@[simp] theorem intake_held (s : State) (r : Report) : (s.intake r).held = s.held := by
  unfold intake; (try dsimp only); (repeat' split) <;> simp
@[simp] theorem intake_fuses (s : State) (r : Report) : (s.intake r).fuses = s.fuses := by
  unfold intake; (try dsimp only); (repeat' split) <;> simp
@[simp] theorem intake_straps (s : State) (r : Report) : (s.intake r).straps = s.straps := by
  unfold intake; (try dsimp only); (repeat' split) <;> simp
@[simp] theorem intake_localHost (s : State) (r : Report) : (s.intake r).localHost = s.localHost := by
  unfold intake; (try dsimp only); (repeat' split) <;> simp
@[simp] theorem intake_remoteHost (s : State) (r : Report) : (s.intake r).remoteHost = s.remoteHost := by
  unfold intake; (try dsimp only); (repeat' split) <;> simp
@[simp] theorem intake_flight (s : State) (r : Report) : (s.intake r).flight = s.flight := by
  unfold intake; (try dsimp only); (repeat' split) <;> simp
@[simp] theorem intake_posted (s : State) (r : Report) : (s.intake r).posted = s.posted := by
  unfold intake; (try dsimp only); (repeat' split) <;> simp
@[simp] theorem intake_postSeq (s : State) (r : Report) : (s.intake r).postSeq = s.postSeq := by
  unfold intake; (try dsimp only); (repeat' split) <;> simp
@[simp] theorem intake_mem (s : State) (r : Report) : (s.intake r).mem = s.mem := by
  unfold intake; (try dsimp only); (repeat' split) <;> simp
@[simp] theorem intake_memc (s : State) (r : Report) : (s.intake r).memc = s.memc := by
  unfold intake; (try dsimp only); (repeat' split) <;> simp
@[simp] theorem intake_tbu (s : State) (r : Report) : (s.intake r).tbu = s.tbu := by
  unfold intake; (try dsimp only); (repeat' split) <;> simp
@[simp] theorem intake_col (s : State) (r : Report) : (s.intake r).col = s.col := by
  unfold intake; (try dsimp only); (repeat' split) <;> simp
@[simp] theorem intake_macs (s : State) (r : Report) : (s.intake r).macs = s.macs := by
  unfold intake; (try dsimp only); (repeat' split) <;> simp
@[simp] theorem intake_massif (s : State) (r : Report) : (s.intake r).massif = s.massif := by
  unfold intake; (try dsimp only); (repeat' split) <;> simp
@[simp] theorem intake_sts (s : State) (r : Report) : (s.intake r).sts = s.sts := by
  unfold intake; (try dsimp only); (repeat' split) <;> simp
@[simp] theorem intake_tal (s : State) (r : Report) : (s.intake r).tal = s.tal := by
  unfold intake; (try dsimp only); (repeat' split) <;> simp
@[simp] theorem intake_rl (s : State) (r : Report) : (s.intake r).rl = s.rl := by
  unfold intake; (try dsimp only); (repeat' split) <;> simp
@[simp] theorem intake_cans (s : State) (r : Report) : (s.intake r).cans = s.cans := by
  unfold intake; (try dsimp only); (repeat' split) <;> simp
@[simp] theorem intake_tor (s : State) (r : Report) : (s.intake r).tor = s.tor := by
  unfold intake; (try dsimp only); (repeat' split) <;> simp
@[simp] theorem intake_fwc (s : State) (r : Report) : (s.intake r).fwc = s.fwc := by
  unfold intake; (try dsimp only); (repeat' split) <;> simp
@[simp] theorem intake_engines (s : State) (r : Report) : (s.intake r).engines = s.engines := by
  unfold intake; (try dsimp only); (repeat' split) <;> simp
@[simp] theorem intake_pairs (s : State) (r : Report) : (s.intake r).pairs = s.pairs := by
  unfold intake; (try dsimp only); (repeat' split) <;> simp

/-! lastingAction -/

@[simp] theorem lastingAction_pending (s : State) (k i : Nat) : (s.lastingAction k i).pending = s.pending := by
  unfold lastingAction; (repeat' split) <;> simp
@[simp] theorem lastingAction_clk (s : State) (k i : Nat) : (s.lastingAction k i).clk = s.clk := by
  unfold lastingAction; (repeat' split) <;> simp
@[simp] theorem lastingAction_freeCtr (s : State) (k i : Nat) : (s.lastingAction k i).freeCtr = s.freeCtr := by
  unfold lastingAction; (repeat' split) <;> simp
@[simp] theorem lastingAction_outs (s : State) (k i : Nat) : (s.lastingAction k i).outs = s.outs := by
  unfold lastingAction; (repeat' split) <;> simp
@[simp] theorem lastingAction_act (s : State) (k i : Nat) : (s.lastingAction k i).act = s.act := by
  unfold lastingAction; (repeat' split) <;> simp
@[simp] theorem lastingAction_agentRegs (s : State) (k i : Nat) : (s.lastingAction k i).agentRegs = s.agentRegs := by
  unfold lastingAction; (repeat' split) <;> simp
@[simp] theorem lastingAction_held (s : State) (k i : Nat) : (s.lastingAction k i).held = s.held := by
  unfold lastingAction; (repeat' split) <;> simp
@[simp] theorem lastingAction_fuses (s : State) (k i : Nat) : (s.lastingAction k i).fuses = s.fuses := by
  unfold lastingAction; (repeat' split) <;> simp
@[simp] theorem lastingAction_straps (s : State) (k i : Nat) : (s.lastingAction k i).straps = s.straps := by
  unfold lastingAction; (repeat' split) <;> simp
@[simp] theorem lastingAction_localHost (s : State) (k i : Nat) : (s.lastingAction k i).localHost = s.localHost := by
  unfold lastingAction; (repeat' split) <;> simp
@[simp] theorem lastingAction_remoteHost (s : State) (k i : Nat) : (s.lastingAction k i).remoteHost = s.remoteHost := by
  unfold lastingAction; (repeat' split) <;> simp
@[simp] theorem lastingAction_flight (s : State) (k i : Nat) : (s.lastingAction k i).flight = s.flight := by
  unfold lastingAction; (repeat' split) <;> simp
@[simp] theorem lastingAction_posted (s : State) (k i : Nat) : (s.lastingAction k i).posted = s.posted := by
  unfold lastingAction; (repeat' split) <;> simp
@[simp] theorem lastingAction_postSeq (s : State) (k i : Nat) : (s.lastingAction k i).postSeq = s.postSeq := by
  unfold lastingAction; (repeat' split) <;> simp
@[simp] theorem lastingAction_mem (s : State) (k i : Nat) : (s.lastingAction k i).mem = s.mem := by
  unfold lastingAction; (repeat' split) <;> simp
@[simp] theorem lastingAction_memc (s : State) (k i : Nat) : (s.lastingAction k i).memc = s.memc := by
  unfold lastingAction; (repeat' split) <;> simp
@[simp] theorem lastingAction_tbu (s : State) (k i : Nat) : (s.lastingAction k i).tbu = s.tbu := by
  unfold lastingAction; (repeat' split) <;> simp
@[simp] theorem lastingAction_talus (s : State) (k i : Nat) : (s.lastingAction k i).talus = s.talus := by
  unfold lastingAction; (repeat' split) <;> simp
@[simp] theorem lastingAction_col (s : State) (k i : Nat) : (s.lastingAction k i).col = s.col := by
  unfold lastingAction; (repeat' split) <;> simp
@[simp] theorem lastingAction_macs (s : State) (k i : Nat) : (s.lastingAction k i).macs = s.macs := by
  unfold lastingAction; (repeat' split) <;> simp
@[simp] theorem lastingAction_massif (s : State) (k i : Nat) : (s.lastingAction k i).massif = s.massif := by
  unfold lastingAction; (repeat' split) <;> simp
@[simp] theorem lastingAction_sts (s : State) (k i : Nat) : (s.lastingAction k i).sts = s.sts := by
  unfold lastingAction; (repeat' split) <;> simp
@[simp] theorem lastingAction_tal (s : State) (k i : Nat) : (s.lastingAction k i).tal = s.tal := by
  unfold lastingAction; (repeat' split) <;> simp
@[simp] theorem lastingAction_rl (s : State) (k i : Nat) : (s.lastingAction k i).rl = s.rl := by
  unfold lastingAction; (repeat' split) <;> simp
@[simp] theorem lastingAction_cans (s : State) (k i : Nat) : (s.lastingAction k i).cans = s.cans := by
  unfold lastingAction; (repeat' split) <;> simp
@[simp] theorem lastingAction_tor (s : State) (k i : Nat) : (s.lastingAction k i).tor = s.tor := by
  unfold lastingAction; (repeat' split) <;> simp
@[simp] theorem lastingAction_hostIf (s : State) (k i : Nat) : (s.lastingAction k i).hostIf = s.hostIf := by
  unfold lastingAction; (repeat' split) <;> simp
@[simp] theorem lastingAction_prc (s : State) (k i : Nat) : (s.lastingAction k i).prc = s.prc := by
  unfold lastingAction; (repeat' split) <;> simp
@[simp] theorem lastingAction_fwc (s : State) (k i : Nat) : (s.lastingAction k i).fwc = s.fwc := by
  unfold lastingAction; (repeat' split) <;> simp
@[simp] theorem lastingAction_tmx (s : State) (k i : Nat) : (s.lastingAction k i).tmx = s.tmx := by
  unfold lastingAction; (repeat' split) <;> simp
@[simp] theorem lastingAction_acting (s : State) (k i : Nat) : (s.lastingAction k i).acting = s.acting := by
  unfold lastingAction; (repeat' split) <;> simp
@[simp] theorem lastingAction_engines (s : State) (k i : Nat) : (s.lastingAction k i).engines = s.engines := by
  unfold lastingAction; (repeat' split) <;> simp
@[simp] theorem lastingAction_pairs (s : State) (k i : Nat) : (s.lastingAction k i).pairs = s.pairs := by
  unfold lastingAction; (repeat' split) <;> simp

/-! classLasting -/

@[simp] theorem classLasting_pending (s : State) (k i src : Nat) : (s.classLasting k i src).pending = s.pending := by
  simp [classLasting]
@[simp] theorem classLasting_clk (s : State) (k i src : Nat) : (s.classLasting k i src).clk = s.clk := by
  simp [classLasting]
@[simp] theorem classLasting_freeCtr (s : State) (k i src : Nat) : (s.classLasting k i src).freeCtr = s.freeCtr := by
  simp [classLasting]
@[simp] theorem classLasting_act (s : State) (k i src : Nat) : (s.classLasting k i src).act = s.act := by
  simp [classLasting]
@[simp] theorem classLasting_agentRegs (s : State) (k i src : Nat) : (s.classLasting k i src).agentRegs = s.agentRegs := by
  simp [classLasting]
@[simp] theorem classLasting_held (s : State) (k i src : Nat) : (s.classLasting k i src).held = s.held := by
  simp [classLasting]
@[simp] theorem classLasting_fuses (s : State) (k i src : Nat) : (s.classLasting k i src).fuses = s.fuses := by
  simp [classLasting]
@[simp] theorem classLasting_straps (s : State) (k i src : Nat) : (s.classLasting k i src).straps = s.straps := by
  simp [classLasting]
@[simp] theorem classLasting_localHost (s : State) (k i src : Nat) : (s.classLasting k i src).localHost = s.localHost := by
  simp [classLasting]
@[simp] theorem classLasting_remoteHost (s : State) (k i src : Nat) : (s.classLasting k i src).remoteHost = s.remoteHost := by
  simp [classLasting]
@[simp] theorem classLasting_flight (s : State) (k i src : Nat) : (s.classLasting k i src).flight = s.flight := by
  simp [classLasting]
@[simp] theorem classLasting_posted (s : State) (k i src : Nat) : (s.classLasting k i src).posted = s.posted := by
  simp [classLasting]
@[simp] theorem classLasting_postSeq (s : State) (k i src : Nat) : (s.classLasting k i src).postSeq = s.postSeq := by
  simp [classLasting]
@[simp] theorem classLasting_mem (s : State) (k i src : Nat) : (s.classLasting k i src).mem = s.mem := by
  simp [classLasting]
@[simp] theorem classLasting_memc (s : State) (k i src : Nat) : (s.classLasting k i src).memc = s.memc := by
  simp [classLasting]
@[simp] theorem classLasting_tbu (s : State) (k i src : Nat) : (s.classLasting k i src).tbu = s.tbu := by
  simp [classLasting]
@[simp] theorem classLasting_col (s : State) (k i src : Nat) : (s.classLasting k i src).col = s.col := by
  simp [classLasting]
@[simp] theorem classLasting_macs (s : State) (k i src : Nat) : (s.classLasting k i src).macs = s.macs := by
  simp [classLasting]
@[simp] theorem classLasting_massif (s : State) (k i src : Nat) : (s.classLasting k i src).massif = s.massif := by
  simp [classLasting]
@[simp] theorem classLasting_sts (s : State) (k i src : Nat) : (s.classLasting k i src).sts = s.sts := by
  simp [classLasting]
@[simp] theorem classLasting_tal (s : State) (k i src : Nat) : (s.classLasting k i src).tal = s.tal := by
  simp [classLasting]
@[simp] theorem classLasting_rl (s : State) (k i src : Nat) : (s.classLasting k i src).rl = s.rl := by
  simp [classLasting]
@[simp] theorem classLasting_cans (s : State) (k i src : Nat) : (s.classLasting k i src).cans = s.cans := by
  simp [classLasting]
@[simp] theorem classLasting_tor (s : State) (k i src : Nat) : (s.classLasting k i src).tor = s.tor := by
  simp [classLasting]
@[simp] theorem classLasting_fwc (s : State) (k i src : Nat) : (s.classLasting k i src).fwc = s.fwc := by
  simp [classLasting]
@[simp] theorem classLasting_engines (s : State) (k i src : Nat) : (s.classLasting k i src).engines = s.engines := by
  simp [classLasting]
@[simp] theorem classLasting_pairs (s : State) (k i src : Nat) : (s.classLasting k i src).pairs = s.pairs := by
  simp [classLasting]

/-! setWindow -/

@[simp] theorem setWindow_pending (s : State) (k : Nat) (ts : List Nat) : (s.setWindow k ts).pending = s.pending := by
  rfl
@[simp] theorem setWindow_clk (s : State) (k : Nat) (ts : List Nat) : (s.setWindow k ts).clk = s.clk := by
  rfl
@[simp] theorem setWindow_freeCtr (s : State) (k : Nat) (ts : List Nat) : (s.setWindow k ts).freeCtr = s.freeCtr := by
  rfl
@[simp] theorem setWindow_outs (s : State) (k : Nat) (ts : List Nat) : (s.setWindow k ts).outs = s.outs := by
  rfl
@[simp] theorem setWindow_regs (s : State) (k : Nat) (ts : List Nat) : (s.setWindow k ts).regs = s.regs := by
  rfl
@[simp] theorem setWindow_act (s : State) (k : Nat) (ts : List Nat) : (s.setWindow k ts).act = s.act := by
  rfl
@[simp] theorem setWindow_agentRegs (s : State) (k : Nat) (ts : List Nat) : (s.setWindow k ts).agentRegs = s.agentRegs := by
  rfl
@[simp] theorem setWindow_held (s : State) (k : Nat) (ts : List Nat) : (s.setWindow k ts).held = s.held := by
  rfl
@[simp] theorem setWindow_fuses (s : State) (k : Nat) (ts : List Nat) : (s.setWindow k ts).fuses = s.fuses := by
  rfl
@[simp] theorem setWindow_straps (s : State) (k : Nat) (ts : List Nat) : (s.setWindow k ts).straps = s.straps := by
  rfl
@[simp] theorem setWindow_localHost (s : State) (k : Nat) (ts : List Nat) : (s.setWindow k ts).localHost = s.localHost := by
  rfl
@[simp] theorem setWindow_remoteHost (s : State) (k : Nat) (ts : List Nat) : (s.setWindow k ts).remoteHost = s.remoteHost := by
  rfl
@[simp] theorem setWindow_flight (s : State) (k : Nat) (ts : List Nat) : (s.setWindow k ts).flight = s.flight := by
  rfl
@[simp] theorem setWindow_posted (s : State) (k : Nat) (ts : List Nat) : (s.setWindow k ts).posted = s.posted := by
  rfl
@[simp] theorem setWindow_postSeq (s : State) (k : Nat) (ts : List Nat) : (s.setWindow k ts).postSeq = s.postSeq := by
  rfl
@[simp] theorem setWindow_mem (s : State) (k : Nat) (ts : List Nat) : (s.setWindow k ts).mem = s.mem := by
  rfl
@[simp] theorem setWindow_memc (s : State) (k : Nat) (ts : List Nat) : (s.setWindow k ts).memc = s.memc := by
  rfl
@[simp] theorem setWindow_tbu (s : State) (k : Nat) (ts : List Nat) : (s.setWindow k ts).tbu = s.tbu := by
  rfl
@[simp] theorem setWindow_talus (s : State) (k : Nat) (ts : List Nat) : (s.setWindow k ts).talus = s.talus := by
  rfl
@[simp] theorem setWindow_col (s : State) (k : Nat) (ts : List Nat) : (s.setWindow k ts).col = s.col := by
  rfl
@[simp] theorem setWindow_macs (s : State) (k : Nat) (ts : List Nat) : (s.setWindow k ts).macs = s.macs := by
  rfl
@[simp] theorem setWindow_massif (s : State) (k : Nat) (ts : List Nat) : (s.setWindow k ts).massif = s.massif := by
  rfl
@[simp] theorem setWindow_sts (s : State) (k : Nat) (ts : List Nat) : (s.setWindow k ts).sts = s.sts := by
  rfl
@[simp] theorem setWindow_tal (s : State) (k : Nat) (ts : List Nat) : (s.setWindow k ts).tal = s.tal := by
  rfl
@[simp] theorem setWindow_rl (s : State) (k : Nat) (ts : List Nat) : (s.setWindow k ts).rl = s.rl := by
  rfl
@[simp] theorem setWindow_cans (s : State) (k : Nat) (ts : List Nat) : (s.setWindow k ts).cans = s.cans := by
  rfl
@[simp] theorem setWindow_tor (s : State) (k : Nat) (ts : List Nat) : (s.setWindow k ts).tor = s.tor := by
  rfl
@[simp] theorem setWindow_hostIf (s : State) (k : Nat) (ts : List Nat) : (s.setWindow k ts).hostIf = s.hostIf := by
  rfl
@[simp] theorem setWindow_prc (s : State) (k : Nat) (ts : List Nat) : (s.setWindow k ts).prc = s.prc := by
  rfl
@[simp] theorem setWindow_fwc (s : State) (k : Nat) (ts : List Nat) : (s.setWindow k ts).fwc = s.fwc := by
  rfl
@[simp] theorem setWindow_tmx (s : State) (k : Nat) (ts : List Nat) : (s.setWindow k ts).tmx = s.tmx := by
  rfl
@[simp] theorem setWindow_acting (s : State) (k : Nat) (ts : List Nat) : (s.setWindow k ts).acting = s.acting := by
  rfl
@[simp] theorem setWindow_engines (s : State) (k : Nat) (ts : List Nat) : (s.setWindow k ts).engines = s.engines := by
  rfl
@[simp] theorem setWindow_pairs (s : State) (k : Nat) (ts : List Nat) : (s.setWindow k ts).pairs = s.pairs := by
  rfl

/-! countWindow -/

@[simp] theorem countWindow_pending (s : State) (k i src : Nat) : (s.countWindow k i src).pending = s.pending := by
  unfold countWindow; (try dsimp only); split <;> simp
@[simp] theorem countWindow_clk (s : State) (k i src : Nat) : (s.countWindow k i src).clk = s.clk := by
  unfold countWindow; (try dsimp only); split <;> simp
@[simp] theorem countWindow_freeCtr (s : State) (k i src : Nat) : (s.countWindow k i src).freeCtr = s.freeCtr := by
  unfold countWindow; (try dsimp only); split <;> simp
@[simp] theorem countWindow_act (s : State) (k i src : Nat) : (s.countWindow k i src).act = s.act := by
  unfold countWindow; (try dsimp only); split <;> simp
@[simp] theorem countWindow_agentRegs (s : State) (k i src : Nat) : (s.countWindow k i src).agentRegs = s.agentRegs := by
  unfold countWindow; (try dsimp only); split <;> simp
@[simp] theorem countWindow_held (s : State) (k i src : Nat) : (s.countWindow k i src).held = s.held := by
  unfold countWindow; (try dsimp only); split <;> simp
@[simp] theorem countWindow_fuses (s : State) (k i src : Nat) : (s.countWindow k i src).fuses = s.fuses := by
  unfold countWindow; (try dsimp only); split <;> simp
@[simp] theorem countWindow_straps (s : State) (k i src : Nat) : (s.countWindow k i src).straps = s.straps := by
  unfold countWindow; (try dsimp only); split <;> simp
@[simp] theorem countWindow_localHost (s : State) (k i src : Nat) : (s.countWindow k i src).localHost = s.localHost := by
  unfold countWindow; (try dsimp only); split <;> simp
@[simp] theorem countWindow_remoteHost (s : State) (k i src : Nat) : (s.countWindow k i src).remoteHost = s.remoteHost := by
  unfold countWindow; (try dsimp only); split <;> simp
@[simp] theorem countWindow_flight (s : State) (k i src : Nat) : (s.countWindow k i src).flight = s.flight := by
  unfold countWindow; (try dsimp only); split <;> simp
@[simp] theorem countWindow_posted (s : State) (k i src : Nat) : (s.countWindow k i src).posted = s.posted := by
  unfold countWindow; (try dsimp only); split <;> simp
@[simp] theorem countWindow_postSeq (s : State) (k i src : Nat) : (s.countWindow k i src).postSeq = s.postSeq := by
  unfold countWindow; (try dsimp only); split <;> simp
@[simp] theorem countWindow_mem (s : State) (k i src : Nat) : (s.countWindow k i src).mem = s.mem := by
  unfold countWindow; (try dsimp only); split <;> simp
@[simp] theorem countWindow_memc (s : State) (k i src : Nat) : (s.countWindow k i src).memc = s.memc := by
  unfold countWindow; (try dsimp only); split <;> simp
@[simp] theorem countWindow_tbu (s : State) (k i src : Nat) : (s.countWindow k i src).tbu = s.tbu := by
  unfold countWindow; (try dsimp only); split <;> simp
@[simp] theorem countWindow_col (s : State) (k i src : Nat) : (s.countWindow k i src).col = s.col := by
  unfold countWindow; (try dsimp only); split <;> simp
@[simp] theorem countWindow_macs (s : State) (k i src : Nat) : (s.countWindow k i src).macs = s.macs := by
  unfold countWindow; (try dsimp only); split <;> simp
@[simp] theorem countWindow_massif (s : State) (k i src : Nat) : (s.countWindow k i src).massif = s.massif := by
  unfold countWindow; (try dsimp only); split <;> simp
@[simp] theorem countWindow_sts (s : State) (k i src : Nat) : (s.countWindow k i src).sts = s.sts := by
  unfold countWindow; (try dsimp only); split <;> simp
@[simp] theorem countWindow_tal (s : State) (k i src : Nat) : (s.countWindow k i src).tal = s.tal := by
  unfold countWindow; (try dsimp only); split <;> simp
@[simp] theorem countWindow_rl (s : State) (k i src : Nat) : (s.countWindow k i src).rl = s.rl := by
  unfold countWindow; (try dsimp only); split <;> simp
@[simp] theorem countWindow_cans (s : State) (k i src : Nat) : (s.countWindow k i src).cans = s.cans := by
  unfold countWindow; (try dsimp only); split <;> simp
@[simp] theorem countWindow_tor (s : State) (k i src : Nat) : (s.countWindow k i src).tor = s.tor := by
  unfold countWindow; (try dsimp only); split <;> simp
@[simp] theorem countWindow_fwc (s : State) (k i src : Nat) : (s.countWindow k i src).fwc = s.fwc := by
  unfold countWindow; (try dsimp only); split <;> simp
@[simp] theorem countWindow_engines (s : State) (k i src : Nat) : (s.countWindow k i src).engines = s.engines := by
  unfold countWindow; (try dsimp only); split <;> simp
@[simp] theorem countWindow_pairs (s : State) (k i src : Nat) : (s.countWindow k i src).pairs = s.pairs := by
  unfold countWindow; (try dsimp only); split <;> simp

/-! report -/

@[simp] theorem report_pending (s : State) (src type detail arg a1 a2 : Nat) : (s.report src type detail arg a1 a2).pending = s.pending := by
  unfold report; (try dsimp only); split <;> simp
@[simp] theorem report_clk (s : State) (src type detail arg a1 a2 : Nat) : (s.report src type detail arg a1 a2).clk = s.clk := by
  unfold report; (try dsimp only); split <;> simp
@[simp] theorem report_freeCtr (s : State) (src type detail arg a1 a2 : Nat) : (s.report src type detail arg a1 a2).freeCtr = s.freeCtr := by
  unfold report; (try dsimp only); split <;> simp
@[simp] theorem report_act (s : State) (src type detail arg a1 a2 : Nat) : (s.report src type detail arg a1 a2).act = s.act := by
  unfold report; (try dsimp only); split <;> simp
@[simp] theorem report_agentRegs (s : State) (src type detail arg a1 a2 : Nat) : (s.report src type detail arg a1 a2).agentRegs = s.agentRegs := by
  unfold report; (try dsimp only); split <;> simp
@[simp] theorem report_held (s : State) (src type detail arg a1 a2 : Nat) : (s.report src type detail arg a1 a2).held = s.held := by
  unfold report; (try dsimp only); split <;> simp
@[simp] theorem report_fuses (s : State) (src type detail arg a1 a2 : Nat) : (s.report src type detail arg a1 a2).fuses = s.fuses := by
  unfold report; (try dsimp only); split <;> simp
@[simp] theorem report_straps (s : State) (src type detail arg a1 a2 : Nat) : (s.report src type detail arg a1 a2).straps = s.straps := by
  unfold report; (try dsimp only); split <;> simp
@[simp] theorem report_localHost (s : State) (src type detail arg a1 a2 : Nat) : (s.report src type detail arg a1 a2).localHost = s.localHost := by
  unfold report; (try dsimp only); split <;> simp
@[simp] theorem report_remoteHost (s : State) (src type detail arg a1 a2 : Nat) : (s.report src type detail arg a1 a2).remoteHost = s.remoteHost := by
  unfold report; (try dsimp only); split <;> simp
@[simp] theorem report_flight (s : State) (src type detail arg a1 a2 : Nat) : (s.report src type detail arg a1 a2).flight = s.flight := by
  unfold report; (try dsimp only); split <;> simp
@[simp] theorem report_posted (s : State) (src type detail arg a1 a2 : Nat) : (s.report src type detail arg a1 a2).posted = s.posted := by
  unfold report; (try dsimp only); split <;> simp
@[simp] theorem report_postSeq (s : State) (src type detail arg a1 a2 : Nat) : (s.report src type detail arg a1 a2).postSeq = s.postSeq := by
  unfold report; (try dsimp only); split <;> simp
@[simp] theorem report_mem (s : State) (src type detail arg a1 a2 : Nat) : (s.report src type detail arg a1 a2).mem = s.mem := by
  unfold report; (try dsimp only); split <;> simp
@[simp] theorem report_memc (s : State) (src type detail arg a1 a2 : Nat) : (s.report src type detail arg a1 a2).memc = s.memc := by
  unfold report; (try dsimp only); split <;> simp
@[simp] theorem report_tbu (s : State) (src type detail arg a1 a2 : Nat) : (s.report src type detail arg a1 a2).tbu = s.tbu := by
  unfold report; (try dsimp only); split <;> simp
@[simp] theorem report_col (s : State) (src type detail arg a1 a2 : Nat) : (s.report src type detail arg a1 a2).col = s.col := by
  unfold report; (try dsimp only); split <;> simp
@[simp] theorem report_macs (s : State) (src type detail arg a1 a2 : Nat) : (s.report src type detail arg a1 a2).macs = s.macs := by
  unfold report; (try dsimp only); split <;> simp
@[simp] theorem report_massif (s : State) (src type detail arg a1 a2 : Nat) : (s.report src type detail arg a1 a2).massif = s.massif := by
  unfold report; (try dsimp only); split <;> simp
@[simp] theorem report_sts (s : State) (src type detail arg a1 a2 : Nat) : (s.report src type detail arg a1 a2).sts = s.sts := by
  unfold report; (try dsimp only); split <;> simp
@[simp] theorem report_tal (s : State) (src type detail arg a1 a2 : Nat) : (s.report src type detail arg a1 a2).tal = s.tal := by
  unfold report; (try dsimp only); split <;> simp
@[simp] theorem report_rl (s : State) (src type detail arg a1 a2 : Nat) : (s.report src type detail arg a1 a2).rl = s.rl := by
  unfold report; (try dsimp only); split <;> simp
@[simp] theorem report_cans (s : State) (src type detail arg a1 a2 : Nat) : (s.report src type detail arg a1 a2).cans = s.cans := by
  unfold report; (try dsimp only); split <;> simp
@[simp] theorem report_tor (s : State) (src type detail arg a1 a2 : Nat) : (s.report src type detail arg a1 a2).tor = s.tor := by
  unfold report; (try dsimp only); split <;> simp
@[simp] theorem report_fwc (s : State) (src type detail arg a1 a2 : Nat) : (s.report src type detail arg a1 a2).fwc = s.fwc := by
  unfold report; (try dsimp only); split <;> simp
@[simp] theorem report_engines (s : State) (src type detail arg a1 a2 : Nat) : (s.report src type detail arg a1 a2).engines = s.engines := by
  unfold report; (try dsimp only); split <;> simp
@[simp] theorem report_pairs (s : State) (src type detail arg a1 a2 : Nat) : (s.report src type detail arg a1 a2).pairs = s.pairs := by
  unfold report; (try dsimp only); split <;> simp

/-! countLate -/

@[simp] theorem countLate_pending (s : State) (k a : Nat) : (s.countLate k a).pending = s.pending := by
  unfold countLate; (try dsimp only); (repeat' split) <;> simp
@[simp] theorem countLate_clk (s : State) (k a : Nat) : (s.countLate k a).clk = s.clk := by
  unfold countLate; (try dsimp only); (repeat' split) <;> simp
@[simp] theorem countLate_freeCtr (s : State) (k a : Nat) : (s.countLate k a).freeCtr = s.freeCtr := by
  unfold countLate; (try dsimp only); (repeat' split) <;> simp
@[simp] theorem countLate_act (s : State) (k a : Nat) : (s.countLate k a).act = s.act := by
  unfold countLate; (try dsimp only); (repeat' split) <;> simp
@[simp] theorem countLate_agentRegs (s : State) (k a : Nat) : (s.countLate k a).agentRegs = s.agentRegs := by
  unfold countLate; (try dsimp only); (repeat' split) <;> simp
@[simp] theorem countLate_held (s : State) (k a : Nat) : (s.countLate k a).held = s.held := by
  unfold countLate; (try dsimp only); (repeat' split) <;> simp
@[simp] theorem countLate_fuses (s : State) (k a : Nat) : (s.countLate k a).fuses = s.fuses := by
  unfold countLate; (try dsimp only); (repeat' split) <;> simp
@[simp] theorem countLate_straps (s : State) (k a : Nat) : (s.countLate k a).straps = s.straps := by
  unfold countLate; (try dsimp only); (repeat' split) <;> simp
@[simp] theorem countLate_localHost (s : State) (k a : Nat) : (s.countLate k a).localHost = s.localHost := by
  unfold countLate; (try dsimp only); (repeat' split) <;> simp
@[simp] theorem countLate_remoteHost (s : State) (k a : Nat) : (s.countLate k a).remoteHost = s.remoteHost := by
  unfold countLate; (try dsimp only); (repeat' split) <;> simp
@[simp] theorem countLate_flight (s : State) (k a : Nat) : (s.countLate k a).flight = s.flight := by
  unfold countLate; (try dsimp only); (repeat' split) <;> simp
@[simp] theorem countLate_posted (s : State) (k a : Nat) : (s.countLate k a).posted = s.posted := by
  unfold countLate; (try dsimp only); (repeat' split) <;> simp
@[simp] theorem countLate_postSeq (s : State) (k a : Nat) : (s.countLate k a).postSeq = s.postSeq := by
  unfold countLate; (try dsimp only); (repeat' split) <;> simp
@[simp] theorem countLate_mem (s : State) (k a : Nat) : (s.countLate k a).mem = s.mem := by
  unfold countLate; (try dsimp only); (repeat' split) <;> simp
@[simp] theorem countLate_memc (s : State) (k a : Nat) : (s.countLate k a).memc = s.memc := by
  unfold countLate; (try dsimp only); (repeat' split) <;> simp
@[simp] theorem countLate_tbu (s : State) (k a : Nat) : (s.countLate k a).tbu = s.tbu := by
  unfold countLate; (try dsimp only); (repeat' split) <;> simp
@[simp] theorem countLate_talus (s : State) (k a : Nat) : (s.countLate k a).talus = s.talus := by
  unfold countLate; (try dsimp only); (repeat' split) <;> simp
@[simp] theorem countLate_col (s : State) (k a : Nat) : (s.countLate k a).col = s.col := by
  unfold countLate; (try dsimp only); (repeat' split) <;> simp
@[simp] theorem countLate_strata (s : State) (k a : Nat) : (s.countLate k a).strata = s.strata := by
  unfold countLate; (try dsimp only); (repeat' split) <;> simp
@[simp] theorem countLate_macs (s : State) (k a : Nat) : (s.countLate k a).macs = s.macs := by
  unfold countLate; (try dsimp only); (repeat' split) <;> simp
@[simp] theorem countLate_massif (s : State) (k a : Nat) : (s.countLate k a).massif = s.massif := by
  unfold countLate; (try dsimp only); (repeat' split) <;> simp
@[simp] theorem countLate_sts (s : State) (k a : Nat) : (s.countLate k a).sts = s.sts := by
  unfold countLate; (try dsimp only); (repeat' split) <;> simp
@[simp] theorem countLate_tal (s : State) (k a : Nat) : (s.countLate k a).tal = s.tal := by
  unfold countLate; (try dsimp only); (repeat' split) <;> simp
@[simp] theorem countLate_rl (s : State) (k a : Nat) : (s.countLate k a).rl = s.rl := by
  unfold countLate; (try dsimp only); (repeat' split) <;> simp
@[simp] theorem countLate_cans (s : State) (k a : Nat) : (s.countLate k a).cans = s.cans := by
  unfold countLate; (try dsimp only); (repeat' split) <;> simp
@[simp] theorem countLate_tor (s : State) (k a : Nat) : (s.countLate k a).tor = s.tor := by
  unfold countLate; (try dsimp only); (repeat' split) <;> simp
@[simp] theorem countLate_hostIf (s : State) (k a : Nat) : (s.countLate k a).hostIf = s.hostIf := by
  unfold countLate; (try dsimp only); (repeat' split) <;> simp
@[simp] theorem countLate_prc (s : State) (k a : Nat) : (s.countLate k a).prc = s.prc := by
  unfold countLate; (try dsimp only); (repeat' split) <;> simp
@[simp] theorem countLate_fwc (s : State) (k a : Nat) : (s.countLate k a).fwc = s.fwc := by
  unfold countLate; (try dsimp only); (repeat' split) <;> simp
@[simp] theorem countLate_tmx (s : State) (k a : Nat) : (s.countLate k a).tmx = s.tmx := by
  unfold countLate; (try dsimp only); (repeat' split) <;> simp
@[simp] theorem countLate_acting (s : State) (k a : Nat) : (s.countLate k a).acting = s.acting := by
  unfold countLate; (try dsimp only); (repeat' split) <;> simp
@[simp] theorem countLate_engines (s : State) (k a : Nat) : (s.countLate k a).engines = s.engines := by
  unfold countLate; (try dsimp only); (repeat' split) <;> simp
@[simp] theorem countLate_pairs (s : State) (k a : Nat) : (s.countLate k a).pairs = s.pairs := by
  unfold countLate; (try dsimp only); (repeat' split) <;> simp

/-! lateFrom -/

@[simp] theorem lateFrom_pending (s : State) (cause k a due : Nat) : (s.lateFrom cause k a due).pending = s.pending := by
  simp [lateFrom]
@[simp] theorem lateFrom_clk (s : State) (cause k a due : Nat) : (s.lateFrom cause k a due).clk = s.clk := by
  simp [lateFrom]
@[simp] theorem lateFrom_freeCtr (s : State) (cause k a due : Nat) : (s.lateFrom cause k a due).freeCtr = s.freeCtr := by
  simp [lateFrom]
@[simp] theorem lateFrom_act (s : State) (cause k a due : Nat) : (s.lateFrom cause k a due).act = s.act := by
  simp [lateFrom]
@[simp] theorem lateFrom_agentRegs (s : State) (cause k a due : Nat) : (s.lateFrom cause k a due).agentRegs = s.agentRegs := by
  simp [lateFrom]
@[simp] theorem lateFrom_held (s : State) (cause k a due : Nat) : (s.lateFrom cause k a due).held = s.held := by
  simp [lateFrom]
@[simp] theorem lateFrom_fuses (s : State) (cause k a due : Nat) : (s.lateFrom cause k a due).fuses = s.fuses := by
  simp [lateFrom]
@[simp] theorem lateFrom_straps (s : State) (cause k a due : Nat) : (s.lateFrom cause k a due).straps = s.straps := by
  simp [lateFrom]
@[simp] theorem lateFrom_localHost (s : State) (cause k a due : Nat) : (s.lateFrom cause k a due).localHost = s.localHost := by
  simp [lateFrom]
@[simp] theorem lateFrom_remoteHost (s : State) (cause k a due : Nat) : (s.lateFrom cause k a due).remoteHost = s.remoteHost := by
  simp [lateFrom]
@[simp] theorem lateFrom_flight (s : State) (cause k a due : Nat) : (s.lateFrom cause k a due).flight = s.flight := by
  simp [lateFrom]
@[simp] theorem lateFrom_posted (s : State) (cause k a due : Nat) : (s.lateFrom cause k a due).posted = s.posted := by
  simp [lateFrom]
@[simp] theorem lateFrom_postSeq (s : State) (cause k a due : Nat) : (s.lateFrom cause k a due).postSeq = s.postSeq := by
  simp [lateFrom]
@[simp] theorem lateFrom_mem (s : State) (cause k a due : Nat) : (s.lateFrom cause k a due).mem = s.mem := by
  simp [lateFrom]
@[simp] theorem lateFrom_memc (s : State) (cause k a due : Nat) : (s.lateFrom cause k a due).memc = s.memc := by
  simp [lateFrom]
@[simp] theorem lateFrom_tbu (s : State) (cause k a due : Nat) : (s.lateFrom cause k a due).tbu = s.tbu := by
  simp [lateFrom]
@[simp] theorem lateFrom_col (s : State) (cause k a due : Nat) : (s.lateFrom cause k a due).col = s.col := by
  simp [lateFrom]
@[simp] theorem lateFrom_macs (s : State) (cause k a due : Nat) : (s.lateFrom cause k a due).macs = s.macs := by
  simp [lateFrom]
@[simp] theorem lateFrom_massif (s : State) (cause k a due : Nat) : (s.lateFrom cause k a due).massif = s.massif := by
  simp [lateFrom]
@[simp] theorem lateFrom_sts (s : State) (cause k a due : Nat) : (s.lateFrom cause k a due).sts = s.sts := by
  simp [lateFrom]
@[simp] theorem lateFrom_tal (s : State) (cause k a due : Nat) : (s.lateFrom cause k a due).tal = s.tal := by
  simp [lateFrom]
@[simp] theorem lateFrom_rl (s : State) (cause k a due : Nat) : (s.lateFrom cause k a due).rl = s.rl := by
  simp [lateFrom]
@[simp] theorem lateFrom_cans (s : State) (cause k a due : Nat) : (s.lateFrom cause k a due).cans = s.cans := by
  simp [lateFrom]
@[simp] theorem lateFrom_tor (s : State) (cause k a due : Nat) : (s.lateFrom cause k a due).tor = s.tor := by
  simp [lateFrom]
@[simp] theorem lateFrom_fwc (s : State) (cause k a due : Nat) : (s.lateFrom cause k a due).fwc = s.fwc := by
  simp [lateFrom]
@[simp] theorem lateFrom_engines (s : State) (cause k a due : Nat) : (s.lateFrom cause k a due).engines = s.engines := by
  simp [lateFrom]
@[simp] theorem lateFrom_pairs (s : State) (cause k a due : Nat) : (s.lateFrom cause k a due).pairs = s.pairs := by
  simp [lateFrom]

/-! late -/

@[simp] theorem late_pending (s : State) (k a due : Nat) : (s.late k a due).pending = s.pending := by
  simp [late]
@[simp] theorem late_clk (s : State) (k a due : Nat) : (s.late k a due).clk = s.clk := by
  simp [late]
@[simp] theorem late_freeCtr (s : State) (k a due : Nat) : (s.late k a due).freeCtr = s.freeCtr := by
  simp [late]
@[simp] theorem late_act (s : State) (k a due : Nat) : (s.late k a due).act = s.act := by
  simp [late]
@[simp] theorem late_agentRegs (s : State) (k a due : Nat) : (s.late k a due).agentRegs = s.agentRegs := by
  simp [late]
@[simp] theorem late_held (s : State) (k a due : Nat) : (s.late k a due).held = s.held := by
  simp [late]
@[simp] theorem late_fuses (s : State) (k a due : Nat) : (s.late k a due).fuses = s.fuses := by
  simp [late]
@[simp] theorem late_straps (s : State) (k a due : Nat) : (s.late k a due).straps = s.straps := by
  simp [late]
@[simp] theorem late_localHost (s : State) (k a due : Nat) : (s.late k a due).localHost = s.localHost := by
  simp [late]
@[simp] theorem late_remoteHost (s : State) (k a due : Nat) : (s.late k a due).remoteHost = s.remoteHost := by
  simp [late]
@[simp] theorem late_flight (s : State) (k a due : Nat) : (s.late k a due).flight = s.flight := by
  simp [late]
@[simp] theorem late_posted (s : State) (k a due : Nat) : (s.late k a due).posted = s.posted := by
  simp [late]
@[simp] theorem late_postSeq (s : State) (k a due : Nat) : (s.late k a due).postSeq = s.postSeq := by
  simp [late]
@[simp] theorem late_mem (s : State) (k a due : Nat) : (s.late k a due).mem = s.mem := by
  simp [late]
@[simp] theorem late_memc (s : State) (k a due : Nat) : (s.late k a due).memc = s.memc := by
  simp [late]
@[simp] theorem late_tbu (s : State) (k a due : Nat) : (s.late k a due).tbu = s.tbu := by
  simp [late]
@[simp] theorem late_col (s : State) (k a due : Nat) : (s.late k a due).col = s.col := by
  simp [late]
@[simp] theorem late_macs (s : State) (k a due : Nat) : (s.late k a due).macs = s.macs := by
  simp [late]
@[simp] theorem late_massif (s : State) (k a due : Nat) : (s.late k a due).massif = s.massif := by
  simp [late]
@[simp] theorem late_sts (s : State) (k a due : Nat) : (s.late k a due).sts = s.sts := by
  simp [late]
@[simp] theorem late_tal (s : State) (k a due : Nat) : (s.late k a due).tal = s.tal := by
  simp [late]
@[simp] theorem late_rl (s : State) (k a due : Nat) : (s.late k a due).rl = s.rl := by
  simp [late]
@[simp] theorem late_cans (s : State) (k a due : Nat) : (s.late k a due).cans = s.cans := by
  simp [late]
@[simp] theorem late_tor (s : State) (k a due : Nat) : (s.late k a due).tor = s.tor := by
  simp [late]
@[simp] theorem late_fwc (s : State) (k a due : Nat) : (s.late k a due).fwc = s.fwc := by
  simp [late]
@[simp] theorem late_engines (s : State) (k a due : Nat) : (s.late k a due).engines = s.engines := by
  simp [late]
@[simp] theorem late_pairs (s : State) (k a due : Nat) : (s.late k a due).pairs = s.pairs := by
  simp [late]

/-! writeGeneric -/

@[simp] theorem writeGeneric_pending (s : State) (a o : Nat) (w : Word) : (s.writeGeneric a o w).pending = s.pending := by
  unfold writeGeneric; split
  · rfl
  · dsimp only; split <;> simp
@[simp] theorem writeGeneric_clk (s : State) (a o : Nat) (w : Word) : (s.writeGeneric a o w).clk = s.clk := by
  unfold writeGeneric; split
  · rfl
  · dsimp only; split <;> simp
@[simp] theorem writeGeneric_freeCtr (s : State) (a o : Nat) (w : Word) : (s.writeGeneric a o w).freeCtr = s.freeCtr := by
  unfold writeGeneric; split
  · rfl
  · dsimp only; split <;> simp
@[simp] theorem writeGeneric_act (s : State) (a o : Nat) (w : Word) : (s.writeGeneric a o w).act = s.act := by
  unfold writeGeneric; split
  · rfl
  · dsimp only; split <;> simp
@[simp] theorem writeGeneric_agentRegs (s : State) (a o : Nat) (w : Word) : (s.writeGeneric a o w).agentRegs = s.agentRegs := by
  unfold writeGeneric; split
  · rfl
  · dsimp only; split <;> simp
@[simp] theorem writeGeneric_held (s : State) (a o : Nat) (w : Word) : (s.writeGeneric a o w).held = s.held := by
  unfold writeGeneric; split
  · rfl
  · dsimp only; split <;> simp
@[simp] theorem writeGeneric_fuses (s : State) (a o : Nat) (w : Word) : (s.writeGeneric a o w).fuses = s.fuses := by
  unfold writeGeneric; split
  · rfl
  · dsimp only; split <;> simp
@[simp] theorem writeGeneric_straps (s : State) (a o : Nat) (w : Word) : (s.writeGeneric a o w).straps = s.straps := by
  unfold writeGeneric; split
  · rfl
  · dsimp only; split <;> simp
@[simp] theorem writeGeneric_localHost (s : State) (a o : Nat) (w : Word) : (s.writeGeneric a o w).localHost = s.localHost := by
  unfold writeGeneric; split
  · rfl
  · dsimp only; split <;> simp
@[simp] theorem writeGeneric_remoteHost (s : State) (a o : Nat) (w : Word) : (s.writeGeneric a o w).remoteHost = s.remoteHost := by
  unfold writeGeneric; split
  · rfl
  · dsimp only; split <;> simp
@[simp] theorem writeGeneric_flight (s : State) (a o : Nat) (w : Word) : (s.writeGeneric a o w).flight = s.flight := by
  unfold writeGeneric; split
  · rfl
  · dsimp only; split <;> simp
@[simp] theorem writeGeneric_posted (s : State) (a o : Nat) (w : Word) : (s.writeGeneric a o w).posted = s.posted := by
  unfold writeGeneric; split
  · rfl
  · dsimp only; split <;> simp
@[simp] theorem writeGeneric_postSeq (s : State) (a o : Nat) (w : Word) : (s.writeGeneric a o w).postSeq = s.postSeq := by
  unfold writeGeneric; split
  · rfl
  · dsimp only; split <;> simp
@[simp] theorem writeGeneric_mem (s : State) (a o : Nat) (w : Word) : (s.writeGeneric a o w).mem = s.mem := by
  unfold writeGeneric; split
  · rfl
  · dsimp only; split <;> simp
@[simp] theorem writeGeneric_memc (s : State) (a o : Nat) (w : Word) : (s.writeGeneric a o w).memc = s.memc := by
  unfold writeGeneric; split
  · rfl
  · dsimp only; split <;> simp
@[simp] theorem writeGeneric_tbu (s : State) (a o : Nat) (w : Word) : (s.writeGeneric a o w).tbu = s.tbu := by
  unfold writeGeneric; split
  · rfl
  · dsimp only; split <;> simp
@[simp] theorem writeGeneric_col (s : State) (a o : Nat) (w : Word) : (s.writeGeneric a o w).col = s.col := by
  unfold writeGeneric; split
  · rfl
  · dsimp only; split <;> simp
@[simp] theorem writeGeneric_strata (s : State) (a o : Nat) (w : Word) : (s.writeGeneric a o w).strata = s.strata := by
  unfold writeGeneric; split
  · rfl
  · dsimp only; split <;> simp
@[simp] theorem writeGeneric_macs (s : State) (a o : Nat) (w : Word) : (s.writeGeneric a o w).macs = s.macs := by
  unfold writeGeneric; split
  · rfl
  · dsimp only; split <;> simp
@[simp] theorem writeGeneric_massif (s : State) (a o : Nat) (w : Word) : (s.writeGeneric a o w).massif = s.massif := by
  unfold writeGeneric; split
  · rfl
  · dsimp only; split <;> simp
@[simp] theorem writeGeneric_sts (s : State) (a o : Nat) (w : Word) : (s.writeGeneric a o w).sts = s.sts := by
  unfold writeGeneric; split
  · rfl
  · dsimp only; split <;> simp
@[simp] theorem writeGeneric_tal (s : State) (a o : Nat) (w : Word) : (s.writeGeneric a o w).tal = s.tal := by
  unfold writeGeneric; split
  · rfl
  · dsimp only; split <;> simp
@[simp] theorem writeGeneric_rl (s : State) (a o : Nat) (w : Word) : (s.writeGeneric a o w).rl = s.rl := by
  unfold writeGeneric; split
  · rfl
  · dsimp only; split <;> simp
@[simp] theorem writeGeneric_cans (s : State) (a o : Nat) (w : Word) : (s.writeGeneric a o w).cans = s.cans := by
  unfold writeGeneric; split
  · rfl
  · dsimp only; split <;> simp
@[simp] theorem writeGeneric_tor (s : State) (a o : Nat) (w : Word) : (s.writeGeneric a o w).tor = s.tor := by
  unfold writeGeneric; split
  · rfl
  · dsimp only; split <;> simp
@[simp] theorem writeGeneric_fwc (s : State) (a o : Nat) (w : Word) : (s.writeGeneric a o w).fwc = s.fwc := by
  unfold writeGeneric; split
  · rfl
  · dsimp only; split <;> simp
@[simp] theorem writeGeneric_engines (s : State) (a o : Nat) (w : Word) : (s.writeGeneric a o w).engines = s.engines := by
  unfold writeGeneric; split
  · rfl
  · dsimp only; split <;> simp
@[simp] theorem writeGeneric_pairs (s : State) (a o : Nat) (w : Word) : (s.writeGeneric a o w).pairs = s.pairs := by
  unfold writeGeneric; split
  · rfl
  · dsimp only; split <;> simp

/-! elapse, advanceTo, advanceToTime, expire: each lets time pass and does nothing else, so what holds of `advance` holds of it -/

theorem elapse_eq_advance (s : State) (d : Nat) : s.elapse d = s.advance (s.untilPll d) := rfl

theorem advanceTo_clk (s : State) (c : Nat) : (s.advanceTo c).clk = max s.clk c := by
  simp only [advanceTo, advance_clk]; omega

theorem advance_time (s : State) (d : Nat) :
    (s.advance d).tbu.time = if s.tbu.running then s.tbu.time + d else s.tbu.time := rfl

theorem advanceToTime_running (s : State) (t : Nat) (h : s.tbu.running = true) :
    s.advanceToTime t = s.advance (t - s.tbu.time) := if_pos h

theorem expire_eq_advance (s : State) (c : Nat) : ∃ d, s.expire c = s.advance d := by
  unfold expire; split
  · exact ⟨_, rfl⟩
  · exact ⟨_, rfl⟩

/-- A timeout fires at its expiry instant or later (R51). -/
theorem expire_clk_ge (s : State) (c : Nat) : c ≤ (s.expire c).clk ∧ s.clk ≤ (s.expire c).clk := by
  unfold expire tickAt; split
  · simp only [advance_clk]; omega
  · simp only [advanceTo_clk]; omega

/-- While full time runs, a timeout of the present or a later tick fires at the end of a tick (R51). -/
theorem expire_time (s : State) (c : Nat) (h : s.tbu.running = true) (hc : s.tick ≤ s.tickAt c) :
    (s.expire c).tbu.time = ((s.tickAt c + 1) * 128).toNat := by
  unfold tick at hc
  unfold expire
  rw [if_pos h, advance_time, if_pos h]
  omega

end Sys2Proof.Machine.State
end

