-- ==== Sys2Proof/Laws/Tab.lean ====
section
/-! SUPPORT. The laws of sparse tables: a read after a write, and that every operation keeps the canonical form. -/
namespace Sys2Proof.Tab
variable {α : Type}

theorem get_insert_same (d : α) (k : Nat) (v : α) (t : Tab α) : get d k (insert k v t) = v := by
  induction t with
  | nil => simp [insert, get]
  | cons e r ih =>
    obtain ⟨k', v'⟩ := e
    by_cases h1 : k' = k
    · simp [insert, get, h1]
    · by_cases h2 : k < k' <;> simp [insert, get, h1, h2, ih]

theorem get_insert_ne (d : α) {j k : Nat} (h : j ≠ k) (v : α) (t : Tab α) : get d j (insert k v t) = get d j t := by
  have hk : k ≠ j := fun e => h e.symm
  induction t with
  | nil => simp [insert, get, hk]
  | cons e r ih =>
    obtain ⟨k', v'⟩ := e
    by_cases h1 : k' = k
    · subst h1; simp [insert, get, hk]
    · by_cases h2 : k < k'
      · simp [insert, get, h1, h2, hk]
      · simp [insert, get, h1, h2, ih]

theorem get_remove_same (d : α) (k : Nat) (t : Tab α) : get d k (t.filter (fun e => e.1 != k)) = d := by
  induction t with
  | nil => rfl
  | cons e r ih =>
    obtain ⟨k', v'⟩ := e
    by_cases h : k' = k <;> simp [h, get, ih]

theorem get_remove_ne (d : α) {j k : Nat} (h : j ≠ k) (t : Tab α) :
    get d j (t.filter (fun e => e.1 != k)) = get d j t := by
  have hk : k ≠ j := fun e => h e.symm
  induction t with
  | nil => rfl
  | cons e r ih =>
    obtain ⟨k', v'⟩ := e
    by_cases h1 : k' = k
    · subst h1; simp [get, hk, ih]
    · simp [h1, get, ih]

theorem above_of_le {j k : Nat} (h : j ≤ k) {t : Tab α} (ha : above k t = true) : above j t = true := by
  cases t with
  | nil => rfl
  | cons e r => simp [above] at ha ⊢; omega

variable [DecidableEq α]

/-- put by cases of the value alone. -/
theorem put_eq (d : α) (k : Nat) (v : α) (t : Tab α) :
    put d k v t = if v = d then t.filter (fun x => x.1 != k) else insert k v t := by
  cases t <;> simp [put, insert]

/-- A read of the key just written gives the value written. -/
@[simp] theorem get_put_same (d : α) (k : Nat) (v : α) (t : Tab α) : get d k (put d k v t) = v := by
  rw [put_eq]
  split
  · next h => rw [get_remove_same, h]
  · exact get_insert_same d k v t

/-- A read of another key gives what it gave before; unlisted keys may read differently from each other. -/
theorem get_put_ne (d d' : α) {j k : Nat} (h : j ≠ k) (v : α) (t : Tab α) : get d j (put d' k v t) = get d j t := by
  rw [put_eq]
  split
  · exact get_remove_ne d h t
  · exact get_insert_ne d h v t

/-- Both laws at once. -/
theorem get_put (d : Nat → α) (j k : Nat) (v : α) (t : Tab α) :
    get (d j) j (put (d k) k v t) = if j = k then v else get (d j) j t := by
  split
  · next h => subst h; exact get_put_same _ _ _ _
  · next h => exact get_put_ne _ _ h _ _

theorem above_filter (p : Nat × α → Bool) {j : Nat} : (t : Tab α) → (d : Nat → α) → wf d t = true → above j t = true →
    above j (t.filter p) = true
  | [], _, _, _ => rfl
  | (k, v) :: r, d, h, ha => by
    simp only [wf, Bool.and_eq_true] at h
    simp only [above, decide_eq_true_eq] at ha
    by_cases hp : p (k, v)
    · simp [List.filter, hp, above, ha]
    · simp only [List.filter, hp]
      exact above_filter p r d h.2 (above_of_le (by omega) h.1.1)

/-- Leaving entries out keeps the canonical form. -/
theorem wf_filter (d : Nat → α) (p : Nat × α → Bool) : (t : Tab α) → wf d t = true → wf d (t.filter p) = true
  | [], _ => rfl
  | (k, v) :: r, h => by
    simp only [wf, Bool.and_eq_true, decide_eq_true_eq] at h
    obtain ⟨⟨ha, hv⟩, hr⟩ := h
    by_cases hp : p (k, v)
    · simp [List.filter, hp, wf, hv, above_filter p r d hr ha, wf_filter d p r hr]
    · simp only [List.filter, hp]
      exact wf_filter d p r hr

/-- Dropping keys keeps the canonical form. -/
theorem wf_drop (d : Nat → α) (p : Nat → Bool) (t : Tab α) (h : wf d t = true) : wf d (drop p t) = true := wf_filter d _ t h

omit [DecidableEq α] in
theorem above_insert {j k : Nat} (hjk : j < k) (v : α) {t : Tab α} (ha : above j t = true) :
    above j (insert k v t) = true := by
  cases t with
  | nil => simp [insert, above, hjk]
  | cons e r =>
    obtain ⟨k', v'⟩ := e
    simp only [above, decide_eq_true_eq] at ha
    by_cases h1 : k' = k
    · simp [insert, h1, above, hjk]
    · by_cases h2 : k < k' <;> simp [insert, h1, h2, above, ha, hjk]

theorem wf_insert (d : Nat → α) (k : Nat) (v : α) (hv : v ≠ d k) (t : Tab α) (h : wf d t = true) :
    wf d (insert k v t) = true := by
  induction t with
  | nil => simp [insert, wf, above, hv]
  | cons e r ih =>
    obtain ⟨k', v'⟩ := e
    simp only [wf, Bool.and_eq_true, decide_eq_true_eq] at h
    obtain ⟨⟨ha, hv'⟩, hr⟩ := h
    by_cases h1 : k' = k
    · subst h1
      simp [insert, wf, ha, hv, hr]
    · by_cases h2 : k < k'
      · have h3 : above k ((k', v') :: r) = true := by simp [above, h2]
        simp [insert, h1, h2, wf, h3, hv, ha, hv', hr]
      · have h4 := above_insert (show k' < k by omega) v ha
        simp [insert, h1, h2, wf, h4, hv', ih hr]

/-- A write keeps the canonical form. -/
theorem wf_put (d : Nat → α) (k : Nat) (v : α) (t : Tab α) (h : wf d t = true) : wf d (put (d k) k v t) = true := by
  rw [put_eq]
  split
  · exact wf_filter d _ t h
  · next hv => exact wf_insert d k v hv t h

end Sys2Proof.Tab
end

