-- ==== Sys2Proof/Laws/Word.lean ====
section
/-! SUPPORT. The laws of bit fields: a field reads as it was set, and setting it leaves every other field alone. -/
namespace Sys2Proof.Word

/-- The number that setField builds. -/
theorem setField_toNat (w : Word) {hi lo : Nat} (v : Nat) (h : lo ≤ hi) (h36 : hi < 36) :
    (w.setField hi lo v).toNat
      = (w.toNat / 2 ^ (hi + 1) * 2 ^ (hi + 1 - lo) + v % 2 ^ (hi + 1 - lo)) * 2 ^ lo + w.toNat % 2 ^ lo := by
  have e : 2 ^ (hi + 1) = 2 ^ (hi + 1 - lo) * 2 ^ lo := by rw [← pow_add]; congr 1; omega
  have hw := w.isLt
  have hx : w.toNat / 2 ^ (hi + 1) < 2 ^ (36 - (hi + 1)) := by
    rw [Nat.div_lt_iff_lt_mul (by positivity), ← pow_add]
    calc w.toNat < 2 ^ 36 := hw
      _ = _ := by congr 1; omega
  have hv : v % 2 ^ (hi + 1 - lo) < 2 ^ (hi + 1 - lo) := Nat.mod_lt _ (by positivity)
  have hl : w.toNat % 2 ^ lo < 2 ^ lo := Nat.mod_lt _ (by positivity)
  unfold setField ofN
  rw [BitVec.toNat_ofNat, Nat.mod_eq_of_lt]
  · rw [e]; ring
  · generalize w.toNat / 2 ^ (hi + 1) = a at *
    generalize v % 2 ^ (hi + 1 - lo) = b at *
    generalize w.toNat % 2 ^ lo = c at *
    have h1 : b * 2 ^ lo + c < 2 ^ (hi + 1) := by
      rw [e]
      calc b * 2 ^ lo + c < b * 2 ^ lo + 2 ^ lo := by omega
        _ = (b + 1) * 2 ^ lo := by ring
        _ ≤ _ := Nat.mul_le_mul_right _ hv
    calc a * 2 ^ (hi + 1) + b * 2 ^ lo + c < (a + 1) * 2 ^ (hi + 1) := by rw [add_mul]; omega
      _ ≤ 2 ^ (36 - (hi + 1)) * 2 ^ (hi + 1) := Nat.mul_le_mul_right _ hx
      _ = 2 ^ 36 := by rw [← pow_add]; congr 1; omega

theorem field_lt (w : Word) (hi lo : Nat) : w.field hi lo < 2 ^ (hi + 1 - lo) := Nat.mod_lt _ (by positivity)

/-- A field reads as it was set. -/
theorem field_setField_same (w : Word) {hi lo : Nat} (v : Nat) (h : lo ≤ hi) (h36 : hi < 36) :
    (w.setField hi lo v).field hi lo = v % 2 ^ (hi + 1 - lo) := by
  have hl : w.toNat % 2 ^ lo < 2 ^ lo := Nat.mod_lt _ (by positivity)
  unfold field
  rw [setField_toNat w v h h36, Nat.mul_comm _ (2 ^ lo), Nat.mul_add_div (by positivity), Nat.div_eq_of_lt hl, Nat.add_zero,
    Nat.mul_add_mod_self_right, Nat.mod_mod]

/-- A field above the one set is left alone. -/
theorem field_setField_above (w : Word) {hi lo hi' lo' : Nat} (v : Nat) (h : lo ≤ hi) (h36 : hi < 36) (ha : hi < lo') :
    (w.setField hi lo v).field hi' lo' = w.field hi' lo' := by
  have hl : w.toNat % 2 ^ lo < 2 ^ lo := Nat.mod_lt _ (by positivity)
  have hv : v % 2 ^ (hi + 1 - lo) < 2 ^ (hi + 1 - lo) := Nat.mod_lt _ (by positivity)
  have e : 2 ^ lo' = 2 ^ lo * (2 ^ (hi + 1 - lo) * 2 ^ (lo' - (hi + 1))) := by
    rw [← pow_add, ← pow_add]; congr 1; omega
  have e2 : 2 ^ lo' = 2 ^ (hi + 1) * 2 ^ (lo' - (hi + 1)) := by rw [← pow_add]; congr 1; omega
  unfold field
  congr 1
  conv_rhs => rw [e2, ← Nat.div_div_eq_div_mul]
  conv_lhs => rw [e, ← Nat.div_div_eq_div_mul, ← Nat.div_div_eq_div_mul]
  rw [setField_toNat w v h h36, Nat.mul_comm _ (2 ^ lo), Nat.mul_add_div (by positivity), Nat.div_eq_of_lt hl, Nat.add_zero,
    Nat.mul_comm _ (2 ^ (hi + 1 - lo)), Nat.mul_add_div (by positivity), Nat.div_eq_of_lt hv, Nat.add_zero]

/-- A field below the one set is left alone. -/
theorem field_setField_below (w : Word) {hi lo hi' lo' : Nat} (v : Nat) (h : lo ≤ hi) (h36 : hi < 36) (hb : hi' < lo)
    (hl' : lo' ≤ hi') : (w.setField hi lo v).field hi' lo' = w.field hi' lo' := by
  unfold field
  have e : 2 ^ lo = 2 ^ lo' * (2 ^ (hi' + 1 - lo') * 2 ^ (lo - (hi' + 1))) := by
    rw [← pow_add, ← pow_add]; congr 1; omega
  rw [← Nat.mod_mul_right_div_self, ← Nat.mod_mul_right_div_self]
  congr 1
  rw [setField_toNat w v h h36]
  have e2 : 2 ^ lo = 2 ^ lo' * 2 ^ (hi' + 1 - lo') * 2 ^ (lo - (hi' + 1)) := by rw [e]; ring
  conv_lhs => rw [show ∀ a : Nat, a * 2 ^ lo = 2 ^ lo' * 2 ^ (hi' + 1 - lo') * (2 ^ (lo - (hi' + 1)) * a) from fun a => by
    rw [e2]; ring]
  rw [Nat.mul_add_mod, e2, Nat.mod_mul_right_mod]

/-- One bit of a field set as a bit. -/
theorem bit_setField_same (w : Word) (i : Nat) (b : Bool) (h : i < 36) : (w.setField i i (bit01 b)).bit i = b := by
  unfold bit
  rw [field_setField_same w _ (le_refl i) h]
  cases b <;> simp [bit01]

/-- Setting one bit leaves the others alone. -/
theorem bit_setField_ne (w : Word) {i j : Nat} (v : Nat) (h : i < 36) (hne : j ≠ i) : (w.setField i i v).bit j = w.bit j := by
  unfold bit
  rcases Nat.lt_or_gt_of_ne hne with h1 | h1
  · rw [field_setField_below w v (le_refl i) h h1 (le_refl j)]
  · rw [field_setField_above w v (le_refl i) h h1]

end Sys2Proof.Word
end

