-- ==== Sys2Proof/Laws/Reg.lean ====
section
/-! SUPPORT. Register words and fields read as they were written, and a write leaves every other word and field alone. -/
namespace Sys2Proof.Machine.State

/-- A register reads as it was written. -/
@[simp] theorem reg_setReg_same (s : State) (o : Nat) (w : Word) : (s.setReg o w).reg o = w :=
  Tab.get_put_same _ _ _ _

/-- A write leaves every other register alone. -/
theorem reg_setReg_ne (s : State) {o o' : Nat} (h : o' ≠ o) (w : Word) : (s.setReg o w).reg o' = s.reg o' :=
  Tab.get_put_ne _ _ h _ _

theorem reg_setReg (s : State) (o o' : Nat) (w : Word) : (s.setReg o w).reg o' = if o' = o then w else s.reg o' := by
  split
  · next h => subst h; simp
  · next h => exact reg_setReg_ne s h w

/-- A word kept once per agent reads as it was written. -/
@[simp] theorem agentReg_setAgentReg_same (s : State) (a o : Nat) (w : Word) : (s.setAgentReg a o w).agentReg a o = w :=
  Tab.get_put_same _ _ _ _

/-- A field reads as it was written. -/
theorem fld_setFld_same (s : State) (f : Fld) (v : Nat) (h : f.lo ≤ f.hi) (h36 : f.hi < 36) :
    (s.setFld f v).fld f = v % 2 ^ (f.hi + 1 - f.lo) := by
  unfold fld setFld
  rw [reg_setReg_same, Word.field_setField_same _ _ h h36]

/-- A field of another register is left alone. -/
theorem fld_setFld_off (s : State) {f g : Fld} (v : Nat) (h : g.off ≠ f.off) : (s.setFld f v).fld g = s.fld g := by
  unfold fld setFld
  rw [reg_setReg_ne s h]

/-- A higher field is left alone. -/
theorem fld_setFld_above (s : State) {f g : Fld} (v : Nat) (h : f.lo ≤ f.hi) (h36 : f.hi < 36) (ha : f.hi < g.lo) :
    (s.setFld f v).fld g = s.fld g := by
  unfold fld setFld
  rw [reg_setReg]
  split
  · next e => rw [Word.field_setField_above _ _ h h36 ha, e]
  · rfl

/-- A lower field is left alone. -/
theorem fld_setFld_below (s : State) {f g : Fld} (v : Nat) (h : f.lo ≤ f.hi) (h36 : f.hi < 36) (hb : g.hi < f.lo)
    (hg : g.lo ≤ g.hi) : (s.setFld f v).fld g = s.fld g := by
  unfold fld setFld
  rw [reg_setReg]
  split
  · next e => rw [Word.field_setField_below _ _ h h36 hb hg, e]
  · rfl

/-- Setting a field leaves every other register alone. -/
theorem reg_setFld_ne (s : State) {f : Fld} {o : Nat} (v : Nat) (h : o ≠ f.off) : (s.setFld f v).reg o = s.reg o :=
  reg_setReg_ne s h _

/-- Writes keep the register words canonical. -/
theorem regsWf_setReg (s : State) (o : Nat) (w : Word) (h : Tab.wf resetWord s.regs = true) :
    Tab.wf resetWord (s.setReg o w).regs = true := Tab.wf_put resetWord o w s.regs h

/-- What left the device is no register. -/
@[simp] theorem reg_emit (s : State) (x : Out) (o : Nat) : (s.emit x).reg o = s.reg o := by simp [reg]
@[simp] theorem fld_emit (s : State) (x : Out) (f : Fld) : (s.emit x).fld f = s.fld f := by simp [fld]
@[simp] theorem reg_advance (s : State) (d o : Nat) : (s.advance d).reg o = s.reg o := by simp [reg]
@[simp] theorem fld_advance (s : State) (d : Nat) (f : Fld) : (s.advance d).fld f = s.fld f := by simp [fld]
@[simp] theorem reg_post (s : State) (k sel arg due a o : Nat) : (s.post k sel arg due a).reg o = s.reg o := rfl
@[simp] theorem fld_post (s : State) (k sel arg due a : Nat) (f : Fld) : (s.post k sel arg due a).fld f = s.fld f := rfl

/-- A command that finds the device running has its effect; while power-on reset holds the device nothing acts (R450). -/
theorem live_run (s : State) (f : State → State) (h : s.held = false) : live s f = .next (f s) := by simp [live, h]
theorem live_held (s : State) (f : State → State) (h : s.held = true) : live s f = .next s := by simp [live, h]

/-- Every answer of live is a next state. -/
theorem live_next (s : State) (f : State → State) : ∃ t, live s f = .next t := ⟨_, rfl⟩

/-- Raising an event sets its status bit (R440). -/
theorem emit_read (s : State) (a : Nat) (w : Word) (p : Bool) : (s.emit (.read a w p)).outs = .read a w p :: s.outs := by
  simp [emit, atBalls]

end Sys2Proof.Machine.State
end

