-- ==== Sys2Proof/Laws/Report.lean ====
section
/-! SUPPORT. Raising an event, refusing a write and reporting to the fault log change registers of the event controller, the
fault log, the scheduler and power control only, and of global control what they name. -/
namespace Sys2Proof.Machine.State

/-- An offset outside the blocks that events and reports write: EVC, Strata, Talus and PRC. -/
def Far (o : Nat) : Prop := o / 0x10000 ≠ 1 ∧ o / 0x10000 ≠ 3 ∧ o / 0x10000 ≠ 4 ∧ o / 0x10000 ≠ 9

theorem foldl_inv {α : Type} (P : State → Prop) (f : State → α → State) (h : ∀ s a, P s → P (f s a)) (l : List α)
    (s : State) (hs : P s) : P (l.foldl f s) := by
  induction l generalizing s with
  | nil => exact hs
  | cons a r ih => exact ih _ (h s a hs)

/-- Two states with the same register words read alike. -/
theorem reg_congr {s t : State} (h : t.regs = s.regs) (o : Nat) : t.reg o = s.reg o := by simp [reg, h]
theorem fld_congr {s t : State} (h : t.regs = s.regs) (f : Fld) : t.fld f = s.fld f := by simp [fld, reg, h]

@[simp] theorem reg_tmuxEdge (s : State) (sel arg : Nat) (v : Bool) (t o : Nat) :
    (s.tmuxEdge sel arg v t).reg o = s.reg o := reg_congr (by simp) o
@[simp] theorem reg_tmuxPulse (s : State) (sel arg t w o : Nat) : (s.tmuxPulse sel arg t w).reg o = s.reg o :=
  reg_congr (by simp) o

theorem setFld_off (s : State) (f : Fld) (v o : Nat) (h : o ≠ f.off) : (s.setFld f v).reg o = s.reg o := reg_setFld_ne s v h
theorem bump_off (s : State) (f : Fld) (v o : Nat) (h : o ≠ f.off) : (s.bump f v).reg o = s.reg o := reg_setFld_ne s _ h
theorem bumpSat_off (s : State) (f : Fld) (v o : Nat) (h : o ≠ f.off) : (s.bumpSat f v).reg o = s.reg o :=
  reg_setFld_ne s _ h

/-- A wake request changes its cluster's status only. -/
theorem reg_wake (s : State) (m : Nat) {o : Nat} (h : o ≠ Reg.PRC_CLS_STAT m) : (s.wake m).reg o = s.reg o := by
  have hA : o ≠ (Reg.PRC_CLS_STAT_STATE m).off := h
  have hB : o ≠ (Reg.PRC_CLS_STAT_ABORTS m).off := h
  unfold wake
  split
  · exact reg_congr rfl o
  · split
    · rw [bump_off _ _ _ _ hB, setFld_off _ _ _ _ hA]
    · split
      · exact reg_congr rfl o
      · rw [bump_off _ _ _ _ hB, setFld_off _ _ _ _ hA]
    · exact (reg_congr rfl o).trans (setFld_off _ _ _ _ hA)
    · exact (reg_congr rfl o).trans (setFld_off _ _ _ _ hA)
    · exact (reg_congr rfl o).trans (setFld_off _ _ _ _ hA)
    · rfl

/-- Judging a task changes the status of a cluster only. -/
theorem reg_judgeTask (s : State) (t : Nat) {o : Nat} (h : o / 0x10000 ≠ 9) : (s.judgeTask t).reg o = s.reg o := by
  unfold judgeTask
  split
  · split
    · rfl
    · dsimp only
      split
      · next hm =>
        rw [reg_wake _ _ (by unfold Reg.PRC_CLS_STAT; omega)]
        exact reg_congr rfl o
      · exact reg_congr rfl o
  · exact reg_congr rfl o

/-- Setting or clearing a task flag changes that task's flags and the status of a cluster only. -/
theorem reg_taskFlag (s : State) (t f : Nat) (v : Bool) {o : Nat} (h : o ≠ Reg.TALUS_TEVT t) (h9 : o / 0x10000 ≠ 9) :
    (s.taskFlag t f v).reg o = s.reg o := by
  unfold taskFlag
  rw [reg_judgeTask _ _ h9]
  unfold putFlag
  split
  · rfl
  · exact reg_setReg_ne s h _

theorem fld_lt_top (s : State) (f : Fld) : s.fld f < 2 ^ (f.hi + 1 - f.lo) := Word.field_lt _ _ _

/-- Marking an event changes registers of EVC, Talus and PRC only. -/
theorem reg_noteRemote (s : State) (e : Nat) {o : Nat} (h : o ≠ Reg.EVC_RSTAT (e / 32)) :
    (s.noteRemote e).reg o = s.reg o := by
  unfold noteRemote
  split
  · dsimp only
    split
    · exact reg_setReg_ne s h _
    · exact (reg_congr rfl o).trans (reg_setReg_ne s h _)
  · rfl

theorem reg_flagSteward (s : State) (e : Nat) {o : Nat} (h4 : o / 0x10000 ≠ 4) (h9 : o / 0x10000 ≠ 9) :
    (s.flagSteward e).reg o = s.reg o := by
  have h := fld_lt_top s Reg.EVC_CTRL_STW_TASK
  simp only [Reg.EVC_CTRL_STW_TASK] at h
  unfold flagSteward
  split
  · exact reg_taskFlag s _ _ _ (by unfold Reg.TALUS_TEVT; simp only [Reg.EVC_CTRL_STW_TASK]; omega) h9
  · rfl

theorem reg_markEvent (s : State) (e : Nat) {o : Nat} (he : e < 256) (h1 : o / 0x10000 ≠ 1) (h4 : o / 0x10000 ≠ 4)
    (h9 : o / 0x10000 ≠ 9) : (s.markEvent e).reg o = s.reg o := by
  have a1 : o ≠ Reg.EVC_STAT (e / 32) := by unfold Reg.EVC_STAT; omega
  have a2 : o ≠ Reg.EVC_RSTAT (e / 32) := by unfold Reg.EVC_RSTAT; omega
  unfold markEvent
  rw [reg_flagSteward _ _ h4 h9, reg_noteRemote _ _ a2, reg_setReg_ne s a1]

/-- Raising an event changes registers of EVC, Talus and PRC only. -/
theorem reg_raise (s : State) (e : Nat) {o : Nat} (he : e < 256) (h1 : o / 0x10000 ≠ 1) (h4 : o / 0x10000 ≠ 4)
    (h9 : o / 0x10000 ≠ 9) : (s.raise e).reg o = s.reg o := by
  unfold raise
  dsimp only
  split
  · rw [reg_congr (sendVector_regs _ _), reg_markEvent s e he h1 h4 h9]
  · exact reg_markEvent s e he h1 h4 h9

/-- A raised event has its status bit set (R440). -/
theorem eventStat_raise (s : State) (e : Nat) (he : e < 256) : (s.raise e).eventStat e = true := by
  have key : (s.markEvent e).eventStat e = true := by
    unfold markEvent eventStat
    have a1 : Reg.EVC_STAT (e / 32) ≠ Reg.EVC_RSTAT (e / 32) := by unfold Reg.EVC_STAT Reg.EVC_RSTAT; omega
    rw [reg_flagSteward _ _ (by unfold Reg.EVC_STAT; omega) (by unfold Reg.EVC_STAT; omega), reg_noteRemote _ _ a1,
      reg_setReg_same]
    exact Word.bit_setField_same _ _ true (by omega)
  unfold raise
  dsimp only
  split
  · unfold eventStat at key ⊢
    rw [reg_congr (sendVector_regs _ _)]; exact key
  · exact key

/-- A refusal records itself in GCTL_REJECT and raises CFG_REJECT. -/
theorem reg_reject (s : State) (a x : Nat) {o : Nat} (h : o ≠ Reg.GCTL_REJECT) (h1 : o / 0x10000 ≠ 1)
    (h4 : o / 0x10000 ≠ 4) (h9 : o / 0x10000 ≠ 9) : (s.reject a x).reg o = s.reg o := by
  unfold reject
  rw [reg_raise _ _ (by omega) h1 h4 h9, reg_setReg_ne _ h]

/-- A report changes registers of EVC, Strata, Talus and PRC only, and where it classes an instance LASTING those of an
engine. -/
theorem reg_intake (s : State) (r : Report) {o : Nat} (hs : r.source < 256) (h : Far o) : (s.intake r).reg o = s.reg o := by
  obtain ⟨h1, h3, h4, h9⟩ := h
  have a1 : o ≠ Reg.STRATA_LAST r.source := by unfold Reg.STRATA_LAST; omega
  have hc : classOf r.type ≤ 3 := by unfold classOf; (repeat' split) <;> omega
  have a2 : o ≠ (Reg.STRATA_LOST_LOST (classOf r.type)).off := by
    simp only [Reg.STRATA_LOST_LOST, Reg.STRATA_LOST]; omega
  unfold intake
  dsimp only
  split
  · exact (reg_congr rfl o).trans (reg_setReg_ne s a1 _)
  · split
    · exact (reg_congr rfl o).trans (reg_setReg_ne s a1 _)
    · split
      · rw [reg_raise _ _ (by omega) h1 h4 h9, bumpSat_off _ _ _ _ a2, reg_setReg_ne s a1]
      · rw [bumpSat_off _ _ _ _ a2, reg_setReg_ne s a1]

theorem reg_lastingAction (s : State) (k i : Nat) {o : Nat} (h : o < 0x400000) : (s.lastingAction k i).reg o = s.reg o := by
  have a1 : ∀ j, o ≠ (Reg.CE_CTRL_RETIRE j).off := by intro j; simp only [Reg.CE_CTRL_RETIRE, Reg.CE_CTRL]; omega
  have a2 : ∀ j, o ≠ (Reg.CE_CTRL_PAIR_EN j).off := by intro j; simp only [Reg.CE_CTRL_PAIR_EN, Reg.CE_CTRL]; omega
  unfold lastingAction
  split
  · exact setFld_off _ _ _ _ (a1 _)
  · rw [setFld_off _ _ _ _ (a2 _), setFld_off _ _ _ _ (a2 _)]
  · exact reg_congr rfl o
  · exact reg_congr rfl o
  · rfl

theorem reg_classLasting (s : State) (k i src : Nat) {o : Nat} (hs : src < 256) (h : Far o) (hc : o < 0x400000) :
    (s.classLasting k i src).reg o = s.reg o := by
  have a1 : o ≠ Reg.STRATA_WSTAT := by have := h.2.1; unfold Reg.STRATA_WSTAT; omega
  unfold classLasting
  rw [reg_lastingAction _ _ _ hc, reg_setReg_ne _ a1, reg_intake _ _ hs h, reg_raise _ _ (by omega) h.1 h.2.2.1 h.2.2.2]

theorem reg_countWindow (s : State) (k i src : Nat) {o : Nat} (hs : src < 256) (h : Far o) (hc : o < 0x400000) :
    (s.countWindow k i src).reg o = s.reg o := by
  unfold countWindow
  dsimp only
  split
  · rw [reg_congr (setWindow_regs _ _ _), reg_classLasting s k i src hs h hc]
  · exact reg_congr (setWindow_regs _ _ _) o

theorem reg_report (s : State) (src type detail arg a1 a2 : Nat) {o : Nat} (hs : src < 256) (h : Far o) (hc : o < 0x400000) :
    (s.report src type detail arg a1 a2).reg o = s.reg o := by
  unfold report
  dsimp only
  split
  · rw [reg_countWindow _ _ _ _ hs h hc, reg_intake _ _ hs h]
  · exact reg_intake _ _ hs h

/-- A report that counts in no window leaves the engines' registers alone too. -/
theorem reg_report_plain (s : State) (src type detail arg a1 a2 : Nat) {o : Nat} (hs : src < 256) (h : Far o)
    (hw : windowOf src type detail = none) : (s.report src type detail arg a1 a2).reg o = s.reg o := by
  unfold report
  rw [hw]
  exact reg_intake _ _ hs h

/-- The same for fields. -/
theorem fld_raise (s : State) (e : Nat) (f : Fld) (he : e < 256) (h1 : f.off / 0x10000 ≠ 1) (h4 : f.off / 0x10000 ≠ 4)
    (h9 : f.off / 0x10000 ≠ 9) : (s.raise e).fld f = s.fld f := by unfold fld; rw [reg_raise s e he h1 h4 h9]
theorem fld_report (s : State) (src type detail arg a1 a2 : Nat) (f : Fld) (hs : src < 256) (h : Far f.off)
    (hc : f.off < 0x400000) : (s.report src type detail arg a1 a2).fld f = s.fld f := by
  unfold fld; rw [reg_report s src type detail arg a1 a2 hs h hc]
theorem fld_reject (s : State) (a x : Nat) (f : Fld) (h : f.off ≠ Reg.GCTL_REJECT) (h1 : f.off / 0x10000 ≠ 1)
    (h4 : f.off / 0x10000 ≠ 4) (h9 : f.off / 0x10000 ≠ 9) : (s.reject a x).fld f = s.fld f := by
  unfold fld; rw [reg_reject s a x h h1 h4 h9]

end Sys2Proof.Machine.State
end

