-- ==== Sys2Proof/Tests/Slice0.lean ====
section
/-! SUPPORT. Tests of the model: an ill-formed command for every check of WellFormed, worked examples and tables of the spec, and
for every statement with hypotheses a theorem that shows concrete states and operands that meet them, clause by clause. -/
namespace Sys2Proof.Tests
set_option Elab.async false
open Sys2Proof Sys2Proof.Machine Sys2Proof.Machine.State

/-- The reset state with fields of registers set. -/
def withFlds (l : List (Fld × Nat)) (s : State) : State := l.foldl (fun s x => s.setFld x.1 x.2) s

/-- The state a command answers; reset where it answers none. -/
def after (c : Instr) (s : State) : State :=
  match exec c s with
  | .next t => t
  | _ => State.reset

/-- The reset state with full time running at an instant. -/
def timed (time : Nat) : State :=
  { State.reset with clk := time, tbu := { State.reset.tbu with running := true, time := time, oscA := .qualified } }

/-- A posting to a commit unit. -/
def posting (unit sel due : Nat) : Posted := { unit := unit, sel := sel, arg := 0, due := due, agent := 1, seq := 0 }

/-- A state in which engine e holds an unpaired task and stands at word 0 of bank A, where words are written. -/
def program (e : Nat) (ws : List Nat) (g : Engine → Engine) (s : State) : State :=
  let s1 := ws.zipIdx.foldl (fun s x => s.setCode (engineCtrl e) 1 x.2 (encodeWord 14 (Word.ofN x.1))) s
  s1.modEngine e (fun x => g { x with run := some {} })

/-- The state in which engine 12 has executed the bundle of words at its PC, with registers set. -/
def bundle (ws : List Nat) (regs : List (Nat × Word)) (g : Engine → Engine) (c : Instr) : Engine :=
  (after c (program 12 ws (fun x => g { x with regs := regs.foldl (fun t y => Tab.put 0 y.1 y.2 t) x.regs }) (timed 0))).engine 12

/-- The flags of an engine as Z, N, C, V. -/
def flagsOf (g : Engine) : Bool × Bool × Bool × Bool := (g.z, g.n, g.c, g.v)

/-! ### The scope's and the architecture's statements -/

/-- Two commands wait: the first is run and the second stays. -/
theorem witness_StepRunsTheCommandInFront :
    ({ timed 0 with pending := [.pllUnlock, .oscSwitch] } : State).pending = .pllUnlock :: [.oscSwitch]
    ∧ (timed 0).pending = [] ∧ (timed 0).tbu.running = true ∧ State.reset.tbu.running = false
    ∧ (timed 0).tbu.trgs = [] ∧ (({} : TrgPin).pulseEnd = none) := by decide +kernel

theorem witness_EveryStepKeepsTheCanonicalForm :
    ({ timed 0 with pending := [.gctlRejectRead 51] } : State).canonical = true
    ∧ (match step { timed 0 with pending := [.gctlRejectRead 51] } with | .next t => t.pending | _ => [.pllUnlock]) = [] := by
  decide +kernel

theorem witness_HeldDeviceChangesNothing :
    ({ State.reset with held := true } : State).held = true
    ∧ (∀ b, Instr.pllUnlock ≠ .porAssert b) ∧ (∀ x, Instr.pllUnlock ≠ .porRelease x) ∧ (∀ k, Instr.pllUnlock ≠ .tamper k)
    ∧ Instr.pllUnlock ≠ .perstnHigh ∧ Instr.pllUnlock ≠ .pcieReset 3 := by
  refine ⟨rfl, ?_, ?_, ?_, ?_, ?_⟩ <;> intros <;> simp

/-- The host reads and writes GCTL_PROFILE by halves: with an empty and with a full latch. -/
theorem witness_HostHalfAccessesUseLatchAndStaging :
    Reg.GCTL_PROFILE % 8 = 0 ∧ msixAt Reg.GCTL_PROFILE = none ∧ msixAt (Reg.GCTL_PROFILE + 4) = none
    ∧ (timed 0).held = false ∧ ((timed 0).busRead 51 Reg.GCTL_PROFILE).1 = some 1 ∧ ((timed 0).hostPort 51).latch = none
    ∧ ((after (.lowHalfRead 52 Reg.GCTL_PROFILE) (timed 0)).hostPort 52).latch = some 0
    ∧ 0x18000 % 8 = 0 ∧ msixAt 0x18000 = some 0 ∧ msixAt (0x1FFF8 + 4) = some 8191 := by decide +kernel

theorem witness_WholeWordAccessesReachTheirRegister :
    (let o := Reg.GCTL_CTRL
     o % 8 = 0 ∧ windowAt o = none ∧ blockAt o = some .gctl ∧ o ≠ Reg.GCTL_PROFILE ∧ isCrag 51 = false)
    ∧ (let o := Reg.STRATA_CTRL
       windowAt o = none ∧ msixAt o = none ∧ blockAt o = some .strata ∧ refusesCrag .strata = true ∧ isCrag 1 = true
         ∧ (regDescAt o).isSome = true)
    ∧ (windowAt 0x7F8 = none ∧ blockAt 0x3FFFFF8 = none)
    ∧ ((refusesCrag .strata && isCrag 51) = false
        ∧ ((timed 0).written (State.profileOff (Block.strata.place.1 + Block.strata.place.2.1 * 0)) 2).2 = false
        ∧ 0 < Block.strata.place.2.2 ∧ Block.strata ≠ .vault ∧ Block.strata ≠ .can)
    ∧ ((withFlds [(Reg.CAN_CTRL_EN 7, 1)] (timed 0)).isSet (Reg.CAN_CTRL_EN 7) = true ∧ 7 < Block.can.place.2.2
        ∧ (timed 0).isSet (Reg.CAN_CTRL_EN 7) = false
        ∧ ((timed 0).written (State.profileOff (Block.can.place.1 + Block.can.place.2.1 * 7)) 2).2 = false)
    ∧ ((timed 0).busRead 51 Reg.GCTL_CTRL).1.isSome = true ∧ msixAt Reg.GCTL_CTRL = none := by decide +kernel

/-- The first register of each kind of field that a generic write meets. -/
theorem witness_GenericWriteObeysAccessCodesAndLevels :
    (let o := Reg.STRATA_CTRL
     (regDescAt o).isSome = true ∧ o ≠ Reg.GCTL_REJECT ∧ o / 0x10000 ≠ 1 ∧ o / 0x10000 ≠ 4 ∧ o / 0x10000 ≠ 9
       ∧ ((regDescAt o).map (fun d => d.fields.any (fun f => f.acc == .rw && !f.expert))) = some true)
    ∧ ((regDescAt (Reg.STRATA_WCFG 0)).map (fun d => d.fields.any (fun f => f.acc == .rw && f.expert && !f.legal.ok 4 0)))
        = some true
    ∧ (timed 0).expert (Reg.STRATA_WCFG 0) = false
    ∧ (withFlds [(Reg.STRATA_PROFILE_PROFILE, 0)] (timed 0)).expert (Reg.STRATA_WCFG 0) = true
    ∧ ((regDescAt Reg.TMX_BIST_STAT).map (fun d => d.fields.any (fun f => f.acc == .w1c))) = some true
    ∧ ((regDescAt Reg.TMX_BIST_STAT).map (fun d => d.fields.any (fun f => f.acc == .ro))) = some true
    ∧ ((regDescAt Reg.STRATA_WSTAT).map (fun d => d.fields.any (fun f => f.acc == .rc))) = some true
    ∧ ((regDescAt Reg.STRATA_CTRL).map (fun d => d.fields.any (fun f => f.acc == .wo))) = some true := by decide +kernel

theorem witness_LateActionIsCountedRaisedAndReported :
    (100 < 101 ∧ 60 < 64 ∧ 51 ≤ 60 ∧ 60 ≤ 60)
    ∧ ((timed 0).late 100 60 7).fld (Reg.GCTL_LATE_AGENT_COUNT 9) = 1
    ∧ ((timed 0).late 26 51 7).fld (Reg.GCTL_LATE_UNIT_COUNT 26) = 1 := by decide +kernel

/-- Postings to Talus (26) and to CAN0 (92), just on time and just late. -/
theorem witness_CommitAndGlobalControlCommands :
    (let s := { timed 1000 with flight := [posting 26 1 (2 ^ 35)] }
     s.tbu.running = true ∧ s.flight = [posting 26 1 (2 ^ 35)] ∧ 8 < s.boundaryAt - s.tbu.time
       ∧ ((2 ^ 35) / 128 + 2 ^ 29 - s.boundaryAt / 128 % 2 ^ 29) % 2 ^ 29 < 2 ^ 28)
    ∧ (let s := { timed 1000 with flight := [posting 92 0 (1024 + 2 ^ 35)] }
       2 ^ 28 ≤ ((1024 + 2 ^ 35) / 128 + 2 ^ 29 - s.boundaryAt / 128 % 2 ^ 29) % 2 ^ 29
         ∧ (posting 92 0 (1024 + 2 ^ 35)).sel ≠ 1 ∧ 8 < s.boundaryAt - s.tbu.time)
    ∧ Block.mac ∈ [Block.mac, .swc, .sts, .tal] ∧ Block.tal ∈ [Block.mac, .swc, .sts, .tal] ∧ 17 < Block.mac.place.2.2
    ∧ 0 < Block.tal.place.2.2
    ∧ (let m : Supplies := { core := 800, edge := 800, sram := 800, aon := 800, tj := 100 }
       (timed 0).prc.alarmed = [] ∧ (∀ k < 4, m.breach k = false) ∧ signed 12 (m.tj % 2 ^ 12) ≤ tjLimit (timed 0).fuses.grade)
    ∧ (let m : Supplies := { core := 800, edge := 800, sram := 800, aon := 800, tj := 2000 }
       (∀ k < 4, m.breach k = false) ∧ tjLimit (timed 0).fuses.grade < signed 12 (m.tj % 2 ^ 12)) := by decide +kernel

/-! ### The time base -/

theorem witness_OscillatorAndPllCommands :
    (let s := { timed 0 with tbu := { (timed 0).tbu with oscB := .qualified } }
     s.held = false ∧ s.osc 0 ≠ .bad ∧ s.fld Reg.TBU_OSC_STAT_ACTIVE = 0 ∧ s.osc (1 - 0) = .qualified
       ∧ (after (.oscLoss 0) s).tbu.switching = some 1)
    ∧ (let s := { timed 0 with tbu := { (timed 0).tbu with oscB := .bad, goodSinceB := none } }
       s.osc 0 ≠ .bad ∧ s.osc (1 - 0) = .bad ∧ s.tbu.running = true ∧ s.isSet Reg.TBU_STAT_HOLDOVER = false
         ∧ s.goodSince 1 = none ∧ (after (.oscLoss 0) s).eventStat 19 = true
         ∧ (after (.oscFreqWindow 1 0) s).goodSince 1 = some 0)
    ∧ ((timed 0).osc 0 ≠ .bad ∧ (timed 0).osc (1 - 0) = .settling ∧ (after (.oscLoss 0) (timed 0)).eventStat 19 = false)
    ∧ ((timed 0).fld Reg.TBU_OSC_CTRL_TOL < 4096 ∧ 0 ≤ (timed 0).fld Reg.TBU_OSC_CTRL_TOL ∧ (timed 0).goodSince 0 = some 0)
    ∧ (let s := { timed 0 with tbu := { (timed 0).tbu with switching := some 1 } }
       s.tbu.switching = some (1 : Fin 2).val ∧ (after .oscSwitch s).fld Reg.TBU_OSC_STAT_ACTIVE = 1)
    ∧ (let s := withFlds [(Reg.TBU_STAT_HOLDOVER, 1)] (timed 0)
       s.osc 1 ≠ .qualified ∧ s.goodSince 1 = some 0 ∧ s.isSet Reg.TBU_STAT_HOLDOVER = true
         ∧ (after (.oscQualified 1) s).fld Reg.TBU_OSC_STAT_ACTIVE = 1
         ∧ (timed 0).osc 1 ≠ .qualified ∧ (timed 0).isSet Reg.TBU_STAT_HOLDOVER = false)
    ∧ (let s := { timed 0 with tbu := { (timed 0).tbu with running := false } }
       s.tbu.running = false ∧ s.osc (s.fld Reg.TBU_OSC_CTRL_PREFER) = .qualified)
    ∧ (let s := withFlds [(Reg.TBU_STAT_PLL_LOCK, 1)] (timed 0)
       s.isSet Reg.TBU_STAT_PLL_LOCK = true ∧ s.isSet Reg.TBU_STAT_HOLDOVER = false
         ∧ (after .pllUnlock s).isSet Reg.TBU_STAT_PLL_HOLD = true)
    ∧ (let s := withFlds [(Reg.TBU_STAT_PLL_HOLD, 1)] (timed 0)
       s.isSet Reg.TBU_STAT_PLL_HOLD = true ∧ s.tbu.pllFailed = false) := by
  refine ⟨?_, ?_, ?_, ?_, ?_⟩ <;> decide +kernel

/-- The mark of second 3, from the first instant after second 2 and from second 3 itself. -/
theorem witness_SecondMarkIsWrittenAtEveryWholeSecond :
    (let s := timed (2 * 16000000000 + 1)
     s.held = false ∧ s.tbu.running = true ∧ s.tbu.time ≤ 3 * 16000000000 ∧ 3 * 16000000000 < s.tbu.time + 16000000000
       ∧ s.fld Reg.TBU_MARK_SECH_SEC * 2 ^ 32 + s.fld Reg.TBU_MARK_SECL_SEC ≠ 3
       ∧ (after .secondMark s).fld Reg.TBU_MARK_SECL_SEC = 3)
    ∧ (let s := timed (3 * 16000000000)
       s.tbu.time ≤ 3 * 16000000000 ∧ 3 * 16000000000 < s.tbu.time + 16000000000
         ∧ (after .secondMark s).tbu.time = 3 * 16000000000) := by decide +kernel

theorem witness_FullTimeCommands :
    (timed 0).tbu.running = true ∧ (timed 0).isSet Reg.TBU_STAT_STEP_PENDING = false
    ∧ (withFlds [(Reg.TBU_STAT_STEP_PENDING, 1)] (timed 0)).isSet Reg.TBU_STAT_STEP_PENDING = true
    ∧ (let s := { timed 1000 with tbu := { (timed 1000).tbu with change := some (.step (-128)), changeAt := 1024 } }
       (-128 : Int) ≤ 0 ∧ s.tbu.running = true ∧ s.tbu.time ≤ s.tbu.changeAt ∧ 0 ≤ (s.tbu.changeAt : Int) + -128
         ∧ (s.tbu.changeAt : Int) + -128 < 2 ^ 48 * 16000000000 ∧ (after .timeStep s).tbu.time = 896)
    ∧ (let s := { timed 1000 with tbu := { (timed 1000).tbu with change := some (.step (-1025)), changeAt := 1024 } }
       (s.tbu.changeAt : Int) + -1025 < 0 ∧ (after .timeStep s).eventStat 0 = true)
    ∧ (51 ≠ 52 ∧ 51 < 64 ∧ Reg.TBU_SNAP_NS < 2 ^ 26) := by decide +kernel

theorem witness_CapturePulseAndCalibrationCommands :
    (let s := withFlds [(Reg.TBU_CAP_CTRL_EN 7, 1)] (timed 1000)
     s.isSet (Reg.TBU_CAP_CTRL_EN 7) = true ∧ senseSelected (s.fld (Reg.TBU_CAP_CTRL_EDGE 7)) true = true
       ∧ (s.cap 7).last = none ∧ (s.cap 7).fifo.length < 16 ∧ s.isSet (Reg.TBU_CAP_CTRL_TALUS_EN 7) = false
       ∧ (after (.capture 7 5 true false) s).eventStat 39 = true)
    ∧ (let s := { timed 0 with tbu := { (timed 0).tbu with caps := [(0, { fifo := [(9, true)] })] } }
       (s.cap 0).fifo = (9, true) :: [] ∧ (after (.capPop 51 0) s).outs = [.read 51 9 false])
    ∧ ((timed 0).cap 0).fifo = []
    ∧ (let s := withFlds [(Reg.TBU_PPSI_CTRL_EN 1, 1)] (timed 0)
       s.isSet (Reg.TBU_PPSI_CTRL_EN 1) = true ∧ true ≠ s.isSet (Reg.TBU_PPSI_CTRL_EDGE 1))
    ∧ (let s := { withFlds [(Reg.TBU_PPSI_CTRL_EN 1, 1)] (timed 0) with
                  tbu := { (timed 0).tbu with ppsLast := [(1, some 4)] } }
       Tab.get none 1 s.tbu.ppsLast = some 4 ∧ s.isSet (Reg.TBU_PPSI_CTRL_EN 1) = true ∧ s.tbu.running = true
         ∧ s.clk ≤ 4 + 1100000000 * 16 ∧ { s with tbu := { s.tbu with running := false } }.tbu.running = false
         ∧ (after (.ppsMiss 1) s).isSet (Reg.TBU_PPSI_STAT_MISSED 1) = true)
    ∧ (let s := withFlds [(Reg.TBU_PPSO_CTRL_EN 0, 1), (Reg.TBU_PPSO_CTRL_WIDTH 0, 1), (Reg.TBU_STAT_TIME_SET, 1)]
                  (timed 16000000000)
       s.isSet (Reg.TBU_PPSO_CTRL_EN 0) = true ∧ s.isSet Reg.TBU_STAT_TIME_SET = true
         ∧ 0 < s.fld (Reg.TBU_PPSO_CTRL_WIDTH 0) ∧ s.fld (Reg.TBU_PPSO_DLY_DLY 0) = 0
         ∧ Tab.get none 0 s.tbu.ppsOutLast = none ∧ s.tbu.trgs = [] ∧ s.tmx.ext = false ∧ s.tmx.ballsFrom ≤ s.clk
         ∧ s.tbu.time ≤ 1 * 16000000000 ∧ 1 * 16000000000 < s.tbu.time + 16000000000)
    ∧ ((timed 0).isSet Reg.TBU_CAL_STAT_BUSY = false ∧ (timed 0).tbu.calLast = none)
    ∧ (let s := withFlds [(Reg.TBU_CAL_STAT_BUSY, 1)] (timed 0)
       s.isSet Reg.TBU_CAL_STAT_BUSY = true ∧ (after (.calDone 40) s).isSet Reg.TBU_STAT_CAL_VALID = true
         ∧ (after (.calDone 41) s).eventStat 23 = true) := by decide +kernel

/-- Trigger pin 7 in PULSE mode, with a train, and in a mode that starts trains. -/
theorem witness_TriggerCommands :
    ((timed 0).fld (Reg.TBU_TRG_CTRL_MODE 7) ≠ 1 ∧ (timed 0).trgPending 7 < 8)
    ∧ (let s := { timed 0 with flight := List.replicate 8 (posting 25 1 9) }
       8 ≤ s.trgPending 7)
    ∧ (let s := withFlds [(Reg.TBU_TRG_CTRL_MODE 7, 1), (Reg.TBU_TRG_PERI_PERI 7, 255)] (timed 0)
       s.fld (Reg.TBU_TRG_CTRL_MODE 7) = 1 ∧ s.fld (Reg.TBU_TRG_PERI_PERI 7) < 256)
    ∧ (let s := withFlds [(Reg.TBU_TRG_CTRL_MODE 7, 1), (Reg.TBU_TRG_PERI_PERI 7, 256), (Reg.TBU_TRG_WIDTH_WIDTH 7, 224)] (timed 0)
       256 ≤ s.fld (Reg.TBU_TRG_PERI_PERI 7)
         ∧ (s.fld (Reg.TBU_TRG_WIDTH_WIDTH 7) + 32) * 2 ^ 32
             ≤ s.fld (Reg.TBU_TRG_PERI_PERI 7) * 2 ^ 32 + s.fld (Reg.TBU_TRG_PERF_PERF 7)
         ∧ ((after (.trgAtWrite 51 7 1024) s).trg 7).starts.length = 1)
    ∧ (let s := { timed 0 with posted := [posting 25 1 1024] }
       s.trgNext 7 1 = some (posting 25 1 1024) ∧ (after (.fire 7) s).eventStat 47 = true)
    ∧ (let s := { timed 0 with
          posted := [posting 25 2 1024]
          tbu := { (timed 0).tbu with trgs := [(7, { starts := [{ seq := 0, period := 2 ^ 45, width := 9 }] })] } }
       s.trgNext 7 2 = some (posting 25 2 1024)
         ∧ (s.trg 7).starts.find? (fun y => y.seq == 0) = some { seq := 0, period := 2 ^ 45, width := 9 }
         ∧ (after (.trainStart 7) s).trg 7 ≠ s.trg 7)
    ∧ (let x : Train := { anchor := 1024, period := 2 ^ 45, width := 9, agent := 1 }
       let s := { timed 0 with tbu := { (timed 0).tbu with trgs := [(7, { train := some x })] } }
       (s.trainNext 7).isSome = true ∧ (s.trg 7).train = some x)
    ∧ (let x : Train := { anchor := 1024, period := 2 ^ 45, width := 9, agent := 1, stopAt := some 1024 }
       let s := { timed 0 with tbu := { (timed 0).tbu with trgs := [(7, { train := some x })] } }
       (s.trg 7).train = some x ∧ x.stopAt = some 1024 ∧ (s.trg 7).pulseEnd = none ∧ ((after (.trainStop 7) s).trg 7).train = none)
    ∧ (let x : Internal := { pin := 7, boundary := 1024, agent := 1 }
       let s := { withFlds [(Reg.TBU_TRG_CTRL_TOR_EN 7, 1)] (timed 0) with
                  tbu := { (timed 0).tbu with internals := [x] } }
       s.tbu.internals.find? (fun x => x.pin == 7) = some x ∧ s.isSet (Reg.TBU_TRG_CTRL_TOR_EN 7) = true
         ∧ (after (.triggerInternal 7) s).posted.length = 1) := by decide +kernel

/-! ### Words of the spec's own examples (R107, R125, R130 and the examples of chapter 4) -/

/-- `MOV w5, #0x3_B9AC_A005` and `MOV w5, #−256` (R107). -/
theorem test_lit_examples :
    immSigned [0x3B9, 0xACA, 0x005] = 0x3B9ACA005 ∧ immSigned [0xFFF, 0xF00] = 0xFFFFFFF00
    ∧ [0x3B9, 0xACA, 0x005].map litWord = [0x33B9, 0x3ACA, 0x3005] ∧ CragOp.decode 0x0450 = some (.rr .mov 5 0) := by
  decide +kernel

/-- The bundle of R107 runs and the PC stands behind its four words. -/
theorem test_mov_example :
    (bundle [0x33B9, 0x3ACA, 0x3005, 0x0450] [] id (.mov 12 [0x3B9, 0xACA, 0x005] 5 0)).w 5 = 0x3B9ACA005
    ∧ (bundle [0x33B9, 0x3ACA, 0x3005, 0x0450] [] id (.mov 12 [0x3B9, 0xACA, 0x005] 5 0)).pc = 4 := by decide +kernel

/-- The BR of R125 at word 0x0120 jumps to 0x0100. -/
theorem test_br_example :
    CragOp.decode 0x2BE0 = some (.br 0x3E0) ∧ jumpTarget 12 0x120 0x3E0 = 0x100
    ∧ jumpTarget 12 0x3FFF 1 = 0x0000 := by decide +kernel

/-- The words of the sampled-value example. -/
theorem test_sample_example_words :
    CragOp.decode 0x1A64 = some (.rr .ldn 6 4) ∧ CragOp.decode 0x1FA9 = some (.rr .bfi 10 9)
    ∧ CragOp.decode 0x0EA0 = some (.rr .shl 10 0) ∧ CragOp.decode 0x10A0 = some (.rr .sar 10 0)
    ∧ insertField 0 0xFE 8 8 = 0xFE00 ∧ bfPlace [0x207] = (8, 8)
    ∧ (shlWord 0xFFFFFE0C 4 ⟨false, false, false, false⟩).1 = 0xFFFFFE0C0 ∧ (sarWord 0xFFFFFE0C0 4 ⟨false, false, false, false⟩).1 = 0xFFFFFFE0C := by decide +kernel

/-- The additive rows of R130. -/
theorem test_r130_additive :
    (subWords 0 0x800000000 false ⟨false, false, false, false⟩) = (0x800000000, ⟨false, true, true, true⟩)
    ∧ (subWords 0 0 false ⟨false, false, false, false⟩) = (0, ⟨true, false, false, false⟩)
    ∧ (addWords 0x7FFFFFFFF 1 false ⟨false, false, false, false⟩) = (0x800000000, ⟨false, true, false, true⟩)
    ∧ (addWords 0xFFFFFFFFF 0 true ⟨false, false, false, false⟩) = (0, ⟨true, false, true, false⟩)
    ∧ (subWords 0 1 false ⟨false, false, false, false⟩) = (0xFFFFFFFFF, ⟨false, true, true, false⟩)
    ∧ (subWords 0x800000000 1 false ⟨false, false, false, false⟩) = (0x7FFFFFFFF, ⟨false, false, false, true⟩) := by decide +kernel

/-- The division rows of R130; C is unchanged. -/
theorem test_r130_division :
    divS 0x800000000 0xFFFFFFFFF ⟨false, false, true, false⟩ = (0x800000000, 0, ⟨false, true, true, true⟩)
    ∧ divS 7 0 ⟨false, false, true, false⟩ = (0, 7, ⟨true, false, true, true⟩)
    ∧ divU 7 0 ⟨false, false, false, false⟩ = (0, 7, ⟨true, false, false, true⟩)
    ∧ divS 0xFFFFFFFF9 2 ⟨false, false, false, false⟩ = (0xFFFFFFFFD, 0xFFFFFFFFF, ⟨false, true, false, false⟩)
    ∧ divS 7 0xFFFFFFFFE ⟨false, false, false, false⟩ = (0xFFFFFFFFD, 1, ⟨false, true, false, false⟩)
    ∧ divU 0xFFFFFFFFF 2 ⟨false, false, false, false⟩ = (0x7FFFFFFFF, 1, ⟨false, false, false, false⟩) := by decide +kernel

/-- The shift rows of R130. -/
theorem test_r130_shifts :
    (shlWord 5 36 ⟨false, false, false, false⟩).1 = 0 ∧ (shlWord 5 36 ⟨false, false, false, false⟩).2.c = true ∧ (shrWord 0x800000000 36 ⟨false, false, false, false⟩).2.c = true
    ∧ (shlWord 5 37 ⟨false, false, true, true⟩) = (0, ⟨true, false, false, true⟩)
    ∧ (sarWord 0x800000000 63 ⟨false, false, false, false⟩) = (0xFFFFFFFFF, ⟨false, true, true, false⟩)
    ∧ (rorWord 3 36 ⟨false, false, true, false⟩) = (3, ⟨false, false, true, false⟩)
    ∧ (rorWord 3 37 ⟨false, false, false, false⟩).1 = (rorWord 3 1 ⟨false, false, false, false⟩).1 ∧ (shlWord 5 0 ⟨false, false, true, false⟩).2.c = true := by
  decide +kernel

/-- The multiplication and CRC rows of R130. -/
theorem test_r130_products :
    mulLow 0x800000000 0x800000000 ⟨false, false, false, false⟩ = (0, ⟨true, false, false, true⟩)
    ∧ mulHigh 0x800000000 0x800000000 ⟨false, false, false, false⟩ = (0x400000000, ⟨false, false, false, false⟩)
    ∧ mulHighU 0xFFFFFFFFF 0xFFFFFFFFF ⟨false, false, false, false⟩ = (0xFFFFFFFFE, ⟨false, true, false, false⟩) := by decide +kernel

/-- DIV with d = 15 writes the remainder to w0 (R130). -/
theorem test_div_remainder_to_w0 :
    (bundle [0x15F3] [(15, 7), (3, 2)] id (.div 12 [] 15 3)).w 15 = 3
    ∧ (bundle [0x15F3] [(15, 7), (3, 2)] id (.div 12 [] 15 3)).w 0 = 1 := by decide +kernel

/-- A division by zero traps where the trap is on (R92, R130): nothing is written. -/
theorem test_div_zero_trap :
    (let s := program 12 [0x15F3] (fun g => { g with regs := [(15, 7)] })
        (withFlds [(Reg.CE_TRAPCTL_DIV_ZERO 12, 1)] (timed 0))
     ((after (.div 12 [] 15 3) s).engine 12).trapped = true ∧ ((after (.div 12 [] 15 3) s).engine 12).w 15 = 7) := by
  decide +kernel

/-- A taken skip passes over an undefined bundle without a trap (R122, R130). -/
theorem test_skip_over_undefined :
    (bundle [0x0100, 0x3000, 0x03F0] [] (fun g => { g with z := true }) (.skCond 12 [] 0)).trapped = false
    ∧ (bundle [0x0100, 0x3000, 0x03F0] [] (fun g => { g with z := true }) (.skCond 12 [] 0)).pc
        = (if condHolds 0 ⟨true, false, false, false⟩ then 3 else 1) := by decide +kernel

/-! ### Witnesses of chapters 3 and 4 -/

theorem witness_CleanFetchChangesNothing :
    (program 12 [0x3001, 0x0450] id (timed 0)).cleanBundle 12 [1] = true := by decide +kernel

theorem witness_CragDecodeOfWordIsTheInstruction :
    (CragOp.skCond 14).defined = true ∧ (CragOp.skbc 15 35).defined = true ∧ (CragOp.br 1023).defined = true
    ∧ 0x2BE0 < 2 ^ 14 ∧ CragOp.decode 0x2BE0 = some (.br 0x3E0) ∧ CragOp.decode 0x010F = none := by decide +kernel

/-- Every format R instruction stands at its bundle, register form and immediate form. -/
theorem witness_CragDataInstructionsComplete :
    (ROp.all.all (fun o => (program 12 [(CragOp.rr o 15 3).word] id (timed 0)).atBundle 12 [] (.rr o 15 3)
      || o.immUse == .field)) = true
    ∧ (ROp.all.all (fun o => (program 49 [0x3003, (CragOp.rr o 15 0).word] id (timed 0)).atBundle 49 [3] (.rr o 15 0)))
        = true := by decide +kernel

theorem witness_CragDivisionUnaryAndSkipInstructionsComplete :
    (let s := program 12 [(CragOp.rr .div 1 2).word] (fun g => { g with regs := [(2, 5)] }) (timed 0)
     s.atBundle 12 [] (.rr .div 1 2) = true ∧ ((s.fetched 12 []).engine 12).operandB .div [] 2 ≠ 0)
    ∧ (let s := program 12 [(CragOp.rr .divu 1 2).word] id (timed 0)
       s.atBundle 12 [] (.rr .divu 1 2) = true ∧ (s.fetched 12 []).isSet (Reg.CE_TRAPCTL_DIV_ZERO 12) = false)
    ∧ ([CragOp.neg 15, .not 15, .revn 15, .getf 15, .setf 15, .skCond 14, .skec 31, .skes 31, .skbc 15 35, .skbs 15 35,
        .nop].all (fun o => (program 12 [o.word] id (timed 0)).atBundle 12 [] o)) = true := by decide +kernel

theorem witness_CragControlInstructionsComplete :
    ([CragOp.jmpr 15, .br 1023, .call 512, .callr 15, .tdone, .ckpt, .brk 15].all (fun o =>
        (program 12 [o.word] id (timed 0)).atBundle 12 [] o)) = true
    ∧ (let s := program 12 [(CragOp.call 512).word] (fun g => { g with rstack := List.replicate 29 7 }) (timed 0)
       ((s.fetched 12 []).engine 12).rstack.length < 30 ∧ s.atBundle 12 [] (.call 512) = true)
    ∧ (let s := program 12 [CragOp.ret.word] (fun g => { g with rstack := [7] }) (timed 0)
       s.atBundle 12 [] .ret = true ∧ ((s.fetched 12 []).engine 12).rstack = 7 :: []
         ∧ ((s.fetched 12 []).engine 12).spilled ≤ ([] : List Nat).length)
    ∧ (let s := program 12 [(CragOp.push 3).word] (fun g => { g with dsp := 16 })
          (withFlds [(Reg.CE_DS_LIMIT_ADDR 12, 16)] (timed 0))
       let f := s.fetched 12 []
       s.atBundle 12 [] (.push 3) = true ∧ (f.engine 12).dsp ≤ f.fld (Reg.CE_DS_LIMIT_ADDR 12)
         ∧ f.mpuPermits 12 (f.engine 12).dsp true = true ∧ placeOf 12 (f.engine 12).dsp = .localData 16
         ∧ f.undoFull 12 [16] = false)
    ∧ (let s := program 12 [(CragOp.pop 3).word] (fun g => { g with dsp := 1 })
          ((timed 0).setCode (engineCtrl 12) 0 0 (encodeWord 36 5))
       let f := s.fetched 12 []
       let a := ((f.engine 12).dsp + 2 ^ 24 - 1) % 2 ^ 24
       s.atBundle 12 [] (.pop 3) = true ∧ (f.engine 12).dsp ≠ f.fld (Reg.CE_DS_BASE_ADDR 12)
         ∧ f.mpuPermits 12 a false = true ∧ placeOf 12 a = .localData 0
         ∧ f.loadTrap 12 (f.localRead 12 0).2.1 = none ∧ (f.localRead 12 0).1 = 5)
    ∧ (let s := program 12 [(CragOp.post 3).word] (fun g => { g with regs := [(3, 0x3001)] }) (timed 0)
       let f := s.fetched 12 []
       s.atBundle 12 [] (.post 3) = true
         ∧ selectorDefined (((f.engine 12).w 3).field 15 8) (((f.engine 12).w 3).field 7 0) = true
         ∧ f.paired 12 = false ∧ (f.engine 12).cq.length < 16 ∧ ((after (.post 12 [] 3) s).engine 12).cq.length = 1)
    ∧ (let s := program 12 [CragOp.ckpt.word] (fun g => { g with rstack := [7] }) (timed 0)
       s.atBundle 12 [] .ckpt = true ∧ ((s.fetched 12 []).engine 12).rstack ≠ []
         ∧ (program 12 [CragOp.ckpt.word] id (timed 0)).atBundle 12 [] .ckpt = true
         ∧ ((program 12 [CragOp.ckpt.word] id (timed 0)).fetched 12 []).paired 12 = false) := by decide +kernel

/-- Engine 12 holds a paired task, alone, and stands at a bundle. -/
def alone (op : CragOp) (g : Engine → Engine) : State :=
  let s := program 12 [op.word] g (timed 0)
  s.modEngine 12 (fun x => { x with run := some { paired := true } })

/-- Both engines of pair 6 hold a paired task; engine 13 has presented an access. -/
def presented (op : CragOp) (acc : PairAccess) (g : Engine → Engine) : State :=
  let s := program 13 [op.word] g (program 12 [op.word] g (timed 0))
  let s1 := [12, 13].foldl (fun s e => s.modEngine e (fun x => { x with run := some { paired := true } })) s
  s1.setPair 6 { presented := some (13, acc, 0) }

/-- The clauses about the outward accesses of a paired task: alone, and with the partner's access presented. -/
theorem witness_CragControlInstructionsComplete_paired :
    (let s := alone (.post 3) (fun g => { g with regs := [(3, 0x3001)] })
     let f := s.fetched 12 []
     s.atBundle 12 [] (.post 3) = true ∧ f.paired 12 = true ∧ (f.pair 6).log[(f.pair 6).matched]? = none
       ∧ f.partnerIn 12 = false ∧ (f.pair 6).log.length < 128 ∧ (f.engine (f.postingEngine 12)).cq.length < 16
       ∧ ((after (.post 12 [] 3) s).engine 12).cq.length = 1)
    ∧ (let s := presented .tdone .done id
       let f := s.fetched 12 []
       s.atBundle 12 [] .tdone = true ∧ f.paired 12 = true ∧ (f.pair 6).log[(f.pair 6).matched]? = none
         ∧ (f.pair 6).presented = some (13, .done, 0) ∧ ((after (.tdone 12 []) s).engine 13).run = none)
    ∧ (let s := presented .ckpt .ckpt id
       let f := s.fetched 12 []
       s.atBundle 12 [] .ckpt = true ∧ (f.engine 12).rstack = [] ∧ f.paired 12 = true
         ∧ (f.pair 6).log[(f.pair 6).matched]? = none ∧ (f.pair 6).presented = some (13, .ckpt, 0)
         ∧ ((after (.ckpt 12 []) s).engine 12).ckpt.isSome = true) := by
  refine ⟨?_, ?_, ?_⟩ <;> decide +kernel

theorem witness_CragLocalLoadsAndStoresComplete :
    ([ROp.ld, .ldn, .ldh, .st, .stn, .sth].all (fun o =>
      let s := program 12 [(CragOp.rr o 1 2).word] id ((timed 0).setCode (engineCtrl 12) 0 0 (encodeWord 36 5))
      let f := s.fetched 12 []
      s.atBundle 12 [] (.rr o 1 2) && f.mpuPermits 12 0 false && f.mpuPermits 12 0 true
        && decide (f.addressSum 12 [] 2 = 0) && decide (f.loadTrap 12 (f.localRead 12 0).2.1 = none)
        && !f.undoFull 12 [0])) = true
    ∧ placeOf 12 0 = .localData 0 ∧ placeOf 12 32767 = .localData 32767 ∧ placeOf 48 262143 = .localData 262143 := by
  decide +kernel

theorem witness_CragRegisterInstructionsFrame :
    (let s := program 12 [(CragOp.rr .add 1 2).word] id (timed 0)
     s.held = false ∧ s.cleanBundle 12 [] = true ∧ s.atBundle 12 [] (.rr .add 1 2) = true)
    ∧ (match exec (.add 12 [] 1 2) (program 12 [(CragOp.rr .add 1 2).word] id (timed 0)) with
       | .next _ => true
       | _ => false) = true := by decide +kernel

theorem witness_EngineEventCommands :
    (let s := withFlds [(Reg.CE_PLOAD_ADDR_BANK 12, 1)] (timed 0)
     State.ploadAgent 51 = true ∧ s.ploadOff 12 = false ∧ s.fld (Reg.CE_PLOAD_ADDR_BANK 12) ≠ (s.engine 12).bank)
    ∧ (let s := program 12 [0] id (timed 0)
       s.fld (Reg.CE_PLOAD_ADDR_BANK 12) = (s.engine 12).bank ∧ s.engineState 12 = 1 ∧ s.ploadOff 12 = false)
    ∧ (let s := withFlds [(Reg.CE_CTRL_BANK 47, 1)] (timed 0)
       (47 : Fin 50).val < 48 ∧ s.fld (Reg.CE_CTRL_BANK 47) ≠ (s.engine 47).bank ∧ (s.engine 47).run = none
         ∧ (s.engine 47).cq = [] ∧ s.fwc.restart = none ∧ ((after (.bankSwitch 47) s).engine 47).bank = 1)
    ∧ (let s := program 12 [0x03F0] id (timed 0)
       CragOp.decode 0x03F0 = none ∧ isLit 0x03F0 = false ∧ s.canRun 12 = true ∧ s.breakHere 12 = false
         ∧ s.budgetSpent 12 = false ∧ s.bundleHere 12 = [0x03F0] ∧ s.fetchTrap 12 0 1 = none
         ∧ ((after (.malformedBundle 12 [] 0x03F0) s).engine 12).trapped = true)
    ∧ (let s := program 12 [0] (fun g => { g with run := some { bundles := 4 } })
          (withFlds [(Reg.CE_LIMITS_TASK_BUDGET 12, 4)] (timed 0))
       s.canRun 12 = true ∧ s.budgetSpent 12 = true ∧ ((after (.budget 12) s).engine 12).trapped = true)
    ∧ (let s := { timed 0 with
          engines := [(12, { run := some { paired := true } }), (13, { run := some { paired := true } })]
          pairs := [(6, { presented := some (12, .read 5, 100) })] }
       (s.pair 6).presented = some (12, .read 5, 100) ∧ s.partnerIn 12 = true ∧ s.isHalted 12 = false
         ∧ s.isHalted 13 = false)
    ∧ (let s := { timed 0 with pairs := [(6, { restarting := some 9 })] }
       (s.pair 6).restarting = some 9 ∧ ((after (.pairRestart { pair := 6, restored := true }) s).pair 6).restarting = none)
    ∧ (let s := program 12 [0] id (timed 0)
       (s.engine 12).run = some {} ∧ (s.engine 12).trapped = false ∧ (s.engine 12).flagged = false
         ∧ s.engineOn 12 = true ∧ (s.engine 12).stall = none)
    ∧ (let s := program 12 [0] (fun g => { g with trapped := true }) (timed 0)
       (s.engine 12).trapped = true ∧ s.paired 12 = false ∧ s.fld (Reg.CE_TRAP_CAUSE_CAUSE 12) ≠ 0x12
         ∧ (s.engine 12).pulled = false ∧ ((after (.trapSkip 50 12) s).engine 12).pc = 1)
    ∧ ((timed 0).engine 12).trapped = false
    ∧ (let s := withFlds [(Reg.CE_CTRL_RETIRE 47, 1)] (timed 0)
       s.isSet (Reg.CE_CTRL_RETIRE (47 : Fin 48)) = true ∧ (s.engine 47).run = none ∧ (s.engine 47).retired = false
         ∧ ((after (.engineRetired 47) s).engine 47).retired = true) := by decide +kernel

/-! ### Talus -/

/-- The reset state with task 5 in the ready list of cluster 11 at priority 7, bound to engine 47, which runs. -/
def readyTask (paired : Nat) : State :=
  let s := withFlds [(Reg.TALUS_TCFG_ENTRY 5, 0x3FFF), (Reg.TALUS_TCFG_CLUSTER 5, 11), (Reg.TALUS_TCFG_PRIO 5, 7),
    (Reg.TALUS_TCFG_BIND 5, 4), (Reg.TALUS_TCFG_EN 5, 1), (Reg.TALUS_TCFG_PAIRED 5, paired), (Reg.CE_CTRL_RUN 47, 1)] (timed 0)
  { s with talus := { s.talus with ready := Tab.put [] (8 * 11 + 7) [5] s.talus.ready } }

/-- A queue of four words, enabled, with n entries. -/
def queueOf (q n : Nat) (waiting : List WaitPush) : State :=
  (withFlds [(Reg.TALUS_QCFG_EN q, 1), (Reg.TALUS_QCFG_SIZE q, 2)] (timed 0)).setQueue q
    { stamps := List.replicate n 0, waiting := waiting }

/-- Engine 12 (agent 13) holds a task with ticket 1 of domain 511. -/
def ticketState (tickets : List Ticket) : State :=
  ((timed 0).modEngine 12 (fun g => { g with run := some { ticket := some (511, 1) } })).setDomain 511 { tickets := tickets }

theorem witness_TalusTaskCommands :
    (let w : Word := Word.ofN (16383 + 2 ^ 16 * 11 + 2 ^ 20 * 7 + 2 ^ 23 + 2 ^ 24 * 4 + 2 ^ 29 * 3)
     (timed 0).taskBusy 1023 = false ∧ (w.bit 28 = true → (timed 0).secondFeeder 1023 = false) ∧ w.field 19 16 < 12 ∧ w.field 15 0 < 16384 ∧ w.field 26 24 < 5
       ∧ (after (.tcfgWrite 51 1023 w) (timed 0)).fld (Reg.TALUS_TCFG_INST 1023) = 3)
    ∧ ((Word.ofN (2 ^ 16 * 12 + 2 ^ 28)).field 19 16 = 12 ∧ (Word.ofN (2 ^ 16 * 12 + 2 ^ 28)).field 23 23 = 0
        ∧ (Word.ofN (2 ^ 16 * 12 + 2 ^ 28)).field 26 24 = 0 ∧ (timed 0).secondFeeder 0 = false)
    ∧ (let s := withFlds [(Reg.TALUS_TLINK_QFED 5, 1), (Reg.TALUS_TLINK_QFED 6, 1), (Reg.TALUS_TCFG_EN 6, 1)] (timed 0)
       s.secondFeeder 5 = true ∧ s.isSet (Reg.TALUS_TCFG_EN 5) = false ∧ (Word.ofN (2 ^ 28)).bit 28 = true
         ∧ (after (.tcfgWrite 51 5 (Word.ofN (2 ^ 28))) s).eventStat 0 = true)
    ∧ ((readyTask 0).taskBusy 5 = true ∧ (0 : Word).bit 28 = false ∧ (after (.tcfgWrite 51 5 0) (readyTask 0)).fld (Reg.TALUS_TCFG_ENTRY 5) = 0x3FFF)
    ∧ (let w : Word := Word.ofN (16380 + 2 ^ 14 * 2 + 2 ^ 19 * 4)
       (withFlds [(Reg.TALUS_QCFG_EN 255, 0)] (timed 0)).fld (Reg.TALUS_QCFG_EN 255) = 0 ∧ (timed 0).queueCount 255 = 0 ∧ 2 ≤ w.field 17 14 ∧ w.field 17 14 ≤ 12
         ∧ w.field 13 0 % 2 ^ w.field 17 14 = 0 ∧ w.field 13 0 + 2 ^ w.field 17 14 ≤ 16384
         ∧ w.field 31 19 ≤ 2 ^ w.field 17 14)
    ∧ (let w : Word := Word.ofN (12288 + 2 ^ 14 * 12 + 2 ^ 19 * 4096)
       2 ≤ w.field 17 14 ∧ w.field 17 14 ≤ 12 ∧ w.field 13 0 % 2 ^ w.field 17 14 = 0
         ∧ w.field 13 0 + 2 ^ w.field 17 14 ≤ 16384 ∧ w.field 31 19 ≤ 2 ^ w.field 17 14
         ∧ (after (.qcfgWrite 51 0 w) (withFlds [(Reg.TALUS_QCFG_EN 0, 0)] (timed 0))).fld (Reg.TALUS_QCFG_SIZE 0) = 12)
    ∧ ((queueOf 0 1 []).fld (Reg.TALUS_QCFG_EN 0) = 1 ∧ (0 : Word).bit 18 = false)
    ∧ (let s := withFlds [(Reg.TALUS_TLINK_QFED 1023, 1), (Reg.TALUS_TLINK_QFLAG 1023, 31)] (timed 0)
       let w : Word := Word.ofN (1023 + 2 ^ 10 * 31)
       s.isSet (Reg.TALUS_TLINK_QFED (w.field 9 0)) = true ∧ s.fld (Reg.TALUS_TLINK_QFLAG (w.field 9 0)) = w.field 14 10)
    ∧ ((timed 0).isSet (Reg.TALUS_TLINK_QFED ((Word.ofN (1023 + 2 ^ 15)).field 9 0)) = false
        ∧ (after (.signal 51 (Word.ofN (1023 + 2 ^ 15))) (timed 0)).reg (Reg.TALUS_TEVT 1023) = 1)
    ∧ (let s := { timed 0 with posted := [posting 26 1 128] }
       s.earliest 26 = some (posting 26 1 128) ∧ (posting 26 1 128).sel = 1
         ∧ 0 ≤ s.distance (posting 26 1 128).due + (s.tbu.time : Int) ∧ (after .setFlag s).posted = []
         ∧ s.posted.filter (fun x => x.unit == 26) = [posting 26 1 128] ∧ (posting 26 1 128).due < 2 ^ 36
         ∧ s.tbu.internals = [] ∧ s.isSet Reg.EVC_CTRL_STW_EN = false
         ∧ s.isSet (Reg.TALUS_TLINK_QFED ((posting 26 1 128).arg % 2 ^ 10)) = false
         ∧ (after .setFlag s).reg (Reg.TALUS_TEVT 0) = 1)
    ∧ (let s := { timed 0 with posted := [posting 26 2 0] }
       s.earliest 26 = some (posting 26 2 0) ∧ (posting 26 2 0).sel = 2
         ∧ 0 ≤ s.distance (posting 26 2 0).due + (s.tbu.time : Int)
         ∧ s.posted.filter (fun x => x.unit == 26) = [posting 26 2 0] ∧ (posting 26 2 0).due < 2 ^ 36
         ∧ s.isSet (Reg.TALUS_TLINK_QFED ((posting 26 2 0).arg % 2 ^ 10)) = false)
    ∧ (((readyTask 0).scanOrder 11).find? (fun t => ((readyTask 0).placement 11 t).isSome) = some 5
        ∧ (readyTask 0).placement 11 5 = some [47] ∧ ((after (.dispatch 11) (readyTask 0)).engine 47).pc = 0x3FFF)
    ∧ (let s : State := { readyTask 1 with talus := { (readyTask 1).talus with passedOver := [(5, some 0)] } }
       s.reservation 11 = none ∧ s.nextHeld 11 = some (5, 0) ∧ s.reservedPair 11 5 = some 23
         ∧ Tab.get none 11 (after (.pairHold 11) s).talus.reserved = some (5, 23))
    ∧ ((ticketState [{ number := 1 }]).ticketOf 13 = some (511, 1) ∧ (timed 0).ticketOf 13 = none)
    ∧ (((ticketState [{ number := 1 }]).domain 511).tickets = { number := 1 } :: []
        ∧ ((ticketState [{ number := 1 }]).domain 511).warned = false
        ∧ (after (.domainStall 511) (ticketState [{ number := 1 }])).eventStat 57 = true)
    ∧ ((timed 0).tbu.running = true ∧ ((timed 0).engine 49).run = none ∧ Tab.get 0 49 (timed 0).talus.busyMark = 0
        ∧ 16000000 ≤ (after .busyWindow (timed 0)).talus.windowAt) := by
  refine ⟨?_, ?_, ?_, ?_, ?_, ?_⟩ <;> decide +kernel

/-- The queue of four words: empty, with room for one, full with a push waiting, with a waiting push and room. -/
theorem witness_HardwareQueueCommands :
    ((queueOf 255 3 []).isSet (Reg.TALUS_QCFG_EN 255) = true
        ∧ (queueOf 255 3 []).queueCount 255 < (queueOf 255 3 []).queueSize 255
        ∧ ((queueOf 255 3 []).queue 255).waiting = []
        ∧ (after (.queuePush 51 255 7) (queueOf 255 3 [])).queueCount 255 = 4)
    ∧ (withFlds [(Reg.TALUS_QCFG_EN 0, 0)] (timed 0)).isSet (Reg.TALUS_QCFG_EN 0) = false
    ∧ ((queueOf 0 4 []).queueSize 0 ≤ (queueOf 0 4 []).queueCount 0
        ∧ ((after (.queuePush 13 0 7) (queueOf 0 4 [])).queue 0).waiting
            = [{ agent := 13, entry := 7, by_ := [12], since := 0 }])
    ∧ (let p : WaitPush := { agent := 13, entry := 7, dom := some 511, since := 0 }
       ((queueOf 0 3 [p]).queue 0).waiting = p :: [] ∧ p.dom = some 511
         ∧ (queueOf 0 3 [p]).queueCount 0 < (queueOf 0 3 [p]).queueSize 0)
    ∧ (let p : WaitPush := { agent := 13, entry := 7, since := 0 }
       ((queueOf 0 3 [p]).queue 0).waiting = p :: [] ∧ (queueOf 0 3 [p]).queueCount 0 < (queueOf 0 3 [p]).queueSize 0
         ∧ p.dom = none ∧ p.warned = false ∧ (after (.queueStall 0) (queueOf 0 3 [p])).eventStat 56 = true
         ∧ (after (.queuePushComplete 0) (queueOf 0 3 [p])).queueCount 0 = 4)
    ∧ ((queueOf 0 0 []).queue 0).stamps = []
    ∧ ((queueOf 0 1 []).isSet (Reg.TALUS_QCFG_EN 0) = true ∧ ((queueOf 0 1 []).queue 0).stamps = 0 :: []
        ∧ (after (.queuePop 51 0) (queueOf 0 1 [])).queueCount 0 = 0)
    ∧ ((timed 0).ticketOf 51 = none
        ∧ (let s := ticketState [{ number := 0 }, { number := 1, held := List.replicate 15 (0, 0, 13) }]
           s.ticketOf 13 = some (511, 1) ∧ s.ticketWaits 511 1 = true
             ∧ (s.domain 511).tickets.find? (fun x => x.number == 1)
                 = some { number := 1, held := List.replicate 15 (0, 0, 13) }
             ∧ (List.replicate 15 ((0 : Nat), (0 : Nat), (13 : Nat))).length < 16)) := by decide +kernel

theorem witness_PopReturnsTheEntryPushed :
    (queueOf 0 0 []).held = false ∧ (queueOf 0 0 []).isSet (Reg.TALUS_QCFG_EN 0) = true
      ∧ ((queueOf 0 0 []).queue 0).stamps = [] ∧ ((queueOf 0 0 []).queue 0).waiting = []
      ∧ (queueOf 0 0 []).isSet Reg.MEMC_FLIP_CTRL_ARM = false
      ∧ (after (.queuePop 52 0) (after (.queuePush 51 0 0x89ABCDEF) (queueOf 0 0 []))).outs
          = [.read 52 0x889ABCDEF false] := by decide +kernel

/-! ### Col -/

/-- Mailbox m enabled or not, full or empty, with any receiver kind. -/
def mailbox (m en full kind : Nat) : State :=
  withFlds [(Reg.COL_MBX_CFG_EN m, en), (Reg.COL_MBX_STAT_STATE m, full), (Reg.COL_MBX_CFG_RX_KIND m, kind)] (timed 0)

theorem witness_MailboxCommands :
    (let s := mailbox 127 0 0 0
     let w : Word := Word.ofN (1 + 2 * 2 + 2 ^ 30 * 31)
     s.isSet (Reg.COL_MBX_CFG_EN 127) = false ∧ s.mbxFull 127 = false ∧ w.field 2 1 ≠ 3
       ∧ w.field 34 1 ≠ (s.reg (Reg.COL_MBX_CFG 127)).field 34 1
       ∧ (after (.mbxCfgWrite 51 127 false w) s).fld (Reg.COL_MBX_CFG_TX_FLAG 127) = 31)
    ∧ ((mailbox 0 0 1 0).mbxFull 0 = true
        ∧ (2 : Word).field 34 1 ≠ ((mailbox 0 0 1 0).reg (Reg.COL_MBX_CFG 0)).field 34 1)
    ∧ (((60 : Word).field 5 0 ≤ 60 ∧ (60 : Word).field 35 6 = 0)
        ∧ (after (.mbxCfgWrite 51 0 true 60) (mailbox 0 0 0 0)).fld (Reg.COL_MBX_SEND_SENDER 0) = 60)
    ∧ (let s := mailbox 127 1 0 1
       s.isSet (Reg.COL_MBX_CFG_EN ((127 : Word).field 6 0)) = true ∧ s.mbxFull ((127 : Word).field 6 0) = false
         ∧ s.fld (Reg.COL_MBX_SEND_SENDER ((127 : Word).field 6 0)) = 0
         ∧ s.fld (Reg.COL_MBX_CFG_RX_KIND ((127 : Word).field 6 0)) = 1 ∧ (after (.ring 63 127) s).mbxFull 127 = true)
    ∧ (let s := mailbox 127 1 1 1
       s.mbxFull ((127 : Word).field 6 0) = true ∧ s.isSet (Reg.COL_MBX_CFG_EN ((127 : Word).field 6 0)) = true
         ∧ s.isReceiver 51 ((127 : Word).field 6 0) = true ∧ s.isReceiver 52 ((127 : Word).field 6 0) = false
         ∧ (after (.take 51 127) s).mbxFull 127 = false ∧ (after (.flush 49 127) s).mbxFull 127 = false
         ∧ (after (.flush 48 127) s).eventStat 67 = true) := by decide +kernel

theorem witness_MailboxCommands_settings :
    (let s := mailbox 0 0 0 0
     let w : Word := Word.ofN (1 + 2 * 3 + 8 * 60)
     w.field 2 1 = 3 ∧ w.field 12 9 = 0 ∧ w.field 8 3 = 60 ∧ s.mbxFull 0 = false
       ∧ s.isSet (Reg.COL_MBX_CFG_EN 0) = false ∧ (after (.mbxCfgWrite 51 0 false w) s).reg (Reg.COL_MBX_CFG 0) = w)
    ∧ (let s := mailbox 127 1 1 1
       let w := (s.reg (Reg.COL_MBX_CFG 127)).setField 0 0 0
       w.field 34 1 = (s.reg (Reg.COL_MBX_CFG 127)).field 34 1
         ∧ (after (.mbxCfgWrite 51 127 false w) s).isSet (Reg.COL_MBX_CFG_EN 127) = false)
    ∧ (after (.flush 52 0) (mailbox 0 1 1 1)).eventStat 0 = true
    ∧ (after (.take 51 0) (mailbox 0 1 0 1)).eventStat 0 = true := by decide +kernel

/-- Agents 1 and 2 each wait on a mailbox that the other must take, and the scan has found that before. -/
def deadlock : State :=
  let s := withFlds [(Reg.COL_MBX_CFG_RX_KIND 3, 3), (Reg.COL_MBX_CFG_RX_TASK 3, 2), (Reg.COL_MBX_STAT_STATE 3, 1),
    (Reg.COL_MBX_CFG_RX_KIND 4, 3), (Reg.COL_MBX_CFG_RX_TASK 4, 1), (Reg.COL_MBX_STAT_STATE 4, 1)] (timed 1)
  { s with col := { s.col with
      waits := [{ agent := 1, mbx := 3, since := 0 }, { agent := 2, mbx := 4, since := 0 }]
      found := [{ a := 3, b := 4, x := 1, y := 2 }] } }

theorem witness_WaitAndLockCommands :
    ((timed 0).mbxFull 127 = false ∧ (mailbox 0 0 1 0).mbxFull 0 = true)
    ∧ ((after (.mbxWaitRead 1 0) (mailbox 0 0 1 0)).col.waits = [{ agent := 1, mbx := 0, by_ := [0], since := 0 }]
        ∧ (after (.mbxWaitRead 52 0) (mailbox 0 0 1 0)).outs = [.read 52 0 false])
    ∧ (deadlock.col.waits.any (fun x => x.agent == (2 : Word).field 5 0) = true
        ∧ (after (.waitCancel 51 2) deadlock).col.waits = [{ agent := 1, mbx := 3, since := 0 }]
        ∧ (timed 0).col.waits.any (fun x => x.agent == (63 : Word).field 5 0) = false)
    ∧ (deadlock.col.waits.find? (fun x => x.agent == 2 && !x.warned) = some { agent := 2, mbx := 4, since := 0 }
        ∧ (after (.mbxWaitLong 2) deadlock).eventStat 68 = true)
    ∧ (deadlock.tbu.running = true
        ∧ { a := 3, b := 4, x := 1, y := 2 } ∈ deadlock.mbxCycles
        ∧ { a := 3, b := 4, x := 1, y := 2 } ∈ deadlock.col.found ∧ deadlock.col.reported = []
        ∧ (after .cycleScan deadlock).eventStat 66 = true)
    ∧ ((timed 0).fld (Reg.COL_MBX_LOCK_OWNER 127) = 0
        ∧ (after (.lockRead 63 127) (timed 0)).fld (Reg.COL_MBX_LOCK_OWNER 127) = 63)
    ∧ (let s := withFlds [(Reg.COL_MBX_LOCK_OWNER 127, 7)] (timed 0)
       s.fld (Reg.COL_MBX_LOCK_OWNER 127) ≠ 0 ∧ (0 : Word).field 5 0 = 0 ∧ s.fld (Reg.COL_MBX_LOCK_OWNER 127) = 7
         ∧ s.fld (Reg.COL_MBX_LOCK_OWNER 127) ≠ 49 ∧ (after (.lockRelease 7 127 0) s).isSet (Reg.COL_MBX_LOCK_OWNER 127) = false
         ∧ (after (.lockRelease 49 127 0) s).eventStat 69 = true ∧ (after (.lockRelease 51 127 0) s).eventStat 69 = true
         ∧ (after (.lockRelease 51 127 0) s).fld (Reg.COL_MBX_LOCK_OWNER 127) = 7) := by decide +kernel

/-! ### Memories -/

/-- Agent 51's window of indirect access stands at a word. -/
def indAt (c k x : Nat) (s : State) : State :=
  s.setAgentReg 51 Reg.MEMC_IND_ADDR (Word.ofN (c * 2 ^ 23 + k * 2 ^ 21 + x))

/-- The vault opened to the stewards, with its pointer at a word. -/
def vaultAt (x : Nat) : State :=
  let s := withFlds [(Reg.VAULT_ADDR_ADDR, x)] (timed 0)
  s.setCode 4 0 x (encodeWord 36 0xABCDEF012)

theorem witness_MemoryControllerCommands :
    (let s := (indAt 5 1 16383 (timed 0)).setCode 5 1 16383 (encodeWord 14 0x2BE0)
     s.indTarget 51 = (5, 1, 16383) ∧ s.indReason 51 false = 0 ∧ s.siltAt 5 16383 = none
       ∧ decodeWord (arrayWidth 1) (s.codeAt 5 1 16383) = (0x2BE0, .clean)
       ∧ (after (.indRead 51) s).outs = [.read 51 0x2BE0 false])
    ∧ (let s := indAt 2 0 0xF7FF (timed 0)
       s.indTarget 51 = (2, 0, 0xF7FF) ∧ s.indReason 51 true = 0 ∧ s.mailGuard 0xF7FF = false
         ∧ s.memc.shelf = [] ∧ s.isSet Reg.MEMC_FLIP_CTRL_ARM = false ∧ (after (.indWrite 51 0xFFFFFFFFF) s).codeAt 2 0 0xF7FF ≠ {})
    ∧ ((indAt 4 0 0 (timed 0)).indReason 51 true ≠ 0)
    ∧ (let at0 (w : CodeWord) : State := { (timed 0) with
          memc := { (timed 0).memc with scrubAt := [(4 * 54 + 0, 7)] } }.setCode 54 0 7 w
       arraySize (54 : Fin 55) (0 : Fin 3) ≠ 0 ∧ (at0 {}).fld Reg.MEMC_LIMITS_SCRUB_H ≠ 0
         ∧ Tab.get 0 (4 * 54 + 0) (at0 {}).memc.scrubAt = 7 ∧ (at0 {}).siltAt 54 7 = none
         ∧ decodeWord (arrayWidth 0) ((at0 (encodeWord 36 5)).codeAt 54 0 7) = (5, .clean)
         ∧ decodeWord (arrayWidth 0) ((at0 { encodeWord 36 5 with d := 4 }).codeAt 54 0 7) = (5, .corrected)
         ∧ (decodeWord (arrayWidth 0) ((at0 { encodeWord 36 5 with d := 6 }).codeAt 54 0 7)).2 = .uncorrectable
         ∧ (after (.scrub 54 0) (at0 { encodeWord 36 5 with d := 4 })).eventStat 72 = true
         ∧ (after (.scrub 54 0) (at0 { encodeWord 36 5 with d := 6 })).eventStat 73 = true)
    ∧ (let x : SiltEntry := { ctrl := 5, addr := 9, mask := 8, data := 0xFF8000000, last := 0, agent := 1 }
       let s := ({ timed 0 with memc := { (timed 0).memc with silt := [x] } }).setCode 5 0 9 (encodeWord 36 1)
       s.memc.silt.filter (fun x => x.ctrl == 5) = [x] ∧ s.isSet Reg.MEMC_FLIP_CTRL_ARM = false
         ∧ decodeWord 36 (s.codeAt 5 0 9) = (1, .clean) ∧ x.mask ≠ 15
         ∧ (after (.siltTimeout 5) s).clk = 1024)
    ∧ (isCrag 51 = false ∧ (timed 0).memc.testing.contains 52 = true ∧ (timed 0).memc.testing.contains 0 = true
        ∧ [] ≠ testExpected ∧ (after (.checkerSelfTest 52 []) (timed 0)).isSet (Reg.CE_CTRL_RETIRE 47) = true)
    ∧ (let s := { timed 0 with memc := { (timed 0).memc with marches := [] } }
       let w : Word := Word.ofN (3 + 2 ^ 3 * 54 + 2 ^ 9 * 2)
       w.bit 0 = true ∧ w.bit 1 = true ∧ w.field 8 3 < 55 ∧ w.field 10 9 < 3 ∧ arraySize (w.field 8 3) (w.field 10 9) ≠ 0
         ∧ s.memc.marches.any (fun m => m.ctrl == w.field 8 3 && m.array == w.field 10 9) = false
         ∧ (after (.marchGo 51 w) s).isSet Reg.MEMC_MARCH_STAT_BUSY = true)
    ∧ (let s := { timed 0 with memc := { (timed 0).memc with marches := [] } }
       let w : Word := Word.ofN (1 + 2 ^ 2 + 2 ^ 3 * 54)
       w.bit 0 = true ∧ w.bit 1 = false ∧ w.bit 2 = true ∧ w.field 8 3 ≠ 4 ∧ w.field 8 3 ≠ 3 ∧ w.field 10 9 = 0
         ∧ s.fld Reg.TALUS_CTRL_ACTIVE_SE = 0 ∧ arraySize (w.field 8 3) (w.field 10 9) ≠ 0
         ∧ (after (.marchGo 51 w) s).memc.testing.contains 54 = true)
    ∧ ((Word.ofN (1 + 2 ^ 3 * 4)).bit 0 = true ∧ (Word.ofN (1 + 2 ^ 3 * 4)).bit 1 = false
        ∧ (Word.ofN (1 + 2 ^ 3 * 4)).field 8 3 = 4)
    ∧ ((timed 0).memc.marches.find? (fun m => m.ctrl == 54 && m.array == 2) = some { ctrl := 54, array := 2, preserve := false }
        ∧ (let s := { timed 0 with memc := { (timed 0).memc with
                      marches := [{ ctrl := 0, array := 0, preserve := true }], testing := [] } }
           s.memc.testing.contains 0 = false ∧ (after (.marchDone 0 0 { rows := [], spares := [] }) s).eventStat 79 = true
             ∧ s.memc.marches.find? (fun m => m.ctrl == 0 && m.array == 0) = some { ctrl := 0, array := 0, preserve := true }))
    ∧ (let w : Word := Word.ofN (1 + 2 * 5 + 2 ^ 9 * (arrayBanks 5 0 - 1)
          + 2 ^ 13 * (arraySize 5 0 / arrayBanks 5 0 / 64 - 1))
       w.bit 0 = true ∧ w.field 6 1 < 55 ∧ w.field 8 7 < 3 ∧ w.field 12 9 < arrayBanks (w.field 6 1) (w.field 8 7)
         ∧ w.field 23 13 < arraySize (w.field 6 1) (w.field 8 7) / arrayBanks (w.field 6 1) (w.field 8 7) / 64
         ∧ (timed 0).freeSpares { ctrl := w.field 6 1, array := w.field 8 7, bank := w.field 12 9, row := w.field 23 13 } ≠ 0
         ∧ (timed 0).memc.repairing = []
         ∧ (after .repairDone (after (.repairGo 51 w) (timed 0))).eventStat 77 = true) := by
  refine ⟨?_, ?_, ?_, ?_, ?_, ?_⟩ <;> decide +kernel

theorem witness_VaultCommands :
    ((vaultAt 8191).held = false ∧ (vaultAt 8191).fld Reg.VAULT_ADDR_ADDR = 8191 ∧ (vaultAt 8191).vaultReason 49 = 0
        ∧ (vaultAt 8191).memc.wiping = none ∧ (vaultAt 8191).memc.sealed.contains 8191 = false
        ∧ (vaultAt 8191).siltAt 4 8191 = none ∧ decodeWord 36 ((vaultAt 8191).codeAt 4 0 8191) = (0xABCDEF012, .clean)
        ∧ (vaultAt 8191).isSet Reg.MEMC_FLIP_CTRL_ARM = false
        ∧ (after (.vaultRead 49) (vaultAt 8191)).fld Reg.VAULT_ADDR_ADDR = 0)
    ∧ (let s := withFlds [(Reg.VAULT_ADDR_SEAL, 1)] (vaultAt 0)
       s.isSet Reg.VAULT_ADDR_SEAL = true ∧ (after (.vaultWrite 50 3) s).memc.sealed = [0])
    ∧ (let s := { vaultAt 7 with memc := { (vaultAt 7).memc with sealed := [7] } }
       s.vaultReason 49 = 0 ∧ s.memc.wiping = none ∧ s.memc.sealed.contains 7 = true)
    ∧ ((vaultAt 0).vaultReason 51 ≠ 0 ∧ { vaultAt 0 with fuses := { (vaultAt 0).fuses with lifecycle := 3 } }.vaultReason 49 = 4)
    ∧ (let w : Word := Word.ofN (8176 + 2 ^ 13 * 15 + 2 ^ 17 * 255)
       w.field 12 0 + (w.field 16 13 + 1) ≤ 8192
         ∧ (Tab.get [] (w.field 24 17) (after (.keyload 49 w) (vaultAt 0)).memc.keySlots).length = 16)
    ∧ ((1 : Word).bit 0 = true ∧ (after (.vaultWipe 49 1) (vaultAt 0)).memc.wiping = some 0
        ∧ (after .vaultWiped (after (.vaultWipe 49 1) (vaultAt 0))).codeAt 4 0 0 = {}) := by decide +kernel

/-- A data word and a program word. -/
theorem witness_CodeCorrectsSingleAndDetectsDoubleErrors :
    ((36 = 36 ∨ 36 = 14) ∧ (0xFFFFFFFFF : Word).toNat < 2 ^ 36) ∧ ((14 = 36 ∨ 14 = 14) ∧ (0x3FFF : Word).toNat < 2 ^ 14)
    ∧ decodeWord 36 { d := 0x7FFFFFFFF, k := checkBits 36 0xFFFFFFFFF } = (0xFFFFFFFFF, .corrected)
    ∧ decodeWord 14 { d := 0x3FFF, k := checkBits 14 0x3FFF ^^^ 0x40 } = (0x3FFF, .corrected) := by decide +kernel

theorem witness_MemoryOperationsStoreOneWordAndKeepTheForm :
    (timed 0).isSet Reg.MEMC_FLIP_CTRL_ARM = false ∧ (timed 0).canonical = true
      ∧ ((timed 0).memWrite 5 1 0 0xFFFFFFFFF).codeAt 5 1 0 = encodeWord 14 0x3FFF := by decide +kernel

/-! ### The MACs -/

/-- Fields of registers set in the register word and in the copy in force. -/
def inForceWith (l : List (Fld × Nat)) (s : State) : State :=
  l.foldl (fun s x =>
    let t := s.setFld x.1 x.2
    { t with act := Tab.put (resetWord x.1.off) x.1.off (t.reg x.1.off) t.act }) s

/-- Port p with its link UP at 100 Mb/s, fields in force and the state of the port changed. -/
def portUp (p : Nat) (l : List (Fld × Nat)) (f : MacPort → MacPort) : State :=
  (inForceWith l (withFlds [(Reg.MAC_STAT_LINK p, 2), (Reg.MAC_STAT_RATE p, 2)] (timed 0))).modMac p f

/-- A good frame of n octets. -/
def goodFrame (n : Nat) : RxFrame :=
  { octets := List.replicate n 0, dt := 0, back := 0, codeErr := false, smd := 0xD5, fragCount := 0, an := false }

/-- A control frame in transmission. -/
def pausing : Sending := { kind := .control (.pause 5), start := 0, cls := 7 }

theorem witness_MacReceptionAndFlowCommands :
    (((timed 0).mac 17).receiving = none ∧ (goodFrame 63).smd = 0xD5 ∧ (goodFrame 63).octets.length < 64 ∧ (goodFrame 63).codeErr = false
        ∧ (after (.rxFrame 17 (goodFrame 63)) (timed 0)).fld (Reg.MAC_CNT_COUNT 17 4) = 1)
    ∧ (let s := inForceWith [(Reg.MAC_CFG_MAX_LEN 0, 64)] (timed 0)
       64 ≤ (goodFrame 65).octets.length ∧ s.inForce (Reg.MAC_CFG_MAX_LEN 0) < (goodFrame 65).octets.length
         ∧ (goodFrame 64).octets.length ≤ s.inForce (Reg.MAC_CFG_MAX_LEN 0) ∧ s.linkOpen 0 = false
         ∧ (after (.rxFrame 0 (goodFrame 65)) s).fld (Reg.MAC_CNT_COUNT 0 5) = 1
         ∧ (after (.rxFrame 0 (goodFrame 64)) s).fld (Reg.MAC_CNT_COUNT 0 1) = 64)
    ∧ (let f : RxFrame := { goodFrame 64 with smd := 0 }
       f.smd ≠ 0xD5 ∧ f.smd ≠ 0x07 ∧ f.smd ≠ 0x19 ∧ f.smd ∉ smdStart ∧ f.smd ∉ smdNext
         ∧ (after (.rxFrame 17 f) (timed 0)).fld (Reg.MAC_CNT_COUNT 17 10) = 1)
    ∧ (let l := List.replicate 60 7
       let f : RxFrame := { goodFrame 0 with octets := l ++ mcrcOf l, smd := 0xB3 }
       15 < 16 ∧ smdStart.idxOf? f.smd = some 3 ∧ ((timed 0).mac 15).assembly = none
         ∧ f.octets.drop (f.octets.length - 4) = mcrcOf (f.octets.take (f.octets.length - 4))
         ∧ ((after (.rxFrame 15 f) (timed 0)).mac 15).assembly.isSome = true)
    ∧ (let s := portUp 17 [(Reg.MAC_CFG_RX_PAUSE 17, 1)] id
       s.inForce (Reg.MAC_CFG_RX_PAUSE 17) = 1 ∧ s.inForce (Reg.MAC_CFG_PFC_EN 17) = 0
         ∧ (s.inForce (Reg.MAC_MODE_AN 17) = 0 ∨ true = true)
         ∧ (after (.pauseRx 17 65535 true) s).isSet (Reg.MAC_STAT_PAUSED 17) = true)
    ∧ (let s := portUp 0 [(Reg.MAC_CFG_PFC_EN 0, 1)] id
       s.inForce (Reg.MAC_CFG_PFC_EN 0) = 1 ∧ (0x80 : Nat).testBit 7 = true
         ∧ ((after (.pfcRx 0 0x80 [0, 0, 0, 0, 0, 0, 0, 9]) s).reg (Reg.MAC_STAT 0)).bit 17 = true)
    ∧ (let s := (withFlds [(Reg.MAC_STAT_PAUSED 0, 1)] (timed 0)).modMac 0 (fun m => { m with pauseUntil := 80 })
       s.isSet (Reg.MAC_STAT_PAUSED 0) = true ∧ (after (.pauseEnd 0 8) s).clk = 16)
    ∧ (let s := after (.pfcRx 0 0x80 [0, 0, 0, 0, 0, 0, 0, 9]) (portUp 0 [(Reg.MAC_CFG_PFC_EN 0, 1)] id)
       (s.reg (Reg.MAC_STAT 0)).bit (10 + 7) = true ∧ ((after (.pauseEnd 0 7) s).reg (Reg.MAC_STAT 0)).bit 17 = false)
    ∧ ( (timed 0).inForce (Reg.MAC_CFG_PFC_EN 17) = 0 ∧ (0xFFFF : Word).field 15 0 = 0xFFFF
        ∧ ((after (.txSend 51 17 0xFFFF) (timed 0)).mac 17).ctrls = [.pause 0xFFFF])
    ∧ (let x : TxStamp := { tsw := 7, status := 0, auto := false, msgType := 0, tag := 3 }
       let s := (timed 0).modMac 0 (fun m => { m with stamps := [x] })
       (s.mac 0).stamps = x :: [] ∧ ((timed 0).mac 0).stamps = []
         ∧ (after (.txtsPop 51 0) s).outs = [.read 51 7 false]) := by
  refine ⟨?_, ?_, ?_, ?_, ?_, ?_⟩ <;> decide +kernel

/-- A suppressed port, and a port at a whole second with FLAP_N downs in the window. -/
theorem witness_DeclaredLinkStateFollowsItsTable :
    (let s (link hold : Nat) := (inForceWith [(Reg.MAC_LINK_HOLD_DOWN 17, hold)]
        (withFlds [(Reg.MAC_STAT_LINK 17, link)] (timed 0))).modMac 17 (fun m => { m with present := true, timer := some 100 })
     (s 1 0).softLink 17 = false ∧ ((s 1 0).mac 17).present = true ∧ (s 1 0).link 17 = 1
       ∧ (s 2 0).link 17 = 2 ∧ (s 2 0).inForce (Reg.MAC_LINK_HOLD_DOWN 17) = 0
       ∧ (s 2 255).inForce (Reg.MAC_LINK_HOLD_DOWN 17) ≠ 0 ∧ (after (.linkLoss 17) (s 2 255)).link 17 = 3
       ∧ ((s 1 0).mac 17).timer = some 100 ∧ (after (.qualExpiry 17) (s 1 0)).link 17 = 2
       ∧ (s 3 1).link 17 = 3 ∧ (after (.holdDownExpiry 17) (s 3 1)).link 17 = 0
       ∧ (s 4 1).link 17 = 4 ∧ (after (.unsuppress 17) (s 4 1)).link 17 = 1
       ∧ (after (.flapQuietExpiry 17) (s 4 1)).link 17 = 1)
    ∧ (let s (link : Nat) := inForceWith [(Reg.MAC_MODE_MODE 0, 3)] (withFlds [(Reg.MAC_STAT_LINK 0, link)] (timed 0))
       (s 0).softLink 0 = false ∧ ((s 0).mac 0).present = false ∧ (s 0).link 0 = 0
         ∧ (s 0).inForce (Reg.MAC_MODE_MODE 0) ≠ 0 ∧ (after (.linkReturn 0 0) (s 0)).link 0 = 1
         ∧ (after (.linkReturn 0 0) (s 3)).link 0 = 2)
    ∧ (2 ≤ (portUp 15 [] id).link 15 ∧ (portUp 15 [] id).link 15 ≤ 3 ∧ (after (.restart 15) (portUp 15 [] id)).link 15 = 0)
    ∧ modeAccepted 11 ((4 : Word).field 2 0) = false
    ∧ ((timed 0).fld (Reg.MAC_MODE_MODE 11) = 0 ∧ (timed 0).link 11 = 0 ∧ (timed 0).isSet (Reg.MAC_CFG_TIMED 11) = false
        ∧ (after (.modeChange 51 11 3) (timed 0)).rateOf 11 = 3)
    ∧ (let s (sup : Nat) := { portUp 0 [(Reg.MAC_FLAP_FLAP_N 0, 2), (Reg.MAC_FLAP_FLAP_WIN 0, 1), (Reg.MAC_FLAP_SUPPRESS 0, sup)]
          (fun m => { m with downs := [16000000000, 16000000000] }) with
            tbu := { (timed 0).tbu with running := true, time := 16000000000 } }
       (s 1).tbu.running = true ∧ (s 1).link 0 ≠ 4 ∧ (s 1).tbu.time % 16000000000 = 0
         ∧ (s 1).inForce (Reg.MAC_FLAP_FLAP_N 0) ≤ ((s 1).inWindow 0 ((s 1).mac 0).downs).length
         ∧ (s 1).fld (Reg.MAC_STAT_CLASS 0) ≠ 2 ∧ (s 1).inForce (Reg.MAC_FLAP_SUPPRESS 0) = 1
         ∧ (s 0).inForce (Reg.MAC_FLAP_SUPPRESS 0) = 0 ∧ (after (.flapClassify 0) (s 1)).link 0 = 4
         ∧ (after (.flapClassify 0) (s 0)).fld (Reg.MAC_STAT_CLASS 0) = 2) := by decide +kernel

/-- The first clause's state has a timed frame of 60 octets due now. -/
theorem witness_MacTransmissionCommands :
    (let q : Posted := { unit := 0, sel := 1, arg := 60 * 2 ^ 21, due := 0, agent := 51, seq := 0 }
     let s := { portUp 0 [(Reg.MAC_CFG_TIMED 0, 1)] id with posted := [q] }
     s.nextTimed 0 = some q ∧ (s.mac 0).sending = none ∧ s.linkOpen 0 = true ∧ s.pausedAt 0 7 (s.timedStart 0 q) = false
       ∧ (s.mac 0).timedEnd = 0 ∧ (s.mac 0).free = 0 ∧ 0 < q.arg / 2 ^ 21 % 2 ^ 14
       ∧ q.arg / 2 ^ 21 % 2 ^ 14 + 4 ≤ s.inForce (Reg.MAC_CFG_MAX_LEN 0) ∧ s.inForce (Reg.MAC_CFG_TIMED 0) ≠ 0)
    ∧ (let q := posting 17 1 0
       let s := { timed 0 with posted := [q] }
       s.nextTimed 17 = some q ∧ (s.mac 17).sending = none ∧ s.linkOpen 17 = false
         ∧ (after (.sendTimed 17) s).eventStat 90 = true)
    ∧ (let s := portUp 17 [] (fun m => { m with ctrls := [.pause 5] })
       s.linkOpen 17 = true ∧ (s.mac 17).sending = none ∧ (s.mac 17).backoff = none
         ∧ s.isSet (Reg.MAC_STAT_LPI_TX 17) = false ∧ (s.mac 17).locking = none ∧ s.isSet (Reg.MAC_STAT_HALF 17) = false
         ∧ (s.mac 17).retry = none ∧ (s.mac 17).ctrls = .pause 5 :: [] ∧ (s.mac 17).pauseUntil = 0 ∧ s.nextTimed 17 = none)
    ∧ (let s := portUp 17 [] (fun m => { m with sending := some pausing })
       (s.mac 17).sending = some pausing ∧ pausing.kind = .control (.pause 5) ∧ pausing.cut = none
         ∧ Ctrl.pause 5 ≠ .verify ∧ ((after (.txFrameEnd 17) s).mac 17).sending = none)
    ∧ (let g := { pausing with kind := .copy 5, cut := some 60 }
       let s := portUp 15 [] (fun m => { m with sending := some g })
       (s.mac 15).sending = some g ∧ g.cut = some 60 ∧ ((after (.txFrameEnd 15) s).mac 15).remainder.isSome = true)
    ∧ (let g := { pausing with kind := .timed (List.replicate 60 0) false }
       let s := portUp 0 [] (fun m => { m with sending := some g })
       (s.mac 0).sending = some g ∧ g.kind = .timed (List.replicate 60 0) false ∧ g.cut = none ∧ g.bad = false
         ∧ (after (.txFrameEnd 0) s).fld (Reg.MAC_CNT_COUNT 0 16) = 1)
    ∧ (let s (v n : Nat) := withFlds [(Reg.MAC_PREEMPT_STATUS 0, v)] (portUp 0 [] (fun m => { m with verifies := n }))
       (s 1 0).linkOpen 0 = true ∧ (s 1 0).inForce (Reg.MAC_PREEMPT_VERIFY_DIS 0) ≠ 1
         ∧ (s 1 0).fld (Reg.MAC_PREEMPT_STATUS 0) = 1 ∧ (s 2 3).fld (Reg.MAC_PREEMPT_STATUS 0) = 2
         ∧ 3 ≤ ((s 2 3).mac 0).verifies ∧ ((s 2 2).mac 0).verifies < 3
         ∧ (after (.preemptVerify 0 false) (s 2 2)).fld (Reg.MAC_PREEMPT_STATUS 0) = 2 ∧ (after (.preemptVerify 0 true) (s 2 0)).fld (Reg.MAC_PREEMPT_STATUS 0) = 3
         ∧ (after (.preemptVerify 0 false) (s 2 3)).fld (Reg.MAC_PREEMPT_STATUS 0) = 4)
    ∧ (let s := withFlds [(Reg.MAC_STAT_HALF 16, 1)] (portUp 16 [] (fun m => { m with sending := some pausing }))
       s.isSet (Reg.MAC_STAT_HALF 16) = true ∧ (s.mac 16).sending = some pausing
         ∧ (s.elapse 0).lineNow ≤ pausing.start + 64 * octetTime (s.rateOf 16) ∧ (s.mac 16).attempts < 15
         ∧ pausing.start + 64 * octetTime (s.rateOf 16) < (s.elapse 100000).lineNow
         ∧ (after (.collision 16 0) s).fld (Reg.MAC_CNT_COUNT 16 19) = 1
         ∧ (after (.collision 16 0) (s.modMac 16 (fun m => { m with attempts := 15 }))).fld (Reg.MAC_CNT_COUNT 16 21) = 1
         ∧ (after (.collision 16 100000) s).fld (Reg.MAC_CNT_COUNT 16 20) = 1)
    ∧ (let s := withFlds [(Reg.MAC_STAT_LPI_TX 0, 1)] (portUp 0 [] (fun m => { m with backoff := some 7 }))
       (s.mac 0).backoff = some 7 ∧ s.linkOpen 0 = true ∧ (s.mac 0).sending = none ∧ s.isSet (Reg.MAC_STAT_LPI_TX 0) = true)
    ∧ (let s := withFlds [(Reg.MAC_STAT_PLCA_OK 17, 1), (Reg.MAC_STAT_LPI_TX 17, 1)]
          (portUp 17 [(Reg.MAC_MODE_MODE 17, 5), (Reg.MAC_MODE_SPEED 17, 0), (Reg.MAC_MODE_DUPLEX 17, 1), (Reg.MAC_PLCA_EN 17, 1)] id)
       s.inForce (Reg.MAC_PLCA_EN 17) ≠ 0 ∧ s.plcaMode 17 = true ∧ s.isSet (Reg.MAC_STAT_PLCA_OK 17) = true
         ∧ s.linkOpen 17 = true ∧ (s.mac 17).sending = none ∧ s.isSet (Reg.MAC_STAT_LPI_TX 17) = true
         ∧ (after (.beacon 17 false) s).isSet (Reg.MAC_STAT_PLCA_OK 17) = false)
    ∧ (let s := portUp 0 [(Reg.MAC_MODE_MODE 0, 1), (Reg.MAC_MODE_SPEED 0, 2), (Reg.MAC_LPI_EN 0, 1)] id
       s.inForce (Reg.MAC_LPI_EN 0) ≠ 0 ∧ s.lpiMode 0 = true ∧ s.linkOpen 0 = true ∧ s.egressEmpty 0 = true
         ∧ s.isSet (Reg.MAC_STAT_LPI_TX 0) = false ∧ s.isSet (Reg.MAC_STAT_LPI_RX 0) = false
         ∧ (after (.lpiEnter 0) s).isSet (Reg.MAC_STAT_LPI_TX 0) = true)
    ∧ (let s := withFlds [(Reg.MAC_STAT_LPI_TX 0, 1)] (portUp 0 [] (fun m => { m with ctrls := [.pause 5] }))
       s.isSet (Reg.MAC_STAT_LPI_TX 0) = true ∧ s.egressEmpty 0 = false
         ∧ (after (.lpiWake 0) s).isSet (Reg.MAC_STAT_LPI_TX 0) = false) := by
  refine ⟨?_, ?_, ?_, ?_, ?_, ?_, ?_⟩ <;> decide +kernel

/-- A complete frame, a copy of it for port 17, and a state in which the copy has reached a stage. -/
def wholeFrame : Frame :=
  { ingress := 0, octets := List.replicate 64 0, tsw := 0, clkIn := 0, formed := 0, complete := some 1 }
def wholeCopy (st : Stage) : Copy :=
  { frame := 3, egress := 17, twin := 17, cls := 0, cells := 1, got := [0], elig := some 2, stage := st }
def withCopy (st : Stage) (m : MacPort → MacPort) : State :=
  let s := portUp 17 [] m
  { s with massif := { s.massif with frames := [(3, wholeFrame)], copies := [(5, wholeCopy st)] } }

/-- A queued copy of a frame starts, and a started one ends. -/
theorem witness_MacTransmissionCommands_copies :
    (let q := withCopy .queued id
     q.linkOpen 17 = true ∧ (q.mac 17).sending = none ∧ (q.mac 17).backoff = none ∧ q.isSet (Reg.MAC_STAT_LPI_TX 17) = false
       ∧ (q.mac 17).locking = none ∧ q.isSet (Reg.MAC_STAT_HALF 17) = false ∧ (q.mac 17).retry = none ∧ (q.mac 17).ctrls = []
       ∧ (q.mac 17).remainder = none ∧ q.heads 17 = [(5, wholeCopy .queued)]
       ∧ q.frameAt (wholeCopy .queued).frame = some wholeFrame)
    ∧ (∀ x, (withCopy .queued id).pausedAt 17 0 x = false)
    ∧ (∀ x, (withCopy .queued id).mayStart 17 0 ((withCopy .queued id).copyLength 17 (wholeCopy .queued)) x = some none)
    ∧ (∀ x, (withCopy .queued id).tcBars 17 (wholeCopy .queued) wholeFrame x = (false, false, false))
    ∧ (let g : Sending := { kind := .copy 5, start := 0, cls := 0 }
       let r := withCopy .started (fun m => { m with sending := some g })
       (r.mac 17).sending = some g ∧ g.kind = .copy 5 ∧ g.cut = none ∧ r.copyAt 5 = some (wholeCopy .started)
         ∧ r.frameAt 3 = some wholeFrame ∧ wholeFrame.complete.isSome = true ∧ wholeFrame.bad = false
         ∧ (List.range (wholeCopy .started).cells).all (wholeCopy .started).got.contains = true
         ∧ (wholeCopy .started).missed = false ∧ (wholeCopy .started).lost = false
         ∧ (after (.txFrameEnd 17) r).fld (Reg.SWC_PCNT_COUNT 17 10) = 1) := by
  have hp : (withCopy .queued id).tcMessage 17 (wholeCopy .queued) wholeFrame
      ((withCopy .queued id).egressOctets (wholeCopy .queued) wholeFrame) = none := by decide +kernel
  have hg : (withCopy .queued id).gated 17 = false := by decide +kernel
  have hn : (withCopy .queued id).nextTimed 17 = none := by decide +kernel
  have h1 : ((withCopy .queued id).mac 17).pauseUntil = 0 := by decide +kernel
  have h2 : Tab.get 0 0 ((withCopy .queued id).mac 17).pfcUntil = 0 := by decide +kernel
  refine ⟨by decide +kernel, fun x => ?_, fun x => ?_, fun x => ?_, by decide +kernel⟩
  · simp [State.pausedAt, h1, h2]
  · simp [State.mayStart, State.gates, State.guardAt, State.closingAt, State.nextClosing, earlier, hg, hn, Nat.testBit]
  · unfold State.tcBars; rw [hp]

theorem witness_RateStepCommands :
    (let s (m : MacPort) := portUp 12 [(Reg.MAC_STEP_EN 12, 1), (Reg.MAC_STEP_HOLD 12, 1)] (fun _ => m)
     let s4 (m : MacPort) := withFlds [(Reg.MAC_STAT_RATE 12, 4)] (s m)
     ((s4 {}).mac 12).request = none
       ∧ ((after (.downReq 12 9 0) (s4 { quietWindows := 1 })).mac 12).ctrls = [.saddle 2 9]
       ∧ ((after (.downReq 12 9 0) (s4 {})).mac 12).ctrls = [.saddle 3 9]
       ∧ ((s { request := some { up := false, seq := 255, at_ := some 0 } }).mac 12).request
           = some { up := false, seq := 255, at_ := some 0 }
       ∧ ((after (.downAck 12 255) (s { request := some { up := false, seq := 255, at_ := some 0 } })).mac 12).request = none
       ∧ ((after (.upAck 12 0) (s { request := some { up := true, seq := 0, at_ := some 0 } })).mac 12).request = none
       ∧ (after (.stepReqTimeout 12) (s { request := some { up := true, seq := 0, at_ := some 0 }, unanswered := 2 })).fld
           (Reg.MAC_STAT_STEP_PEER 12) = 2
       ∧ ((s { switchAt := some (false, 0) }).mac 12).switchAt = some (false, 0)
       ∧ (after (.stepSwitch 12) (s4 { switchAt := some (false, 0) })).rateOf 12 = 3
       ∧ (after (.stepSwitch 12) (s { switchAt := some (true, 0) })).rateOf 12 = 4
       ∧ ((s { locking := some (true, 0) }).mac 12).locking = some (true, 0)
       ∧ (after (.stepChange 12) (s { locking := some (true, 0) })).eventStat 92 = true
       ∧ (after (.stepFail 12) (s { locking := some (false, 0) })).rateOf 12 = 4)
    ∧ ((timed 0).tbu.running = true ∧ (timed 0).inForce (Reg.MAC_STEP_EN 17) = 0
        ∧ (timed 0).isSet (Reg.MAC_STAT_STEPPED 17) = false) := by decide +kernel

/-! ### Massif -/

/-- A state of Massif. -/
def massif (f : Massif → Massif) (s : State) : State := { s with massif := f s.massif }

/-- A frame of 64 zeros from port 0, and a copy of it for port 17. -/
def someFrame : Frame := { ingress := 0, octets := List.replicate 64 0, tsw := 0, clkIn := 0, formed := 0 }
def someCopy (st : Stage) : Copy := { frame := 3, egress := 17, twin := 17, cls := 0, elig := some 2, got := [0], stage := st }

theorem witness_FabricAndForwardingCommands :
    (let s := portUp 17 [] id
     (List.replicate 64 0).length = 64 ∧ s.linkOpen 17 = true ∧ (s.mac 17).receiving = none
       ∧ State.macEnds (List.replicate 64 0) = false ∧ s.frameAt s.massif.nextFrame = none
       ∧ (((after (.cellForm 17 0 0 (List.replicate 64 0)) s).mac 17).receiving).isSome = true
       ∧ (((after (.cellForm 17 0 0 (List.replicate 64 1)) (after (.cellForm 17 0 0 (List.replicate 64 0)) s)).mac 17).receiving.map
            (·.octets.length)) = some 128)
    ∧ ((List.replicate 63 0).length ≠ 64 ∧ (timed 0).linkOpen 0 = false)
    ∧ (let c : Cell := { copy := 9, ingress := 0, egress := 19, seq := 1, idx := 0 }
       let s := massif (fun m => { m with outputs := [(31, [c])] }) (timed 0)
       Tab.get [] 31 s.massif.outputs = c :: [] ∧ 0 < (c.seq + 2 ^ 16 - Tab.get 0 (32 * c.ingress + c.egress) s.massif.seqExpect) % 2 ^ 16
         ∧ (c.seq + 2 ^ 16 - Tab.get 0 (32 * c.ingress + c.egress) s.massif.seqExpect) % 2 ^ 16 < 2 ^ 15
         ∧ (after (.cellArrive 31) s).massif.held = [{ cell := c, since := 0 }])
    ∧ (let c : Cell := { copy := 9, ingress := 0, egress := 19, seq := 65535, idx := 0 }
       let s := massif (fun m => { m with outputs := [(0, [c])], seqExpect := [(19, 65535)] }) (timed 0)
       Tab.get [] 0 s.massif.outputs = c :: [] ∧ s.massif.held = [] ∧ s.copyAt c.copy = none
         ∧ c.seq = Tab.get 0 (32 * c.ingress + c.egress) s.massif.seqExpect ∧ c.seq < 2 ^ 16
         ∧ Tab.get 0 19 (after (.cellArrive 0) s).massif.seqExpect = 0)
    ∧ (let h : HeldCell := { cell := { copy := 9, ingress := 0, egress := 19, seq := 2, idx := 1 }, since := 5 }
       let s := massif (fun m => { m with held := [h] }) (timed 0)
       s.massif.held.find? (fun h => h.cell.ingress == 0 && h.cell.egress == 19) = some h
         ∧ (after (.cellLost 19 0) s).eventStat 104 = true)
    ∧ (FabricLink.output ≠ .mid ∧ (timed 0).isSet Reg.SWC_FAB_SPARE_USED = false ∧ 31 ∉ (timed 0).massif.faulty
        ∧ 31 ∉ (timed 0).massif.faultyOut
        ∧ (after (.fabricFault .input 30 0) (timed 0)).fld Reg.SWC_FAB_SPARE_SUBST = 30
        ∧ (after (.fabricFault .output 0 0) (timed 0)).fld Reg.SWC_FAB_SPARE_SUBST = 0
        ∧ (after (.fabricFault .output 31 0) (timed 0)).massif.faultyOut = [31]
        ∧ ((after (.fabricFault .mid 31 0) (timed 0)).fld Reg.SWC_FAB_STAT_MIDS).testBit 31 = false)
    ∧ (let s := massif (fun m => { m with frames := [(3, someFrame)], copies := [(5, someCopy .waiting)] }) (timed 0)
       s.nextEligible 17 = some (5, someCopy .waiting) ∧ s.copyAt 5 = some (someCopy .waiting)
         ∧ s.frameAt (someCopy .waiting).frame = some someFrame ∧ someFrame.ingress ≤ 17 ∧ someFrame.bad = false
         ∧ (someCopy .waiting).lost = false ∧ (someCopy .waiting).got.contains 0 = true ∧ s.tbu.running = true
         ∧ ((after (.eligibility 17) s).copyAt 5).map (·.stage) = some .queued)
    ∧ (let e : FdbEntry := { valid := true, vid := 1, addr := 7, dest := 1 }
       let s := massif (fun m => { m with fdb := [(4, e), (5, { e with static := true })] }) (timed 100000000000000)
       (4, e) ∈ s.massif.fdb ∧ (5, { e with static := true }) ∈ s.massif.fdb ∧ e.static = false
         ∧ e.learned + s.inForce Reg.SWC_LIMITS_AGE * 16000000000 ≤ s.clk
         ∧ (Tab.get {} 4 (after .fdbAge s).massif.fdb).valid = false ∧ (Tab.get {} 5 (after .fdbAge s).massif.fdb).valid = true)
    ∧ (let s := massif (fun m => { m with copies := [(5, someCopy .queued)] }) (timed 0)
       s.massif.copies.filter (fun e => e.2.egress == 17 && e.2.stage == .queued) = [(5, someCopy .queued)]
         ∧ (after (.aged 17) s).fld (Reg.SWC_PCNT_COUNT 17 13) = 1)
    ∧ (let e : DupEntry := { src := 1, seq := 2, byB := true, at_ := 3 }
       let s := massif (fun m => { m with dups := [(2048 * 1 + 2047, [e])] }) (timed 0)
       s.massif.dups = [(2048 * 1 + 2047, [e])] ∧ (after (.dupForget 1) s).fld (Reg.SWC_RPCNT_COUNT 1 5) = 1)
    ∧ (let s := withFlds [(Reg.SWC_GBASE_BASE 17, 256)] (timed 0)
       s.isSet (Reg.SWC_GCTL_PENDING 17) = false ∧ (s.tick : Int) < s.boundaryOf (s.fld (Reg.SWC_GBASE_BASE 17)) / 128
         ∧ State.cycleTime (s.gateEntries 17 (1 - s.fld (Reg.SWC_GCTL_OPER 17)) (s.fld (Reg.SWC_GCTL_LEN 17) + 1)) ≤ 2 ^ 28
         ∧ (timed 0).boundaryOf ((timed 0).fld (Reg.SWC_GBASE_BASE 17)) / 128 ≤ ((timed 0).tick : Int)
         ∧ (after (.gateChange 51 17) s).isSet (Reg.SWC_GCTL_PENDING 17) = true
         ∧ (after (.gateChange 51 17) (timed 0)).eventStat 110 = true)
    ∧ (let s := massif (fun m => { m with gcl := [((2 * 17 + 1) * 256, Word.ofN (2 ^ 36 - 1)), ((2 * 17 + 1) * 256 + 1, Word.ofN (2 ^ 36 - 1))] }) (withFlds
            [(Reg.SWC_GCTL_LEN 17, 1)] (timed 0))
       s.isSet (Reg.SWC_GCTL_PENDING 17) = false
         ∧ 2 ^ 28 < State.cycleTime (s.gateEntries 17 (1 - s.fld (Reg.SWC_GCTL_OPER 17)) (s.fld (Reg.SWC_GCTL_LEN 17) + 1))
         ∧ (after (.gateChange 51 17) s).isSet (Reg.SWC_GSTAT_GATE_ERR 17) = true
         ∧ (withFlds [(Reg.SWC_GCTL_PENDING 0, 1)] s).isSet (Reg.SWC_GCTL_PENDING 0) = true)
    ∧ (let s := massif (fun m => { m with gatePending := [(0, { len := 1, base := 2 })] })
        (withFlds [(Reg.SWC_GCTL_PENDING 0, 1)] (timed 0))
       s.isSet (Reg.SWC_GCTL_PENDING 0) = true ∧ s.fld (Reg.SWC_GCTL_OPER 0) = 0 ∧ s.tbu.running = true
         ∧ (after (.gateSwitch 0) s).tbu.time = 256 ∧ (after (.gateCancel 0) s).isSet (Reg.SWC_GCTL_PENDING 0) = false)
    ∧ (let s := inForceWith [(Reg.SWC_GCTL_EN 17, 1)] (timed 0)
       s.gated 17 = true ∧ s.tbu.running = true ∧ s.tbu.time % 128 = 0)
    ∧ (let s := inForceWith [(Reg.SWC_CTRL_TXQ_EN, 1), (Reg.SWC_CTRL_TXQ, 7)] (queueOf 7 1 [])
       let b := s.setCode 3 0 (s.queueSlot 7 0) { encodeWord 36 5 with d := 6 }
       s.inForce Reg.SWC_CTRL_TXQ_EN ≠ 0 ∧ ((s.popQueue (s.inForce Reg.SWC_CTRL_TXQ)).map (·.2.1)) = some false
         ∧ ((b.popQueue (b.inForce Reg.SWC_CTRL_TXQ)).map (·.2.1)) = some true) := by
  refine ⟨?_, ?_, ?_, ?_, ?_, ?_, ?_, ?_, ?_, ?_⟩ <;> decide +kernel

/-- The bucket of the key 1, VID 0 holds an entry, nothing, or four entries of other keys. -/
theorem witness_SwitchTableCommands :
    (let b := 4 * fdbBucket 0 1
     let e (a : Nat) : FdbEntry := { valid := true, addr := a, dest := 5 }
     let s (l : Tab FdbEntry) := massif (fun m => { m with fdb := l }) (withFlds [(Reg.SWC_FDB_KEY0_ADDR_LO, 1)] (timed 0))
     (s []).fdbKey = (1, 0) ∧ State.fdbFind (s [(b + 3, e 1)]).massif.fdb 0 1 = some (b + 3) ∧ b + 3 < 16384
       ∧ (after .fdbLookup (s [(b + 3, e 1)])).fld Reg.SWC_FDB_DATA_DEST = 5
       ∧ (after .fdbDelete (s [(b + 3, e 1)])).massif.fdb = []
       ∧ (Tab.get {} (b + 3) (after .fdbInsert (s [(b + 3, e 1)])).massif.fdb).static = true
       ∧ State.fdbFind (s []).massif.fdb 0 1 = none ∧ (s []).fdbRoom 0 1 = some b ∧ b < 16384
       ∧ (Tab.get {} b (after .fdbInsert (s [])).massif.fdb).static = true
       ∧ (let f := s [(b, e 2), (b + 1, e 3), (b + 2, e 4), (b + 3, e 5)]
          State.fdbFind f.massif.fdb 0 1 = none ∧ f.fdbRoom 0 1 = none
            ∧ (after .fdbInsert f).isSet Reg.SWC_FDB_CMD_FULL = true
            ∧ (b, e 2) ∈ f.massif.fdb ∧ (e 2).static = false ∧ (after .flushDyn f).massif.fdb = []))
    ∧ ((after (.vlanWrite 51 4094) (withFlds [(⟨Reg.SWC_VLAN_DATA0, 35, 0⟩, 9)] (timed 0))).vlan 0 4094 = 9)
    ∧ (let s := withFlds [(⟨Reg.SWC_QCI_DATA0, 35, 0⟩, 2 ^ 35 + 5)] (timed 0)
       (s.filterWord 1023 2).bit 33 = false ∧ (after (.qciWrite 51 false 1023) s).filterWord 1023 0 = Word.ofN (2 ^ 35 + 5)
         ∧ Tab.get 0 (2 * 255) (after (.qciWrite 51 true 255) s).massif.meters = 5
         ∧ after (.qciWrite 51 true 256) s = s.reject 51 Reg.SWC_QCI_CMD)
    ∧ (after (.vlanRead 51 1) (massif (fun m => { m with vlan0 := [(1, 77)] }) (timed 0))).reg Reg.SWC_VLAN_DATA0 = 77 := by
  decide +kernel

/-! ### Stream services and Terrace -/

/-- A frame of index 131071 whose verification is awaited, its key of slot 0. -/
def verifying : StsWork :=
  { index := 131071, table := 0, sub := 4, queue := 3, d3 := Word.ofN (2 * 2 ^ 7), verifying := true }

/-- Stream services with the words of an entry's registers staged and work to do. -/
def stsIs (l : List (Fld × Nat)) (f : Sts → Sts) : State :=
  let s := inForceWith l (timed 0)
  { s with sts := f s.sts }

/-- The octets of a GOOSE frame with APPID 7 in the packet buffer at word 64, and what Massif hands over of it. -/
def gooseFrame : Delivered :=
  { octets := [], ingress := 0, cls := 0, vid := 1, pcp := 0, lan := 0, tsw := 0, complete := 0, filter := none, mirror := false, base := 64 }
def goose (l : List (Fld × Nat)) (f : Sts → Sts) : State :=
  let words : List Nat := [24, 0, 0, 0, 0, 0, 0, 0x88 * 2 ^ 27 + 0xB8 * 2 ^ 18 + 7, 0]
  let s := words.zipIdx.foldl (fun s x => s.setCode 0 0 (64 + x.2) (encodeWord 36 (Word.ofN x.1))) (stsIs ((Reg.STS_CTRL_EN, 1) :: l) f)
  massif (fun m => { m with toSts := [gooseFrame] }) s

/-- Subscription 2047 of the GOOSE table: APPID 7, any VID, with a DATA3 word. -/
def gooseSub (d3 : Nat) (x : Sts) : Sts :=
  { x with subs := [(4096 + 2047, { d1 := Word.ofN (7 * 2 ^ 16), d2 := Word.ofN (2 ^ 12 + 3 * 2 ^ 14 + 2 ^ 22), d3 := Word.ofN d3 })] }

theorem witness_StreamServicesCommands :
    (let d : Delivered := { octets := List.replicate 64 0, ingress := 0, cls := 0, vid := 1, pcp := 0, lan := 0, tsw := 0,
                            complete := 0, filter := none, mirror := false }
     let s := massif (fun m => { m with toSts := [d] }) (inForceWith [(Reg.STS_CTRL_EN, 0)] (timed 0))
     s.massif.toSts = d :: [] ∧ s.inForce Reg.STS_CTRL_EN = 0 ∧ s.sts.work = [] ∧ s.sts.blocked = none
       ∧ (after .stsFrame s).fld (Reg.STS_CNT_COUNT 4) = 1)
    ∧ (let s := goose [] (gooseSub 0)
       let x := ((s.modMassif (fun x => { x with toSts := [] })).stsCount 0).storedFrame 64
       let s1 := x.2.2.2
       s.massif.toSts = gooseFrame :: [] ∧ s.inForce Reg.STS_CTRL_EN ≠ 0
         ∧ s1.stsKey x.1 = some { table := 1, udp := false, addr := 0, ident := 7 }
         ∧ ((s1.subCandidates 1).filter (fun j => State.subMatches (s1.subFor (4096 + j) (s1.boundaryOf x.2.1 / 128))
             { table := 1, udp := false, addr := 0, ident := 7 } x.2.2.1)).min? = some 2047
         ∧ s1.sts.blocked = none ∧ s1.sts.work = []
         ∧ (s1.subFor (4096 + 2047) (s1.boundaryOf x.2.1 / 128)).d3.field 8 7 = 0
         ∧ (after .stsFrame s).sts.held = [4])
    ∧ (let s := goose [] (fun x => gooseSub (2 ^ 7) { x with work := [verifying] })
       let s1 := (((s.modMassif (fun x => { x with toSts := [] })).stsCount 0).storedFrame 64).2.2.2
       s1.sts.work = verifying :: [] ∧ verifying.verifying = true ∧ s1.sts.blocked = none
         ∧ (after .stsFrame s).sts.work.map (fun w => (w.sub, w.queue, w.verifying)) = [(4, 3, true), (2047, 3, true)])
    ∧ (let s := stsIs [] (fun x => { x with work := [verifying] })
       s.sts.work.find? (fun w => w.verifying && w.index == 0) = none
         ∧ s.sts.work.find? (fun w => w.verifying && w.index == 131071) = some verifying ∧ s.tagUnit 3 none = some 3
         ∧ (s.report (0xA5 + 3) 260 0 131071 0 0).tagUnit 0 (some 3) = some 0
         ∧ ((s.report (0xA5 + 3) 260 0 131071 0 0).report (0xA5 + 0) 260 0 131071 0 0).tagUnit 3 (some 0) = some 3
         ∧ ({ s with strata := { s.strata with tagRetired := [0, 1, 2, 3] } }).tagUnit 3 none = none)
    ∧ (let s := { timed 0 with sts := { (timed 0).sts with held := [131071] } }
       s.sts.held.contains 131071 = true ∧ s.sts.held.contains 0 = false ∧ (after (.stsFree 51 131071) s).sts.held = [])
    ∧ (let s := withFlds [(⟨Reg.STS_SUB_DATA2, 35, 0⟩, 4094 + 2 ^ 13), (Reg.STS_SUB_AT_AT, 128)] (timed 0)
       (0 : Fin 4).val < 3 ∧ 4095 < subTableSize 0 ∧ subTableSize 2 ≠ 0 ∧ s.isSet Reg.STS_SUB_CMD_PENDING = false
         ∧ (s.tick : Int) < s.boundaryOf (s.fld Reg.STS_SUB_AT_AT) / 128
         ∧ (timed 0).boundaryOf ((timed 0).fld Reg.STS_SUB_AT_AT) / 128 ≤ ((timed 0).tick : Int)
         ∧ (after (.subWriteAt 51 0 4095) s).isSet Reg.STS_SUB_CMD_PENDING = true
         ∧ (Tab.get {} 4095 (after (.subWrite 51 0 4095) s).sts.subs).d2 = Word.ofN (4094 + 2 ^ 13))
    ∧ (let s := withFlds [(⟨Reg.STS_SUB_DATA2, 35, 0⟩, 4094), (⟨Reg.STS_SUB_DATA3, 35, 0⟩, 2 ^ 7)] (timed 0)
       (!(s.reg Reg.STS_SUB_DATA2).bit 13) = true ∧ ((s.reg Reg.STS_SUB_DATA3).field 8 7 != 0) = true
         ∧ (after (.subWrite 51 2 255) s).eventStat 0 = true ∧ (Tab.get {} (8192 + 255) (after (.subWrite 51 2 255) s).sts.subs).d3 = 0
         ∧ (withFlds [(Reg.STS_SUB_CMD_PENDING, 1)] s).isSet Reg.STS_SUB_CMD_PENDING = true)
    ∧ (let p : TimedSub := { key := 4096 * 2, entry := { d2 := 9 }, tick := 8 }
       let s := { withFlds [(Reg.STS_SUB_CMD_PENDING, 1)] (timed 0) with sts := { (timed 0).sts with pending := some p } }
       s.isSet Reg.STS_SUB_CMD_PENDING = true ∧ s.sts.pending = some p ∧ s.tbu.running = true
         ∧ (after .writeAtApply s).tbu.time = 1024) := by decide +kernel

/-- The verification of a frame is awaited, and slot 0 holds a key for ALG 2 with key identifier 9. -/
def keyed : State :=
  let s := stsIs [(Reg.STS_KSLOT_LOADED 0, 1), (Reg.STS_KSLOT_KEY_ID 0, 9), (Reg.STS_KSLOT_ALG 0, 2)]
    (fun x => { x with work := [verifying] })
  { s with memc := { s.memc with keySlots := [(0, [1, 2, 3, 4])] } }

/-- The clauses about the verdicts, where the open extension of the frame holds none, and where it holds the value of the key of
slot 0. -/
theorem witness_StreamServicesCommands_verdicts :
    (Config.authExtension false [] = none →
      let s := stsIs [] (fun x => { x with work := [verifying] })
      s.verdict verifying = 6 ∧ verifying.d3.field 8 7 = 2 ∧ s.sts.work = [verifying] ∧ s.sts.blocked = none)
    ∧ (Config.authExtension false [] = some (9, Config.authTag 2 [1, 2, 3, 4] 0 false []) →
      keyed.verdict verifying = 5 ∧ keyed.sts.work = [verifying] ∧ keyed.sts.blocked = none) := by
  refine ⟨fun h => ⟨?_, by decide +kernel, rfl, rfl⟩, fun h => ⟨?_, rfl, rfl⟩⟩
  · simp [State.verdict, verifying, h]
  · have hf : ([2 * verifying.d3.field 6 0, 2 * verifying.d3.field 6 0 + 1].find? (fun k =>
        keyed.isSet (Reg.STS_KSLOT_LOADED k) && keyed.inForce (Reg.STS_KSLOT_KEY_ID k) == 9)) = some 0 := by
      decide +kernel
    have ha : keyed.inForce (Reg.STS_KSLOT_ALG 0) = 2 := by decide +kernel
    have hk : (Tab.get [] 0 keyed.memc.keySlots : List Nat) = [1, 2, 3, 4] := by decide +kernel
    have ht : verifying.d3.field 10 9 = 0 := by decide +kernel
    have hl : keyAllowed 2 4 0 = true := rfl
    unfold State.verdict
    simp only [show verifying.udp = false from rfl, show verifying.octets = [] from rfl, h, hf, ha, hk, ht]
    simp [hl]

/-- Group 63 in a state. -/
def groupIs (x : Group) (l : List (Fld × Nat)) : State := (withFlds l (timed 0)).setGroup 63 x

/-- Group 63 is active and stream 1023, of 4,000 samples a second, is one of its streams; 1 ns after a tick boundary. -/
def streaming : State :=
  let s := groupIs { active := true } [(Reg.TAL_SCFG_EN 1023, 1), (Reg.TAL_SCFG_GROUP 1023, 63), (Reg.TAL_SRATE_RATE 1023, 4000)]
  { s with clk := 16, tbu := { s.tbu with time := 16 } }

theorem witness_TerraceCommands :
    ((timed 0).isSet (Reg.TAL_SCFG_EN ((1023 : Word).field 9 0)) = false
        ∧ (after (.contribution 13 1023) (timed 0)).eventStat 118 = true)
    ∧ (let s := streaming
       let w : Word := Word.ofN (1023 + 2 ^ 10 * 3999 + 2 ^ 26 * 2 + 2 ^ 34)
       w.field 9 0 = 1023 ∧ s.isSet (Reg.TAL_SCFG_EN 1023) = true ∧ s.fld (Reg.TAL_SCFG_GROUP 1023) = 63
         ∧ w.field 25 10 < s.fld (Reg.TAL_SRATE_RATE 1023) ∧ (s.group 63).active = true ∧ (s.group 63).missed = []
         ∧ (s.stream 1023).held = [] ∧ w.field 33 26 = 2 ∧ ((after (.contribution 13 w) s).stream 1023).held.length = 1)
    ∧ (let s := streaming
       let w : Word := Word.ofN (1023 + 2 ^ 10 * 3999)
       w.field 33 26 = 0 ∧ (s.group 63).missed = [] ∧ (s.stream 1023).held = []
         ∧ ((after (.contribution 13 w) s).stream 1023).held.map (·.2.arrival) = [true])
    ∧ (let s := groupIs {} [(Reg.TAL_GROWS_NROWS 63, 1), (Reg.TAL_GSTART_START 63, 16000)]
       let w := (s.reg (Reg.TAL_GCFG 63)).setField 0 0 1
       (s.group 63).active = false ∧ (s.writeGeneric 51 (Reg.TAL_GCFG 63) (w.setField 0 0 0)).enableOk 63 = true
         ∧ ((timed 0).writeGeneric 51 (Reg.TAL_GCFG 63) (w.setField 0 0 0)).enableOk 63 = false
         ∧ ((after (.groupEnable 51 63 w) s).group 63).active = true)
    ∧ (let s := groupIs { active := true } [(Reg.TAL_GCFG_EN 63, 1), (Reg.TAL_GSTART_START 63, 16000)]
       let w := ((s.reg (Reg.TAL_GCFG 63)).setField 0 0 0).setField 4 4 1
       (s.group 63).active = true ∧ s.isSet (Reg.TAL_GCFG_EN 63) = true
         ∧ w.field 3 1 = (s.reg (Reg.TAL_GCFG 63)).field 3 1 ∧ w.field 20 5 = (s.reg (Reg.TAL_GCFG 63)).field 20 5
         ∧ w.bit 4 = true ∧ (s.nextRow 63 : Int) < s.boundaryOf (s.fld (Reg.TAL_GSTART_START 63))
         ∧ ((after (.groupDisable 51 63 w) s).group 63).stop = some (s.boundaryOf (s.fld (Reg.TAL_GSTART_START 63)))
         ∧ (w.setField 20 13 1).field 20 5 ≠ (s.reg (Reg.TAL_GCFG 63)).field 20 5)
    ∧ (let s := groupIs { active := true, next := 1 } [(Reg.TAL_GCFG_EN 63, 1)]
       (s.group 63).active = true ∧ s.isSet (Reg.TAL_GCFG_EN 63) = true
         ∧ ((((s.tick + 1) * 128 : Nat) : Int) ≤ (s.nextRow 63 : Int))
         ∧ ((after (.groupDisable 51 63 ((s.reg (Reg.TAL_GCFG 63)).setField 0 0 0)) s).group 63).active = false)
    ∧ (let s := groupIs { active := true } [(Reg.TAL_GROWS_NROWS 63, 1)]
       (s.group 63).active = true ∧ (s.group 63).stop = none ∧ s.groupStreams 63 = [] ∧ s.tbu.running = true
         ∧ (s.group 63).busy = [] ∧ State.stepSkipped (s.releaseAt 63) s.tbu.steps s.tbu.time s.clk = false
         ∧ ((s.group 63).next - (s.group 63).first) % max 1 (s.fld (Reg.TAL_GROWS_NROWS 63)) = 0
         ∧ (after (.rowRelease 63) s).fld (Reg.TAL_CNT_COUNT 6) = 1)
    ∧ (let s := groupIs { active := true, busy := [0] } [(Reg.TAL_GROWS_NROWS 63, 1)]
       (s.group 63).active = true ∧ 0 ∈ (s.group 63).busy ∧ (after (.rowRelease 63) s).eventStat 117 = true)
    ∧ (let s := groupIs { active := true, next := 1 } []
       let u := { s with clk := 10 ^ 9, tbu := { s.tbu with time := 10 ^ 9, steps := [(10 ^ 9, 10 ^ 9 - 1)] } }
       (u.group 63).active = true ∧ u.tbu.running = true
         ∧ State.stepSkipped (u.releaseAt 63) u.tbu.steps u.tbu.time u.clk = true
         ∧ (after (.rowRelease 63) u).eventStat 48 = true)
    ∧ (let s := { groupIs { busy := [2] } [] with tal := { (groupIs { busy := [2] } []).tal with delivered := [(524287, 63, 2)] } }
       s.tal.delivered = [(524287, 63, 2)] ∧ 524287 < 2 ^ 19 ∧ (timed 0).tal.delivered = []
         ∧ ((after (.rfree 51 524287) s).group 63).busy = []) := by decide +kernel

/-! ### Ridgeline -/

/-- Node 63 in a state of the controller, with fields and the controller's part changed. -/
def rlIn (st : Nat) (l : List (Fld × Nat)) (f : Ridgeline → Ridgeline) (time : Nat) : State :=
  { withFlds ((Reg.RLC_STAT_STATE, st) :: (Reg.RLC_CTRL_EN, 1) :: l) (timed time) with
    straps := { (timed 0).straps with rid := 63 }
    rl := f (timed 0).rl }

/-- The example under R366: the offset corrections of cycles 1,200 and 1,201 and the change of the rate. -/
theorem test_offset_correction_example :
    midpoint [96, -40, 24, 200, 8, -16, 56, -1200] = 18 ∧ midpoint [90, -48, 20, 190, 2, -20, 52, -1210] = 13
    ∧ midpoint [-3, 0] = -2 ∧ midpoint [9, -5, 100] = 9 := by decide +kernel

/-- A frame of node 5 in its slot of cycle 7. -/
def rlFrame : RlFrame := { sender := 5, cycle := 7, sync := true, null := false, kind := 0, rtsw := 8, tsw := 9, octets := [] }

/-- A sync frame of node 5, of 87 octets. -/
def syncFrame : List Nat :=
  rlOctets { sender := 5, slot := 5, cycle := 0, sync := true, cold := false, null := true, kind := 0, root := false, standby := false }
    (List.replicate 80 0)

theorem witness_RidgelineStateAndSlotCommands :
    ((rlIn 0 [] id 0).rlState = 0 ∧ (after (.rlEnable 51) (rlIn 0 [] id 0)).rlState = 1
        ∧ (rlIn 4 [] id 0).rlState ≠ 0 ∧ (after (.rlDisable 51) (rlIn 4 [] id 0)).rlState = 0)
    ∧ ((rlIn 1 [] id 0).rlState = 1 ∧ (rlIn 1 [] id 0).isSet Reg.RLC_CFG_COLDSTART = false
        ∧ (rlIn 1 [(Reg.RLC_CFG_COLDSTART, 1)] id 0).isSet Reg.RLC_CFG_COLDSTART = true
        ∧ (after .listenTimeout (rlIn 1 [(Reg.RLC_CFG_COLDSTART, 1)] id 0)).clk = 4000000 + 64 * 40960 + 128)
    ∧ ((rlIn 4 [] id 0).rlState ≠ 5 ∧ (after (.rlFrameRx true false 0 0 []) (rlIn 4 [] id 0)).fld (Reg.RLC_CNT_COUNT 3) = 1)
    ∧ (syncFrame.length = 87 ∧ beAt syncFrame 84 3 = crc24 (syncFrame.take 84)
        ∧ (RlHeader.ofNat (beAt syncFrame 0 4)).slot = 5 ∧ (RlHeader.ofNat (beAt syncFrame 0 4)).sender = 5
        ∧ (RlHeader.ofNat (beAt syncFrame 0 4)).sender ≠ (rlIn 1 [] id 0).straps.rid % 64
        ∧ (RlHeader.ofNat (beAt syncFrame 0 4)).sync = true
        ∧ (after (.rlFrameRx false true 0 0 syncFrame) (rlIn 1 [] id 0)).rlState = 3)
    ∧ (let s := rlIn 3 [] id 0
       let u := { s with tbu := { s.tbu with pll := slotStart 5 + 2080 + s.rlDelay 5 false } }
       let pos := u.rlPosAt (u.tbu.pll : Int)
       (u.elapse 0).tbu.pll = u.tbu.pll ∧ u.rlHolds = true ∧ slotAt pos = some 5
         ∧ (RlHeader.ofNat (beAt syncFrame 0 4)).cycle = u.rlCycle % 64
         ∧ (RlHeader.ofNat (beAt syncFrame 0 4)).reserved = 0 ∧ u.rlSenderOk (RlHeader.ofNat (beAt syncFrame 0 4)) = true
         ∧ pos = ((slotStart 5 + 2080 + u.rlDelay 5 false : Nat) : Int)
         ∧ (after (.rlFrameRx false true 0 0 syncFrame) u).rl.rxA.map (·.sender) = some 5
         ∧ (after (.rlFrameRx false true 0 0 syncFrame) u).rl.rxB = none)
    ∧ ((rlIn 3 [] id 0).rlHolds = true ∧ (rlIn 3 [] id 0).rl.rxA = none ∧ (rlIn 3 [] id 0).rl.rxB = none
        ∧ (after (.slotEnd 79) (rlIn 3 [] id 0)).fld (Reg.RLC_SLOTCNT_MISSED 79) = 1)
    ∧ (let s := rlIn 3 [] (fun r => { r with rxA := some rlFrame }) 0
       s.rlHolds = true ∧ s.rl.rxA = some rlFrame ∧ s.rl.rxB = none
         ∧ (after (.slotEnd 5) s).fld (Reg.RLC_SLOTCNT_ONE_CH 5) = 1)
    ∧ ((rlIn 3 [] (fun r => { r with activate := true }) 0).rl.activate = true
        ∧ (after .cycleStart (rlIn 3 [] (fun r => { r with activate := true }) 0)).rlState = 4)
    ∧ (let d : RlDeviation := { node := 5, a := some 5000 }
       let s := rlIn 4 [] (fun r => { r with devs := [d] }) 0
       s.rlHolds = true ∧ s.rl.fresh = false ∧ s.rlState = 4
         ∧ 48 * s.fld Reg.RLC_SYNC_PREC < (midpoint (s.cycleValues.map (·.2))).natAbs
         ∧ (after .nitStart s).eventStat 129 = true)
    ∧ (let s := rlIn 3 [] (fun r => { r with fresh := true, devs := [{ node := 5, a := some 5000 }] }) 0
       s.rlHolds = true ∧ s.rl.fresh = true ∧ (after .nitStart s).fld Reg.RLC_CORR_O = 0) := by decide +kernel

/-- The two clauses of the slots that the device sends in. -/
theorem witness_RidgelineStateAndSlotCommands_sending :
    (let s := rlIn 4 [(Reg.RLC_CFG_CH_A_EN, 1), (Reg.RLC_CFG_SYNC_NODE, 1)] id 0
     s.rlHolds = true ∧ s.fld Reg.RLC_SPARE_SSTATE = 0 ∧ s.guardOpen = true ∧ s.tmx.ext = false ∧ s.tmx.ballsFrom ≤ s.clk
       ∧ s.isSet Reg.RLC_CFG_CH_A_EN = true ∧ s.posted = [] ∧ s.syncSlot 63 = true
       ∧ (after (.sendSlot 63) s).rl.sending = some 63)
    ∧ (let q : Posted := { unit := 91, sel := 1, arg := 8 * 63, due := 40960 * 63, agent := 51, seq := 0 }
       let r : Posted := { q with arg := 8 * 5, due := 40960 * 5 }
       let s (x : Posted) := { rlIn 4 [] id 0 with posted := [x] }
       (s q).rlHolds = true ∧ (s q).fld Reg.RLC_SPARE_SSTATE = 0 ∧ q.unit = 91
         ∧ ((s q).rlAdvance (slotStart 63)).rlDistance q.due ≤ 0
         ∧ ((s q).rlAdvance (slotStart 63)).slotCause q = none ∧ (s q).guardOpen = true
         ∧ ((s r).rlAdvance (slotStart 5)).rlDistance r.due ≤ 0
         ∧ ((s r).rlAdvance (slotStart 5)).slotCause r = some 2
         ∧ (after (.sendSlot 63) (s q)).rl.sending = some 63 ∧ (after (.sendSlot 5) (s r)).eventStat 131 = true) := by
  decide +kernel

theorem witness_RidgelineSpareAndRootCommands :
    (let s := rlIn 4 [(Reg.RLC_CTRL_SPARE_WANT, 1)] id 0
     s.rlState = 4 ∧ s.isSet Reg.RLC_CTRL_SPARE_WANT = true ∧ s.fld Reg.RLC_SPARE_SSTATE = 0
       ∧ (List.range 16).find? (fun i => s.mapOctet (64 + i) < 128) = some 0
       ∧ (after .spareClaim s).fld Reg.RLC_SPARE_OWNED = 64)
    ∧ (let s (want : Nat) := (rlIn 4 [(Reg.RLC_CTRL_SPARE_WANT, want), (Reg.RLC_SPARE_SSTATE, 3)] id 0).setMapOctet 64 255
       (s 0).fld Reg.RLC_SPARE_SSTATE = 3 ∧ (s 0).rl.backoff = 0 ∧ (s 0).isSet Reg.RLC_CTRL_SPARE_WANT = false
         ∧ (s 1).isSet Reg.RLC_CTRL_SPARE_WANT = true
         ∧ (List.range 16).find? (fun i => (s 1).mapOctet (64 + i) < 128) = some 1
         ∧ (after .spareBackoffEnd (s 1)).fld Reg.RLC_SPARE_OWNED = 65)
    ∧ (let s := rlIn 4 [(Reg.RLC_SPARE_SSTATE, 2)] id 0
       s.rlState = 4 ∧ s.isSet Reg.RLC_CTRL_EN = true ∧ s.fld Reg.RLC_SPARE_SSTATE = 2
         ∧ (after (.spareRelease 51) s).rl.release = true ∧ (rlIn 4 [] id 0).fld Reg.RLC_SPARE_SSTATE ≠ 2)
    ∧ (let s := (rlIn 4 [(Reg.RLC_CFG_SYNC_NODE, 1)] (fun r => { r with idle := [(79, 255)] }) 0).setMapOctet 79 128
       s.isSet Reg.RLC_CFG_SYNC_NODE = true ∧ s.rlSends = true ∧ 128 ≤ s.mapOctet (64 + 15)
         ∧ s.fld Reg.RLC_SYNC_SPARE_IDLE ≤ Tab.get 0 (64 + 15) s.rl.idle
         ∧ (after (.spareIdleExpiry 15) s).rl.mapNext = [(79, 0)])
    ∧ (let s := rlIn 4 [(Reg.RLC_ROOT_ROLE, 2)] (fun r => { r with rqSilence := 15 }) 0
       s.rlSends = true ∧ s.fld Reg.RLC_ROOT_ROLE = 2 ∧ s.fld Reg.RLC_SYNC_ROOT_LOSS ≤ s.rl.rqSilence
         ∧ s.isSet Reg.RLC_ROOT_IS_ROOT = false ∧ s.rl.root ≠ some s.rlNode ∧ (after .rootLoss s).eventStat 134 = true)
    ∧ (let s := rlIn 4 [] (fun r => { r with rqBackoff := some 0, tookOver := true, rqHeard := true }) 0
       s.rl.rqBackoff = some 0 ∧ (after .rqBackoffEnd s).rl.tookOver = false) := by decide +kernel

/-- A read of node 5, and a write to it of RLC_FAR_CMD. -/
def rlRead : RlAccess := { node := 5, off := 8, size := 0, data := none, far := false, tag := 7 }
def rlWrite : RlAccess := { node := 5, off := 8, size := 0, data := some 9, far := true }

theorem witness_RidgelineHostAccessCommands :
    (let q : HostRead := { off := 0x3EFFFF8, len := 8, allBytes := true }
     let root := rlIn 4 [(Reg.RLC_ROOT_IS_ROOT, 1), (Reg.RLC_ROOT_ROLE, 1)] id 0
     State.readFits q = true ∧ q.len = 8 ∧ q.off % 8 = 0 ∧ q.off / 0x100000 % 64 ≠ root.rlNode
       ∧ root.isSet Reg.RLC_ROOT_IS_ROOT = true ∧ root.rlSends = true
       ∧ (rlIn 4 [] id 0).isSet Reg.RLC_ROOT_IS_ROOT = false
       ∧ (after (.remoteAccess (.read q)) root).rl.queue.length = 1
       ∧ (after (.remoteAccess (.read q)) (rlIn 4 [] id 0)).eventStat 135 = true)
    ∧ (let q : HostRead := { off := 0x3EFFFF8, len := 68, allBytes := true }
       let v : HostRead := { off := 0x3F00000, len := 12, allBytes := true }
       State.readFits q = false ∧ State.readFits v = true ∧ v.off / 0x100000 % 64 = (rlIn 4 [] id 0).rlNode
         ∧ State.readFits { v with off := 0 } = true ∧ 0 / 0x100000 % 64 ≠ (rlIn 4 [] id 0).rlNode
         ∧ (State.remoteReads 0 3 0).length = 2
         ∧ (after (.remoteAccess (.read { v with off := 0 })) (rlIn 4 [] id 0)).fld (Reg.RLC_CNT_COUNT 15) = 2)
    ∧ (let q : HostWrite := { off := 4, dwords := [1, 2, 3], allBytes := true, poisoned := false }
       { q with poisoned := true }.poisoned = true ∧ q.poisoned = false ∧ State.writeFits q = true
         ∧ State.writeFits { q with allBytes := false } = false ∧ 0x3F00004 / 0x100000 % 64 = (rlIn 4 [] id 0).rlNode
         ∧ State.writeFits { q with off := 0x3F00004 } = true ∧ q.off / 0x100000 % 64 ≠ (rlIn 4 [] id 0).rlNode
         ∧ (State.remoteWrites 0 q.dwords q.off).length = 2
         ∧ (after (.remoteAccess (.write q)) (rlIn 4 [] id 0)).fld (Reg.RLC_CNT_COUNT 15) = 2)
    ∧ (let root (l : List RlAccess) := rlIn 4 [(Reg.RLC_ROOT_IS_ROOT, 1), (Reg.RLC_ROOT_ROLE, 1)] (fun r => { r with queue := l }) 0
       (root []).rlHolds = true ∧ (root []).guardOpen = true ∧ (root []).rl.rqBackoff = none ∧ (root []).rl.queue = []
         ∧ (root [rlRead]).rl.queue = [rlRead] ∧ rlRead.data = none ∧ rlRead.count = 1
         ∧ (after .rqSlot (root [rlRead])).rl.waiting.length = 1
         ∧ (root [rlWrite]).rl.queue = [rlWrite] ∧ rlWrite.data = some 9 ∧ rlWrite.far = true
         ∧ (after .wrSlot (root [rlWrite])).rl.queue = []
         ∧ (State.tagged (root [rlRead, rlWrite, rlRead]).rl.nextTag (root [rlRead, rlWrite, rlRead]).chooseReads).length ≤ 2
         ∧ ∀ x ∈ (root [rlRead, rlRead]).rl.queue, x.data = none)
    ∧ (let s := rlIn 4 [] (fun r => { r with grant := some 63 }) 0
       s.rlSends = true ∧ s.rl.grant = some s.rlNode ∧ s.guardOpen = true ∧ s.rl.replies = []
         ∧ (after .rsSlot s).rl.sending = some 82)
    ∧ (let s (on : Nat) (r : RlRecord) := rlIn 4 [(Reg.RLC_CFG_REMOTE_EN, on)] (fun x => { x with records := [r] }) 0
       let rd (f : Bool) : RlRecord := .read f 63 0 1 8 7
       let wr (f : Bool) : RlRecord := .write f 63 0 8 7 [9]
       let half (z : Nat) : RlRecord := .read false 63 z 1 8 7
       let put (z : Nat) : RlRecord := .write true 63 z 8 7 [9]
       (s 0 (rd false)).rl.records = .read false (s 0 (rd false)).rlNode 0 1 8 7 :: []
         ∧ (s 0 (rd false)).isSet Reg.RLC_CFG_REMOTE_EN = false ∧ (s 1 (rd true)).isSet Reg.RLC_CFG_REMOTE_EN = true
         ∧ (after .readRecord (s 0 (rd false))).rl.replies = [.fail 63 3 8 7]
         ∧ (after .readFixed (s 1 (rd true))).rl.replies.length = 1
         ∧ (s 0 (wr true)).rl.records = .write true (s 0 (wr true)).rlNode 0 8 7 [9] :: []
         ∧ (after .writeFixed (s 0 (wr true))).rl.replies = [.fail 63 3 8 7]
         ∧ (after .writeRecord (s 1 (wr false))).fld (Reg.RLC_CNT_COUNT 14) = 1
         ∧ (s 1 (half 1)).rl.records = .read false (s 1 (half 1)).rlNode 1 1 8 7 :: []
         ∧ (after .readRecord (s 1 (half 1))).rl.replies.length = 1 ∧ (after .readRecord (s 1 (half 2))).rl.replies.length = 1
         ∧ (after .writeFixed (s 1 (put 1))).fld (Reg.RLC_CNT_COUNT 14) = 1
         ∧ (after .writeFixed (s 1 (put 2))).fld (Reg.RLC_CNT_COUNT 14) = 1
         ∧ (s 1 (.read false 5 0 1 8 7)).rl.records = .read false 5 0 1 8 7 :: [] ∧ 5 ≠ (s 1 (.read false 5 0 1 8 7)).rlNode
         ∧ (after .readRecord (s 1 (.read false 5 0 1 8 7))).rl.replies = []
         ∧ (after .writeRecord (s 1 (.write false 5 0 8 7 [9]))).fld (Reg.RLC_CNT_COUNT 14) = 0
         ∧ (s 0 (.grant (some 63))).rl.records = .grant (some 63) :: []
         ∧ (after .grant (s 0 (.grant (some 63)))).rl.grant = some 63
         ∧ (s 0 (.event 63)).rl.records = .event 63 :: [] ∧ 63 < 64
         ∧ (after .eventRecord (s 0 (.event 63))).eventStat 136 = true
         ∧ (s 0 .done).rl.records = .done :: []
         ∧ (s 0 (.fail 5 3 8 7)).rl.records = .fail 5 3 8 7 :: [] ∧ (s 0 (.fail 5 3 8 7)).rl.waiting = []
         ∧ (after .failRecord (s 0 (.fail 5 3 8 7))).eventStat 135 = true)
    ∧ (let s := rlIn 4 [] (fun x => { x with records := [.readData 5 0 1 8 7 [9]], waiting := [rlRead] }) 0
       s.rl.records = .readData rlRead.node 0 1 8 7 [9] :: [] ∧ s.rl.waiting = [rlRead] ∧ rlRead.tag = 7 ∧ rlRead.far = false
         ∧ { rlRead with far := true }.far = true ∧ (after .readData s).outs = [.read 51 9 false]
         ∧ (after .remoteReadTimeout s).rl.waiting = [])
    ∧ (let s (z : Nat) (ws : List Word) :=
         rlIn 4 [] (fun x => { x with records := [.readData 5 z ws.length 8 7 ws], waiting := [rlRead] }) 0
       (s 1 [9]).rl.records = .readData rlRead.node 1 1 8 7 [9] :: [] ∧ (after .readData (s 1 [9])).outs = [.readHalf 51 9 false]
         ∧ (after .readData (s 0 [9, 4])).outs = [.read 51 4 false, .read 51 9 false])
    ∧ (let s (far : Bool) :=
         rlIn 4 [] (fun x => { x with records := [.fail 5 3 8 7], waiting := [{ rlRead with far := far }] }) 0
       (s true).rl.records = .fail ({ rlRead with far := true }).node 3 8 ({ rlRead with far := true }).tag :: []
         ∧ (s true).rl.waiting = [{ rlRead with far := true }]
         ∧ (after .failRecord (s true)).isSet Reg.RLC_FAR_CMD_FAILED = true)
    ∧ (let s := rlIn 4 [(Reg.RLC_ROOT_IS_ROOT, 1), (Reg.RLC_ROOT_ROLE, 1)] id 0
       s.isSet Reg.RLC_FAR_CMD_BUSY = false ∧ s.isSet Reg.RLC_ROOT_IS_ROOT = true ∧ s.rlSends = true
         ∧ (after (.farRead 51 63) s).isSet Reg.RLC_FAR_CMD_BUSY = true
         ∧ (rlIn 4 [] id 0).isSet Reg.RLC_ROOT_IS_ROOT = false
         ∧ (after (.farWrite 51 63) (rlIn 4 [] id 0)).isSet Reg.RLC_FAR_CMD_FAILED = true
         ∧ (rlIn 4 [(Reg.RLC_FAR_CMD_BUSY, 1)] id 0).isSet Reg.RLC_FAR_CMD_BUSY = true) := by
  refine ⟨?_, ?_, ?_, ?_, ?_, ?_, ?_⟩ <;> decide +kernel

/-- One value of three, and two of eight, outside the range. -/
theorem witness_MidpointIgnoresFaultyValues :
    ([5, 1000, 7] : List Int) ≠ [] ∧ (([5, 1000, 7] : List Int).filter (fun x => decide (x < 0 ∨ 10 < x))).length ≤ 1
      ∧ (([1, 2, 3, 4, 5, 6, -900, 900] : List Int).filter (fun x => decide (x < 0 ∨ 10 < x))).length ≤ 2
      ∧ midpoint [5, 1000, 7] = 7 := by decide +kernel

/-! ### CAN -/

/-- Channel 7 in a state, with fields and the channel's part set. -/
def canIn (st : Nat) (l : List (Fld × Nat)) (x : CanChannel) : State :=
  (withFlds ((Reg.CAN_STAT_STATE 7, st) :: l) (timed 0)).modCan 7 (fun _ => x)

/-- An entry of a source with identifier 5 and tag 9, and an attempt of one. -/
def canEntry (source : Nat) : CanEntry := { words := [Word.ofN (5 * 2 ^ 18), Word.ofN (9 * 2 ^ 7)], source := source }
def attempting (source : Nat) (cancelled : Bool) : CanChannel :=
  { attempt := some { entry := canEntry source, tsw := 3, cancelled := cancelled }
    fifo := if source = 0 then [canEntry 0] else [], prio := if source = 1 then some (canEntry 1) else none }

/-- A data frame with identifier 5. -/
def canFrame : CanFrame :=
  { ext := false, fdf := false, brs := false, esi := false, rtr := false, ident := 5 * 2 ^ 18, dlc := 1, data := [7]
    dt := 0, sof := 0, sync := 0 }

theorem witness_CanTransmissionCommands :
    ((canIn 0 [] {}).isSet (Reg.CAN_CTRL_EN 7) = false ∧ (canIn 0 [] {}).canState 7 = 0
        ∧ (after (.canEnable 51 7) (canIn 0 [] {})).canState 7 = 1)
    ∧ ((canIn 2 [(Reg.CAN_CTRL_EN 7, 1)] {}).isSet (Reg.CAN_CTRL_EN 7) = true
        ∧ (canIn 2 [(Reg.CAN_CTRL_EN 7, 1)] {}).canState 7 ≠ 0 ∧ ((canIn 2 [(Reg.CAN_CTRL_EN 7, 1)] {}).can 7).attempt = none
        ∧ (after (.canDisable 51 7 false) (canIn 2 [(Reg.CAN_CTRL_EN 7, 1)] {})).canState 7 = 0
        ∧ ((after (.canDisable 51 7 true) (canIn 2 [(Reg.CAN_CTRL_EN 7, 1)] {})).can 7).stopping = true
        ∧ ((after (.canEnable 51 7) (canIn 2 [] { stopping := true })).can 7).stopping = false)
    ∧ ((canIn 1 [] { tec := 127, rec_ := 127 }).canState 7 = 1 ∧ ((canIn 1 [] { tec := 127, rec_ := 127 }).can 7).tec ≤ 127
        ∧ ((canIn 1 [] { tec := 127, rec_ := 127 }).can 7).rec_ ≤ 127
        ∧ (after (.integrationDone 7 50) (canIn 1 [] { tec := 127, rec_ := 127 })).clk = 50)
    ∧ (let s := canIn 2 [] {}
       let x : CanEntry := { words := (List.range 18).map (fun w => s.agentReg 51 (Reg.CAN_TXSTAGE 7 w)), source := 0 }
       x.ok (s.isSet (Reg.CAN_CFG_FD_EN 7)) = true ∧ (s.can 7).fifo.length < 32 ∧ (s.can 7).prio = none
         ∧ ((after (.txPush 51 7) s).can 7).fifo = [x])
    ∧ (32 ≤ ((canIn 2 [] { fifo := List.replicate 32 (canEntry 0) }).can 7).fifo.length
        ∧ ((canIn 2 [] (attempting 1 false)).can 7).prio.isSome = true)
    ∧ (let s := (canIn 2 [] {}).setAgentReg 51 (Reg.CAN_TXSTAGE 7 1) (Word.ofN 9)
       let x : CanEntry := { words := (List.range 18).map (fun w => s.agentReg 51 (Reg.CAN_TXSTAGE 7 w)), source := 0 }
       x.ok (s.isSet (Reg.CAN_CFG_FD_EN 7)) = false)
    ∧ (let q : Posted := { unit := 99, sel := 1, arg := 3, due := 128, agent := 51, seq := 0 }
       let s := { (canIn 2 [] {}).setReg (Reg.CAN_TTB 7 3 1) (Word.ofN 9) with posted := [q] }
       s.canNext 7 1 = some q
         ∧ CanEntry.ok { words := s.timedWords 7 (q.arg % 4), source := 2 + q.arg % 4 } (s.isSet (Reg.CAN_CFG_FD_EN 7)) = false
         ∧ ((after (.sendAt 7) s).can 7).records.map (·.outcome) = [0])
    ∧ (let q : Posted := { unit := 99, sel := 1, arg := 3 + 4 * 255, due := 128, agent := 51, seq := 0 }
       let s := { canIn 2 [] {} with posted := [q] }
       s.canNext 7 1 = some q
         ∧ CanEntry.ok { words := s.timedWords 7 (q.arg % 4), source := 2 + q.arg % 4 } (s.isSet (Reg.CAN_CFG_FD_EN 7)) = true
         ∧ ((after (.sendAt 7) s).can 7).timed.length = 1)
    ∧ (let q : Posted := { unit := 99, sel := 2, arg := 1, due := 128, agent := 51, seq := 0 }
       let s := { canIn 2 [] { prio := some (canEntry 1) } with posted := [q] }
       (s.can 7).records.length < 32 ∧ s.isSet (Reg.CAN_CFG_DONE_EN 7) = false ∧ s.canNext 7 2 = some q ∧ q.arg % 8 = 1
         ∧ (s.can 7).prio = some (canEntry 1) ∧ (canEntry 1).source = 1 ∧ (s.can 7).attempt = none
         ∧ ((after (.cancelAt 7) s).can 7).prio = none ∧ (after (.txCancel 51 7 1 9) s).eventStat 146 = true)
    ∧ (let s := canIn 2 [] (attempting 1 false)
       (s.can 7).attempt = some { entry := canEntry 1, tsw := 3 } ∧ (s.can 7).prio = some (canEntry 1)
         ∧ ((after (.txCancel 51 7 1 9) s).can 7).attempt = some { entry := canEntry 1, tsw := 3, cancelled := true })
    ∧ (let s := canIn 2 [] { fifo := [canEntry 0], timed := [canEntry 5] }
       (s.can 7).fifo.find? (fun y => y.tag == 9) = some (canEntry 0) ∧ (s.can 7).attempt = none
         ∧ (s.can 7).timed.find? (fun y => y.source == 5) = some (canEntry 5)
         ∧ ((after (.txCancel 51 7 0 9) s).can 7).fifo = [] ∧ ((after (.txCancel 51 7 5 0) s).can 7).timed = [])
    ∧ (let s := canIn 2 [] { timed := [canEntry 5], attempt := some { entry := canEntry 5, tsw := 3 } }
       (s.can 7).timed = [canEntry 5] ∧ (after (.windowClose 7) s).cans = s.cans)
    ∧ (let s := canIn 2 [] { timed := [canEntry 5] }
       (s.can 7).timed = [canEntry 5] ∧ 2 ≤ (canEntry 5).source ∧ (s.can 7).attempt = none
         ∧ (after (.windowClose 7) s).eventStat 149 = true)
    ∧ (let s := canIn 2 [] (attempting 0 true)
       (s.can 7).attempt = some { entry := canEntry 0, tsw := 3, cancelled := true } ∧ (canEntry 0).source = 0
         ∧ (s.can 7).fifo = canEntry 0 :: [] ∧ s.fld (Reg.CAN_CTRL_MODE 7) = 0
         ∧ (after (.canTxEnd 7 (.sent 0) 0) s).eventStat 148 = true)
    ∧ (let s := canIn 2 [(Reg.CAN_CFG_CLASH_LIMIT 7, 1)] (attempting 1 false)
       s.fld (Reg.CAN_CFG_CLASH_LIMIT 7) ≤ (canEntry 1).clashes + 1
         ∧ (after (.canTxEnd 7 (.error { lec := 4, dataPhase := false, eights := 0, exempt := false } true) 0) s).eventStat 147 = true)
    ∧ (let s := canIn 2 [] (attempting 0 false)
       (canEntry 0).source ≤ 1 ∧ s.isSet (Reg.CAN_CFG_DAR 7) = false
         ∧ (after (.canTxEnd 7 .lost 0) s).fld (Reg.CAN_CNT_COUNT 7 7) = 1)
    ∧ (let s := canIn 2 [] { fifo := [canEntry 0] }
       let s1 := s.advanceTo (s.canBoundary 7 s.clk)
       s1.canMaySend 7 = true ∧ s1.canCandidate 7 = some (canEntry 0)
         ∧ ((after (.sofOpportunity 7) s).can 7).attempt.isSome = true)
    ∧ (let y : CanRecord := { outcome := 1, source := 0, tag := 9, tsw := 77 }
       ((canIn 2 [] {}).can 7).records = [] ∧ ((canIn 2 [] { records := [y] }).can 7).records = y :: []
         ∧ (after (.txrecPop 51 7) (canIn 2 [] { records := [y] })).outs = [.read 51 77 false]) := by
  refine ⟨?_, ?_, ?_, ?_, ?_, ?_, ?_, ?_, ?_, ?_, ?_⟩ <;> decide +kernel

/-- An open timed frame; and the FIFO's oldest entry against the priority buffer, either winning. -/
theorem witness_CanCandidateOrder :
    (let e := { canEntry 2 with opens := 0, closes := 127 }
     e ∈ ((canIn 2 [] { timed := [e] }).can 7).timed ∧ e.opens ≤ (canIn 2 [] {}).clk
       ∧ (canIn 2 [] {}).tickAt (canIn 2 [] {}).clk ≤ (canIn 2 [] {}).tickAt e.closes)
    ∧ (let f (id : Nat) : CanEntry := { canEntry 0 with words := [Word.ofN (id * 2 ^ 18)] }
       let s (id : Nat) := canIn 2 [] { prio := some (canEntry 1), fifo := [f id] }
       ((s 4).can 7).prio = some (canEntry 1) ∧ ((s 4).can 7).fifo = f 4 :: [] ∧ (s 4).canCandidate 7 = some (f 4)
         ∧ (s 6).canCandidate 7 = some (canEntry 1)
         ∧ (canIn 2 [] { fifo := [f 6] }).canCandidate 7 = some (f 6)) := by decide +kernel

theorem witness_CanReceptionCommands :
    (let s := canIn 2 [(Reg.CAN_FLT_ID_EN 7 31, 1), (Reg.CAN_FLT_ID_TYPE 7 31, 1), (Reg.CAN_FLT_ID_ID 7 31, 5 * 2 ^ 18)] {}
     s.canState 7 = 2 ∧ s.fld (Reg.CAN_CTRL_MODE 7) = 0 ∧ s.fld (Reg.CAN_CTRL_MODE 7) ≠ 3
       ∧ (List.range 32).find? ((canIn 2 [] {}).canMatches 7 canFrame.ext canFrame.ident) = none
       ∧ (canIn 2 [] {}).isSet (Reg.CAN_CFG_ACCEPT_ALL 7) = false
       ∧ (List.range 32).find? (s.canMatches 7 canFrame.ext canFrame.ident) = some 31
       ∧ s.isSet (Reg.CAN_FLT_ID_TYPE 7 31) = true ∧ (after (.canRxFrame 7 canFrame) s).fld (Reg.CAN_CNT_COUNT 7 2) = 1)
    ∧ (let s (b : CanBuffer) := canIn 2 [(Reg.CAN_CFG_ACCEPT_ALL 7, 1)] { next := 63, buffers := [(63, b)] }
       (List.range 32).find? ((s {}).canMatches 7 canFrame.ext canFrame.ident) = none
         ∧ (s {}).isSet (Reg.CAN_CFG_ACCEPT_ALL 7) = true ∧ (s {}).isSet (Reg.CAN_CFG_RX_EN 7) = false
         ∧ (Tab.get ({} : CanBuffer) ((s {}).can 7).next ((s {}).can 7).buffers).full = false
         ∧ (Tab.get ({} : CanBuffer) ((s { full := true }).can 7).next ((s { full := true }).can 7).buffers).full = true
         ∧ (after (.canRxFrame 7 canFrame) (s { full := true })).eventStat 145 = true)
    ∧ (let b (l : Option Nat) : CanBuffer := { full := true, words := [5], lock := l }
       let s (b : CanBuffer) := { canIn 2 [] { buffers := [(63, b)] } with agentRegs := [(agentKey 51 (Reg.CAN_RXSEL 7), 63)] }
       ((s (b none)).agentReg 51 (Reg.CAN_RXSEL 7)).field 5 0 = 63
         ∧ Tab.get ({} : CanBuffer) 63 ((s (b none)).can 7).buffers = b none ∧ (b none).full = true ∧ (b none).lock = none
         ∧ (b (some 52)).lock = some 52 ∧ 52 ≠ 51 ∧ (b (some 51)).lock = some 51 ∧ (b none).lock ≠ some 51
         ∧ Tab.get ({} : CanBuffer) 63 ((canIn 2 [] {}).can 7).buffers = {}
         ∧ Tab.get ({} : CanBuffer) 63 ((after (.rxWord0Read 51 7) (s (b none))).can 7).buffers = b (some 51)
         ∧ Tab.get ({} : CanBuffer) 63 ((after (.rxWord19Read 51 7) (s (b (some 51)))).can 7).buffers = {}
         ∧ Tab.get ({} : CanBuffer) 63 ((s (b none)).can 7).buffers ≠ {}
         ∧ Tab.get ({} : CanBuffer) 63 ((after (.rxForce 49 7 63) (s (b (some 52)))).can 7).buffers = {})
    ∧ ((canIn 2 [] {}).isSet (Reg.CAN_CFG_FD_EN 7) = false ∧ (canIn 2 [] {}).isSet (Reg.CAN_CFG_PXHD 7) = false
        ∧ ((canIn 2 [] {}).can 7).stopping = false
        ∧ (after (.receiveError 7 { lec := 2, dataPhase := true, eights := 1, exempt := false } false 0) (canIn 2 [] {})).fld
            (Reg.CAN_ERRINFO_LEC 7) = 2
        ∧ (after (.receiveError 7 { lec := 2, dataPhase := true, eights := 1, exempt := false } true 0) (canIn 2 [] {})).canState 7 = 1)
    ∧ ((canIn 2 [(Reg.CAN_CFG_FD_EN 7, 1)] {}).isSet (Reg.CAN_CFG_FD_EN 7) = true
        ∧ (canIn 2 [(Reg.CAN_CFG_PXHD 7, 1)] {}).isSet (Reg.CAN_CFG_PXHD 7) = true
        ∧ (after (.receiveError 7 { lec := 4, dataPhase := true, eights := 1, exempt := false } true 0)
            (canIn 2 [(Reg.CAN_CFG_PXHD 7, 1)] {})).fld (Reg.CAN_ERRINFO_LEC 7) = 2
        ∧ after (.rxForce 49 7 63) (canIn 2 [] {}) = canIn 2 [] {})
    ∧ ((canIn 4 [(Reg.CAN_CTRL_EN 7, 1)] {}).isSet (Reg.CAN_CTRL_EN 7) = true
        ∧ (canIn 4 [(Reg.CAN_CTRL_EN 7, 1)] {}).canState 7 = 4
        ∧ ((after (.boRecover 51 7) (canIn 4 [(Reg.CAN_CTRL_EN 7, 1)] {})).can 7).recovering = true
        ∧ (after (.busOffRecovered 7 0) (canIn 4 [] { recovering := true })).canState 7 = 2) := by
  refine ⟨?_, ?_, ?_, ?_, ?_⟩ <;> decide +kernel

/-! ### Tor -/

/-- Channel 63 (unit 3, position 15) at program word 0, which holds an instruction, with fields and the channel set. -/
def torIn (op : TorOp) (l : List (Fld × Nat)) (x : TorChannel) : State :=
  { withFlds l (timed 0) with tor := { (timed 0).tor with chans := [(63, x)], prog := [(1024 * 3, torEncode op)] } }

/-- A running channel. -/
def torRuns : TorChannel := { run := .running, x := 5, y := 6, is_ := 7, os := 0xF, ocnt := 4, icnt := 3, tmAt := 2 ^ 40 }

/-- The channel after a command. -/
def torAfter (c : Instr) (s : State) : TorChannel := (after c s).torCh 63

/-- The program of the IRIG example and its undefined neighbours. -/
theorem test_irig_words :
    [0xF000, 0x22000, 0x2C000, 0xC000, 0x25D00, 0x18000, 0x4000].map torDecode
      = [some (.await_ true true 0), some (.load 4 0), some (.stamp false), some (.await_ false false 0),
         some (.copy 3 5 0), some (.send false false), some (.br 0 0 0)]
    ∧ torDecode 0x38000 = none ∧ torDecode 0x8000 = none ∧ torDecode 0x4040 = none ∧ torDecode 1 = none := by decide +kernel

theorem witness_TorInstructionCommands :
    ((torIn .halt [] torRuns).held = false ∧ (torIn .halt [] torRuns).torCh 63 = torRuns
        ∧ (torIn .halt [] torRuns).torReady 63 .halt = true ∧ (torAfter (.torHalt 63) (torIn .halt [] torRuns)).run = .stopped)
    ∧ (let s (k : Fin 13) (tg : Fin 64) := torIn (.br k 0 tg) [(Reg.TOR_CH_CFG_LEN 3 15, 62)] torRuns
       (s 0 62).torReady 63 (.br 0 0 62) = true ∧ (62 : Fin 64).val ≤ (s 0 62).torFld 63 Reg.TOR_CH_CFG_LEN
         ∧ (s 0 62).torCond 63 0 0 0 0 = true ∧ (s 1 62).torCond 63 1 0 0 0 = false ∧ (s 1 62).torReady 63 (.br 1 0 62) = true
         ∧ (s 0 63).torReady 63 (.br 0 0 63) = true ∧ (s 0 63).torFld 63 Reg.TOR_CH_CFG_LEN < (63 : Fin 64).val
         ∧ (torAfter (.torBr 63 0 0) (s 0 62)).pc = 62 ∧ (after (.torBr 63 0 0) (s 0 63)).eventStat 152 = true)
    ∧ (let s (n : Nat) := torIn (.beat 16383) [] { torRuns with tm := n }
       (s 16383).torReady 63 (.beat 16383) = true ∧ ((s 16383).torAtStep 63).tmAt 63 ((s 16383).torAtStep 63).clk = 16383
         ∧ ((s 16384).torAtStep 63).tmAt 63 ((s 16384).torAtStep 63).clk = 16384
         ∧ ((s 16382).torAtStep 63).tmAt 63 ((s 16382).torAtStep 63).clk = 16382
         ∧ (torAfter (.torBeat 63) (s 16383)).run = .running
         ∧ (after (.torBeat 63) (s 16384)).isSet (Reg.TOR_CH_STAT_BEAT_SLIP 3 15) = true
         ∧ (torAfter (.torBeat 63) (s 16382)).run = .stalled)
    ∧ (let s := torIn (.await_ true false 15) [] torRuns
       s.torReady 63 (.await_ true false 15) = true ∧ s.inputPin 63 (2 ^ 15) 15 = true ∧ s.inputPin 63 0 15 ≠ true
         ∧ (torAfter (.torAwait 63 0 0 (2 ^ 15)) s).run = .running ∧ (torAfter (.torAwait 63 0 0 0) s).run = .stalled)
    ∧ ((torIn (.take 0 31) [] torRuns).torReady 63 (.take 0 31) = true
        ∧ (torAfter (.torTake 63 9) (torIn (.take 0 0) [] torRuns)).icnt = 32)
    ∧ ((torIn (.emit 1 4) [] torRuns).torReady 63 (.emit 1 4) = true
        ∧ (torAfter (.torEmit 63) (torIn (.emit 1 4) [] torRuns)).x = 15)
    ∧ (let s (nw : Bool) (st n : Nat) := torIn (.send false nw) [(Reg.TOR_CH_SHIFT_STRICT 3 15, st)]
          { torRuns with rxq := List.replicate n 1 }
       (s true 0 0).torReady 63 (.send false true) = true ∧ (s true 0 0).rxqFull 63 = false
         ∧ (s true 0 4).rxqFull 63 = true ∧ (s false 1 4).torReady 63 (.send false false) = true
         ∧ (s false 1 4).torFld 63 Reg.TOR_CH_SHIFT_STRICT = 1 ∧ (s false 0 4).torFld 63 Reg.TOR_CH_SHIFT_STRICT = 0
         ∧ (torAfter (.torSend 63) (s true 0 0)).rxq = [7] ∧ (torAfter (.torSend 63) (s true 0 4)).is_ = 7
         ∧ (torAfter (.torSend 63) (s false 1 4)).cause = 4 ∧ (torAfter (.torSend 63) (s false 0 4)).run = .stalled)
    ∧ (let s (l : List Nat) := torIn (.fetch false false) [(Reg.TOR_CH_SHIFT_STRICT 3 15, 1)] { torRuns with txq := l, ocnt := 0 }
       (s [9]).torReady 63 (.fetch false false) = true ∧ ((s [9]).torCh 63).ocnt = 0
         ∧ (torAfter (.torFetch 63) (s [9])).os = 9 ∧ (torAfter (.torFetch 63) (s [])).cause = 3)
    ∧ ((torIn (.load 4 2047) [] torRuns).torReady 63 (.load 4 2047) = true
        ∧ (torAfter (.torLoad 63) (torIn (.load 4 2047) [] torRuns)).tm = 2047)
    ∧ ((torIn (.copy 1 2 1) [] torRuns).torReady 63 (.copy 1 2 1) = true
        ∧ (torAfter (.torCopy 63 0) (torIn (.copy 1 2 1) [] torRuns)).x = 0xFFFFFFF9)
    ∧ ((torIn (.add false 8191) [] torRuns).torReady 63 (.add false 8191) = true
        ∧ (torAfter (.torAdd 63) (torIn (.add false 8191) [] torRuns)).x = 4)
    ∧ ((torIn (.stamp false) [] torRuns).torReady 63 (.stamp false) = true ∧ (torIn (.stamp false) [] torRuns).rxqFull 63 = false
        ∧ torRuns.stampAt = none ∧ (torAfter (.torStamp 63) (torIn (.stamp false) [] torRuns)).rxq = [37])
    ∧ (let s (en : Nat) := torIn (.raise 31) [(Reg.TOR_CH_SIG_EN 3 15, en), (Reg.TOR_CH_SIG_TASK 3 15, 1023)] torRuns
       (s 1).torReady 63 (.raise 31) = true ∧ (s 0).torFld 63 Reg.TOR_CH_SIG_EN = 0 ∧ (s 1).torFld 63 Reg.TOR_CH_SIG_EN = 1
         ∧ (s 1).isSet (Reg.TALUS_TLINK_QFED ((s 1).torFld 63 Reg.TOR_CH_SIG_TASK)) = false
         ∧ ((after (.torRaise 63) (s 1)).reg (Reg.TALUS_TEVT 1023)).bit 31 = true)
    ∧ ((torIn .nop [] torRuns).torReady 63 .nop = true ∧ (after (.torNop 63) (torIn .nop [] torRuns)).clk = 600)
    ∧ (let s := { torIn .nop [] torRuns with tor := { (torIn .nop [] torRuns).tor with prog := [(1024 * 3, 0x38000)] } }
       s.tbu.running = true ∧ torRuns.run ≠ .stopped ∧ 14 ≤ torOpcode (s.torWord 63) ∧ torRuns.pushing = false
         ∧ s.torFld 63 Reg.TOR_CH_CFG_RX_FWD = 0 ∧ (after (.torNop 63) s).eventStat 152 = true) := by
  refine ⟨?_, ?_, ?_, ?_, ?_, ?_, ?_, ?_⟩ <;> decide +kernel

/-- The forms that wait, that only test, and the other side of each condition. -/
theorem witness_TorInstructionCommands_forms :
    (let s := torIn (.await_ true true 15) [] torRuns
     (s.elapse 5000).torReady 63 (.await_ true true 15) = true ∧ s.inputPin 63 (2 ^ 15) 15 = true ∧ s.inputPin 63 0 15 ≠ true
       ∧ (torAfter (.torAwait 63 5000 0 (2 ^ 15)) s).run = .running
       ∧ (torAfter (.torAwait 63 5000 (2 ^ 15) (2 ^ 15)) s).run = .stalled)
    ∧ (let s := torIn (.beat 16383) [] { torRuns with run := .stalled }
       s.torReady 63 (.beat 16383) = true ∧ (torAfter (.torBeat 63) s).run = .running)
    ∧ (let s (n : Nat) := torIn (.send true false) [] { torRuns with icnt := n }
       (s 3).torReady 63 (.send true false) = true ∧ 3 < (s 3).isLimit 63 ∧ (s 32).isLimit 63 ≤ 32 ∧ (s 32).rxqFull 63 = false
         ∧ (torAfter (.torSend 63) (s 3)).rxq = [] ∧ (torAfter (.torSend 63) (s 32)).rxq = [7])
    ∧ (let s (n : Nat) (l : List Nat) := torIn (.fetch true true) [] { torRuns with ocnt := n, txq := l }
       (s 4 []).torReady 63 (.fetch true true) = true ∧ (torAfter (.torFetch 63) (s 4 [9])).txq = [9]
         ∧ (torAfter (.torFetch 63) (s 0 [9])).os = 9
         ∧ (after (.torFetch 63) (s 0 [])).isSet (Reg.TOR_CH_STAT_FETCH_MISSED 3 15) = true
         ∧ (torAfter (.torFetch 63) (torIn (.fetch false false) [] { torRuns with ocnt := 0 })).run = .stalled)
    ∧ ((torIn (.add true 8191) [] torRuns).torReady 63 (.add true 8191) = true
        ∧ (torAfter (.torAdd 63) (torIn (.add true 8191) [] torRuns)).y = 5)
    ∧ (let s (nw : Bool) (st : Nat) := torIn (.stamp nw) [(Reg.TOR_CH_SHIFT_STRICT 3 15, st)] { torRuns with rxq := [1, 1, 1, 1] }
       (s true 0).rxqFull 63 = true ∧ (s true 0).torReady 63 (.stamp true) = true
         ∧ (after (.torStamp 63) (s true 0)).isSet (Reg.TOR_CH_STAT_SEND_MISSED 3 15) = true
         ∧ (torAfter (.torStamp 63) (s false 1)).cause = 4 ∧ (torAfter (.torStamp 63) (s false 0)).run = .stalled)
    ∧ (let s := torIn .nop [] torRuns
       s.tbu.running = true ∧ torRuns.run ≠ .stopped ∧ torDecode (s.torWord 63) = some .nop)
    ∧ (let s := withFlds [(Reg.TALUS_TLINK_QFED 1023, 1), (Reg.TALUS_TLINK_QFLAG 1023, 5)]
         (torIn (.raise 31) [(Reg.TOR_CH_SIG_EN 3 15, 1), (Reg.TOR_CH_SIG_TASK 3 15, 1023)] torRuns)
       s.fld (Reg.TALUS_TLINK_QFLAG (s.torFld 63 Reg.TOR_CH_SIG_TASK)) ≠ (31 : Fin 32).val
         ∧ ((after (.torRaise 63) s).reg (Reg.TALUS_TEVT 1023)).bit 31 = true)
    ∧ (let x : TorChannel := { torRuns with rxq := [9], pushing := true }
       ((torIn .nop [] x).torCh 63).pushing = true ∧ (after (.torRxqRead 51 63) (torIn .nop [] x)).outs = [.read 51 0 false]) := by
  refine ⟨?_, ?_, ?_, ?_, ?_, ?_, ?_, ?_⟩ <;> decide +kernel

theorem witness_TorChannelCommands :
    (let q (sel : Nat) : Posted := { unit := 90, sel := sel, arg := 63, due := 128, agent := 51, seq := 0 }
     let s (sel : Nat) (x : TorChannel) := { torIn .nop [] x with posted := [q sel] }
     (s 1 {}).torNext 63 = some (q 1) ∧ (s 1 {}).tbu.running = true ∧ (q 1).sel = 1 ∧ ((s 1 {}).torCh 63).run = .stopped
       ∧ (s 2 torRuns).torNext 63 = some (q 2) ∧ torRuns.run ≠ .stopped
       ∧ (torAfter (.torStart 63 none) (s 1 {})).pc = 63 ∧ (after (.torStart 63 none) (s 1 torRuns)).eventStat 153 = true
       ∧ (torAfter (.torStop 63 none) (s 2 torRuns)).run = .stopped)
    ∧ (let s (x : TorChannel) := torIn .nop [] x
       ((s {}).reg (Reg.TOR_CH_CTRL (torUnit 63) (torPos 63))).field 3 0 = 0
         ∧ (torAfter (.torStart 63 (some 51)) (s {})).run = .running
         ∧ (torAfter (.torFlush 51 63) (s { torRuns with run := .stopped })).os = 0
         ∧ (torAfter (.torStop 63 (some 51)) (s torRuns)).run = .stopped
         ∧ (after (.torQclr 51 63) (s torRuns)).eventStat 0 = true)
    ∧ (let s (n : Nat) := torIn .nop [] { torRuns with txq := List.replicate n 1 }
       (s 0).torFld 63 Reg.TOR_CH_CFG_TX_FWD = 0
         ∧ ((s 3).torCh 63).txq.length < (torRoom ((s 3).torFld 63 Reg.TOR_CH_CFG_QMODE)).1
         ∧ (torRoom ((s 4).torFld 63 Reg.TOR_CH_CFG_QMODE)).1 ≤ ((s 4).torCh 63).txq.length
         ∧ (torAfter (.torTxqWrite 51 63 0xFFFFFFFFF) (s 0)).txq = [0xFFFFFFFF])
    ∧ (let s := torIn .nop [] { torRuns with rxq := [9] }
       (torRuns.rxq = [] ∧ (s.torCh 63).rxq = 9 :: [] ∧ (s.torCh 63).pushing = false)
         ∧ (after (.torRxqRead 51 63) s).outs = [.read 51 (Word.ofN (2 ^ 35 + 9)) false])
    ∧ (let s := (withFlds [(Reg.TOR_CH_CFG_TX_FWD 3 15, 1), (Reg.TOR_CH_CFG_TX_Q 3 15, 7)] (queueOf 7 1 []))
       let t := { s with tor := (torIn .nop [] torRuns).tor }
       t.torFld 63 Reg.TOR_CH_CFG_TX_FWD = 1 ∧ (t.torCh 63).txq.length < (torRoom (t.torFld 63 Reg.TOR_CH_CFG_QMODE)).1
         ∧ ((t.popQueue (t.torFld 63 Reg.TOR_CH_CFG_TX_Q)).map (·.2.1)) = some false ∧ (torAfter (.torTxForward 63) t).txq.length = 1
         ∧ (let b := t.setCode 3 0 (t.queueSlot 7 0) { encodeWord 36 5 with d := 6 }
            ((b.popQueue (b.torFld 63 Reg.TOR_CH_CFG_TX_Q)).map (·.2.1)) = some true
              ∧ (after (.torTxForward 63) b).fld (Reg.TOR_CNT_COUNT 3 3) = 1))
    ∧ (let s := withFlds [(Reg.TOR_PADDR_ADDR 3, 1023)] (torIn .nop [] {})
       s.progBusy 3 (s.fld (Reg.TOR_PADDR_ADDR 3)) = [] ∧ (after (.torPdataWrite 3 { agent := 51, word := 0x2C000 }) s).fld (Reg.TOR_PADDR_ADDR 3) = 0
         ∧ (torIn .nop [] torRuns).progBusy 3 0 = 15 :: [] ∧ (after (.torPdataWrite 3 { agent := 51, word := 0 }) (torIn .nop [] torRuns)).eventStat 154 = true) := by
  refine ⟨?_, ?_, ?_, ?_, ?_⟩ <;> decide +kernel

/-- Every form is well-formed at boundary operands. -/
theorem witness_TorDecodeOfWordIsTheInstruction :
    TorOp.wf .halt = true ∧ TorOp.wf (.br 12 15 63) = true ∧ TorOp.wf (.br 0 0 63) = true ∧ TorOp.wf (.br 0 1 0) = false
    ∧ TorOp.wf (.beat 1) = true ∧ TorOp.wf (.beat 0) = false ∧ TorOp.wf (.copy 5 7 3) = true
    ∧ torDecode (torEncode (.copy 5 7 3)) = some (.copy 5 7 3) := by decide +kernel

/-! ### The host interface -/

/-- Ring r of direction d enabled, with its own part, HEAD 65535 and TAIL. -/
def ringOf (d r tail : Nat) (l : List (Fld × Nat)) (x : Ring) (s : State) : State :=
  (withFlds ([(Reg.HDMA_RING_CFG_EN d r, 1), (Reg.HDMA_RING_HEAD_STOPPED d r, 0), (Reg.HDMA_RING_HEAD_HEAD d r, 65535),
    (Reg.HDMA_RING_TAIL_TAIL d r, tail)] ++ l) s).modRing d r (fun _ => x)

/-- An entry of queue q that holds a value in the queue store. -/
def queueWord (q v : Nat) : State :=
  let s := queueOf q 1 []
  s.setCode 3 0 (s.queueSlot q 0) (encodeWord 36 (Word.ofN v))

theorem witness_HostDmaCommands :
    (timed 0).held = false
    ∧ (let s := ringOf 1 63 65535 [(Reg.HDMA_RING_CFG_SIZE 1 63, 4)] {} (timed 0)
       (15 % 2 ^ 16 + 2 ^ 16 - s.ringHead 1 63) % 2 ^ 16 ≤ 2 ^ s.fld (Reg.HDMA_RING_CFG_SIZE 1 63)
         ∧ 2 ^ s.fld (Reg.HDMA_RING_CFG_SIZE 1 63) < (16 % 2 ^ 16 + 2 ^ 16 - s.ringHead 1 63) % 2 ^ 16
         ∧ (after (.ringTailWrite 51 1 63 15) s).ringTail 1 63 = 15)
    ∧ (let s := ringOf 0 63 0 [] {} (timed 0)
       s.ringRuns 0 63 = true ∧ (s.ring 0 63).ahead.length < 4
         ∧ (s.ring 0 63).ahead.length < (s.ringTail 0 63 + 2 ^ 16 - s.ringHead 0 63) % 2 ^ 16
         ∧ [0, 0, 0, 2 ^ 31].getD 3 0 / 2 ^ 31 % 2 = 1 ∧ [0, 0, 0, 0].getD 3 0 / 2 ^ 31 % 2 = 0
         ∧ ((after (.descFetch 0 63 (some [0, 0, 0, 2 ^ 31])) s).ring 0 63).ahead.length = 1
         ∧ (after (.descFetch 0 63 (some [0, 0, 0, 0])) s).eventStat 177 = true
         ∧ (after (.dmaReadTimeout 0 63 false) s).fld (Reg.HDMA_CNT_COUNT 4) = 1)
    ∧ (let ds := [0x1000, 0, 256, 2 ^ 31, 0, 0, 0, 0]
       let s (v : Nat) := ringOf 0 63 0 [] { ahead := [ds] } (queueWord 191 v)
       (s 0).ringRuns 0 63 = true ∧ ((s 0).ring 0 63).ahead = ds :: [] ∧ (s 0).tmx.ext = false
         ∧ (s 0).tmx.ballsFrom ≤ (s 0).clk
         ∧ ((s (2 ^ 29 * 2)).popQueue (128 + 63)).map (fun x => (x.1, x.2.1)) = some (2 ^ 29 * 2, false)
         ∧ 2 ^ 29 * 2 / 2 ^ 29 < 3 ∧ 3 ≤ 2 ^ 29 * 3 / 2 ^ 29
         ∧ ((s (2 ^ 29 * 3)).popQueue (128 + 63)).map (fun x => (x.1, x.2.1)) = some (2 ^ 29 * 3, false)
         ∧ (after (.rxEntryMove 63) (s (2 ^ 29 * 2))).ringHead 0 63 = 0
         ∧ (after (.rxEntryMove 63) (s (2 ^ 29 * 3))).ringHead 0 63 = 65535)
    ∧ (let s (len : Nat) := ringOf 1 63 0 [(Reg.HDMA_RING_CFG_MODE 1 63, 1)] { ahead := [[0, 0, len, 2 ^ 31]] } (timed 0)
       (s 1).ringRuns 1 63 = true ∧ ((s 4096).ring 1 63).ahead = [0, 0, 4096, 2 ^ 31] :: []
         ∧ [0, 0, 4096, 2 ^ 31].getD 2 0 % 2 ^ 14 = 4096 ∧ [0, 0, 4097, 2 ^ 31].getD 2 0 % 2 ^ 14 = 4097
         ∧ (s 1).isSet (Reg.HDMA_RING_CFG_MODE 1 63) = true ∧ [0, 0, 4096, 2 ^ 31].getD 2 0 / 2 ^ 14 % 2 ^ 17 = 0
         ∧ (s 4096).areaRoom (4096 / 4 + 3) = true
         ∧ (after (.txDescMove 63 (some [9])) (s 1)).hostIf.blockAreas.length = 1
         ∧ (after (.txDescMove 63 none) (s 4097)).eventStat 177 = true)
    ∧ (let s := ringOf 1 0 0 [(Reg.HDMA_RING_CFG_WDOG 1 0, 1)] { waitSince := some 7 } (timed 0)
       (s.ring 1 0).waitSince = some 7 ∧ s.fld (Reg.HDMA_RING_CFG_WDOG 1 0) ≠ 0 ∧ (s.ring 1 0).barked = false
         ∧ (after (.ringWatchdog 1 0) s).eventStat 176 = true)
    ∧ ((ringOf 1 0 0 [] {} (timed 0)).isSet (Reg.HDMA_RING_CFG_EN 1 0) = true ∧ (timed 0).isSet (Reg.HDMA_RING_CFG_EN 1 0) = false
        ∧ (after (.ringEnable 51 1 0) (timed 0)).isSet (Reg.HDMA_RING_CFG_EN 1 0) = true)
    ∧ (let s := { timed 0 with hostIf := { (timed 0).hostIf with blockAreas := [131071] } }
       s.hostIf.blockAreas.contains 131071 = true ∧ s.hostIf.blockAreas.contains 0 = false
         ∧ (after (.txfree 51 131071) s).hostIf.blockAreas = [])
    ∧ (let s := ringOf 1 63 0 [(Reg.HDMA_RING_CFG_COAL_T 1 63, 1)] { firstUnreported := some 5, unreported := 2 } (timed 0)
       (s.ring 1 63).firstUnreported = some 5 ∧ s.fld (Reg.HDMA_RING_CFG_COAL_T 1 63) ≠ 0
         ∧ (after (.coalTimeout 1 63) s).eventStat 175 = true) := by
  refine ⟨?_, ?_, ?_, ?_, ?_, ?_⟩ <;> decide +kernel

/-- The other sides of the conditions: no room for a move, an entry with the uncorrectable mark, a frame descriptor, a receive
ring's watchdog. -/
theorem witness_HostDmaCommands_others :
    (let s (len : Nat) := ringOf 1 63 0 [] { ahead := [[0, 0, len, 2 ^ 31]] } (timed 0)
     let legal (len : Nat) : Bool := if (s len).isSet (Reg.HDMA_RING_CFG_MODE 1 63)
       then decide (1 ≤ len ∧ len ≤ 4096) else decide (14 ≤ len ∧ len ≤ 9212)
     (s 9212).isSet (Reg.HDMA_RING_CFG_MODE 1 63) = false ∧ legal 9212 = true ∧ legal 13 = false ∧ (s 14).areaRoom (14 / 4 + 3) = true
       ∧ (after (.txDescMove 63 none) (s 14)).fld (Reg.HDMA_CNT_COUNT 4) = 1
       ∧ (after (.dmaReadTimeout 1 63 true) (s 14)).ringHead 1 63 = 0
       ∧ (after (.txDescMove 63 none) (s 13)).reg Reg.HDMA_ERRLOG = Word.ofN (2 ^ 35 + 2 ^ 7 * 3 + 2 ^ 6 + 63))
    ∧ (let s := massif (fun m => { m with areas := [(0, 2097152)] })
         (ringOf 1 63 0 [(Reg.HDMA_RING_CFG_MODE 1 63, 1)] { ahead := [[0, 0, 1, 2 ^ 31]] } (timed 0))
       s.areaRoom (1 / 4 + 3) = false ∧ ((after (.txDescMove 63 (some [9])) s).ring 1 63).waitSince = some 0)
    ∧ (let q := queueWord 191 5
       let s := ringOf 0 63 0 [] { ahead := [[0x1000, 0, 256, 2 ^ 31, 0, 0, 0, 0]] }
         (q.setCode 3 0 (q.queueSlot 191 0) { encodeWord 36 5 with d := 6 })
       s.ringRuns 0 63 = true ∧ (s.popQueue (128 + 63)).map (·.2.1) = some true
         ∧ (after (.rxEntryMove 63) s).reg Reg.HDMA_ERRLOG = Word.ofN (2 ^ 35 + 2 ^ 7 * 4 + 63))
    ∧ (let s := ringOf 0 63 65535 [(Reg.HDMA_RING_CFG_WDOG 0 63, 1)] {} (queueWord 191 5)
       s.fld (Reg.HDMA_RING_CFG_WDOG 0 63) ≠ 0 ∧ s.ringReady 0 63 = false ∧ (s.queue (128 + 63)).stamps.head? = some 0
         ∧ (s.ring 0 63).barked = false ∧ (after (.ringWatchdog 0 63) s).eventStat 176 = true) := by
  refine ⟨?_, ?_, ?_, ?_⟩ <;> decide +kernel

theorem witness_EventControllerCommands :
    (let s := withFlds [(Reg.EVC_MAP_REMOTE 255, 1)] (timed 0)
     s.isSet (Reg.EVC_MAP_REMOTE 255) = true ∧ (s.reg (Reg.EVC_RSTAT (255 / 32))).bit (255 % 32) = false
       ∧ (s.raise 255).hostIf.remotePending = true)
    ∧ (let x : Vector32 := { masked := false, held := true, last := some 3 }
       let s := (withFlds [(Reg.EVC_MAP_VEC 255, 31)] (timed 0)).setVector 31 x
       let t := (s.setReg (Reg.EVC_EN 7) (Word.ofN (2 ^ 31))).raise 255
       (s.vector 31).held = true ∧ (s.vector 31).last = some 3 ∧ s.summary 31 = false
         ∧ t.summary 31 = true ∧ (t.vector 31).held = true ∧ (t.vector 31).last = some 3 ∧ (t.vector 31).masked = false
         ∧ t.hostIf.functionMask = false ∧ t.hostIf.msixEnabled = true ∧ t.tmx.ext = false ∧ t.tmx.ballsFrom ≤ t.clk
         ∧ ((after (.vholdExpiry 31) t).vector 31).held = false) := by decide +kernel

/-! ### Start-up, power and resets -/

/-- The state with every checker passed, no march under way, and fields set. -/
def booted (l : List (Fld × Nat)) : State :=
  { withFlds l (timed 0) with memc := { (timed 0).memc with passed := List.range 55, marches := [] } }

/-- The octets of an image header of one body piece and one table piece, the rest of the key and the signature zeros. -/
def headerOctets : List Nat :=
  [0x4B, 0x56, 0x49, 0x4D, 0, 1, 0, 0, 0, 0, 0, 0, 0, 0, 0, 0, 0, 0, 0, 1, 0, 0, 0, 1] ++ List.replicate 56 0 ++ [4]
    ++ List.replicate 943 0

/-- The section directory of an image whose steward section is empty. -/
def directoryOctets : List Nat := [0, 1] ++ List.replicate 1022 0

/-- A flash whose slot 1 is COMMITTED and holds that image. -/
def imageFlash : Flash :=
  ({ pieces := [(24576, headerOctets), (24578, directoryOctets)] } : Flash).write (.slot 1 7 false)

/-- What the free value of ECDSA verification says of that header. -/
def headerVerified : Prop :=
  Config.ecdsaP384 ((headerOctets.drop 80).take 97) (Config.sha384 (headerOctets.take 180)) ((headerOctets.drop 180).take 96)
    = true

theorem headerReason_of_verified (s : State) (h : headerVerified) (h0 : s.fuses.lifecycle = 0) (h1 : s.fuses.minSvn = 0) :
    s.headerReason headerOctets = 0 := by
  unfold headerVerified at h
  unfold State.headerReason
  dsimp only
  rw [if_neg (by decide +kernel), if_neg (by simp [h0]), if_neg (by simp [h0]), if_neg (by simp [h1])]
  simp [h]

/-- Where the free value accepts the header, the image is bootable; and without an image none is. -/
theorem witness_ResetBootAndWatchdogCommands_boot (h : headerVerified) :
    let s (halt : Bool) : State := { withFlds [(Reg.PRC_STAT_PHASE, 1)] (timed 0) with
      straps := { (timed 0).straps with bootHalt := halt }, fwc := { (timed 0).fwc with flash := imageFlash } }
    (s false).fld Reg.PRC_STAT_PHASE = 1 ∧ (s false).readHeader.chooseSlot.1 = some 1
      ∧ (∀ b, (s b).readHeader.chooseSlot.2.bootSlot (some 1) = some 1)
      ∧ (s false).straps.bootHalt = false ∧ (s true).straps.bootHalt = true := by
  intro s
  refine ⟨by decide +kernel, by decide +kernel, ?_, rfl, rfl⟩
  intro b
  have hb : (s b).readHeader.chooseSlot.2.bootable 1 = true := by
    have hr : (s b).readHeader.chooseSlot.2.headerReason headerOctets = 0 :=
      headerReason_of_verified _ h (by cases b <;> decide +kernel) (by cases b <;> decide +kernel)
    have hp : (s b).readHeader.chooseSlot.2.fwc.flash.piece 1 0 = headerOctets := by cases b <;> decide +kernel
    have hs : ((s b).readHeader.chooseSlot.2.fwc.flash.sections 1).find? (fun x => x.1 == 1) = some (1, 0, 0, 0) := by
      cases b <;> decide +kernel
    have hl : ((s b).readHeader.chooseSlot.2.fuses.lifecycle != 4) = true := by cases b <;> decide +kernel
    unfold State.bootable
    dsimp only
    rw [hp, hr, hs, hl]
    rfl
  unfold State.bootSlot
  simp [Option.filter, hb]

theorem witness_ResetBootAndWatchdogCommands :
    ((after (.porAssert true) (timed 0)).held = true ∧ (after (.porAssert true) (timed 0)).prc.aonLost = true
        ∧ (after (.porAssert false) (timed 0)).prc.aonLost = false
        ∧ (after (.porRelease {}) (after (.porAssert true) (timed 0))).reg Reg.PRC_RSTCAUSE = 17
        ∧ (after (.porRelease {}) (after (.porAssert false) (timed 0))).reg Reg.PRC_RSTCAUSE = 1
        ∧ (timed 0).held = false)
    ∧ ((timed 0).hostIf.perst = false ∧ (after .perstnHigh (timed 0)).hostIf.perst = true)
    ∧ ((after .sysResetPin (timed 0)).reg Reg.PRC_RSTCAUSE = (State.reset.reg Reg.PRC_RSTCAUSE ||| 2)
        ∧ (after (.warmRst 49 0x5A5) (timed 0)).tbu.running = false
        ∧ ¬ (0x5A4 = 0x5A5 ∧ (51 = 49 ∨ 51 = 50 ∨ 51 = 51)) ∧ ¬ (0x5A5 = 0x5A5 ∧ (52 = 49 ∨ 52 = 50 ∨ 52 = 51)))
    ∧ ((booted []).fld Reg.PRC_STAT_PHASE = 0 ∧ (booted []).readyToLoad = true
        ∧ (after .bootMarchDone (booted [])).fld Reg.PRC_STAT_PHASE = 1)
    ∧ (let s := booted [(Reg.PRC_STAT_PHASE, 1)]
       s.fld Reg.PRC_STAT_PHASE = 1 ∧ s.readHeader.chooseSlot.1 = none ∧ s.readHeader.chooseSlot.2.bootSlot none = none
         ∧ (after .loaderDone s).eventStat 191 = true)
    ∧ (let s := booted [(Reg.PRC_STAT_PHASE, 2), (Reg.TBU_STAT_PLL_LOCK, 1), (Reg.TBU_STAT_CAL_VALID, 1)]
       s.isSet Reg.TBU_STAT_PLL_LOCK = true ∧ s.isSet Reg.TBU_STAT_CAL_VALID = true ∧ s.memcStat.bit 2 = true
         ∧ s.fld Reg.PRC_STAT_PHASE = 2 ∧ (after (.dpReady 0) s).eventStat 200 = true
         ∧ (booted []).fld Reg.PRC_STAT_PHASE ≠ 2 ∧ (booted []).isSet Reg.TBU_STAT_PLL_LOCK = false
         ∧ (timed 0).memcStat.bit 2 = false)
    ∧ ((timed 0).fld Reg.TALUS_CTRL_ACTIVE_SE = 0 ∧ (withFlds [(Reg.TALUS_CTRL_ACTIVE_SE, 1)] (timed 0)).fld Reg.TALUS_CTRL_ACTIVE_SE = 1
        ∧ (after (.kick 49 1) (timed 0)).isSet Reg.PRC_STAT_STANDBY_OK = true)
    ∧ (let s (k1 : Nat) (m : Bool) : State := { booted [(Reg.PRC_STAT_PHASE, 3), (Reg.PRC_STAT_STANDBY_OK, 1)] with
          prc := { (timed 0).prc with kick1 := k1, missed1 := m } }
       (s 128 false).fld Reg.PRC_STAT_PHASE = 3 ∧ (s 128 false).prc.bootHalted = false ∧ (s 128 false).missed 0 = false
         ∧ (s 128 false).missed (1 - 0) = false
         ∧ ((s 1000 false).expire ((s 1000 false).expiry 0)).clk ≤ (s 1000 false).expiry (1 - 0)
         ∧ (s 1000 false).expiry 0 < (s 1000 false).expiry (1 - 0) ∧ (s 1000 false).missed (1 - 0) = false
         ∧ (s 0 false).expiry (1 - 0) < ((s 0 false).expire ((s 0 false).expiry 0)).clk
         ∧ (s 128 false).fld Reg.TALUS_CTRL_ACTIVE_SE = 0 ∧ (s 0 true).missed (1 - 0) = true
         ∧ (after (.wdogTimeout 0) (s 1000 false)).eventStat 203 = true
         ∧ (after (.wdogTimeout 0) (s 0 true)).fld Reg.PRC_STAT_PHASE = 0)
    ∧ (let s : State := { booted [(Reg.PRC_STAT_PHASE, 3), (Reg.PRC_STAT_STANDBY_OK, 1)] with
          prc := { (timed 0).prc with kick0 := 1000 } }
       s.missed 1 = false ∧ s.missed (1 - 1) = false
         ∧ (s.expire (s.expiry 1)).clk ≤ s.expiry (1 - 1) ∧ s.expiry 1 < s.expiry (1 - 1) ∧ s.fld Reg.TALUS_CTRL_ACTIVE_SE = 1 - 1
         ∧ (after (.wdogTimeout 1) s).isSet Reg.PRC_STAT_STANDBY_OK = false) := by
  refine ⟨?_, ?_, ?_, ?_, ?_, ?_, ?_⟩ <;> decide +kernel

/-- Cluster 11 in a power state. -/
def clusterIn (st : Nat) (l : List (Fld × Nat)) (x : Cluster) : State :=
  (withFlds ((Reg.PRC_CLS_STAT_STATE 11, st) :: l) (timed 0)).setCluster 11 x

theorem witness_ClusterPowerCommands :
    ((clusterIn 0 [] {}).held = false ∧ (clusterIn 0 [] {}).tmx.testing = none
        ∧ (clusterIn 0 [] {}).isSet Reg.EVC_CTRL_STW_EN = false ∧ (clusterIn 0 [] {}).fld (Reg.PRC_CLS_STAT_STATE 11) = 0
        ∧ (clusterIn 0 [] {}).fld (Reg.PRC_CLS_CTRL_DEPTH 11) ≠ 3
        ∧ (after (.clusterSleepCmd 49 11) (clusterIn 0 [] {})).fld (Reg.PRC_CLS_STAT_STATE 11) = 1)
    ∧ (let s := clusterIn 0 [(Reg.PRC_CLS_CTRL_IDLE 11, 1), (Reg.CE_CTRL_RUN 44, 1), (Reg.CE_CTRL_RUN 45, 1),
          (Reg.CE_CTRL_RUN 46, 1), (Reg.CE_CTRL_RUN 47, 1)] {}
       s.clusterIdle 11 = true)
    ∧ (let s := clusterIn 0 [(Reg.PRC_CLS_CTRL_DEPTH 11, 3)] {}
       s.fld (Reg.PRC_CLS_CTRL_DEPTH 11) = 3 ∧ s.isSet (Reg.PRC_CLS_IMG_VALID 11) = false
         ∧ (clusterIn 0 [(Reg.PRC_CLS_CTRL_DEPTH 11, 3), (Reg.PRC_CLS_IMG_VALID 11, 1)] {}).isSet (Reg.PRC_CLS_IMG_VALID 11) = true)
    ∧ ((clusterIn 1 [] {}).fld (Reg.PRC_CLS_STAT_STATE 11) = 1
        ∧ (∀ k < 4, ((clusterIn 1 [] {}).engine (4 * 11 + k)).run = none ∧ ((clusterIn 1 [] {}).engine (4 * 11 + k)).cq = [])
        ∧ (after (.drainDone 11) (clusterIn 1 [] {})).fld (Reg.PRC_CLS_STAT_STATE 11) = 2)
    ∧ ((clusterIn 2 [] {}).fld (Reg.PRC_CLS_STAT_STATE 11) = 2 ∧ ((clusterIn 2 [] {}).cluster 11).isolated = false
        ∧ ((after (.isolate 11) (clusterIn 2 [] {})).cluster 11).isolated = true
        ∧ (clusterIn 2 [] {}).tickAt (clusterIn 2 [] {}).clk
            < (clusterIn 2 [] {}).tickAt (((clusterIn 2 [] {}).cluster 11).since + 200 * Config.ns)
        ∧ (after (.clusterWakeCmd 49 11) (clusterIn 2 [] {})).fld (Reg.PRC_CLS_STAT_STATE 11) = 0
        ∧ (let s := { clusterIn 2 [] {} with clk := 3200, tbu := { (timed 0).tbu with time := 3200 } }
           s.tickAt ((s.cluster 11).since + 200 * Config.ns) ≤ s.tickAt s.clk
             ∧ ((after (.clusterWakeCmd 49 11) s).cluster 11).wakeAfter = true)
        ∧ (after (.clusterWakeCmd 49 11) (clusterIn 1 [] {})).fld (Reg.PRC_CLS_STAT_ABORTS 11) = 1
        ∧ (clusterIn 0 [] {}).clusterIdle 11 = false)
    ∧ (let x : Cluster := { isolated := true, wakeFrom := 5 }
       ((clusterIn 2 [] x).cluster 11).isolated = true ∧ ((clusterIn 2 [] x).cluster 11).wakeFrom = 5
         ∧ (after (.clusterSleep 11) (clusterIn 2 [] x)).fld (Reg.PRC_CLS_STAT_STATE 11) = 5
         ∧ (after (.clusterSleep 11) (clusterIn 2 [] { x with wakeAfter := true })).fld (Reg.PRC_CLS_STAT_STATE 11) = 6)
    ∧ ((clusterIn 3 [] {}).fld (Reg.PRC_CLS_STAT_STATE 11) = 3 ∧ (clusterIn 5 [] {}).fld (Reg.PRC_CLS_STAT_STATE 11) = 5
        ∧ (after (.clusterWakeCmd 0 11) (clusterIn 5 [] {})).fld (Reg.PRC_CLS_STAT_STATE 11) = 6)
    ∧ ((clusterIn 6 [] { wakeFrom := 3 }).fld (Reg.PRC_CLS_STAT_STATE 11) = 6
        ∧ ((clusterIn 6 [] { wakeFrom := 3 }).cluster 11).wakeFrom = 3
        ∧ (after (.clusterWake 11 0) (clusterIn 6 [] { wakeFrom := 3 })).eventStat 201 = true) := by
  refine ⟨?_, ?_, ?_, ?_, ?_, ?_⟩ <;> decide +kernel

/-! ### Firmware control -/

/-- A state with records written to the flash, firmware control changed and fields set. -/
def fwcIn (recs : List StateRec) (f : Fwc → Fwc) (l : List (Fld × Nat)) : State :=
  let s := withFlds l (timed 0)
  { s with fwc := f { s.fwc with flash := recs.foldl Flash.write s.fwc.flash } }

/-- The state of a slot after a command. -/
def slotAfter (c : Instr) (k : Nat) (s : State) : Nat := (after c s).slotSt k

theorem witness_StateRecordsSurviveRotation :
    Tab.wf (fun _ => []) (({} : Flash).write (.slot 1 7 false)).sectors = true
      ∧ (∀ x ∈ (({} : Flash).write (.slot 1 7 false)).records, x.1 < (({} : Flash).write (.slot 1 7 false)).seq)
      ∧ (StateRec.slot 1 7 false).sameKey (.slot 0 7 false) = false ∧ 3 < 4
      ∧ ((({} : Flash).write (.slot 1 7 false)).write (.slot 1 5 true)).slotState 1 = (5, true) := by decide +kernel

theorem witness_ImageAndActivationCommands :
    (let s := fwcIn [] id []
     s.held = false ∧ s.fwc.staging = none ∧ s.fwc.booted ≠ some 1 ∧ s.slotSt 1 < 4 ∧ slotAfter (.xferBegin 52 1) 1 s = 1
       ∧ (fwcIn [] (fun f => { f with booted := some 1 }) []).fwc.booted = some 1
       ∧ 4 ≤ (fwcIn [.slot 1 4 false] id []).slotSt 1)
    ∧ (let s := fwcIn [.slot 1 3 false] id []
       s.slotSt 1 = 3 ∧ s.slotSt (1 - 1) < 4 ∧ 6 < (fwcIn [.slot 1 3 false, .slot 0 7 false] id []).slotSt (1 - 1)
         ∧ (fwcIn [.slot 1 2 false] id []).slotSt 1 = 2 ∧ s.fwc.running ≠ some 1
         ∧ (∀ c < 12, s.isSet (Reg.PRC_CLS_IMG_VALID c) = false) ∧ s.entriesDiffer 1 = false
         ∧ slotAfter (.xferAbort 0 1) 1 s = 0 ∧ slotAfter (.bootNext 0 1) 1 s = 5
         ∧ (after (.stage 0 1) s).fwc.staging = some { slot := 1, standby := 1 }
         ∧ (fwcIn [] id []).slotSt 1 ≠ 3)
    ∧ (let s := fwcIn [.slot 1 1 false] (fun f => { f with erasing := some 1 }) []
       s.fwc.erasing = some 1 ∧ slotAfter (.eraseDone true) 1 s = 2)
    ∧ ((fwcIn [] id []).isSet Reg.FWC_PIECE_STAT_BUSY = false
        ∧ (fwcIn [] id [(Reg.FWC_PIECE_STAT_BUSY, 1)]).isSet Reg.FWC_PIECE_STAT_BUSY = true
        ∧ (after (.piece 52 0xFF8000) (fwcIn [] id [])).isSet Reg.FWC_PIECE_STAT_BUSY = true)
    ∧ (let j (p : Nat) : PieceJob := { slot := 1, piece := p, octets := [] }
       let s (st p : Nat) := fwcIn [.slot 1 st false] (fun f => { f with job := some (j p) }) []
       (s 3 0).fwc.job = some (j 0) ∧ (j 0).piece < 2 ^ 15 ∧ (j 0).slot < 2 ∧ (s 3 0).slotSt 1 ≠ 2 ∧ 24576 ≤ (j 24576).piece
         ∧ (s 2 0).slotSt 1 = 2 ∧ (s 2 0).fwc.flash.pieceState 1 0 ≠ 2 ∧ (s 2 0).headerReason (j 0).octets ≠ 0
         ∧ 0 < (j 24575).piece ∧ (j 24575).piece < 24576 ∧ (s 2 24575).fwc.flash.pieceState 1 24575 ≠ 2
         ∧ (after .pieceDone (s 2 24576)).fld Reg.FWC_PIECE_STAT_RESULT = 6
         ∧ (after .pieceDone (s 2 0)).fld Reg.FWC_PIECE_STAT_REASON = 1
         ∧ (after .pieceDone (s 2 24575)).fld Reg.FWC_PIECE_STAT_RESULT = 3)
    ∧ (let st (b : Bool) : Staging := { slot := 1, standby := 1, started := b }
       let s (b : Bool) := fwcIn [.slot 1 3 false] (fun f => { f with staging := some (st b) }) []
       (s false).fwc.staging = some (st false) ∧ (st true).standby < 2 ∧ (st true).started = true
         ∧ (after .firstStart (s false)).fwc.staging = some (st true)
         ∧ slotAfter (.handover 50) 1 (s true) = 4 ∧ (after (.actRevert 50) (s true)).fwc.staging = none)
    ∧ ((fwcIn [.slot 1 4 false] id []).slotSt 1 = 4 ∧ (fwcIn [.slot 1 4 false] id []).fwc.activation = none
        ∧ slotAfter (.unstage 0 1) 1 (fwcIn [.slot 1 4 false] id []) = 3)
    ∧ (let s := fwcIn [.slot 1 6 false] (fun f => { f with running := some 1, image1 := some 1, migrated := true }) []
       s.slotSt 1 = 6 ∧ s.fwc.running = some 1 ∧ s.stewardImage (50 - 49) = some 1 ∧ s.fwc.migrated = true
         ∧ (after (.commit 50 1) s).fld Reg.FWC_XFER_CMD_RESULT = 1 ∧ (fwcIn [.slot 1 6 false] id []).fwc.migrated = false)
    ∧ (let s := fwcIn [.slot 1 4 false] id [(Reg.FWC_ACT_AT_AT, 128)]
       s.stagedSlot = some 1 ∧ 0 < s.actSlack ∧ s.actSlack < 2 ^ 28 ∧ (fwcIn [.slot 1 4 false] id []).actSlack = 0
         ∧ (after (.activateGo 49) s).fwc.activation = some { slot := 1, atTick := 1 }) := by
  refine ⟨?_, ?_, ?_, ?_, ?_, ?_, ?_⟩ <;> decide +kernel

/-- Groups of an activation, and the last switch of one. -/
theorem witness_ImageAndActivationCommands_groups :
    (let a (gs : List Nat) : Activation := { slot := 1, atTick := 8, groups := gs }
     let s (gs : List Nat) := fwcIn [.slot 1 4 false] (fun f => { f with activation := some (a gs) }) [(Reg.CE_CTRL_PAIR_EN 1, 1)]
     (s []).fwc.activation = some (a []) ∧ (a []).groups = [] ∧ (s []).tbu.running = true
       ∧ (∀ e < 48, ((s []).engine e).retired = false) ∧ (s []).isSet (Reg.CE_CTRL_PAIR_EN 1) = true
       ∧ (after (.activateGroup 0) (s [])).fld (Reg.CE_CTRL_BANK 0) = 1 ∧ (s [0]).fwc.activation = some (a [0])
       ∧ (a [0]).groups = [0] ∧ (after (.activateGroup 1) (s [0])).fld (Reg.CE_CTRL_BANK 1) = 1)
    ∧ (let a (l : List Nat) : Activation := { slot := 1, atTick := 8, groups := [0, 1], starts := [(47, 1)], switched := l }
       let s (l : List Nat) := fwcIn [.slot 1 4 false] (fun f => { f with activation := some (a l) }) [(Reg.CE_CTRL_BANK 47, 1)]
       (s (List.range 47)).fwc.activation = some (a (List.range 47)) ∧ Tab.get 0 47 (a []).starts ≠ 0
         ∧ (a (List.range 47)).switched.contains 47 = false ∧ ((s []).engine 47).run = none ∧ ((s []).engine 47).cq = []
         ∧ (s []).fld (Reg.CE_CTRL_BANK 47) ≠ ((s []).engine 47).bank ∧ (a (List.range 47)).switched.length = 47
         ∧ (after (.bankSwitch 47) (s (List.range 47))).fwc.running = some 1
         ∧ (after (.bankSwitch 47) (s [])).fwc.activation = some (a [47])) := by decide +kernel

/-- A slot being loaded whose header and table are known and whose first body piece is pending: its digest is the one the table
gives or is not. -/
theorem witness_ImageAndActivationCommands_pending :
    let s := fwcIn [.slot 1 2 false, .bitmap 1 0 (2 + 2 * 4 + 1 * 16)]
      (fun f => { f with flash := { f.flash with pieces := [(24576, headerOctets), (24578, directoryOctets)] } }) []
    s.nextPending = some (1, 2)
      ∧ (Config.sha384 (s.fwc.flash.piece 1 2) = s.fwc.flash.bodyDigest 1 (2 - 1 - s.fwc.flash.tablePieces 1)
        ∨ Config.sha384 (s.fwc.flash.piece 1 2) ≠ s.fwc.flash.bodyDigest 1 (2 - 1 - s.fwc.flash.tablePieces 1)) :=
  ⟨by decide +kernel, Classical.em _⟩

/-- A body piece of a slot whose header and table are known, new and repeated: its digest is the one the table gives or is not. -/
theorem witness_ImageAndActivationCommands_body :
    let j : PieceJob := { slot := 1, piece := 2, octets := directoryOctets }
    let s (v : Nat) := fwcIn [.slot 1 2 false, .bitmap 1 0 (2 + 2 * 4 + v * 16)]
      (fun f => { f with flash := { f.flash with pieces := [(24576, headerOctets)] }, job := some j }) []
    ((s 0).fwc.job = some j ∧ (s 0).slotSt 1 = 2 ∧ (s 0).tableOk 1 = true ∧ (s 0).fwc.flash.tablePieces 1 < j.piece ∧ j.piece < 24576
        ∧ j.piece < 1 + (s 0).fwc.flash.tablePieces 1 + (s 0).fwc.flash.bodyPieces 1 ∧ (s 2).fwc.flash.pieceState 1 2 = 2
        ∧ (s 0).fwc.flash.pieceState 1 2 ≠ 2 ∧ (after .pieceDone (s 2)).fld Reg.FWC_PIECE_STAT_RESULT = 2)
      ∧ (Config.sha384 j.octets = (s 0).fwc.flash.bodyDigest 1 (2 - 1 - (s 0).fwc.flash.tablePieces 1)
        ∨ Config.sha384 j.octets ≠ (s 0).fwc.flash.bodyDigest 1 (2 - 1 - (s 0).fwc.flash.tablePieces 1)) :=
  ⟨by decide +kernel, Classical.em _⟩

/-- The refusals of the slot and activation commands, a general group, and a bank switch outside an activation. -/
theorem witness_ImageAndActivationCommands_others :
    (let s := fwcIn [.slot 1 4 false] id []
     s.slotSt 1 ≠ 2 ∧ s.slotSt 1 ≠ 3 ∧ s.fwc.staging = none ∧ s.fwc.activation = none
       ∧ after .firstStart s = s ∧ (after (.handover 49) s).eventStat 0 = true
       ∧ (fwcIn [] id []).stagedSlot = none ∧ (after (.activateGo 49) (fwcIn [] id [])).eventStat 0 = true
       ∧ (after (.unstage 0 1) (fwcIn [] id [])).fld Reg.FWC_XFER_CMD_RESULT = 2
       ∧ 53 ≠ 49 ∧ 53 ≠ 50 ∧ 53 ≠ 51 ∧ 53 ≠ 52)
    ∧ (let a : Activation := { slot := 1, atTick := 8, groups := [0], starts := [(0, 3)] }
       let s := fwcIn [.slot 1 4 false] (fun f => { f with activation := some a }) []
       a.groups.contains 1 = false ∧ a.groups.contains 0 = true ∧ s.tbu.running = true ∧ Tab.get 0 47 a.starts = 0
         ∧ (after (.activateGroup 1) s).fld (Reg.CE_CTRL_BANK 47) = 1 ∧ after (.activateGroup 0) s = s)
    ∧ (let s := fwcIn [] (fun f => { f with restart := some 1 }) [(Reg.CE_CTRL_BANK 49, 1), (Reg.CE_CTRL_BANK 3, 1)]
       s.fwc.activation = none ∧ (s.engine 49).run = none ∧ (s.engine 49).cq = []
         ∧ s.fld (Reg.CE_CTRL_BANK 49) ≠ (s.engine 49).bank ∧ s.fwc.restart = some (49 - 48)
         ∧ ((after (.bankSwitch 49) s).engine 49).bank = 1 ∧ ((after (.bankSwitch 49) s).engine 49).run = some { talus := false }
         ∧ s.fld (Reg.CE_CTRL_BANK 3) ≠ (s.engine 3).bank ∧ ((after (.bankSwitch 3) s).engine 3).bank = 1
         ∧ s.fld (Reg.CE_CTRL_BANK 4) = (s.engine 4).bank) := by decide +kernel

/-- Where the free value accepts the header, the header piece is accepted. -/
theorem witness_ImageAndActivationCommands_header (h : headerVerified) :
    let s := fwcIn [.slot 1 2 false] (fun f => { f with job := some { slot := 1, piece := 0, octets := headerOctets } }) []
    s.slotSt 1 = 2 ∧ s.fwc.flash.pieceState 1 0 ≠ 2 ∧ s.headerReason headerOctets = 0 :=
  ⟨by decide +kernel, by decide +kernel, headerReason_of_verified _ h (by decide +kernel) (by decide +kernel)⟩

/-- A configuration block of no payload, and a state with it in a bank and in Shelf RAM from word 0 on. -/
def emptyBlock (ident gen : Nat) : List Nat := blockOctets ident 0 gen []
def withBlock (bank gen : Nat) (s : State) : State :=
  let l := emptyBlock 1023 gen
  let s1 := { s with fwc := { s.fwc with
    flash := { s.fwc.flash with cfg := Tab.put [] (1024 * bank + 1023) l s.fwc.flash.cfg }
    image1 := some 1 } }
  s1.toShelf 0 l

theorem witness_ConfigurationAndLifecycleCommands_blocks :
    (let s := withBlock 0 0 (fwcIn [] id [])
     (50 = 49 ∨ 50 = 50) ∧ s.isSet Reg.FWC_CFG_CMD_BUSY = false ∧ s.stewardImage (50 - 49) = some 1
       ∧ State.blockPasses 1023 s.fwc.flash.activeCfg.2 (s.fwc.flash.cfgVersion 1) true
           (s.fwc.flash.cfgBlock s.fwc.flash.activeCfg.1 1023) = true
       ∧ State.blockPasses 1022 s.fwc.flash.activeCfg.2 (s.fwc.flash.cfgVersion 1) true
           (s.fwc.flash.cfgBlock s.fwc.flash.activeCfg.1 1022) = false
       ∧ s.fwc.flash.part 1 4 (fun _ => true) = none ∧ (after (.cfgLoad 50 1023 255 true) s).fwc.cfgDone = some (1, some 0)
       ∧ (after (.cfgLoad 50 1022 255 true) s).eventStat 4 = true
       ∧ blockHolds (s.shelfBlock (256 * 0)).1 = true ∧ blockHolds (s.shelfBlock (256 * 255)).1 = false
       ∧ leAt (s.shelfBlock (256 * 0)).1 2 2 = s.fwc.flash.cfgVersion 1 ∧ leAt (s.shelfBlock (256 * 0)).1 0 2 = 1023
       ∧ s.fwc.flash.cfgBlock (1 - s.fwc.flash.activeCfg.1) 1023 = []
       ∧ ((s.fwc.flash.cfgBank (1 - s.fwc.flash.activeCfg.1)).map List.length).sum + (s.shelfBlock (256 * 0)).1.length ≤ 2 ^ 21
       ∧ (after (.cfgWrite 50 0) s).fwc.cfgDone = some (1, none) ∧ (after (.cfgWrite 50 255) s).fwc.cfgDone = some (4, none))
    ∧ (let s := withBlock 1 1 (fwcIn [] id [])
       s.fwc.flash.cfgBlock (1 - s.fwc.flash.activeCfg.1) 1023 ≠ [] ∧ s.fwc.flash.activeCfg.1 < 2
         ∧ s.fwc.flash.bankGen (1 - s.fwc.flash.activeCfg.1) = some ((s.fwc.flash.activeCfg.2 + 1) % 2 ^ 32)
         ∧ (after (.cfgWrite 50 0) s).fwc.cfgDone = some (5, none) ∧ (after (.cfgSwitch 50) s).fwc.cfgRecord = some (.activeCfg 1 1)
         ∧ (after .cfgOpDone (after (.cfgSwitch 50) s)).fwc.flash.activeCfg = (1, 1))
    ∧ (let s := withBlock 1 (2 ^ 32 - 1) (fwcIn [] id [])
       s.fwc.flash.bankGen (1 - s.fwc.flash.activeCfg.1) = some ((s.fwc.flash.activeCfg.2 + 2 ^ 32 - 1) % 2 ^ 32)
         ∧ (after .cfgOpDone (after (.cfgRevert 50) s)).fwc.flash.activeCfg = (1, 2 ^ 32 - 1)
         ∧ (after (.cfgSwitch 50) s).fwc.cfgDone = some (6, none))
    ∧ (51 ≠ 49 ∧ 51 ≠ 50 ∧ (fwcIn [] id [(Reg.FWC_CFG_CMD_BUSY, 1)]).isSet Reg.FWC_CFG_CMD_BUSY = true)
    ∧ (let s := fwcIn [] (fun f => { f with cfgDone := some (7, none) }) []
       s.fwc.cfgDone = some (7, none) ∧ 7 < 8 ∧ (after .cfgOpDone s).fld Reg.FWC_CFG_CMD_RESULT = 7) := by
  refine ⟨?_, ?_, ?_, ?_⟩ <;> decide +kernel

/-- The image of slot 1 holds a defaults section with block 1022 in it; a block of another version in Shelf RAM. -/
theorem witness_ConfigurationAndLifecycleCommands_defaults :
    let block := blockOctets 1022 0 0 []
    let dir := [0, 4, 0, 0, 0, 0, 0, 64, 0, 0, 0, 20] ++ List.replicate 52 0 ++ block ++ List.replicate 940 0
    let s := fwcIn [] (fun f => { f with flash := { f.flash with pieces := [(24576, headerOctets), (24578, dir)] }, image1 := some 1 }) []
    (s.stewardImage (50 - 49) = some 1
      ∧ State.blockPasses 1022 s.fwc.flash.activeCfg.2 (s.fwc.flash.cfgVersion 1) true
          (s.fwc.flash.cfgBlock s.fwc.flash.activeCfg.1 1022) = false
      ∧ s.fwc.flash.part 1 4 (fun _ => true) = some block ∧ findDefault 1022 block.length block = some block
      ∧ (after (.cfgLoad 50 1022 255 true) s).fwc.cfgDone = some (2, some 0))
    ∧ (let u := s.toShelf 0 (blockOctets 1022 1 0 [])
       blockHolds (u.shelfBlock (256 * 0)).1 = true ∧ leAt (u.shelfBlock (256 * 0)).1 2 2 ≠ u.fwc.flash.cfgVersion 1
         ∧ (after (.cfgWrite 50 0) u).fwc.cfgDone = some (7, none)) := by decide +kernel

/-- A device in a life-cycle state. -/
def inLife (n : Nat) (f : Fwc → Fwc) (l : List (Fld × Nat)) : State :=
  { fwcIn [] f l with fuses := { (timed 0).fuses with lifecycle := n } }

theorem witness_ConfigurationAndLifecycleCommands :
    ((inLife 0 id []).fuses.lifecycle = 0 ∧ (inLife 1 id []).fuses.lifecycle ≤ 1 ∧ (inLife 2 id []).fuses.lifecycle = 2
        ∧ (after (.lcProvision 51 0xC3A) (inLife 0 id [])).fuses.lifecycle = 1
        ∧ (after (.lcField 51 0xC3A) (inLife 1 id [])).fuses.lifecycle = 2
        ∧ (after (.lcScrapped 49 0xC3A) (inLife 3 id [])).fuses.lifecycle = 4
        ∧ ((inLife 2 id []).returnAuthorised 255).1 = false
        ∧ (after (.lcReturn 50 0xC3A 255) (inLife 2 id [])).fuses.lifecycle = 2
        ∧ (after (.lcProvision 50 0xC3A) (inLife 2 id [])).fld Reg.FWC_LC_STAT_REASON = 1
        ∧ (after (.lcScrapped 51 0xC3A) (inLife 2 id [])).fld Reg.FWC_LC_STAT_REASON = 2)
    ∧ ((inLife 1 id []).fuses.keyValid.testBit 3 = false
        ∧ (after (.fuseKey 51 0xC3A 255 3) (inLife 1 id [])).fuses.keyValid.testBit 3 = true
        ∧ (after (.fuseKey 49 0xC3A 255 3) (inLife 2 id [])).fld Reg.FWC_LC_STAT_REASON = 1
        ∧ (after (.fuseKey 51 0xC3A 255 3) (after (.fuseKey 51 0xC3A 255 3) (inLife 1 id []))).fld Reg.FWC_LC_STAT_REASON = 4
        ∧ 0xC3B ≠ 0xC3A ∧ (after (.revokeKey 49 0xC3B 0) (inLife 1 id [])).fld Reg.FWC_LC_STAT_REASON = 1
        ∧ (inLife 2 id []).watched 3 = false)
    ∧ ((inLife 3 id []).fuses.lifecycle ≠ 4 ∧ (inLife 3 id []).fwc.running = none
        ∧ (after (.revokeKey 49 0xC3A 3) (inLife 3 id [])).fuses.keyRevoked = 8
        ∧ (let s := inLife 3 (fun f => { f with running := some 1, flash := imageFlash }) []
           s.fwc.running = some 1 ∧ beAt (s.fwc.flash.piece 1 0) 6 2 = 0 ∧ (after (.revokeKey 49 0xC3A 0) s).fuses.keyRevoked = 0))
    ∧ (let f : Flash := { sectors := [(0, (List.range 600).map (fun i => (i, .slot 0 3 false)))], seq := 600 }
       Tab.wf (fun _ => []) f.sectors = true ∧ (∀ x ∈ f.records, x.1 < f.seq) ∧ 389 ≤ f.room
         ∧ ({ sectors := [(0, List.replicate 1200 (0, .slot 0 3 false))] } : Flash).room < 389)
    ∧ ((inLife 2 id [(Reg.FWC_TAMPER_CTRL_EN_PIN, 8)]).watched 3 = true
        ∧ (inLife 2 id [(Reg.FWC_TAMPER_CTRL_EN_TEMP, 1)]).watched 6 = true
        ∧ (after (.tamper 3) (inLife 2 id [(Reg.FWC_TAMPER_CTRL_EN_PIN, 8)])).eventStat 196 = true
        ∧ (after (.tamper 6) (inLife 2 id [(Reg.FWC_TAMPER_CTRL_EN_TEMP, 1), (Reg.FWC_TAMPER_CTRL_ACTION, 1)])).fld
            Reg.PRC_STAT_PHASE = 0) := by
  refine ⟨?_, ?_, ?_, ?_, ?_⟩ <;> decide +kernel

/-- The octets of a return authorisation lie in Shelf RAM from word 0 on; where the free values accept the header and give the
serial number the digest 0, the return is authorised. -/
theorem witness_ConfigurationAndLifecycleCommands_return (h : headerVerified) :
    let s := { (timed 0).toShelf 0 (headerOctets.take 84) with fuses := { (timed 0).fuses with lifecycle := 2, keyValid := 1 } }
    Config.sha384 ((headerOctets.drop 80).take 97) = 0 → Config.sha384 s.serialOctets = 0 →
      s.fuses.lifecycle = 2 ∧ (s.returnAuthorised 0).1 = true := by
  intro s hk hs
  refine ⟨rfl, ?_⟩
  have hl : (s.shelfOctets (256 * 0) 256).1 = headerOctets := by decide +kernel
  have hf : (s.shelfOctets (256 * 0) 256).2.fuses = s.fuses := by decide +kernel
  have ho : (s.shelfOctets (256 * 0) 256).2.serialOctets = s.serialOctets := by decide +kernel
  have hr : (s.shelfOctets (256 * 0) 256).2.headerReason headerOctets = 0 := by
    unfold headerVerified at h
    unfold State.headerReason
    dsimp only
    rw [hf, if_neg (by decide +kernel), if_neg (by rw [hk]; decide +kernel), if_neg (by decide +kernel), if_neg (by decide +kernel)]
    simp [h]
  unfold State.returnAuthorised
  dsimp only
  rw [hl, hr, ho, hs]
  decide +kernel

/-! ### Strata -/

/-- A report, and a state with pending entries and fields. -/
def someReport : Report := { source := 189, type := 511, detail := 65535, arg := 7, agent := 63, agent2 := 0 }
def strataIn (l : List Report) (fs : List (Fld × Nat)) : State :=
  { withFlds fs (timed 0) with strata := { (timed 0).strata with intake := l } }

theorem witness_FaultLogCommands :
    (let full := strataIn (List.replicate 16 { someReport with source := 0 }) []
     someReport.source < 190 ∧ someReport.type < 512 ∧ (strataIn [] []).strata.intake.any (State.mergesInto someReport) = false
       ∧ (strataIn [] []).strata.intake.length < 16 ∧ full.strata.intake.any (State.mergesInto someReport) = false
       ∧ full.strata.intake.length = 16 ∧ full.fld (Reg.STRATA_LOST_LOST (State.classOf someReport.type)) = 0
       ∧ (full.intake someReport).eventStat 185 = true
       ∧ (strataIn [{ someReport with count := 2 ^ 20 - 2 }] []).strata.intake = { someReport with count := 2 ^ 20 - 2 } :: []
       ∧ someReport.type ≠ 186 ∧ 2 ^ 20 - 2 < 2 ^ 20 - 1
       ∧ ((strataIn [{ someReport with count := 2 ^ 20 - 2 }] []).intake someReport).strata.intake
           = [{ someReport with count := 2 ^ 20 - 1 }])
    ∧ (let s := strataIn [someReport] [(Reg.STRATA_HEAD_HEAD, 65535), (Reg.STRATA_TAIL_TAIL, 65535 - 511)]
       s.strata.intake = someReport :: [] ∧ s.fld Reg.STRATA_HEAD_HEAD = 65535 ∧ s.strataUnread ≠ 512
         ∧ (after .strataRecordWrite s).fld Reg.STRATA_HEAD_HEAD = 0
         ∧ (strataIn [someReport] [(Reg.STRATA_HEAD_HEAD, 512)]).strataUnread = 512)
    ∧ (let s := strataIn [] [(Reg.STRATA_HEAD_HEAD, 3)]
       ((3 : Word).field 15 0 + 2 ^ 16 - s.fld Reg.STRATA_TAIL_TAIL) % 2 ^ 16 ≤ s.strataUnread
         ∧ s.strataUnread < ((4 : Word).field 15 0 + 2 ^ 16 - s.fld Reg.STRATA_TAIL_TAIL) % 2 ^ 16
         ∧ (after (.strataTailWrite 0 3) s).strataUnread = 0)
    ∧ (isShadowed 0x76 = true ∧ ((timed 0).copies 0x76).retired = false ∧ ((timed 0).copies 0x76).testing = none
        ∧ ((after (.copyFault 0x76 3) (timed 0)).copies 0x76).testing = some 0
        ∧ 2 ≤ (timed 0).fld (Reg.STRATA_WCFG_N 3) ∧ Tab.get [] (3072 + 0x76) (timed 0).strata.windows = []
        ∧ (after (.copyFault 0x76 1) (timed 0)).fld (Reg.STRATA_LAST_TYPE 0x76) = 259)
    ∧ (let s0 := strataIn [] [(Reg.STRATA_WCFG_N 3, 2), (Reg.STRATA_WCFG_ACTION 3, 4)]
       let s := { s0 with strata := { s0.strata with windows := [(3072 + 0xBC, [0])] } }
       isShadowed 0xBC = true ∧ s.fld (Reg.STRATA_WCFG_N 3) = 2 ∧ s.fld (Reg.STRATA_WCFG_ACTION 3) = 4
         ∧ Tab.get [] (3072 + 0xBC) s.strata.windows = [0] ∧ s.tick ≤ 0 + s.windowTicks 3
         ∧ (after (.copyFault 0xBC 2) s).copies 0xBC = { onCopy := 1, retired := true, testing := none })
    ∧ (let s := { timed 0 with strata := { (timed 0).strata with copies := [(0x40, { testing := some 5 })] } }
       isShadowed 0x40 = true ∧ (s.copies 0x40).retired = false ∧ (s.copies 0x40).testing = some 5
         ∧ 2 ≤ s.fld (Reg.STRATA_WCFG_N 3) ∧ Tab.get [] (3072 + 0x40) s.strata.windows = []
         ∧ ((after (.copyTestDone 0x40 1) s).copies 0x40).testing = none) := by
  refine ⟨?_, ?_, ?_, ?_, ?_⟩ <;> decide +kernel

/-! ### Test and debug -/

/-- Engine 12 changed. -/
def engineIs (f : Engine → Engine) (l : List (Fld × Nat)) : State := (withFlds l (timed 0)).modEngine 12 f

/-- The test multiplexer's part changed. -/
def tmxIs (x : Tmx) (l : List (Fld × Nat)) : State := { withFlds l (timed 0) with tmx := x }

theorem witness_DebugAndTestCommands :
    (let run := engineIs (fun g => { g with run := some {} }) []
     let halt := engineIs (fun g => { g with run := some {}, halted := true, regs := [(5, 77)] }) [(Reg.TMX_DBG_DATA_DATA, 9)]
     run.held = false ∧ 49 ≠ 12 + 1 ∧ run.paired 12 = false ∧ (run.engine 12).run.isSome = true ∧ (run.engine 12).trapped = false
       ∧ (run.engine 12).halted = false ∧ (after (.dbgHalt 49 12) run).eventStat 210 = true
       ∧ ((timed 0).engine 12).run = none ∧ ((timed 0).engine 12).halted = false
       ∧ ((after (.dbgHalt 50 12) (timed 0)).engine 12).haltNext = true
       ∧ (halt.engine 12).halted = true ∧ halt.paired 12 = false
       ∧ ((after (.dbgResume 49 12) halt).engine 12).halted = false ∧ ((after (.dbgStep 49 12) halt).engine 12).stepping = true
       ∧ (after (.readReg 49 12 5) halt).reg Reg.TMX_DBG_DATA = 77 ∧ (after (.readReg 49 12 261) halt).reg Reg.TMX_DBG_DATA = 77
       ∧ ((after (.writeReg 49 12 15) halt).engine 12).w 15 = 9 ∧ (after (.readReg 49 12 20) halt).fld Reg.TMX_DBG_CMD_RESULT = 2
       ∧ (after (.readReg 49 12 255) halt).fld Reg.TMX_DBG_CMD_RESULT = 2
       ∧ Tab.get none 1 ((after (.setBp 49 12 1) halt).engine 12).bps = some 9
       ∧ (after (.setBp 49 12 2) halt).fld Reg.TMX_DBG_CMD_RESULT = 2)
    ∧ (51 ≠ 49 ∧ 51 ≠ 50 ∧ 49 = (48 : Fin 50).val + 1 ∧ (after (.setBp 51 12 0) (timed 0)).eventStat 0 = true)
    ∧ (let pair (h : Bool) :=
         let s := [12, 13].foldl (fun s e => State.modEngine s e (fun g => { g with run := some { paired := true }, halted := h })) (timed 0)
         withFlds [(Reg.CE_CTRL_PAIR_EN 12, 1), (Reg.CE_CTRL_PAIR_EN 13, 1)] s
       (pair true).paired 12 = true ∧ (pair true).paired (partnerOf 12) = true ∧ partnerOf 12 = 13
         ∧ ((pair false).engine 13).halted = false ∧ ((after (.dbgHalt 49 12) (pair false)).engine 13).halted = true
         ∧ ((after (.dbgResume 49 12) (pair true)).engine 13).halted = false
         ∧ ((after (.dbgStep 49 12) (pair true)).engine 13).stepping = true
         ∧ (pair true).dbgRead 12 5 = some 0 ∧ (after (.writeReg 49 12 5) (pair true)).fld Reg.TMX_DBG_CMD_RESULT = 2)
    ∧ ((timed 0).fld Reg.PRC_STAT_PHASE ≠ 2 ∧ (after (.dbgRelease 50 false) (timed 0)).fld Reg.TMX_DBG_CMD_RESULT = 2)
    ∧ (let s := { withFlds [(Reg.PRC_STAT_PHASE, 2)] (timed 0) with
          straps := { (timed 0).straps with bootHalt := true }, prc := { (timed 0).prc with bootHalted := true } }
       s.fld Reg.PRC_STAT_PHASE = 2 ∧ s.straps.bootHalt = true ∧ s.prc.bootHalted = true
         ∧ (after (.dbgRelease 51 true) s).isSet (Reg.CE_CTRL_RUN 49) = true)
    ∧ (let s := engineIs (fun g => { g with run := some {}, bps := [(1, some 0)] }) []
       (s.engine 12).run.isSome = true ∧ (s.engine 12).trapped = false ∧ (s.engine 12).halted = false ∧ (s.engine 12).stall = none
         ∧ s.breakHere 12 = true ∧ s.paired 12 = false ∧ ((after (.breakpoint 12) s).engine 12).halted = true)
    ∧ ((timed 0).fuses.lifecycle = 0 ∧ (after (.jtagUpdateIr 16) (timed 0)).tmx.ir = 16 ∧ (after (.jtagUpdateIr 6) (timed 0)).tmx.ir = 6
        ∧ (after (.jtagUpdateIr 7) (timed 0)).tmx.ir = 255
        ∧ (after (.jtagUpdateIr 16) { timed 0 with fuses := { (timed 0).fuses with lifecycle := 2 } }).tmx.ir = 255
        ∧ (after (.jtagUpdateIr 16) { timed 0 with fuses := { (timed 0).fuses with lifecycle := 4 } }).tmx.ir = 255)
    ∧ ((tmxIs { ir := 16 } []).jtagSelect (tmxIs { ir := 16 } []).tmx.ir = 16 ∧ 2 ^ 36 - 1 < 2 ^ 36
        ∧ (tmxIs {} []).jtagSelect (tmxIs {} []).tmx.ir ≠ 16
        ∧ (after (.tmxAccess (2 ^ 52 + 2 ^ 36 * 9 + (2 ^ 36 - 1))) (tmxIs { ir := 16 } [])).reg Reg.TMX_DBG_DATA = 0xFFFFFFFFF)
    ∧ ((timed 0).isSet Reg.TMX_BIST_STAT_BUSY = false
        ∧ (∀ k < 4, (timed 0).isSet (Reg.CE_CTRL_RUN (4 * 11 + k)) = false ∧ (timed 0).engineState (4 * 11 + k) = 2)
        ∧ (after (.bistLogic 51 11) (timed 0)).tmx.testing = some (11, 0)
        ∧ (tmxIs {} [(Reg.TMX_BIST_STAT_BUSY, 1)]).isSet Reg.TMX_BIST_STAT_BUSY = true)
    ∧ (let s := tmxIs { testing := some (11, 0) } [(Reg.TMX_BIST_STAT_BUSY, 1)]
       s.tmx.testing = some (11, 0) ∧ s.tmx.heldWake = false ∧ (after (.bistLogicDone 0) s).eventStat 208 = true
         ∧ (after (.bistLogicDone 15) s).isSet (Reg.CE_CTRL_RETIRE 47) = true)
    ∧ ((timed 0).inForce (Reg.MAC_MODE_MODE 15) = 0 ∧ (after (.bistPrbs 49 15 1) (timed 0)).tmx.prbs = some (15, false)
        ∧ (inForceWith [(Reg.MAC_MODE_MODE 15, 2)] (timed 0)).inForce (Reg.MAC_MODE_MODE 15) ≠ 0)
    ∧ (let s := tmxIs { prbs := some (15, false) } [(Reg.TMX_BIST_STAT_BUSY, 1)]
       s.tmx.prbs = some (15, false) ∧ (after (.prbsStop 51 1) s).eventStat 209 = true
         ∧ (after (.prbsErrRead 52 5) s).fld Reg.TMX_PRBS_ERR_COUNT = 0)
    ∧ ((tmxIs { ir := 0 } []).tmx.ir = 0 ∧ (tmxIs { ir := 2 } []).tmx.ir = 2 ∧ (tmxIs { ir := 4, boundary := 3 } []).tmx.ir = 4
        ∧ (after (.extestUpdateDr (some 5)) (tmxIs { ir := 0 } [])).outs = [.balls 5 false]
        ∧ (after (.extestUpdateDr none) (tmxIs { ir := 4, boundary := 3 } [])).outs = [.balls 3 true]) := by
  refine ⟨?_, ?_, ?_, ?_, ?_⟩ <;> decide +kernel

/-! The checks of WellFormed: each refuses a term that breaks it and accepts a neighbour that keeps it. -/

/-- A received frame with given octets. -/
def rxOctets (l : List Nat) : RxFrame :=
  { octets := l, dt := 0, back := 0, codeErr := false, smd := 0xD5, fragCount := 0, an := false }

/-- A CAN frame with given identifier, DLC and data. -/
def canForm (ext : Bool) (ident dlc : Nat) (data : List Nat) : CanFrame :=
  { ext := ext, fdf := true, brs := false, esi := false, rtr := false, ident := ident, dlc := dlc, data := data, dt := 0,
    sof := 0, sync := 0 }

/-- A host write of dwords at an offset. -/
def hostPut (off : Nat) (dwords : List Nat) : HostWrite :=
  { off := off, dwords := dwords, allBytes := true, poisoned := false }

theorem wf_agent : (Instr.setGo 1).wf ∧ (Instr.setGo 60).wf ∧ (Instr.setGo 0).wf = false ∧ (Instr.setGo 61).wf = false := by
  decide

theorem wf_offset : (Instr.registerWrite 1 8 0).wf ∧ (Instr.registerWrite 1 4 0).wf = false
    ∧ (Instr.registerWrite 1 (2 ^ 26) 0).wf = false ∧ (Instr.lowHalfRead 1 12).wf = false := by decide

theorem wf_key : (Instr.warmRst 1 (2 ^ 36 - 1)).wf ∧ (Instr.warmRst 1 (2 ^ 36)).wf = false
    ∧ (Instr.lcField 1 (2 ^ 36)).wf = false := by decide

theorem wf_lits : (Instr.nop 0 [1, 2, 4095]).wf ∧ (Instr.nop 0 [1, 2, 3, 4]).wf = false
    ∧ (Instr.add 0 [4096] 1 2).wf = false := by decide

theorem wf_malformed : (Instr.malformedBundle 0 [] CragOp.nop.word).wf = false
    ∧ (Instr.malformedBundle 0 [] (2 ^ 14)).wf = false := by decide

theorem wf_instances : (Instr.profileWrite 1 .swc 0 0).wf ∧ (Instr.profileWrite 1 .swc 1 0).wf = false
    ∧ (Instr.mgmtChangeApply .mac 17).wf ∧ (Instr.mgmtChangeApply .mac 18).wf = false := by decide

theorem wf_halves : (Instr.lowHalfWrite 1 8 (2 ^ 32 - 1)).wf ∧ (Instr.lowHalfWrite 1 8 (2 ^ 32)).wf = false
    ∧ (Instr.highHalfWrite 1 8 (2 ^ 32)).wf = false := by decide

theorem wf_temperature : (Instr.calAuto 4095).wf ∧ (Instr.calAuto 4096).wf = false
    ∧ (Instr.supplyMeasure { core := 0, edge := 0, sram := 0, aon := 0, tj := 4096 }).wf = false := by decide

theorem wf_octets : (Instr.rxFrame 0 (rxOctets [255])).wf ∧ (Instr.rxFrame 0 (rxOctets [256])).wf = false
    ∧ (Instr.cellForm 0 0 0 [256]).wf = false ∧ (Instr.rlFrameRx false false 0 0 [256]).wf = false
    ∧ (Instr.descFetch 0 0 (some [256])).wf = false ∧ (Instr.txDescMove 0 (some [256])).wf = false := by decide

theorem wf_canFrame : (Instr.canRxFrame 0 (canForm true (2 ^ 29 - 1) 15 [255])).wf
    ∧ (Instr.canRxFrame 0 (canForm true (2 ^ 29) 0 [])).wf = false
    ∧ (Instr.canRxFrame 0 (canForm false 1 0 [])).wf = false
    ∧ (Instr.canRxFrame 0 (canForm true 0 16 [])).wf = false
    ∧ (Instr.canRxFrame 0 (canForm true 0 15 (List.replicate 65 0))).wf = false
    ∧ (Instr.canRxFrame 0 (canForm true 0 1 [256])).wf = false := by decide

theorem wf_host : (Instr.bar0Write 51 (hostPut 0 [2 ^ 32 - 1])).wf ∧ (Instr.bar0Write 51 (hostPut (2 ^ 26) [])).wf = false
    ∧ (Instr.bar0Write 51 (hostPut 0 [2 ^ 32])).wf = false
    ∧ (Instr.bar0Read 51 { off := 2 ^ 26, len := 8, allBytes := true }).wf = false
    ∧ (Instr.remoteAccess (.write (hostPut (2 ^ 26) []))).wf = false
    ∧ (Instr.remoteAccess (.read { off := 2 ^ 26, len := 8, allBytes := true })).wf = false := by decide

theorem wf_march : (Instr.marchDone 0 0 { rows := [(15, 0)], spares := [(15, 3)] }).wf
    ∧ (Instr.marchDone 0 0 { rows := [(16, 0)], spares := [] }).wf = false
    ∧ (Instr.marchDone 0 0 { rows := [], spares := [(16, 0)] }).wf = false := by decide

theorem wf_pause : (Instr.pauseRx 0 65535 true).wf ∧ (Instr.pauseRx 0 65536 true).wf = false
    ∧ (Instr.pfcRx 0 255 (List.replicate 8 0)).wf ∧ (Instr.pfcRx 0 256 (List.replicate 8 0)).wf = false
    ∧ (Instr.pfcRx 0 0 (List.replicate 7 0)).wf = false ∧ (Instr.pfcRx 0 0 (List.replicate 8 65536)).wf = false := by decide

theorem wf_handshake : (Instr.downReq 0 255 3).wf ∧ (Instr.downReq 0 256 0).wf = false ∧ (Instr.downReq 0 0 4).wf = false
    ∧ (Instr.downAck 0 256).wf = false ∧ (Instr.downNak 0 256).wf = false ∧ (Instr.upReq 0 256).wf = false
    ∧ (Instr.upAck 0 256).wf = false := by decide

theorem wf_streams : (Instr.authVerdict 0 131071 true 1 true 0).wf
    ∧ (Instr.authVerdict 0 131072 true 1 true 0).wf = false ∧ (Instr.authVerdict 2 0 true 2 true 0).wf = false
    ∧ (Instr.authVerdict 2 0 true 0 true 0).wf = false
    ∧ (Instr.stsFree 1 131072).wf = false ∧ (Instr.rfree 1 (2 ^ 19)).wf = false := by decide

theorem wf_tags : (Instr.txCancel 1 0 0 65535).wf ∧ (Instr.txCancel 1 0 0 65536).wf = false
    ∧ (Instr.ringTailWrite 1 0 0 65535).wf ∧ (Instr.ringTailWrite 1 0 0 65536).wf = false := by decide

theorem wf_pins : (Instr.torTake 0 (2 ^ 64 - 1)).wf ∧ (Instr.torTake 0 (2 ^ 64)).wf = false
    ∧ (Instr.torCopy 0 (2 ^ 64)).wf = false ∧ (Instr.torBr 0 (2 ^ 64) 0).wf = false ∧ (Instr.torBr 0 0 (2 ^ 64)).wf = false
    ∧ (Instr.torStart 0 (some 0)).wf = false ∧ (Instr.torStart 0 none).wf := by decide

theorem wf_jtag : (Instr.tmxAccess (2 ^ 53 - 1)).wf ∧ (Instr.tmxAccess (2 ^ 53)).wf = false := by decide

end Sys2Proof.Tests
end

section
/-! SUPPORT. 32-bit host accesses (R7): what each half access answers and leaves, and the statement about them. -/
namespace Sys2Proof.Machine.State

/-! The half-access registers of a host -/

@[simp] theorem hostPort_emit (s : State) (x : Out) (a : Nat) : (s.emit x).hostPort a = s.hostPort a := by
  simp [hostPort]

theorem emit_readHalf_outs (s : State) (a v : Nat) (bad : Bool) :
    (s.emit (.readHalf a v bad)).outs = .readHalf a v bad :: s.outs := by
  simp [emit, atBalls]

@[simp] theorem hostPort_setHostPort_same (s : State) (a : Nat) (p : HostPort) : (s.setHostPort a p).hostPort a = p := by
  unfold hostPort setHostPort
  by_cases h : a = 51 <;> simp [h]

/-- The two hosts do not disturb each other's pairs (R7). -/
theorem hostPort_setHostPort_other (s : State) {a b : Nat} (p : HostPort) (ha : a = 51 ∨ a = 52) (hb : b = 51 ∨ b = 52)
    (hne : b ≠ a) : (s.setHostPort a p).hostPort b = s.hostPort b := by
  rcases ha with rfl | rfl <;> rcases hb with rfl | rfl
  case inl.inl => contradiction
  case inl.inr => rfl
  case inr.inl => rfl
  case inr.inr => contradiction

/-! The halves of a slot outside the MSI-X table -/

theorem readLow_slot (s : State) (a : Nat) {o : Nat} (h : msixAt o = none) :
    s.readLow a o =
      let (w, syn, s1) := s.busRead a o
      ((w.getD 0).field 31 0, syn == .uncorrectable,
        s1.setHostPort a { s1.hostPort a with latch := some ((w.getD 0).field 35 32) }) := by
  simp only [readLow, h]

theorem readHigh_latched (s : State) {a o v : Nat} (h : msixAt (o + 4) = none) (hv : (s.hostPort a).latch = some v) :
    s.readHigh a o = (v, false, s.setHostPort a { s.hostPort a with latch := none }) := by
  simp only [readHigh, h, hv]

theorem readHigh_live (s : State) {a o : Nat} (h : msixAt (o + 4) = none) (hv : (s.hostPort a).latch = none) :
    s.readHigh a o = (((s.busRead a o).1.getD 0).field 35 32, (s.busRead a o).2.1 == .uncorrectable, s) := by
  simp only [readHigh, h, hv]

theorem writeLow_slot (s : State) (a v : Nat) {o : Nat} (h : msixAt o = none) :
    s.writeLow a o v = s.setHostPort a { s.hostPort a with staging := v % 2 ^ 32 } := by
  simp only [writeLow, h]

theorem writeHigh_slot (s : State) (a v : Nat) {o : Nat} (h : msixAt (o + 4) = none) :
    s.writeHigh a o v =
      let u := s.busWrite a o (Word.ofN (v % 16 * 2 ^ 32 + (s.hostPort a).staging))
      u.setHostPort a { u.hostPort a with staging := 0 } := by
  simp only [writeHigh, h]

/-! A dword of the MSI-X table (R442) -/

theorem readLow_msix (s : State) (a : Nat) {o d : Nat} (h : msixAt o = some d) :
    s.readLow a o = (s.msixRead d, false, s) := by
  simp only [readLow, h]

theorem readHigh_msix (s : State) (a : Nat) {o d : Nat} (h : msixAt (o + 4) = some d) :
    s.readHigh a o = (s.msixRead d, false, s) := by
  simp only [readHigh, h]

theorem writeLow_msix (s : State) (a v : Nat) {o d : Nat} (h : msixAt o = some d) :
    s.writeLow a o v = s.msixWrite d (v % 2 ^ 32) := by
  simp only [writeLow, h]

theorem writeHigh_msix (s : State) (a v : Nat) {o d : Nat} (h : msixAt (o + 4) = some d) :
    s.writeHigh a o v = s.msixWrite d (v % 2 ^ 32) := by
  simp only [writeHigh, h]

end Sys2Proof.Machine.State

namespace Sys2Proof.Machine

/-! The commands: a host's half access of a slot is carried out while the device is not held. -/

theorem isHost_of_agent {a : Nat} (ha : a = 51 ∨ a = 52) : isHost a = true := by simpa [isHost] using ha

theorem slot_of_aligned {o : Nat} (ho : o % 8 = 0) : o / 8 * 8 = o := Nat.div_mul_cancel (Nat.dvd_of_mod_eq_zero ho)

section
variable {s : State} {a o : Nat} (hs : s.held = false) (ha : a = 51 ∨ a = 52) (ho : o % 8 = 0)
include hs ha ho

theorem exec_lowHalfRead : exec (.lowHalfRead a o) s =
    .next ((s.readLow a o).2.2.emit (.readHalf a (s.readLow a o).1 (s.readLow a o).2.1)) := by
  change execLowHalfRead a o s = _
  simp only [execLowHalfRead, State.live_run s _ hs, isHost_of_agent ha, slot_of_aligned ho, if_true]

theorem exec_highHalfRead : exec (.highHalfRead a o) s =
    .next ((s.readHigh a o).2.2.emit (.readHalf a (s.readHigh a o).1 (s.readHigh a o).2.1)) := by
  change execHighHalfRead a o s = _
  simp only [execHighHalfRead, State.live_run s _ hs, isHost_of_agent ha, slot_of_aligned ho, if_true]

theorem exec_lowHalfWrite (v : Nat) : exec (.lowHalfWrite a o v) s = .next (s.writeLow a o v) := by
  change execLowHalfWrite a o v s = _
  simp only [execLowHalfWrite, State.live_run s _ hs, isHost_of_agent ha, slot_of_aligned ho, if_true]

theorem exec_highHalfWrite (v : Nat) : exec (.highHalfWrite a o v) s = .next (s.writeHigh a o v) := by
  change execHighHalfWrite a o v s = _
  simp only [execHighHalfWrite, State.live_run s _ hs, isHost_of_agent ha, slot_of_aligned ho, if_true]

end

/-- Settles O5: each half access is its command's case of R7, outside the MSI-X table and within it. -/
theorem hostHalfAccessesUseLatchAndStaging : Obligations.HostHalfAccessesUseLatchAndStaging := by
  unfold Obligations.HostHalfAccessesUseLatchAndStaging
  intro s a o hs ha ho r w bad
  refine ⟨fun hm => ⟨?lowRead, fun v => ?lowWrite⟩, fun hm => ⟨fun v hv => ?latched, fun hv => ?live, fun v => ?highWrite⟩,
    fun d hd => ⟨?lowReadMsix, fun v => ?lowWriteMsix⟩, fun d hd => ⟨?highReadMsix, fun v => ?highWriteMsix⟩⟩
  case lowRead =>
    refine ⟨_, exec_lowHalfRead hs ha ho, ?_⟩
    rw [State.readLow_slot s a hm]
    simp [State.emit_readHalf_outs, r, w, bad]
  case lowWrite =>
    refine ⟨_, exec_lowHalfWrite hs ha ho v, ?_⟩
    rw [State.writeLow_slot s a v hm]
    refine ⟨?_, ?_, State.setHostPort_regs .., State.setHostPort_mem .., fun b hb => State.hostPort_setHostPort_other s _ ha hb⟩
    all_goals rw [State.hostPort_setHostPort_same]
  case latched =>
    refine ⟨_, exec_highHalfRead hs ha ho, ?_⟩
    rw [State.readHigh_latched s hm hv]
    simp [State.emit_readHalf_outs]
  case live => rw [exec_highHalfRead hs ha ho, State.readHigh_live s hm hv]
  case highWrite => rw [exec_highHalfWrite hs ha ho, State.writeHigh_slot s a v hm]
  case lowReadMsix => rw [exec_lowHalfRead hs ha ho, State.readLow_msix s a hd]
  case lowWriteMsix => rw [exec_lowHalfWrite hs ha ho, State.writeLow_msix s a v hd]
  case highReadMsix => rw [exec_highHalfRead hs ha ho, State.readHigh_msix s a hd]
  case highWriteMsix => rw [exec_highHalfWrite hs ha ho, State.writeHigh_msix s a v hd]

end Sys2Proof.Machine
end

section
/-! SUPPORT. The mark of a whole second (R47): the second that the command marks, the state with its mark, and the statement
about it. -/
namespace Sys2Proof.Machine.State

/-- The first whole second at or after the present full time (R47). -/
def wholeSecond (s : State) : Nat := (s.tbu.time + (Config.sec - 1)) / Config.sec

/-- The second whose count TBU_MARK_SECH and TBU_MARK_SECL hold (R47). -/
def markedSecond (s : State) : Nat := s.fld Reg.TBU_MARK_SECH_SEC * 2 ^ 32 + s.fld Reg.TBU_MARK_SECL_SEC

/-- Full time passes up to second n, and the device marks it (R47). -/
def markSecond (s : State) (n : Nat) : State :=
  let s0 := s.advanceToTime (n * Config.sec)
  ((s0.tmuxPulse 2 0 s0.tsw 1000).setFld Reg.TBU_MARK_SECH_SEC (n / 2 ^ 32)).setFld Reg.TBU_MARK_SECL_SEC (n % 2 ^ 32)

theorem wholeSecond_eq {s : State} {n : Nat} (hle : s.tbu.time ≤ n * Config.sec)
    (hlt : n * Config.sec < s.tbu.time + Config.sec) : s.wholeSecond = n := by
  unfold wholeSecond
  simp only [Config.sec] at *
  omega

/-- Full time that runs reaches an instant that does not lie in the past. -/
theorem advanceToTime_time {s : State} {t : Nat} (h : s.tbu.running = true) (ht : s.tbu.time ≤ t) :
    (s.advanceToTime t).tbu.time = t := by
  rw [advanceToTime_running s t h, advance_time, if_pos h]
  omega

theorem markSecond_time {s : State} {n : Nat} (h : s.tbu.running = true) (hle : s.tbu.time ≤ n * Config.sec) :
    (s.markSecond n).tbu.time = n * Config.sec := by
  simp [markSecond, advanceToTime_time h hle]

theorem markSecond_sech (s : State) (n : Nat) :
    (s.markSecond n).fld Reg.TBU_MARK_SECH_SEC = n / 2 ^ 32 % 2 ^ 16 := by
  have apart : Reg.TBU_MARK_SECH_SEC.off ≠ Reg.TBU_MARK_SECL_SEC.off := by decide
  unfold markSecond
  rw [fld_setFld_off _ _ apart, fld_setFld_same _ Reg.TBU_MARK_SECH_SEC _ (by decide) (by decide)]
  rfl

theorem markSecond_secl (s : State) (n : Nat) : (s.markSecond n).fld Reg.TBU_MARK_SECL_SEC = n % 2 ^ 32 := by
  unfold markSecond
  rw [fld_setFld_same _ Reg.TBU_MARK_SECL_SEC _ (by decide) (by decide)]
  exact Nat.mod_mod n (2 ^ 32)

end Sys2Proof.Machine.State

namespace Sys2Proof.Machine

/-- While full time runs, the command marks the first whole second from the present on that is not yet marked. -/
theorem exec_secondMark {s : State} (hs : s.held = false) (hr : s.tbu.running = true) :
    exec .secondMark s = .next (s.markSecond
      (if s.wholeSecond * Config.sec = s.tbu.time ∧ s.markedSecond = s.wholeSecond then s.wholeSecond + 1
        else s.wholeSecond)) := by
  change execSecondMark s = _
  simp only [execSecondMark, State.live_run s _ hs, hr, not_true_eq_false, if_false]
  rfl

/-- Settles O11: the whole second that lies ahead by less than one second is the one the command marks, and 125,000,000 ticks
make a second. -/
theorem secondMarkIsWrittenAtEveryWholeSecond : Obligations.SecondMarkIsWrittenAtEveryWholeSecond := by
  unfold Obligations.SecondMarkIsWrittenAtEveryWholeSecond
  intro s n hs hr hle hlt hmark
  have whole : s.wholeSecond = n := State.wholeSecond_eq hle hlt
  have unmarked : s.markedSecond ≠ n := hmark
  have step : exec .secondMark s = .next (s.markSecond n) := by
    rw [exec_secondMark hs hr, whole, if_neg fun ⟨_, marked⟩ => unmarked marked]
  have time : (s.markSecond n).tbu.time = n * 16000000000 := State.markSecond_time hr hle
  refine ⟨_, step, time, ?boundary, ?tsw, State.markSecond_sech s n, State.markSecond_secl s n⟩
  case boundary => rw [time]; omega
  case tsw => rw [State.tsw, time]; omega

end Sys2Proof.Machine
end

section
/-! SUPPORT. The fault log (R503 to R508): where its registers lie, what a report, a record and the clearing reads do to them. -/
namespace Sys2Proof.Word

theorem field_ofN {n : Nat} (h : n < 2 ^ 36) (hi lo : Nat) : (ofN n).field hi lo = n / 2 ^ lo % 2 ^ (hi + 1 - lo) := by
  unfold field ofN
  rw [BitVec.toNat_ofNat, Nat.mod_eq_of_lt h]

end Sys2Proof.Word

namespace Sys2Proof.Machine.State

/-! Events and the registers of the fault log -/

/-- The registers of Strata are none of those that raising an event changes. -/
theorem reg_raise_strata (s : State) {e o : Nat} (he : e < 256) (h : o / 0x10000 = 3) : (s.raise e).reg o = s.reg o :=
  reg_raise s e he (by omega) (by omega) (by omega)

theorem reg_raise_markEvent (s : State) (e o : Nat) : (s.raise e).reg o = (s.markEvent e).reg o := by
  unfold raise
  dsimp only
  split
  · exact reg_congr (sendVector_regs _ _) o
  · rfl

/-- Of the status words, marking an event changes the bit of that event only. -/
theorem reg_markEvent_stat (s : State) (e : Nat) {k : Nat} (hk : k < 8) : (s.markEvent e).reg (Reg.EVC_STAT k) =
    (s.setReg (Reg.EVC_STAT (e / 32)) ((s.reg (Reg.EVC_STAT (e / 32))).setField (e % 32) (e % 32) 1)).reg (Reg.EVC_STAT k) := by
  have apart : Reg.EVC_STAT k ≠ Reg.EVC_RSTAT (e / 32) := by unfold Reg.EVC_STAT Reg.EVC_RSTAT; omega
  unfold markEvent
  rw [reg_flagSteward _ _ (by unfold Reg.EVC_STAT; omega) (by unfold Reg.EVC_STAT; omega), reg_noteRemote _ _ apart]

/-- Raising an event leaves the status of every other event alone (R440). -/
theorem eventStat_raise_ne (s : State) {e x : Nat} (hx : x < 256) (h : x ≠ e) :
    (s.raise e).eventStat x = s.eventStat x := by
  unfold eventStat
  rw [reg_raise_markEvent, reg_markEvent_stat s e (by omega), reg_setReg]
  split
  · next same =>
    have word : x / 32 = e / 32 := by unfold Reg.EVC_STAT at same; omega
    rw [Word.bit_setField_ne _ _ (by omega) (by omega), word]
  · rfl

theorem eventStat_congr {s t : State} (h : t.regs = s.regs) (e : Nat) : t.eventStat e = s.eventStat e := by
  simp only [eventStat, reg_congr h]

/-- Status words are left alone by a write of another register. -/
theorem eventStat_setReg (s : State) {o e : Nat} (w : Word) (he : e < 256) (h : o / 0x10000 ≠ 1) :
    (s.setReg o w).eventStat e = s.eventStat e := by
  unfold eventStat
  rw [reg_setReg_ne s (by unfold Reg.EVC_STAT; omega)]

/-- A field follows its register's word. -/
theorem fld_of_reg {s t : State} {f : Fld} (h : t.reg f.off = s.reg f.off) : t.fld f = s.fld f := by
  unfold fld
  rw [h]

/-! Reports (R503, R508) -/

theorem classOf_le (type : Nat) : classOf type ≤ 3 := by
  unfold classOf
  (repeat' split) <;> omega

/-- The last-error word of a report's source once the report has been made (R508). -/
def lastWord (s : State) (r : Report) : Word :=
  Word.ofN (2 ^ 27 * r.type + 2 ^ 11 * (r.detail % 2 ^ 16) + satAdd 2047 (s.fld (Reg.STRATA_LAST_REPORTS r.source)) 1)

/-- The report's source takes its last-error word. -/
def noteReport (s : State) (r : Report) : State := s.setReg (Reg.STRATA_LAST r.source) (s.lastWord r)

@[simp] theorem noteReport_strata (s : State) (r : Report) : (s.noteReport r).strata = s.strata := rfl

/-- The LOST counter that a report would count in (R505). -/
abbrev lostCounter (r : Report) : Fld := Reg.STRATA_LOST_LOST (classOf r.type)

/-- A report merges, takes an entry, or is lost; in every case its source's last-error word is updated first (R503). -/
theorem intake_eq (s : State) (r : Report) : s.intake r =
    if s.strata.intake.any (mergesInto r) then
      { s.noteReport r with strata := { s.strata with intake := mergeReport r s.strata.intake } }
    else if s.strata.intake.length < 16 then
      { s.noteReport r with strata := { s.strata with intake := s.strata.intake ++ [{ r with count := 1 }] } }
    else if (s.noteReport r).fld (lostCounter r) = 0 then ((s.noteReport r).bumpSat (lostCounter r) 1).raise 185
    else (s.noteReport r).bumpSat (lostCounter r) 1 := rfl

theorem lostCounter_off_ne_last (r : Report) (src : Nat) : Reg.STRATA_LAST src ≠ (lostCounter r).off := by
  have := classOf_le r.type
  simp only [lostCounter, Reg.STRATA_LOST_LOST, Reg.STRATA_LOST, Reg.STRATA_LAST]
  omega

theorem last_block {src : Nat} (h : src < 256) : Reg.STRATA_LAST src / 0x10000 = 3 := by
  unfold Reg.STRATA_LAST
  omega

theorem lostCounter_block (r : Report) : (lostCounter r).off / 0x10000 = 3 := by
  have := classOf_le r.type
  simp only [lostCounter, Reg.STRATA_LOST_LOST, Reg.STRATA_LOST]
  omega

/-- Of Strata's registers a report changes its source's last-error word and a LOST counter only. -/
theorem reg_intake_strata (s : State) (r : Report) {o : Nat} (h3 : o / 0x10000 = 3) (hl : o ≠ (lostCounter r).off) :
    (s.intake r).reg o = (s.noteReport r).reg o := by
  rw [intake_eq]
  split
  · exact reg_congr rfl o
  · split
    · exact reg_congr rfl o
    · split
      · rw [reg_raise_strata _ (by decide) h3, bumpSat_off _ _ _ _ hl]
      · exact bumpSat_off _ _ _ _ hl

theorem reg_intake_last (s : State) (r : Report) (h : r.source < 190) :
    (s.intake r).reg (Reg.STRATA_LAST r.source) = s.lastWord r := by
  rw [reg_intake_strata s r (last_block (by omega)) (lostCounter_off_ne_last r _)]
  exact reg_setReg_same _ _ _

theorem reg_intake_last_ne (s : State) (r : Report) {src : Nat} (h : src < 190) (hne : src ≠ r.source) :
    (s.intake r).reg (Reg.STRATA_LAST src) = s.reg (Reg.STRATA_LAST src) := by
  rw [reg_intake_strata s r (last_block (by omega)) (lostCounter_off_ne_last r _)]
  exact reg_setReg_ne _ (by unfold Reg.STRATA_LAST; omega) _

/-- The registers of Strata that hold neither last errors nor LOST counters are left alone by a report. -/
theorem reg_intake_other (s : State) (r : Report) {o : Nat} (h3 : o / 0x10000 = 3) (hl : o ≠ (lostCounter r).off)
    (hs : o ≠ Reg.STRATA_LAST r.source) : (s.intake r).reg o = s.reg o := by
  rw [reg_intake_strata s r h3 hl]
  exact reg_setReg_ne _ hs _

section
variable (s : State) (r : Report) (ht : r.type < 512)
include ht

theorem lastWord_lt :
    2 ^ 27 * r.type + 2 ^ 11 * (r.detail % 2 ^ 16) + satAdd 2047 (s.fld (Reg.STRATA_LAST_REPORTS r.source)) 1 < 2 ^ 36 := by
  unfold satAdd
  omega

theorem lastWord_type : (s.lastWord r).field 35 27 = r.type := by
  unfold lastWord
  rw [Word.field_ofN (lastWord_lt s r ht)]
  unfold satAdd
  omega

theorem lastWord_detail : (s.lastWord r).field 26 11 = r.detail % 2 ^ 16 := by
  unfold lastWord
  rw [Word.field_ofN (lastWord_lt s r ht)]
  unfold satAdd
  omega

theorem lastWord_reports :
    (s.lastWord r).field 10 0 = min 2047 (s.fld (Reg.STRATA_LAST_REPORTS r.source) + 1) := by
  unfold lastWord
  rw [Word.field_ofN (lastWord_lt s r ht)]
  unfold satAdd
  omega
end

/-! The fields of the last-error word after a report (R508) -/

section
variable (s : State) {r : Report} (hs : r.source < 190) (ht : r.type < 512)
include hs ht

theorem fld_lastType_intake : (s.intake r).fld (Reg.STRATA_LAST_TYPE r.source) = r.type :=
  (congrArg (Word.field · 35 27) (reg_intake_last s r hs)).trans (lastWord_type s r ht)

theorem fld_lastDetail_intake : (s.intake r).fld (Reg.STRATA_LAST_DETAIL r.source) = r.detail % 2 ^ 16 :=
  (congrArg (Word.field · 26 11) (reg_intake_last s r hs)).trans (lastWord_detail s r ht)

theorem fld_lastReports_intake : (s.intake r).fld (Reg.STRATA_LAST_REPORTS r.source) =
    min 2047 (s.fld (Reg.STRATA_LAST_REPORTS r.source) + 1) :=
  (congrArg (Word.field · 10 0) (reg_intake_last s r hs)).trans (lastWord_reports s r ht)

end

/-- What a report leaves of the fault log's state: all but the pending entries. -/
theorem intake_windows (s : State) (r : Report) : (s.intake r).strata.windows = s.strata.windows := by
  rw [intake_eq]
  (repeat' split) <;> simp

theorem intake_copies (s : State) (r : Report) : (s.intake r).strata.copies = s.strata.copies := by
  rw [intake_eq]
  (repeat' split) <;> simp

theorem eventStat_noteReport (s : State) (r : Report) {e : Nat} (hs : r.source < 190) (he : e < 256) :
    (s.noteReport r).eventStat e = s.eventStat e :=
  eventStat_setReg s _ he (by have := last_block (show r.source < 256 by omega); omega)

/-- Of the events a report can raise STRATA_LOST only. -/
theorem eventStat_intake (s : State) (r : Report) {e : Nat} (hs : r.source < 190) (he : e < 256) (hne : e ≠ 185) :
    (s.intake r).eventStat e = s.eventStat e := by
  have count : ((s.noteReport r).bumpSat (lostCounter r) 1).eventStat e = s.eventStat e := by
    rw [← eventStat_noteReport s r hs he]
    exact eventStat_setReg _ _ he (by have := lostCounter_block r; omega)
  rw [intake_eq]
  split
  · exact (eventStat_congr rfl e).trans (eventStat_noteReport s r hs he)
  · split
    · exact (eventStat_congr rfl e).trans (eventStat_noteReport s r hs he)
    · split
      · rw [eventStat_raise_ne _ he hne, count]
      · exact count

theorem intake_of_room (s : State) (r : Report) (hm : s.strata.intake.any (mergesInto r) = false)
    (hl : s.strata.intake.length < 16) :
    (s.intake r).strata.intake = s.strata.intake ++ [{ r with count := 1 }] := by
  rw [intake_eq, hm, if_neg Bool.false_ne_true, if_pos hl]

theorem fld_lostCounter_noteReport (s : State) (r : Report) :
    (s.noteReport r).fld (lostCounter r) = s.fld (lostCounter r) := by
  unfold fld noteReport
  rw [reg_setReg_ne s (lostCounter_off_ne_last r _).symm]

/-- A report that finds neither a matching nor a free entry is counted as lost, and the first one raises STRATA_LOST. -/
theorem intake_of_full (s : State) (r : Report) (hm : s.strata.intake.any (mergesInto r) = false)
    (hl : s.strata.intake.length = 16) (h0 : s.fld (lostCounter r) = 0) :
    s.intake r = ((s.noteReport r).bumpSat (lostCounter r) 1).raise 185 := by
  have counter : (s.noteReport r).fld (lostCounter r) = 0 := (fld_lostCounter_noteReport s r).trans h0
  rw [intake_eq, hm, if_neg Bool.false_ne_true, if_neg (by omega), if_pos counter]

theorem fld_lostCounter_of_full (s : State) (r : Report) (hm : s.strata.intake.any (mergesInto r) = false)
    (hl : s.strata.intake.length = 16) (h0 : s.fld (lostCounter r) = 0) : (s.intake r).fld (lostCounter r) = 1 := by
  have counter : (s.noteReport r).fld (lostCounter r) = 0 := (fld_lostCounter_noteReport s r).trans h0
  rw [intake_of_full s r hm hl h0]
  unfold fld
  rw [reg_raise_strata _ (by decide) (lostCounter_block r)]
  change ((s.noteReport r).setFld (lostCounter r) (satAdd (lostCounter r).top ((s.noteReport r).fld (lostCounter r)) 1)).fld
    (lostCounter r) = 1
  rw [counter, fld_setFld_same _ _ _ (by simp [Reg.STRATA_LOST_LOST]) (by simp [Reg.STRATA_LOST_LOST])]
  rfl

/-- A report that matches the oldest entry counts in it, and nothing else of the entries changes. -/
theorem intake_of_match (s : State) (r : Report) {p : Report} {ps : List Report} (hi : s.strata.intake = p :: ps)
    (hsrc : p.source = r.source) (htype : p.type = r.type) (hne : r.type ≠ 186) (hc : p.count < 2 ^ 20 - 1) :
    (s.intake r).strata.intake = { p with count := p.count + 1 } :: ps := by
  have merges : mergesInto r p = true := by simp [mergesInto, hsrc, htype, hne]
  have count : satAdd (2 ^ 20 - 1) p.count 1 = p.count + 1 := by unfold satAdd; omega
  rw [intake_eq, if_pos (by simp [hi, merges])]
  change mergeReport r s.strata.intake = _
  rw [hi, mergeReport, if_pos merges, count]

end Sys2Proof.Machine.State
end

section
/-! SUPPORT. Records of the fault log (R503, R504, R506, R507): the steps of writing one, and what it leaves in the registers. -/
namespace Sys2Proof.Machine.State

/-- Time passes until 100 ns after the record before (R503). -/
def awaitRecordSlot (s : State) : State :=
  match s.strata.lastWrite with
  | some t => s.advanceTo (t + 100 * Config.ns)
  | none => s

/-- The oldest pending entry leaves the intake, and the others stay. -/
def takeOldest (s : State) (rest : List Report) : State :=
  { s with strata := { s.strata with intake := rest, lastWrite := some s.clk } }

/-- The record stands in the ring's next slot, and HEAD counts it (R504). -/
def storeRecord (s : State) (r : Report) : State :=
  (s.putRecord (Reg.STRATA_REC (s.fld Reg.STRATA_HEAD_HEAD % 512) 0) r).setFld Reg.STRATA_HEAD_HEAD
    (s.fld Reg.STRATA_HEAD_HEAD + 1)

/-- The first record is copied (R507). -/
def keepFirst (s : State) (r : Report) : State :=
  if s.isSet Reg.STRATA_STAT_FIRST_VALID then s
  else (s.putRecord (Reg.STRATA_FIRST 0) r).setFld Reg.STRATA_STAT_FIRST_VALID 1

/-- While the ring has room the oldest pending entry is written, as four steps and the event. -/
theorem writeRecord_of_room {s : State} {r : Report} {rest : List Report} (h : s.strata.intake = r :: rest)
    (hroom : s.strataUnread ≠ 512) :
    s.writeRecord = ((((s.awaitRecordSlot.takeOldest rest).storeRecord r).keepFirst r).raise 184) := by
  unfold writeRecord
  rw [h]
  dsimp only
  rw [if_neg hroom]
  rfl

theorem writeRecord_of_fullRing {s : State} (hfull : s.strataUnread = 512) : s.writeRecord = s := by
  unfold writeRecord
  split
  · rfl
  · exact if_pos hfull

/-! Where the ring, HEAD and the first record lie -/

theorem rec_block {j i : Nat} (hj : j < 512) (hi : i < 4) : Reg.STRATA_REC j i / 0x10000 = 3 := by
  unfold Reg.STRATA_REC
  omega
theorem rec_ne_first (j i : Nat) {k : Nat} (hk : k < 4) : Reg.STRATA_REC j i ≠ Reg.STRATA_FIRST k := by
  unfold Reg.STRATA_REC Reg.STRATA_FIRST
  omega
theorem rec_ne_stat (j i : Nat) : Reg.STRATA_REC j i ≠ Reg.STRATA_STAT := by
  unfold Reg.STRATA_REC Reg.STRATA_STAT
  omega
theorem rec_ne_head (j i : Nat) : Reg.STRATA_REC j i ≠ Reg.STRATA_HEAD := by
  unfold Reg.STRATA_REC Reg.STRATA_HEAD
  omega

/-! The four words of a record -/

theorem putRecord_eq (s : State) (o : Nat) (r : Report) : s.putRecord o r =
    (((s.setReg (o + 8 * 0) ((recordWords r).getD 0 0)).setReg (o + 8 * 1) ((recordWords r).getD 1 0)).setReg (o + 8 * 2)
      ((recordWords r).getD 2 0)).setReg (o + 8 * 3) ((recordWords r).getD 3 0) := rfl

@[simp] theorem putRecord_strata (s : State) (o : Nat) (r : Report) : (s.putRecord o r).strata = s.strata := rfl
@[simp] theorem putRecord_clk (s : State) (o : Nat) (r : Report) : (s.putRecord o r).clk = s.clk := rfl
@[simp] theorem putRecord_mem (s : State) (o : Nat) (r : Report) : (s.putRecord o r).mem = s.mem := rfl

/-- Each of the four registers holds its word of the record. -/
theorem reg_putRecord_same (s : State) (o : Nat) (r : Report) {i : Nat} (hi : i < 4) :
    (s.putRecord o r).reg (o + 8 * i) = (recordWords r).getD i 0 := by
  rw [putRecord_eq]
  interval_cases i <;> simp [reg_setReg]

theorem reg_putRecord_ne (s : State) (o : Nat) (r : Report) {x : Nat} (h : ∀ i < 4, x ≠ o + 8 * i) :
    (s.putRecord o r).reg x = s.reg x := by
  rw [putRecord_eq, reg_setReg_ne _ (h 3 (by decide)), reg_setReg_ne _ (h 2 (by decide)), reg_setReg_ne _ (h 1 (by decide)),
    reg_setReg_ne _ (h 0 (by decide))]

/-! The wait and the entry taken -/

@[simp] theorem reg_awaitRecordSlot (s : State) (o : Nat) : s.awaitRecordSlot.reg o = s.reg o := by
  unfold awaitRecordSlot
  split
  · exact reg_advance s _ o
  · rfl

@[simp] theorem awaitRecordSlot_mem (s : State) : s.awaitRecordSlot.mem = s.mem := by
  unfold awaitRecordSlot
  split
  · exact advance_mem s _
  · rfl

theorem awaitRecordSlot_clk {s : State} {c : Nat} (h : s.strata.lastWrite = some c) :
    c + 100 * Config.ns ≤ s.awaitRecordSlot.clk := by
  unfold awaitRecordSlot
  rw [h]
  dsimp only
  rw [advanceTo_clk]
  exact le_max_right _ _

@[simp] theorem reg_takeOldest (s : State) (rest : List Report) (o : Nat) : (s.takeOldest rest).reg o = s.reg o := rfl
@[simp] theorem fld_awaitRecordSlot (s : State) (f : Fld) : s.awaitRecordSlot.fld f = s.fld f :=
  fld_of_reg (reg_awaitRecordSlot s f.off)
@[simp] theorem fld_takeOldest (s : State) (rest : List Report) (f : Fld) : (s.takeOldest rest).fld f = s.fld f := rfl
@[simp] theorem takeOldest_clk (s : State) (rest : List Report) : (s.takeOldest rest).clk = s.clk := rfl
@[simp] theorem takeOldest_mem (s : State) (rest : List Report) : (s.takeOldest rest).mem = s.mem := rfl

/-! The record stored -/

@[simp] theorem storeRecord_clk (s : State) (r : Report) : (s.storeRecord r).clk = s.clk := rfl
@[simp] theorem storeRecord_mem (s : State) (r : Report) : (s.storeRecord r).mem = s.mem := rfl
@[simp] theorem storeRecord_strata (s : State) (r : Report) : (s.storeRecord r).strata = s.strata := rfl

theorem fld_head_storeRecord (s : State) (r : Report) :
    (s.storeRecord r).fld Reg.STRATA_HEAD_HEAD = (s.fld Reg.STRATA_HEAD_HEAD + 1) % 2 ^ 16 :=
  fld_setFld_same _ Reg.STRATA_HEAD_HEAD _ (by decide) (by decide)

theorem reg_rec_storeRecord (s : State) (r : Report) {i : Nat} (hi : i < 4) :
    (s.storeRecord r).reg (Reg.STRATA_REC (s.fld Reg.STRATA_HEAD_HEAD % 512) i) = (recordWords r).getD i 0 := by
  unfold storeRecord
  rw [reg_setFld_ne _ _ (rec_ne_head _ i)]
  exact reg_putRecord_same s _ r hi

/-- Only the words of the slot taken and HEAD are changed. -/
theorem reg_storeRecord_ne (s : State) (r : Report) {o : Nat}
    (hslot : ∀ i < 4, o ≠ Reg.STRATA_REC (s.fld Reg.STRATA_HEAD_HEAD % 512) i) (hhead : o ≠ Reg.STRATA_HEAD) :
    (s.storeRecord r).reg o = s.reg o := by
  unfold storeRecord
  rw [reg_setFld_ne _ _ hhead]
  exact reg_putRecord_ne s _ r hslot

/-! The first record -/

@[simp] theorem keepFirst_clk (s : State) (r : Report) : (s.keepFirst r).clk = s.clk := by
  unfold keepFirst; split <;> rfl
@[simp] theorem keepFirst_mem (s : State) (r : Report) : (s.keepFirst r).mem = s.mem := by
  unfold keepFirst; split <;> rfl
@[simp] theorem keepFirst_strata (s : State) (r : Report) : (s.keepFirst r).strata = s.strata := by
  unfold keepFirst; split <;> rfl

theorem isSet_firstValid_keepFirst (s : State) (r : Report) :
    (s.keepFirst r).isSet Reg.STRATA_STAT_FIRST_VALID = true := by
  unfold keepFirst
  split
  · next h => exact h
  · unfold isSet
    rw [fld_setFld_same _ Reg.STRATA_STAT_FIRST_VALID _ (by decide) (by decide)]
    rfl

theorem reg_first_keepFirst (s : State) (r : Report) {i : Nat} (hi : i < 4) :
    (s.keepFirst r).reg (Reg.STRATA_FIRST i) =
      if s.isSet Reg.STRATA_STAT_FIRST_VALID then s.reg (Reg.STRATA_FIRST i) else (recordWords r).getD i 0 := by
  unfold keepFirst
  split
  · rfl
  · rw [reg_setFld_ne _ _ (by simp only [Reg.STRATA_FIRST, Reg.STRATA_STAT_FIRST_VALID, Reg.STRATA_STAT]; omega)]
    exact reg_putRecord_same s _ r hi

/-- Only STRATA_FIRST and STRATA_STAT are changed. -/
theorem reg_keepFirst_ne (s : State) (r : Report) {o : Nat} (hfirst : ∀ i < 4, o ≠ Reg.STRATA_FIRST i)
    (hstat : o ≠ Reg.STRATA_STAT) : (s.keepFirst r).reg o = s.reg o := by
  unfold keepFirst
  split
  · rfl
  · rw [reg_setFld_ne _ _ hstat]
    exact reg_putRecord_ne s _ r hfirst

/-! A record written: its ring slot, HEAD and the first record -/

section
variable {s : State} {r : Report} {rest : List Report} (h : s.strata.intake = r :: rest) (hroom : s.strataUnread ≠ 512)
include h hroom

theorem reg_writeRecord {o : Nat} (ho : o / 0x10000 = 3) :
    s.writeRecord.reg o = (((s.awaitRecordSlot.takeOldest rest).storeRecord r).keepFirst r).reg o := by
  rw [writeRecord_of_room h hroom, reg_raise_strata _ (by decide) ho]

theorem fld_head_writeRecord : s.writeRecord.fld Reg.STRATA_HEAD_HEAD = (s.fld Reg.STRATA_HEAD_HEAD + 1) % 2 ^ 16 := by
  have notFirst : ∀ i < 4, Reg.STRATA_HEAD ≠ Reg.STRATA_FIRST i := by decide
  calc s.writeRecord.fld Reg.STRATA_HEAD_HEAD
      = (((s.awaitRecordSlot.takeOldest rest).storeRecord r).keepFirst r).fld Reg.STRATA_HEAD_HEAD :=
        fld_of_reg (reg_writeRecord h hroom (by decide))
    _ = ((s.awaitRecordSlot.takeOldest rest).storeRecord r).fld Reg.STRATA_HEAD_HEAD :=
        fld_of_reg (reg_keepFirst_ne _ r notFirst (by decide))
    _ = ((s.awaitRecordSlot.takeOldest rest).fld Reg.STRATA_HEAD_HEAD + 1) % 2 ^ 16 := fld_head_storeRecord _ r
    _ = (s.fld Reg.STRATA_HEAD_HEAD + 1) % 2 ^ 16 := by rw [fld_takeOldest, fld_awaitRecordSlot]

theorem reg_slot_writeRecord {i : Nat} (hi : i < 4) :
    s.writeRecord.reg (Reg.STRATA_REC (s.fld Reg.STRATA_HEAD_HEAD % 512) i) = (recordWords r).getD i 0 := by
  have slot : s.fld Reg.STRATA_HEAD_HEAD % 512 < 512 := Nat.mod_lt _ (by decide)
  rw [reg_writeRecord h hroom (rec_block slot hi), reg_keepFirst_ne _ r (fun j hj => rec_ne_first _ i hj) (rec_ne_stat _ i)]
  have head : (s.awaitRecordSlot.takeOldest rest).fld Reg.STRATA_HEAD_HEAD = s.fld Reg.STRATA_HEAD_HEAD := by
    rw [fld_takeOldest, fld_awaitRecordSlot]
  rw [← head]
  exact reg_rec_storeRecord _ r hi

/-- No other slot of the ring is written (R504). -/
theorem reg_slot_writeRecord_ne {i j : Nat} (hj : j < 512) (hne : j ≠ s.fld Reg.STRATA_HEAD_HEAD % 512) (hi : i < 4) :
    s.writeRecord.reg (Reg.STRATA_REC j i) = s.reg (Reg.STRATA_REC j i) := by
  have otherSlot : ∀ k < 4, Reg.STRATA_REC j i ≠
      Reg.STRATA_REC ((s.awaitRecordSlot.takeOldest rest).fld Reg.STRATA_HEAD_HEAD % 512) k := by
    intro k hk
    rw [fld_takeOldest, fld_awaitRecordSlot]
    unfold Reg.STRATA_REC
    omega
  rw [reg_writeRecord h hroom (rec_block hj hi), reg_keepFirst_ne _ r (fun k hk => rec_ne_first j i hk) (rec_ne_stat j i),
    reg_storeRecord_ne _ r otherSlot (rec_ne_head j i), reg_takeOldest, reg_awaitRecordSlot]

theorem isSet_firstValid_writeRecord : s.writeRecord.isSet Reg.STRATA_STAT_FIRST_VALID = true := by
  rw [isSet, fld_of_reg (reg_writeRecord h hroom (by decide))]
  exact isSet_firstValid_keepFirst _ r

theorem reg_first_writeRecord {i : Nat} (hi : i < 4) : s.writeRecord.reg (Reg.STRATA_FIRST i) =
    if s.isSet Reg.STRATA_STAT_FIRST_VALID then s.reg (Reg.STRATA_FIRST i) else (recordWords r).getD i 0 := by
  have stored : ∀ o, o < 0x31000 → o ≠ Reg.STRATA_HEAD →
      ((s.awaitRecordSlot.takeOldest rest).storeRecord r).reg o = s.reg o := by
    intro o ho hhead
    rw [reg_storeRecord_ne _ r (fun k _ => by unfold Reg.STRATA_REC; omega) hhead, reg_takeOldest, reg_awaitRecordSlot]
  have valid : ((s.awaitRecordSlot.takeOldest rest).storeRecord r).isSet Reg.STRATA_STAT_FIRST_VALID =
      s.isSet Reg.STRATA_STAT_FIRST_VALID := by
    simp only [isSet, fld_of_reg (stored Reg.STRATA_STAT_FIRST_VALID.off (by decide) (by decide))]
  rw [reg_writeRecord h hroom (by unfold Reg.STRATA_FIRST; omega), reg_first_keepFirst _ r hi, valid,
    stored (Reg.STRATA_FIRST i) (by unfold Reg.STRATA_FIRST; omega) (by unfold Reg.STRATA_FIRST Reg.STRATA_HEAD; omega)]

theorem intake_writeRecord : s.writeRecord.strata.intake = rest := by
  rw [writeRecord_of_room h hroom, raise_strata, keepFirst_strata, storeRecord_strata]
  rfl

theorem eventStat_writeRecord : s.writeRecord.eventStat 184 = true := by
  rw [writeRecord_of_room h hroom]
  exact eventStat_raise _ 184 (by decide)

theorem mem_writeRecord : s.writeRecord.mem = s.mem := by
  simp [writeRecord_of_room h hroom]

theorem clk_writeRecord {c : Nat} (hc : s.strata.lastWrite = some c) : c + 100 * Config.ns ≤ s.writeRecord.clk := by
  rw [writeRecord_of_room h hroom, raise_clk, keepFirst_clk, storeRecord_clk, takeOldest_clk]
  exact awaitRecordSlot_clk hc

end

end Sys2Proof.Machine.State
end

section
/-! SUPPORT. The clearing reads of the fault log (R508, R525): the registers they read, and what a read returns and leaves. -/
namespace Sys2Proof.Machine

/-! The registers read -/

/-- The source numbers that R501 assigns. -/
abbrev AssignedSource (n : Nat) : Prop := n < 50 ∨ 64 ≤ n ∧ n ≤ 0x76 ∨ 0x80 ≤ n ∧ n ≤ 0x91 ∨ 0xA0 ≤ n

theorem regDescAt_last :
    ∀ n : Fin 190, AssignedSource n → regDescAt (Reg.STRATA_LAST n) = some RegTable.rStrata_LAST := by decide +kernel

theorem regDescAt_wstat : regDescAt Reg.STRATA_WSTAT = some RegTable.rStrata_WSTAT := by decide +kernel

theorem regDescAt_lost : ∀ k : Fin 4, regDescAt (Reg.STRATA_LOST k) = some RegTable.rStrata_LOST := by decide +kernel

/-! What a read returns, and the word it leaves -/

/-- The fields of a last-error word fill it. -/
theorem visible_last (w : Word) : State.visible RegTable.rStrata_LAST w = w := by
  have lt := w.isLt
  apply BitVec.eq_of_toNat_eq
  simp only [State.visible, RegTable.rStrata_LAST, List.foldl_cons, List.foldl_nil, reduceCtorEq, if_false]
  rw [Word.setField_toNat _ _ (by decide) (by decide), Word.setField_toNat _ _ (by decide) (by decide),
    Word.setField_toNat _ _ (by decide) (by decide)]
  simp only [Word.field]
  omega

theorem afterRead_last (w : Word) : State.afterRead RegTable.rStrata_LAST w = 0 := by
  have lt := w.isLt
  apply BitVec.eq_of_toNat_eq
  simp only [State.afterRead, RegTable.rStrata_LAST, List.foldl_cons, List.foldl_nil, if_true]
  rw [Word.setField_toNat _ _ (by decide) (by decide), Word.setField_toNat _ _ (by decide) (by decide),
    Word.setField_toNat _ _ (by decide) (by decide)]
  change _ = (0 : Nat)
  omega

theorem field_visible_wstat (w : Word) : (State.visible RegTable.rStrata_WSTAT w).field 18 0 = w.field 18 0 := by
  simp only [State.visible, RegTable.rStrata_WSTAT, List.foldl_cons, List.foldl_nil, reduceCtorEq, if_false]
  rw [Word.field_setField_below _ _ (by decide) (by decide) (by decide) (by decide)]
  unfold Word.field
  rw [Word.setField_toNat _ _ (by decide) (by decide), Word.setField_toNat _ _ (by decide) (by decide),
    Word.setField_toNat _ _ (by decide) (by decide)]
  omega

theorem bit_visible_wstat (w : Word) : (State.visible RegTable.rStrata_WSTAT w).bit 35 = w.bit 35 := by
  simp only [State.visible, RegTable.rStrata_WSTAT, List.foldl_cons, List.foldl_nil, reduceCtorEq, if_false]
  unfold Word.bit
  rw [Word.field_setField_same _ _ (by decide) (by decide)]
  simp [Word.field]

theorem bit_afterRead_wstat (w : Word) : (State.afterRead RegTable.rStrata_WSTAT w).bit 35 = false := by
  simp only [State.afterRead, RegTable.rStrata_WSTAT, List.foldl_cons, List.foldl_nil, if_true]
  exact Word.bit_setField_same _ 35 false (by decide)

theorem field_visible_lost (w : Word) : (State.visible RegTable.rStrata_LOST w).field 19 0 = w.field 19 0 := by
  simp only [State.visible, RegTable.rStrata_LOST, List.foldl_cons, List.foldl_nil, reduceCtorEq, if_false]
  rw [Word.field_setField_same _ _ (by decide) (by decide)]
  exact Nat.mod_eq_of_lt (Word.field_lt w 19 0)

theorem field_afterRead_lost (w : Word) : (State.afterRead RegTable.rStrata_LOST w).field 19 0 = 0 := by
  simp only [State.afterRead, RegTable.rStrata_LOST, List.foldl_cons, List.foldl_nil, if_true]
  exact Word.field_setField_same _ 0 (by decide) (by decide)

/-! The commands -/

/-- A read of a described register answers its visible fields, clears those of access RC and leaves every other register alone. -/
theorem readGeneric_emit {s : State} {o : Nat} {d : RegDesc} (a : Nat) (hs : s.held = false) (h : regDescAt o = some d) :
    ∃ t, live s (fun s => (s.readGeneric o).2.emit (.read a (s.readGeneric o).1 false)) = .next t
      ∧ t.outs = .read a (State.visible d (s.reg o)) false :: s.outs
      ∧ t.reg o = State.afterRead d (s.reg o) ∧ ∀ x, x ≠ o → t.reg x = s.reg x := by
  have read : s.readGeneric o = (State.visible d (s.reg o), s.setReg o (State.afterRead d (s.reg o))) := by
    simp only [State.readGeneric, h]
  refine ⟨_, State.live_run s _ hs, ?_⟩
  rw [read]
  refine ⟨State.emit_read _ _ _ _, ?_, fun x hx => ?_⟩
  · rw [State.reg_emit, State.reg_setReg_same]
  · rw [State.reg_emit, State.reg_setReg_ne s hx]

section
variable {s : State} (hs : s.held = false) (a : Nat)
include hs

/-- A read returns the source's last-error word and clears it (R508). -/
theorem exec_strataLastRead (n : Fin 190) (hn : AssignedSource n) : ∃ t v, exec (.strataLastRead a n) s = .next t
    ∧ t.outs = .read a v false :: s.outs ∧ v = s.reg (Reg.STRATA_LAST n) ∧ t.reg (Reg.STRATA_LAST n) = 0
    ∧ ∀ o, o ≠ Reg.STRATA_LAST n → t.reg o = s.reg o := by
  obtain ⟨t, step, out, word, others⟩ := readGeneric_emit a hs (regDescAt_last n hn)
  exact ⟨t, _, step, out, visible_last _, word.trans (afterRead_last _), others⟩

theorem exec_strataWstatRead : ∃ t v, exec (.strataWstatRead a) s = .next t ∧ t.outs = .read a v false :: s.outs
    ∧ v.field 18 0 = (s.reg Reg.STRATA_WSTAT).field 18 0 ∧ v.bit 35 = (s.reg Reg.STRATA_WSTAT).bit 35
    ∧ (t.reg Reg.STRATA_WSTAT).bit 35 = false := by
  obtain ⟨t, step, out, word, -⟩ := readGeneric_emit a hs regDescAt_wstat
  refine ⟨t, _, step, out, field_visible_wstat _, bit_visible_wstat _, ?_⟩
  rw [word, bit_afterRead_wstat]

theorem exec_strataLostRead (k : Fin 4) : ∃ t v, exec (.strataLostRead a k) s = .next t
    ∧ t.outs = .read a v false :: s.outs ∧ v.field 19 0 = s.fld (Reg.STRATA_LOST_LOST k)
    ∧ t.fld (Reg.STRATA_LOST_LOST k) = 0 ∧ ∀ o, o ≠ Reg.STRATA_LOST k → t.reg o = s.reg o := by
  obtain ⟨t, step, out, word, others⟩ := readGeneric_emit a hs (regDescAt_lost k)
  refine ⟨t, _, step, out, field_visible_lost _, ?_, others⟩
  change (t.reg (Reg.STRATA_LOST k)).field 19 0 = 0
  rw [word, field_afterRead_lost]

end

/-! The commands that store records and consume them (R503, R504, R507, R524) -/

theorem isCrag_false {a : Nat} (ha : a = 0 ∨ 49 ≤ a) : isCrag a = false := by
  unfold isCrag
  rcases ha with rfl | ha
  · rfl
  · simp; omega

theorem isCrag_true {a : Nat} (h1 : 1 ≤ a) (h48 : a ≤ 48) : isCrag a = true := by simp [isCrag, h1, h48]

/-- How far a write of STRATA_TAIL moves TAIL (R504). -/
def tailStep (s : State) (w : Word) : Nat := (w.field 15 0 + 2 ^ 16 - s.fld Reg.STRATA_TAIL_TAIL) % 2 ^ 16

section
variable {s : State} (hs : s.held = false) {a : Nat}
include hs

theorem exec_strataRecordWrite : exec .strataRecordWrite s = .next s.writeRecord := State.live_run s _ hs

theorem exec_strataTailWrite_within (ha : isCrag a = false) {w : Word} (h : tailStep s w ≤ s.strataUnread) :
    exec (.strataTailWrite a w) s = .next (s.setFld Reg.STRATA_TAIL_TAIL (w.field 15 0)) := by
  change execStrataTailWrite a w s = _
  simp only [execStrataTailWrite, State.live_run s _ hs, ha, Bool.false_eq_true, if_false]
  exact congrArg _ (if_neg (Nat.not_lt.mpr h))

/-- A TAIL beyond HEAD or before the old TAIL is a reserved encoding (R504). -/
theorem exec_strataTailWrite_beyond (ha : isCrag a = false) {w : Word} (h : s.strataUnread < tailStep s w) :
    exec (.strataTailWrite a w) s = .next (s.reject a Reg.STRATA_TAIL) := by
  change execStrataTailWrite a w s = _
  simp only [execStrataTailWrite, State.live_run s _ hs, ha, Bool.false_eq_true, if_false]
  exact congrArg _ (if_pos h)

theorem exec_rearm (ha : isCrag a = false) : exec (.rearm a) s = .next (s.setFld Reg.STRATA_STAT_FIRST_VALID 0) := by
  change execRearm a s = _
  simp only [execRearm, State.live_run s _ hs, ha, Bool.false_eq_true, if_false]
  rfl

theorem exec_strataTailWrite_crag (ha : isCrag a = true) (w : Word) :
    exec (.strataTailWrite a w) s = .next (s.reject a Reg.STRATA_TAIL) := by
  change execStrataTailWrite a w s = _
  simp only [execStrataTailWrite, State.live_run s _ hs, ha, if_true]

theorem exec_rearm_crag (ha : isCrag a = true) : exec (.rearm a) s = .next (s.reject a Reg.STRATA_CTRL) := by
  change execRearm a s = _
  simp only [execRearm, State.live_run s _ hs, ha, if_true]

end

theorem fld_tail_setFld (s : State) (w : Word) :
    (s.setFld Reg.STRATA_TAIL_TAIL (w.field 15 0)).fld Reg.STRATA_TAIL_TAIL = w.field 15 0 := by
  rw [State.fld_setFld_same _ Reg.STRATA_TAIL_TAIL _ (by decide) (by decide)]
  exact Nat.mod_eq_of_lt (Word.field_lt w 15 0)

theorem isSet_firstValid_setFld_zero (s : State) :
    (s.setFld Reg.STRATA_STAT_FIRST_VALID 0).isSet Reg.STRATA_STAT_FIRST_VALID = false := by
  unfold State.isSet
  rw [State.fld_setFld_same _ Reg.STRATA_STAT_FIRST_VALID _ (by decide) (by decide)]
  rfl

end Sys2Proof.Machine
end

section
/-! SUPPORT. Windows and the copies of shadowed units (R510, R511, R515): what a counted report does while its window has room and
when it fills, and the switch of a unit to one copy. -/
namespace Sys2Proof.Machine.State

@[simp] theorem copies_setWindow (s : State) (key : Nat) (ts : List Nat) (u : Nat) :
    (s.setWindow key ts).copies u = s.copies u := rfl
@[simp] theorem copies_intake (s : State) (r : Report) (u : Nat) : (s.intake r).copies u = s.copies u := by
  simp only [copies, intake_copies]
@[simp] theorem copies_raise (s : State) (e u : Nat) : (s.raise e).copies u = s.copies u := by simp [copies]
@[simp] theorem copies_setReg (s : State) (o : Nat) (w : Word) (u : Nat) : (s.setReg o w).copies u = s.copies u := rfl
@[simp] theorem copies_advanceTo (s : State) (c u : Nat) : (s.advanceTo c).copies u = s.copies u := by
  simp [copies, advanceTo]
@[simp] theorem copies_setCopies_same (s : State) (u : Nat) (x : CopyState) : (s.setCopies u x).copies u = x :=
  Tab.get_put_same _ _ _ _
@[simp] theorem reg_setCopies (s : State) (u : Nat) (x : CopyState) (o : Nat) : (s.setCopies u x).reg o = s.reg o := rfl
@[simp] theorem setCopies_windows (s : State) (u : Nat) (x : CopyState) :
    (s.setCopies u x).strata.windows = s.strata.windows := rfl
@[simp] theorem reg_setWindow (s : State) (key : Nat) (ts : List Nat) (o : Nat) : (s.setWindow key ts).reg o = s.reg o := rfl
@[simp] theorem window_setWindow (s : State) (key : Nat) (ts : List Nat) :
    Tab.get [] key (s.setWindow key ts).strata.windows = ts := Tab.get_put_same _ _ _ _

/-! Windows (R510) -/

theorem wcfg_ne_lostCounter (k : Nat) (r : Report) : Reg.STRATA_WCFG k ≠ (lostCounter r).off := by
  have := classOf_le r.type
  simp only [lostCounter, Reg.STRATA_LOST_LOST, Reg.STRATA_LOST, Reg.STRATA_WCFG]
  omega

theorem wcfg_ne_last {k : Nat} (hk : k ≤ 6) (src : Nat) : Reg.STRATA_WCFG k ≠ Reg.STRATA_LAST src := by
  unfold Reg.STRATA_WCFG Reg.STRATA_LAST
  omega

/-- The first report of a window only counts, where it takes at least two to class anything LASTING. -/
theorem countWindow_of_empty (s : State) (k i src : Nat) (hn : 2 ≤ s.fld (Reg.STRATA_WCFG_N k))
    (hw : Tab.get [] (1024 * k + i) s.strata.windows = []) :
    s.countWindow k i src = s.setWindow (1024 * k + i) [s.tick] := by
  unfold countWindow
  dsimp only
  rw [hw, if_neg (by simp; omega)]
  rfl

/-- The second of two reports within W is classed LASTING, and the window starts anew. -/
theorem countWindow_of_second (s : State) (k i src : Nat) {c : Nat} (hn : s.fld (Reg.STRATA_WCFG_N k) = 2)
    (hw : Tab.get [] (1024 * k + i) s.strata.windows = [c]) (hc : s.tick ≤ c + s.windowTicks k) :
    s.countWindow k i src = (s.classLasting k i src).setWindow (1024 * k + i) [] := by
  unfold countWindow
  dsimp only
  rw [hw, hn, if_pos (by simp; omega)]

/-- The report that something has been classed LASTING (R510). -/
def lastingReport (s : State) (k inst src : Nat) : Report :=
  { source := src, type := 186, detail := inst, arg := k, agent := 0, agent2 := 0, lasting := true, tsw := s.tsw }

/-- FAULT_LASTING is raised, reported and shown in STRATA_WSTAT before the kind's action is taken (R510). -/
def announceLasting (s : State) (k inst src : Nat) : State :=
  ((s.raise 186).intake (s.lastingReport k inst src)).setReg Reg.STRATA_WSTAT
    (Word.ofN (2 ^ 35 + 2 ^ 11 * (inst % 256) + 2 ^ 8 * k + src % 256))

theorem classLasting_eq (s : State) (k inst src : Nat) :
    s.classLasting k inst src = (s.announceLasting k inst src).lastingAction k inst := rfl

/-- RETIRE_COPY retires the failed copy and changes nothing else (R511). -/
theorem lastingAction_retireCopy (s : State) (k u : Nat) (h : s.fld (Reg.STRATA_WCFG_ACTION k) = 4) :
    s.lastingAction k u = s.setCopies u { s.copies u with retired := true } := by
  unfold lastingAction
  rw [h]
  rfl

theorem reg_wcfg_announceLasting (s : State) {k : Nat} (inst src : Nat) (hk : k ≤ 6) :
    (s.announceLasting k inst src).reg (Reg.STRATA_WCFG k) = s.reg (Reg.STRATA_WCFG k) := by
  unfold announceLasting
  rw [reg_setReg_ne _ (by unfold Reg.STRATA_WCFG Reg.STRATA_WSTAT; omega),
    reg_intake_other _ _ (by unfold Reg.STRATA_WCFG; omega) (wcfg_ne_lostCounter k _) (wcfg_ne_last hk _),
    reg_raise_strata _ (by decide) (by unfold Reg.STRATA_WCFG; omega)]

@[simp] theorem copies_announceLasting (s : State) (k inst src u : Nat) :
    (s.announceLasting k inst src).copies u = s.copies u := by
  simp [announceLasting]

theorem eventStat_announceLasting (s : State) (k inst : Nat) {src : Nat} (hsrc : src < 190) :
    (s.announceLasting k inst src).eventStat 186 = true := by
  unfold announceLasting
  rw [eventStat_setReg _ _ (by decide) (by decide), eventStat_intake _ _ hsrc (by decide) (by decide)]
  exact eventStat_raise s 186 (by decide)

/-! The switch to one copy (R515) -/

/-- The report of a unit that goes on with one copy (R502). -/
def copySwitchReport (s : State) (u : Nat) : Report :=
  { source := u, type := 259, detail := 0, arg := 0, agent := 0, agent2 := 0, tsw := s.tsw }

/-- Unit u runs on copy c alone, and COPY_SWITCH has reached the intake. -/
def goOnWith (s : State) (u c : Nat) : State :=
  let s1 := s.setCopies u { s.copies u with onCopy := c, testing := none }
  s1.intake (s1.copySwitchReport u)

theorem switchCopy_eq (s : State) (u c : Nat) : s.switchCopy u c =
    if (((s.goOnWith u c).countWindow 3 u u).copies u).retired then (s.goOnWith u c).countWindow 3 u u
    else ((s.goOnWith u c).countWindow 3 u u).setCopies u { ((s.goOnWith u c).countWindow 3 u u).copies u with onCopy := 0 } :=
  rfl

theorem copies_goOnWith (s : State) (u c : Nat) :
    (s.goOnWith u c).copies u = { s.copies u with onCopy := c, testing := none } := by
  simp [goOnWith]

theorem goOnWith_windows (s : State) (u c : Nat) : (s.goOnWith u c).strata.windows = s.strata.windows := by
  simp [goOnWith, intake_windows]

theorem goOnWith_tick (s : State) (u c : Nat) : (s.goOnWith u c).tick = s.tick := by
  simp only [goOnWith, tick, intake_tbu]
  rfl

theorem goOnWith_clk (s : State) (u c : Nat) : (s.goOnWith u c).clk = s.clk := by
  simp only [goOnWith, intake_clk]
  rfl

theorem reg_wcfg_goOnWith (s : State) {u : Nat} (c : Nat) {k : Nat} (hk : k ≤ 6) :
    (s.goOnWith u c).reg (Reg.STRATA_WCFG k) = s.reg (Reg.STRATA_WCFG k) := by
  unfold goOnWith
  dsimp only
  rw [reg_intake_other _ _ (by unfold Reg.STRATA_WCFG; omega) (wcfg_ne_lostCounter k _) (wcfg_ne_last hk _), reg_setCopies]

theorem fld_lastType_goOnWith (s : State) {u : Nat} (c : Nat) (hu : u < 190) :
    (s.goOnWith u c).fld (Reg.STRATA_LAST_TYPE u) = 259 :=
  fld_lastType_intake _ (r := copySwitchReport _ u) hu (show 259 < 512 by decide)

/-- A report of a switch that finds no other in its window: the unit takes up both copies again (R515). -/
theorem switchCopy_of_empty (s : State) {u : Nat} (c : Nat) (hret : (s.copies u).retired = false)
    (hn : 2 ≤ s.fld (Reg.STRATA_WCFG_N 3)) (hw : Tab.get [] (3072 + u) s.strata.windows = []) :
    s.switchCopy u c = ((s.goOnWith u c).setWindow (3072 + u) [s.tick]).setCopies u
      { onCopy := 0, retired := false, testing := none } := by
  have counted : (s.goOnWith u c).countWindow 3 u u = (s.goOnWith u c).setWindow (3072 + u) [s.tick] := by
    have reports : (s.goOnWith u c).fld (Reg.STRATA_WCFG_N 3) = s.fld (Reg.STRATA_WCFG_N 3) :=
      fld_of_reg (reg_wcfg_goOnWith s c (show 3 ≤ 6 by decide))
    rw [countWindow_of_empty _ 3 u u (reports.symm ▸ hn) ((goOnWith_windows s u c).symm ▸ hw), goOnWith_tick]
  rw [switchCopy_eq, counted, copies_setWindow, copies_goOnWith]
  simp only [hret, Bool.false_eq_true, if_false]

/-- A report of a switch that is the second in its window: the copy that failed is retired (R511, R515). -/
theorem switchCopy_of_second (s : State) {u : Nat} (c : Nat) {first : Nat} (hn : s.fld (Reg.STRATA_WCFG_N 3) = 2)
    (ha : s.fld (Reg.STRATA_WCFG_ACTION 3) = 4) (hw : Tab.get [] (3072 + u) s.strata.windows = [first])
    (ht : s.tick ≤ first + s.windowTicks 3) :
    s.switchCopy u c = (((s.goOnWith u c).announceLasting 3 u u).setCopies u
      { onCopy := c, retired := true, testing := none }).setWindow (3072 + u) [] := by
  have wcfg : (s.goOnWith u c).reg (Reg.STRATA_WCFG 3) = s.reg (Reg.STRATA_WCFG 3) := reg_wcfg_goOnWith s c (by decide)
  have ticks : (s.goOnWith u c).windowTicks 3 = s.windowTicks 3 := by
    simp only [windowTicks, fld_of_reg (f := Reg.STRATA_WCFG_W 3) wcfg, fld_of_reg (f := Reg.STRATA_WCFG_UNIT 3) wcfg]
  have action : ((s.goOnWith u c).announceLasting 3 u u).fld (Reg.STRATA_WCFG_ACTION 3) = 4 :=
    (fld_of_reg ((reg_wcfg_announceLasting _ u u (by decide)).trans wcfg)).trans ha
  have counted : (s.goOnWith u c).countWindow 3 u u = (((s.goOnWith u c).announceLasting 3 u u).setCopies u
      { onCopy := c, retired := true, testing := none }).setWindow (3072 + u) [] := by
    rw [countWindow_of_second _ 3 u u ((fld_of_reg wcfg).trans hn) ((goOnWith_windows s u c).symm ▸ hw)
      (by rw [goOnWith_tick, ticks]; exact ht), classLasting_eq, lastingAction_retireCopy _ 3 u action,
      copies_announceLasting, copies_goOnWith]
  rw [switchCopy_eq, counted, copies_setWindow, copies_setCopies_same]
  rfl

/-- A unit that goes on with one copy, its report the first of its window. -/
theorem switchCopy_first (s : State) (u : Fin 190) (c : Nat) (hret : (s.copies u).retired = false)
    (hn : 2 ≤ s.fld (Reg.STRATA_WCFG_N 3)) (hw : Tab.get [] (3072 + u.val) s.strata.windows = []) :
    (s.switchCopy u c).fld (Reg.STRATA_LAST_TYPE u) = 259
      ∧ (s.switchCopy u c).copies u = { onCopy := 0, retired := false, testing := none }
      ∧ Tab.get [] (3072 + u.val) (s.switchCopy u c).strata.windows = [s.tick]
      ∧ (s.switchCopy u c).clk = s.clk := by
  rw [switchCopy_of_empty s c hret hn hw]
  exact ⟨fld_lastType_goOnWith s c u.isLt, copies_setCopies_same _ _ _, window_setWindow _ _ _, goOnWith_clk s u c⟩

/-- A unit that goes on with one copy, its report the one that fills its window. -/
theorem switchCopy_second (s : State) (u : Fin 190) (c : Nat) {first : Nat} (hn : s.fld (Reg.STRATA_WCFG_N 3) = 2)
    (ha : s.fld (Reg.STRATA_WCFG_ACTION 3) = 4) (hw : Tab.get [] (3072 + u.val) s.strata.windows = [first])
    (ht : s.tick ≤ first + s.windowTicks 3) :
    (s.switchCopy u c).copies u = { onCopy := c, retired := true, testing := none }
      ∧ (s.switchCopy u c).eventStat 186 = true ∧ Tab.get [] (3072 + u.val) (s.switchCopy u c).strata.windows = []
      ∧ (s.switchCopy u c).reg Reg.STRATA_WSTAT = Word.ofN (2 ^ 35 + 2 ^ 11 * u.val + 2 ^ 8 * 3 + u.val) := by
  rw [switchCopy_of_second s c hn ha hw ht]
  refine ⟨copies_setCopies_same _ _ _, eventStat_announceLasting _ 3 u u.isLt, window_setWindow _ _ _, ?_⟩
  have small : u.val % 256 = u.val := by omega
  rw [reg_setWindow, reg_setCopies, announceLasting, reg_setReg_same, small]

end Sys2Proof.Machine.State

namespace Sys2Proof.Machine

section
variable {s : State} (hs : s.held = false) {u : Fin 190}
include hs

/-- Where neither copy flags and the repeated step agrees nothing is changed (R515). -/
theorem exec_copyFault_agree : exec (.copyFault u 0) s = .next s := by
  change execCopyFault u 0 s = _
  simp [execCopyFault, State.live_run s _ hs]

variable (hsh : isShadowed u = true) (hret : (s.copies u).retired = false) (htest : (s.copies u).testing = none)
include hsh hret htest

theorem exec_copyFault_test :
    exec (.copyFault u 3) s = .next (s.setCopies u { s.copies u with testing := some s.clk }) := by
  change execCopyFault u 3 s = _
  simp [execCopyFault, State.live_run s _ hs, hsh, hret, htest]

theorem exec_copyFault_flagged {f : Fin 4} (hf : f = 1 ∨ f = 2) :
    exec (.copyFault u f) s = .next (s.switchCopy u (3 - f)) := by
  change execCopyFault u f s = _
  rcases hf with rfl | rfl <;> simp [execCopyFault, State.live_run s _ hs, hsh, hret, htest]

end

theorem exec_copyTestDone {s : State} (hs : s.held = false) {u : Fin 190} (pass : Fin 2) {c : Nat}
    (htest : (s.copies u).testing = some c) :
    exec (.copyTestDone u pass) s = .next ((s.advanceTo (c + Config.us)).switchCopy u (pass + 1)) := by
  change execCopyTestDone u pass s = _
  simp [execCopyTestDone, State.live_run s _ hs, htest]

end Sys2Proof.Machine
end

section
/-! SUPPORT. The statement about the fault log and the copies of shadowed units. -/
namespace Sys2Proof.Machine

/-- Settles O59: each clause is the rule of its command or of the report, on one of the outcomes that R503 and R515 tell
apart. -/
theorem faultLogCommands : Obligations.FaultLogCommands := by
  unfold Obligations.FaultLogCommands
  intro s hs
  refine ⟨fun r hsrc htype => ?report, fun r rest h hin hhead => ?record, fun a w ha => ?software, fun a w h1 h48 => ?engines,
    fun a n hn => exec_strataLastRead hs a n hn, fun a => exec_strataWstatRead hs a, fun a k => exec_strataLostRead hs a k,
    fun u hsh hret => ?copyFault, fun u pass c _ hret htest hn hw => ?copyTestDone⟩
  case report =>
    refine ⟨State.intake_of_room s r, fun hm hl h0 => ⟨?_, ?_, State.fld_lostCounter_of_full s r hm hl h0⟩,
      fun p ps hi hp ht hne hc => State.intake_of_match s r hi hp ht hne hc, State.fld_lastType_intake s hsrc htype,
      State.fld_lastDetail_intake s hsrc htype, State.fld_lastReports_intake s hsrc htype,
      fun src h hne => State.reg_intake_last_ne s r h hne⟩
    · rw [State.intake_of_full s r hm hl h0, State.raise_strata]
      rfl
    · rw [State.intake_of_full s r hm hl h0]
      exact State.eventStat_raise _ 185 (by decide)
  case record =>
    subst hhead
    refine ⟨fun room => ⟨s.writeRecord, exec_strataRecordWrite hs, State.intake_writeRecord hin room,
      State.eventStat_writeRecord hin room, State.fld_head_writeRecord hin room,
      fun i hi => State.reg_slot_writeRecord hin room hi, fun j hj hne i hi => State.reg_slot_writeRecord_ne hin room hj hne hi,
      State.isSet_firstValid_writeRecord hin room, fun i hi => State.reg_first_writeRecord hin room hi,
      fun c hc => State.clk_writeRecord hin room hc, State.mem_writeRecord hin room⟩, fun full => ?_⟩
    rw [exec_strataRecordWrite hs, State.writeRecord_of_fullRing full]
  case software =>
    have agent := isCrag_false ha
    refine ⟨fun within => ?_, fun beyond => exec_strataTailWrite_beyond hs agent beyond, ?_⟩
    · exact ⟨_, exec_strataTailWrite_within hs agent within, fld_tail_setFld s w, rfl,
        fun o ho => State.reg_setFld_ne s _ ho⟩
    · exact ⟨_, exec_rearm hs agent, isSet_firstValid_setFld_zero s, rfl, fun o ho => State.reg_setFld_ne s _ ho⟩
  case engines =>
    exact ⟨exec_strataTailWrite_crag hs (isCrag_true h1 h48) w, exec_rearm_crag hs (isCrag_true h1 h48)⟩
  case copyFault =>
    refine ⟨exec_copyFault_agree hs, fun htest => ⟨?_, fun f hf => ⟨fun hn hw => ?_, fun c hn hact hw ht => ?_⟩⟩⟩
    · exact ⟨_, exec_copyFault_test hs hsh hret htest, by rw [State.copies_setCopies_same], rfl⟩
    · obtain ⟨type, both, window, -⟩ := State.switchCopy_first s u (3 - f) hret hn hw
      exact ⟨_, exec_copyFault_flagged hs hsh hret htest hf, type, both, window⟩
    · exact ⟨_, exec_copyFault_flagged hs hsh hret htest hf, State.switchCopy_second s u (3 - f) hn hact hw ht⟩
  case copyTestDone =>
    obtain ⟨type, both, -, clk⟩ := State.switchCopy_first (s.advanceTo (c + Config.us)) u (pass + 1)
      (by rw [State.copies_advanceTo]; exact hret) ((State.fld_advance s _ _).symm ▸ hn)
      ((State.advance_strata s _).symm ▸ hw)
    refine ⟨_, exec_copyTestDone hs pass htest, both, type, ?_⟩
    rw [clk, State.advanceTo_clk]
    exact le_max_right _ _

end Sys2Proof.Machine
end
